-- ==== Sys2Proof/Word.lean ====
section
/-! DEFINITION. The byte type of the wire formats and the plainest arithmetic helpers. -/

namespace Sys2Proof

/-- One byte on SLINK_RX, RADIO_RX, LOCAL_RX, RADIO_TX or LOCAL_TX (Chapter 12). -/
abbrev Byte := BitVec 8

/-- "Clamped to a..b" (0.5.1) on natural numbers. -/
def clampNat (lo hi n : Nat) : Nat := max lo (min n hi)

/-- "Clamped to a..b" (0.5.1) on integers. -/
def clampInt (lo hi n : Int) : Int := max lo (min n hi)

/-- A count 0..m that rises by n and saturates at m (R4, R20, R156, R180). -/
def satAdd (m a n : Nat) : Nat := min m (a + n)

end Sys2Proof
end

