-- ==== Sys2Proof/Config.lean ====
section
/-! DEFINITION. What the part fixes: the constants the rules state as fixed. Nothing in the manual
leaves a result of the part undefined, so there is no opaque free value here; the orders the manual
leaves open are the field `order` of State (log entry 4). -/

namespace Sys2Proof.Config

/-- R3: the silence timer, 700 µs, counted in ticks of 100 µs (log entry 1). -/
def silenceTicks : Nat := 7
/-- R187: ticks of 100 µs in one millisecond of running time. -/
def ticksPerMs : Nat := 10
/-- R4: the consecutive missing count stays at 8. -/
def missingLimit : Nat := 8
/-- R15: entries of one window; R7: good frames of a refill. -/
def windowSize : Nat := 32
/-- R28: the full value of an accumulator. -/
def accFull : Nat := 1048576
/-- R28, R32: the top of the pickup and high-set counters. -/
def countTop : Nat := 65535
/-- R25: the clamp of the multiple of pickup, in sixteenths. -/
def m16Top : Nat := 640
/-- R16: the magnitude of a saturated current channel. -/
def fullScale : Nat := 32768
/-- R51: the longest time of a store operation, in ms. -/
def storeMs : Nat := 50
/-- R124: the qualification of SUPPLY_PRESENT, in ms. -/
def supplyQualMs : Nat := 200
/-- R189: the qualification of RESET_IN, in ms. -/
def resetQualMs : Nat := 20
/-- R125: a battery second, in ms. -/
def secondMs : Nat := 1000
/-- R126, R139: the qualifying count of the rebulk and of the disconnect, in battery seconds. -/
def qualSeconds : Nat := 60
/-- R127: the fault recovery time, in ms. -/
def recoveryMs : Nat := 60000
/-- R134: the retry timer, 15 minutes, in ms. -/
def retryMs : Nat := 900000
/-- R135: the settle timer, 30 s, in ms. -/
def settleMs : Nat := 30000
/-- R135: the load timer, 10 s, in ms. -/
def loadMs : Nat := 10000
/-- R152: the profile hour, in ms. -/
def hourMs : Nat := 3600000
/-- R153: the most events of a gathering record. -/
def recordTop : Nat := 12
/-- R157: the words of packet memory. -/
def pkmWords : Nat := 1024
/-- R158: the size of the largest response record, in words. -/
def responseWords : Nat := 62
/-- R104: the request threshold lies 20.0 V (200 units) below full. -/
def rechargeDrop : Nat := 200
/-- R175: the attempt limit of unsolicited sending. -/
def attemptTop : Nat := 8
/-- R180: a gap of more than 10 ms abandons a frame: the ticks until the first one past 10 ms. -/
def byteGapTicks : Nat := 10 * ticksPerMs + 1
/-- R182: entries of the intake queue. -/
def intakeTop : Nat := 4
/-- R186: places of the local transmit queue. -/
def localTop : Nat := 8
/-- R108: tags of the tag table. -/
def tagTop : Nat := 8
/-- R187: the seconds value wraps from 4,294,967,295 to 0. -/
def secondsTop : Nat := 4294967296

end Sys2Proof.Config
end

