-- ==== Sys2Proof/Syntax.lean ====
section
/-! DEFINITION. The commands of the part: one constructor per row of spec/opcode_table.json.
A row that is an arrival or the end of a timer carries what arrives; a row that is a command by
station frame carries the head of its COMMAND frame and the payload after the kind byte
(log entry 2). -/

namespace Sys2Proof

/-- The two station-frame ports (Table 0-4). -/
inductive Port where
  | radio
  | localPort
  deriving DecidableEq, Repr

/-- The two classes of events and reports (9.1). -/
inductive ReportClass where
  | urgent
  | routine
  deriving DecidableEq, Repr

/-- What an intake queue entry holds beside its kind and payload (R182): the arrival port, the
level, the response-requested flag and the source address of the frame. -/
structure CmdHead where
  port : Port
  level : Nat
  wantsReply : Bool
  source : Nat
  deriving DecidableEq, Repr

/-- The commands of the part (spec/opcode_table.json, in its order). -/
inductive Instr where
  -- R1, R3
  | sampleFrameReceived (bytes : List Byte)
  | silenceTimerExpiry
  -- R71, R73, R75
  | openIntervalExpiry
  | closeWaitExpiry
  | reclaimExpiry
  -- R94, R98
  | tripMonitorExpiry
  | closeMonitorExpiry
  -- R52, R113
  | storeOperationComplete
  | tagExpiryCountdownEnd (crew : Nat)
  -- R124 to R137
  | supplyPresentEdge (level : Bool)
  | supplyChangeTaken
  | batterySecondEnd
  | absorbTimeLimitReached
  | faultRecoveryExpiry
  | testIntervalElapse
  | testRetryExpiry
  | settleEnd
  | loadEnd
  -- R154, R152
  | gatherWindowExpiry (cls : ReportClass)
  | profileHourEnd
  -- R180
  | stationFrameReceived (port : Port) (bytes : List Byte)
  | frameByteGapTimeout (port : Port)
  -- R171 to R177, R168, R169
  | poll (payload : List Byte)
  | responseWindowExpiry
  | keyUpDelayExpiry
  | radioFrameSent
  | holdoffExpiry
  | confirmTimeout
  | modemReadyChange (level : Bool)
  | carrierDetChange (level : Bool)
  | partTimeSecond
  -- R186
  | localFrameSent
  -- the commands of Table 11-3
  | readStatus (h : CmdHead) (payload : List Byte)
  | readTable (h : CmdHead) (payload : List Byte)
  | selectGroup (h : CmdHead) (payload : List Byte)
  | setTime (h : CmdHead) (payload : List Byte)
  | sampleForward (h : CmdHead) (payload : List Byte)
  | trip (h : CmdHead) (payload : List Byte)
  | close (h : CmdHead) (payload : List Byte)
  | placeTag (h : CmdHead) (payload : List Byte)
  | removeTag (h : CmdHead) (payload : List Byte)
  | testStart (h : CmdHead) (payload : List Byte)
  | testCancel (h : CmdHead) (payload : List Byte)
  | writeCurve (h : CmdHead) (payload : List Byte)
  | clearCurve (h : CmdHead) (payload : List Byte)
  | writeGroup (h : CmdHead) (payload : List Byte)
  | writeGroupClear (h : CmdHead) (slot : Byte)
  | writeDevice (h : CmdHead) (payload : List Byte)
  | writeBattery (h : CmdHead) (payload : List Byte)
  | writeRadio (h : CmdHead) (payload : List Byte)
  | writeAreas (h : CmdHead) (payload : List Byte)
  | flushClass (h : CmdHead) (payload : List Byte)
  | driveRestore (h : CmdHead) (payload : List Byte)
  | restart (h : CmdHead) (payload : List Byte)
  | writeGates (h : CmdHead) (payload : List Byte)
  -- the whole payload: empty, or opening with an unknown kind byte (R194)
  | unknownCommand (h : CmdHead) (payload : List Byte)
  -- R189
  | resetLine
  | resetInRelease
  | powerOn
  | resetInAsserted
  | powerLoss
  -- R180
  | frameLengthExceeded (port : Port)
  deriving DecidableEq, Repr

end Sys2Proof
end

