-- ==== Sys2Proof/Machine/Types.lean ====
section
/-! DEFINITION. The data of the part: its enumerations, its records and tables, and one structure
of state per block of Table 0-2. -/

namespace Sys2Proof.Machine

/-! ## Sensor link and measurement (Chapter 1) -/

/-- Contact position (Table 1-3); its codes are 0, 1, 2 in this order (R191). -/
inductive Position where
  | closed
  | opened
  | indeterminate
  deriving DecidableEq, Repr

/-- Manual lockout handle (Table 1-3). -/
inductive Handle where
  | pulled
  | returned
  deriving DecidableEq, Repr

/-- Mechanism-ready (Table 1-3). -/
inductive MechReady where
  | ready
  | notReady
  deriving DecidableEq, Repr

/-- Sensor link states (Table 1-2). -/
inductive Link where
  | up
  | holding
  | lost
  | refilling
  deriving DecidableEq, Repr

/-- The seven analogue samples and the four saturation flags of a frame (Table 1-1). -/
structure Samples where
  ia : Int
  ib : Int
  ic : Int
  iN : Int
  va : Int
  vb : Int
  vc : Int
  satA : Bool
  satB : Bool
  satC : Bool
  satN : Bool
  deriving DecidableEq, Repr

/-- A sample frame as SLR decodes it (Table 12-1). `aux` is the raw 16-bit auxiliary value. -/
structure SampleFrame where
  seqNo : Nat
  pos : Nat
  samples : Samples
  cap : Nat
  aux : Nat
  closedSide : Bool
  openSide : Bool
  pulled : Bool
  mechReady : Bool
  headFault : Bool
  deriving DecidableEq, Repr

/-- One delivery of R12: the three accepted values and the stale mark. -/
structure Delivery where
  position : Position
  handle : Handle
  ready : MechReady
  stale : Bool
  deriving DecidableEq, Repr

/-- State of SLR (R2 to R14, R19, R20). -/
structure Slr where
  link : Link
  consecMissing : Nat
  totalMissing : Nat
  lastSeq : Option Nat
  gapCount : Nat
  lastGood : Option Samples
  silenceLeft : Nat
  runPos : Option Nat
  prevPosition : Option Position
  prevHandle : Option Handle
  prevReady : Option MechReady
  position : Position
  handle : Handle
  ready : MechReady
  decimation : Nat
  takeCount : Nat
  batch : List SampleFrame
  droppedCount : Nat
  deriving DecidableEq, Repr

/-- One entry of a window: the square of a sample and its saturation flag (R15). -/
structure WinEntry where
  square : Nat
  sat : Bool
  deriving DecidableEq, Repr

/-- One window of MEU, oldest entry first (R15). -/
structure Window where
  entries : List WinEntry
  sum : Nat
  satCount : Nat
  deriving DecidableEq, Repr

/-- The seven channel magnitudes (R16). -/
structure Magnitudes where
  ia : Nat
  ib : Nat
  ic : Nat
  iN : Nat
  va : Nat
  vb : Nat
  vc : Nat
  deriving DecidableEq, Repr

/-- State of MEU (R15 to R17). -/
structure Meu where
  wIA : Window
  wIB : Window
  wIC : Window
  wIN : Window
  wVA : Window
  wVB : Window
  wVC : Window
  fill : Nat
  mags : Magnitudes
  valid : Bool
  liveA : Bool
  liveB : Bool
  liveC : Bool
  deriving DecidableEq, Repr

/-! ## Elements (Chapter 2) -/

/-- One flag per element: PT, GT, PH, GH. -/
structure Flags4 where
  pt : Bool
  gt : Bool
  ph : Bool
  gh : Bool
  deriving DecidableEq, Repr

/-- A timed element (Table 2-1): accumulator A, pickup counter T, pickup and operate flags. -/
structure Timed where
  acc : Nat
  count : Nat
  pickup : Bool
  operate : Bool
  deriving DecidableEq, Repr

/-- A high-set element (Table 2-1): counter C, pickup and operate flags. -/
structure HighSet where
  count : Nat
  pickup : Bool
  operate : Bool
  deriving DecidableEq, Repr

/-- The result ELE hands SEQ (R34); `fromStep` tells an E-step result from a clearing (R77). -/
structure ElemResult where
  pickup : Flags4
  operate : Flags4
  newly : Flags4
  fromStep : Bool
  deriving DecidableEq, Repr

/-- State of ELE (R21 to R43). -/
structure Ele where
  pt : Timed
  gt : Timed
  ph : HighSet
  gh : HighSet
  lastPickup : Flags4
  lastOperate : Flags4
  shotCopy : Nat
  posView : Position
  posStale : Bool
  frozen : Bool
  deriving DecidableEq, Repr

/-! ## Settings (Chapter 3) -/

/-- One row of a curve (Table 3-1). -/
structure CurveRow where
  bp : Nat
  rate : Nat
  deriving DecidableEq, Repr

/-- A present curve table (Table 3-1): reset mode DECAY with its rate, or INSTANT (`none`). -/
structure Curve where
  rows : List CurveRow
  decay : Option Nat
  deriving DecidableEq, Repr

/-- One shot row of a settings group (Table 3-2). -/
structure ShotRow where
  ptCurve : Nat
  gtCurve : Nat
  ph : Bool
  gh : Bool
  deriving DecidableEq, Repr

/-- The fields of a settings group (Table 3-2). -/
structure Group where
  ptPickup : Nat
  gtPickup : Nat
  ptDial : Nat
  gtDial : Nat
  ptMin : Nat
  gtMin : Nat
  phPickup : Nat
  ghPickup : Nat
  phDelay : Nat
  ghDelay : Nat
  liveV : Nat
  deadV : Nat
  shots : Nat
  rows : List ShotRow
  intervals : List Nat
  reclaim : Nat
  needLive : Bool
  coord : Bool
  deriving DecidableEq, Repr

/-- The device record (Table 3-4). Capacitor thresholds in 0.1 V; tag group NONE is `none`. -/
structure DeviceRec where
  station : Nat
  master : Nat
  tagGroup : Option Nat
  closeWait : Nat
  tripLimit : Nat
  closeLimit : Nat
  capTrip : Nat
  capReserve : Nat
  capFull : Nat
  radioCeiling : Nat
  localCeiling : Nat
  deriving DecidableEq, Repr

/-- The selection record (Table 3-3). Active NONE is `none`; return group absent is `none`,
return group NONE is `some none`. -/
structure SelectionRec where
  active : Option Nat
  ret : Option (Option Nat)
  deriving DecidableEq, Repr

/-- Cause of a group selection (3.6). -/
inductive SelCause where
  | command
  | tag
  | ret
  deriving DecidableEq, Repr

/-- The live set (3.6): the group it was loaded from (`none` for the built-in default), its
fields, and the copies of the curves its rows name. -/
structure LiveSet where
  source : Option Nat
  grp : Group
  curves : List (Nat × Curve)
  deriving DecidableEq, Repr

/-- State of SET beside the durable store (3.6, R55, R56). -/
structure Sets where
  live : LiveSet
  active : Option Nat
  ret : Option (Option Nat)
  pendingSel : Option (Option Nat × SelCause)
  settledView : Bool
  deriving DecidableEq, Repr

/-! ## The reclose sequence (Chapter 4) -/

/-- Sequence states (Table 4-1). -/
inductive SeqState where
  | unknown
  | ready
  | tripping
  | openInterval
  | closeWait
  | closing
  | reclaim
  | lockout
  | failed
  deriving DecidableEq, Repr

/-- Lockout reasons (Table 4-2). -/
inductive LockReason where
  | shotsExhausted
  | commandTrip
  | tag
  | handle
  | closeWaitExpired
  | closeFailed
  | unexpectedOpen
  | restart
  | lowBattery
  deriving DecidableEq, Repr

/-- Trip causes (R64). -/
inductive TripCause where
  | protection
  | command
  | lowBattery
  deriving DecidableEq, Repr

/-- Close causes (R64). -/
inductive CloseCause where
  | auto
  | command
  deriving DecidableEq, Repr

/-- The restart trip mark when present (R64). -/
inductive RestartMark where
  | command
  | lowBattery
  deriving DecidableEq, Repr

/-- The three sequence timers (R64). -/
inductive SeqTimerKind where
  | openInterval
  | closeWait
  | reclaim
  deriving DecidableEq, Repr

/-- The running sequence timer with its remaining time (R64, R75). -/
structure SeqTimer where
  kind : SeqTimerKind
  left : Nat
  paused : Bool
  deriving DecidableEq, Repr

/-- An open pickup episode (R77). -/
structure Episode where
  steps : Nat
  operated : Bool
  deriving DecidableEq, Repr

/-- State and views of SEQ (R64, R65, R77). -/
structure Seq where
  state : SeqState
  shot : Nat
  lockReason : Option LockReason
  manualReclaim : Bool
  tripCause : Option TripCause
  closeCause : Option CloseCause
  timer : Option SeqTimer
  restartMark : Option RestartMark
  position : Position
  handle : Handle
  ready : MechReady
  linkUp : Bool
  cap : Nat
  capStale : Bool
  sourceLive : Bool
  tagPresent : Bool
  noClosePresent : Bool
  lastPickup : Flags4
  lastOperate : Flags4
  episode : Option Episode
  deriving DecidableEq, Repr

/-! ## Mechanism drive (Chapter 5) -/

/-- Drive states (Table 5-1). -/
inductive DriveState where
  | idle
  | tripMain
  | tripBackup
  | closeActive
  | halted
  deriving DecidableEq, Repr

/-- The coil an operation was confirmed on or last energised (R92, R93, R95, R98). -/
inductive Coil where
  | main
  | backup
  | noCoil
  | closeCoil
  deriving DecidableEq, Repr

/-- Kind and cause of an operation (R88). -/
inductive OpKind where
  | trip (cause : TripCause)
  | close (cause : CloseCause)
  deriving DecidableEq, Repr

/-- Part time with the time-set flag (R187). -/
structure PartTime where
  secs : Nat
  ms : Nat
  isSet : Bool
  deriving DecidableEq, Repr

/-- The operation in flight (R88). `startRun` is the running time of its start, from which the
travel time of R106 is formed (log entry 24). -/
structure DriveOp where
  kind : OpKind
  limit : Nat
  capStart : Nat
  startTime : PartTime
  startRun : Nat
  lowEnergy : Bool
  extended : Bool
  deriving DecidableEq, Repr

/-- Outcome of an ended operation (R106). -/
inductive OpOutcome where
  | completed
  | abandoned
  | closeFail
  | halted
  deriving DecidableEq, Repr

/-- The last operation summary (R106). The low-energy flag is a trip's alone (R88, log entry 31). -/
structure OpSummary where
  kind : OpKind
  outcome : OpOutcome
  coil : Coil
  lowEnergy : Option Bool
  travel : Nat
  deriving DecidableEq, Repr

/-- Kinds of drive failure (R105). -/
inductive FailKind where
  | mainCoilFail
  | halted
  | closeFail
  deriving DecidableEq, Repr

/-- The last-failure record and the failure snapshot (R105). The low-energy flag is held for a trip
alone. -/
structure FailureRec where
  kind : FailKind
  time : PartTime
  op : OpKind
  lowEnergy : Option Bool
  capStart : Nat
  limit : Nat
  position : Position
  stale : Bool
  deriving DecidableEq, Repr

/-- State and views of DRV (R88, R89). -/
structure Drv where
  state : DriveState
  coilMain : Bool
  coilBackup : Bool
  coilClose : Bool
  op : Option DriveOp
  monitor : Option Nat
  degraded : Bool
  recharge : Bool
  summary : Option OpSummary
  snapshot : Option FailureRec
  position : Position
  handle : Handle
  ready : MechReady
  stale : Bool
  cap : Nat
  capStale : Bool
  deriving DecidableEq, Repr

/-! ## Crew lockout (Chapter 6) -/

/-- Kinds of tag (6.1). -/
inductive TagKind where
  | noReclose
  | noClose
  deriving DecidableEq, Repr

/-- A tag (Table 6-2). -/
structure Tag where
  crew : Nat
  kind : TagKind
  port : Port
  level : Nat
  placed : PartTime
  expiry : Option Nat
  deriving DecidableEq, Repr

/-- What the response to a command needs (R184): its port, its kind byte and the addresses fixed
when the command was executed. -/
structure Reply where
  port : Port
  kind : Byte
  dest : Nat
  source : Nat
  deriving DecidableEq, Repr

/-- A decided change of the tag table (R109), with the response it owes. -/
inductive TagChange where
  | place (tag : Tag) (reply : Option Reply)
  | escalate (crew : Nat) (port : Port) (level : Nat) (reply : Option Reply)
  | remove (crew : Nat) (port : Port) (level : Nat) (reply : Option Reply)
  | expire (crew : Nat)
  deriving DecidableEq, Repr

/-- Allowed ports of a gate entry (R119); codes 0, 1, 2 (Table 12-4). -/
inductive GatePorts where
  | radio
  | localPort
  | both
  deriving DecidableEq, Repr

/-- One entry of the command gate table (R119). -/
structure GateEntry where
  isPresent : Bool
  level : Nat
  ports : GatePorts
  deriving DecidableEq, Repr

/-- State of LKU beside the durable store (Table 6-1). -/
structure Lku where
  inForce : List Tag
  staged : List Tag
  changes : List TagChange
  countdowns : List (Nat × Nat)
  handle : Handle
  handleStale : Bool
  deriving DecidableEq, Repr

/-! ## Battery care (Chapter 7) -/

/-- Disconnect action (Table 7-1). -/
inductive DiscAction where
  | openFirst
  | hold
  deriving DecidableEq, Repr

/-- The battery record (Table 7-1). -/
structure BatteryRec where
  capacity : Nat
  absorbV : Nat
  floatV : Nat
  comp : Nat
  ceiling : Nat
  floor : Nat
  bulkLimit : Nat
  tail : Nat
  absorbHours : Nat
  rebulkMargin : Nat
  testHours : Nat
  rLimit : Nat
  testMinV : Nat
  shed1 : Nat
  shed2 : Nat
  shed3 : Nat
  discV : Nat
  action : DiscAction
  deriving DecidableEq, Repr

/-- Charger states (Table 7-2). -/
inductive Charger where
  | off
  | bulk
  | absorb
  | float
  | test
  | fault
  deriving DecidableEq, Repr

/-- Causes of the fault condition (R127). -/
inductive FaultCause where
  | hot
  | cold
  | openString
  deriving DecidableEq, Repr

/-- Load test states (Table 7-7). -/
inductive TestState where
  | idle
  | waitGrant
  | settle
  | suspended
  | load
  deriving DecidableEq, Repr

/-- Start causes of a load test (R134). -/
inductive StartCause where
  | interval
  | retry
  | command
  deriving DecidableEq, Repr

/-- Verdicts of a load test (R136). -/
inductive Verdict where
  | fail
  | noLoad
  | pass
  | aborted
  | cancelled
  deriving DecidableEq, Repr

/-- The result record of a load test (R136, R138; log entry 23). -/
structure TestResult where
  time : PartTime
  cause : Option StartCause
  v0 : Option Int
  i0 : Option Int
  v1 : Option Int
  dI : Option Int
  r : Option Nat
  verdict : Verdict
  deriving DecidableEq, Repr

/-- Disconnect states (Table 7-8). -/
inductive Disconnect where
  | normal
  | isPending
  | disconnected
  deriving DecidableEq, Repr

/-- State of BAT (R124 to R141), with the most recent value of each kind that SLR has handed it
(R18, log entry 44): `voltNow`, `ampNow`, `tempView`, `cabView`. -/
structure Bat where
  supply : Bool
  qualLeft : Option Nat
  absentSince : Option Nat
  charger : Charger
  absorbMs : Option Nat
  rebulk : Nat
  fault : Option FaultCause
  recoveryLeft : Option Nat
  voltNow : Option Int
  ampNow : Option Int
  tempView : Option Int
  cabView : Option Int
  voltSum : Int
  voltCount : Nat
  ampSum : Int
  ampCount : Nat
  secondLeft : Nat
  lastV : Option Int
  lastI : Option Int
  absorbSet : Int
  floatSet : Int
  q : Nat
  estimated : Bool
  soc : Nat
  shed : Nat
  test : TestState
  due : Option StartCause
  startCause : Option StartCause
  intervalLeft : Nat
  retryLeft : Option Nat
  settleLeft : Option Nat
  loadLeft : Option Nat
  recentV : List (Nat × Int)
  recentI : List (Nat × Int)
  v0 : Option Int
  i0 : Option Int
  abortCount : Nat
  badCount : Nat
  result : Option TestResult
  disc : Disconnect
  discAction : Option DiscAction
  qualCount : Nat
  testLoad : Bool
  lvdOut : Bool
  chgEn : Bool
  chgVset : Int
  chgIlim : Nat
  deriving DecidableEq, Repr

/-! ## The supply arbiter (Chapter 8) -/

/-- The three requesters, highest priority first (Table 8-1). -/
inductive Requester where
  | cap
  | radio
  | load
  deriving DecidableEq, Repr

/-- Per-requester states (Table 8-2). -/
inductive ReqState where
  | idle
  | requesting
  | holding
  | releasing
  deriving DecidableEq, Repr

/-- State of SUP (R143, R150). -/
structure Sup where
  cap : ReqState
  radio : ReqState
  load : ReqState
  capAgain : Bool
  radioAgain : Bool
  loadAgain : Bool
  supply : Bool
  shed : Nat
  capEn : Bool
  deriving DecidableEq, Repr

/-! ## Events and packet memory (Chapter 9) -/

/-- Causes of an abandoned close (Table 5-2). -/
inductive AbandonCause where
  | tripFree
  | handle
  | noClose
  deriving DecidableEq, Repr

/-- The next step of a TRIP_COIL_FAIL (Table 5-2). -/
inductive NextStep where
  | backup
  | extended
  deriving DecidableEq, Repr

/-- Causes of a reset (R189). -/
inductive ResetCause where
  | powerOn
  | resetLine
  | command
  deriving DecidableEq, Repr

/-- The event catalogue with its arguments (Table 9-1, in its order). -/
inductive Event where
  | trip (cause : TripCause) (shot : Nat) (elements : Flags4)
  | reclose (cause : CloseCause) (shot : Nat)
  | lockout (reason : LockReason) (shot : Nat)
  | unexpectedPosition (p : Position) (st : SeqState)
  | closeFail (cause : CloseCause) (p : Position) (stale : Bool)
  | closeAbandoned (cause : AbandonCause)
  | tripCoilFail (p : Position) (stale : Bool) (nextStep : NextStep) (low : Bool)
  | driveHalted (coil : Coil) (p : Position) (stale : Bool) (low : Bool)
  | driveRestored (st : DriveState) (degraded : Bool)
  | handlePulled (p : Position) (tags : Nat)
  | handleReturned (p : Position) (tags : Nat)
  | tagPlaced (crew : Nat) (kind : TagKind) (port : Port) (level : Nat) (minutes : Nat)
  | tagEscalated (crew : Nat) (port : Port) (level : Nat) (byPort : Port) (byLevel : Nat)
  | tagRemoved (crew : Nat) (kind : TagKind) (byPort : Port) (byLevel : Nat)
  | tagExpired (crew : Nat) (kind : TagKind) (minutes : Nat)
  | sensorLost (total : Nat)
  | sensorRestored (total : Nat)
  | supplyLost (soc : Nat) (estimated : Bool) (v : Option Int)
  | chargerFault (cause : FaultCause) (temp : Option Int) (v : Option Int)
  | batteryBad (r : Option Nat)
  | lvdPending (v : Option Int) (soc : Nat) (action : DiscAction)
  | restart (cause : ResetCause)
  | shedChanged (old new soc : Nat)
  | testResult (verdict : Verdict) (r : Option Nat) (v1 : Option Int) (dI : Option Int)
  | sequenceReset (shot : Nat)
  | seqAdvance (shot : Nat)
  | groupChanged (old new : Option Nat) (cause : SelCause)
  | groupRefused (group : Nat)
  | supplyRestored (soc : Nat) (minutes : Nat)
  | settingsWritten (table : Nat) (index : Nat)
  | loadProfile (mean : Option Nat) (steps : Nat) (low : Option Nat)
  deriving DecidableEq, Repr

/-- One entry of a gathering record or report (R153). -/
structure Entry where
  ev : Event
  offset : Nat
  deriving DecidableEq, Repr

/-- A gathering record (R153): base time, opening in running time, window left, entries. -/
structure Gather where
  base : PartTime
  opening : Nat
  windowLeft : Nat
  entries : List Entry
  deriving DecidableEq, Repr

/-- State of RPB (R152, R153, R156). -/
structure Rpb where
  urgent : Option Gather
  routine : Option Gather
  nextNumber : Nat
  lostUrgent : Nat
  lostRoutine : Nat
  profSum : Nat
  profCount : Nat
  profLow : Option Nat
  hourLeft : Nat
  deriving DecidableEq, Repr

/-- A station frame without preamble and CRC (Table 12-2). -/
structure Frame where
  dest : Nat
  source : Nat
  kind : Byte
  control : Byte
  payload : List Byte
  deriving DecidableEq, Repr

/-- A sealed report in packet memory (R156, R159), with its identity and, for the URGENT area, its
attempt count and awaiting-confirmation mark (R167). -/
structure Report where
  id : Nat
  number : Nat
  lost : Nat
  cls : ReportClass
  base : PartTime
  entries : List Entry
  attempts : Nat
  awaiting : Bool
  deriving DecidableEq, Repr

/-- A RESPONSE or FORWARD record in packet memory (R157), with its identity (R167). -/
structure FrameRec where
  id : Nat
  frame : Frame
  deriving DecidableEq, Repr

/-- Start and depth of one class area (R157). -/
structure AreaSpec where
  start : Nat
  depth : Nat
  deriving DecidableEq, Repr

/-- The area partition (R157). -/
structure Partition where
  response : AreaSpec
  urgent : AreaSpec
  routine : AreaSpec
  forward : AreaSpec
  deriving DecidableEq, Repr

/-- The four class areas (Table 9-3). -/
inductive Area where
  | response
  | urgent
  | routine
  | forward
  deriving DecidableEq, Repr

/-- State of PKM (R157, R158): the four queues, oldest record first. -/
structure Pkm where
  response : List FrameRec
  urgent : List Report
  routine : List Report
  forward : List FrameRec
  nextId : Nat
  deriving DecidableEq, Repr

/-! ## The radio channel (Chapter 10) -/

/-- The radio record (Table 10-2). -/
structure RadioRec where
  urgentMs : Nat
  routineS : Nat
  windowMs : Nat
  keyMs : Nat
  unsolicited : Bool
  confirmS : Nat
  deriving DecidableEq, Repr

/-- Radio port controller states (Table 10-1). -/
inductive RadioState where
  | off
  | waking
  | listen
  | holdoff
  | grantWait
  | keying
  | sending
  deriving DecidableEq, Repr

/-- Purpose of the answer in hand (R167). -/
inductive Purpose where
  | poll
  | unsolicited
  deriving DecidableEq, Repr

/-- The answer in hand (R167): its record (`none` for NULL) and the copy of the frame. -/
structure Answer where
  purpose : Purpose
  record : Option (Area × Nat)
  frame : Frame
  deriving DecidableEq, Repr

/-- The holdoff timer (R176): its full length, and the time left while it runs; `none` while it
waits on the carrier. -/
structure Holdoff where
  length : Nat
  left : Option Nat
  deriving DecidableEq, Repr

/-- State of RPC (R167). -/
structure Rpc where
  state : RadioState
  answer : Option Answer
  shed : Nat
  supply : Bool
  windowLeft : Option Nat
  keyLeft : Option Nat
  holdoff : Option Holdoff
  confirmLeft : Option Nat
  powerDown : Bool
  polls : Nat
  answered : Nat
  abandoned : Nat
  unsolicited : Nat
  radioPwr : Bool
  radioKey : Bool
  deriving DecidableEq, Repr

/-! ## Frames, commands and time (Chapter 11) -/

/-- An entry of the intake queue (R182). The command kind is the first byte of the payload
(R194); an empty payload has none. -/
structure IntakeEntry where
  port : Port
  level : Nat
  wantsReply : Bool
  source : Nat
  payload : List Byte
  deriving DecidableEq, Repr

/-- Kinds of frame in the local transmit queue (R186). -/
inductive LocalKind where
  | response
  | report
  | pass
  | sample
  deriving DecidableEq, Repr

/-- A place of the local transmit queue (R186). A SAMPLE frame remembers the dropped count it
carries (R20). -/
inductive LocalItem where
  | frame (kind : LocalKind) (f : Frame) (carried : Nat)
  | reservation
  deriving DecidableEq, Repr

/-- The receiver of a port (R180): it hunts for the preamble (`half`: its first byte has just
arrived), or collects a frame, with the bytes after the preamble and the ticks of 100 µs left until a
byte gap abandons the frame (log entry 19). -/
inductive Receiver where
  | hunt (half : Bool)
  | collect (bytes : List Byte) (gapLeft : Nat)
  deriving DecidableEq, Repr

/-- State of FCU (R180 to R187). -/
structure Fcu where
  rxRadio : Receiver
  rxLocal : Receiver
  intake : List IntakeEntry
  outRadio : Bool
  outLocal : Bool
  localQ : List LocalItem
  badRadio : Nat
  badLocal : Nat
  dropRadio : Nat
  dropLocal : Nat
  fwdDropped : Nat
  localDropped : Nat
  time : PartTime
  running : Nat
  subMs : Nat
  secondTick : Bool
  deriving DecidableEq, Repr

/-! ## The durable store (3.4) -/

/-- The contents a store operation writes (Table 3-3). A tag table write carries the staged table
and the changes it holds (R109). -/
inductive StoreBody where
  | curve (slot : Nat) (c : Option Curve)
  | group (slot : Nat) (g : Option Group)
  | device (r : DeviceRec)
  | selection (r : SelectionRec)
  | tags (table : List Tag) (changes : List TagChange)
  | gates (t : List GateEntry)
  | battery (r : BatteryRec)
  | radio (r : RadioRec)
  | areas (p : Partition)
  | lastFailure (r : Option FailureRec)
  deriving DecidableEq, Repr

/-- The store operation in flight (R51, R52). -/
structure StoreOp where
  body : StoreBody
  reply : Option Reply
  left : Nat
  deriving DecidableEq, Repr

/-- The tables written by internal requests (R51). -/
inductive InternalTable where
  | selection
  | tags
  | lastFailure
  deriving DecidableEq, Repr

/-- The durable store (Table 3-3) with the operation in flight and the wait list (R51). -/
structure Store where
  curves : List (Option Curve)
  groups : List (Option Group)
  device : DeviceRec
  selection : SelectionRec
  tags : List Tag
  gates : List GateEntry
  battery : BatteryRec
  radio : RadioRec
  areas : Partition
  lastFailure : Option FailureRec
  inFlight : Option StoreOp
  waitList : List InternalTable
  deriving DecidableEq, Repr

/-! ## Pins, power and the free orders -/

/-- The input pins (Table 0-4). -/
structure Lines where
  supplyPresent : Bool
  modemReady : Bool
  carrierDet : Bool
  resetIn : Bool
  deriving DecidableEq, Repr

/-- Whether the part runs, is held in reset by RESET_IN, or has no power (R189). -/
inductive RunMode where
  | running
  | held
  | unpowered
  deriving DecidableEq, Repr

/-- The part as a whole (R189): its mode and the 20 ms qualification of RESET_IN. -/
structure Part where
  run : RunMode
  resetQual : Option Nat
  deriving DecidableEq, Repr

/-- Free choices of order (log entry 4): the manual allows either order and nothing constrains
these values. `drvFirst`: a delivery reaches DRV before SEQ (R12). `deliveryFirst`: a delivery is
taken before the E-step of the same slot (R39). `setFirst`: SET takes a tag notice before SEQ
(R114). `rpcFirst`: RPC takes a supply notice before SUP (R124). -/
structure Order where
  drvFirst : Bool
  deliveryFirst : Bool
  setFirst : Bool
  rpcFirst : Bool
  deriving DecidableEq, Repr

end Sys2Proof.Machine
end

