-- ==== Sys2Proof/Decode.lean ====
section
/-! DEFINITION. The byte layouts of Chapter 12 that the part decodes: byte order and CRC (R191),
the sample frame (12.2) and the station frame (12.3), each with its encoder; and decodeTableWord. The table of
commands (spec/opcode_table.json) gives no row any bits, so no word spells a command. -/

namespace Sys2Proof

/-- The command that a word spells by the table's bits: the table gives no row bits. -/
def decodeTableWord (_nbits _w : Nat) : Option Instr := none

namespace Machine

/-! ## Numbers on the wire (R191) -/

/-- `n` bytes of a natural number, most significant byte first (R191). -/
def beBytes : Nat → Nat → List Byte
  | 0, _ => []
  | n + 1, v => BitVec.ofNat 8 (v / 256 ^ n) :: beBytes n v

/-- `n` bytes of an integer in two's complement, most significant byte first (R191). -/
def beInt (n : Nat) (v : Int) : List Byte := beBytes n (v % (256 ^ n : Nat)).toNat

/-- The number carried by bytes, most significant byte first (R191). -/
def beNat (bs : List Byte) : Nat := bs.foldl (fun a b => a * 256 + b.toNat) 0

/-- A 16-bit two's complement field as an integer (R191). -/
def signed16 (n : Nat) : Int := if n < 32768 then n else (n : Int) - 65536

/-- A field with all bits set: the code for absence where the layout names none (R191). -/
def absentBytes (n : Nat) : List Byte := List.replicate n 0xFF#8

/-- A flag in bit 0 of a byte (R195). -/
def flagByte (b : Bool) : Byte := if b then 1#8 else 0#8

/-- A byte whose bits 0.. carry the flags of a list in order (Table 12-7). -/
def maskByte (bs : List Bool) : Byte :=
  BitVec.ofNat 8 (bs.foldr (fun b a => 2 * a + b.toNat) 0)

/-- Bit `i` of a byte. -/
def bitOf (b : Byte) (i : Nat) : Bool := b.toNat.testBit i

/-! ## CRC-16 (R191) -/

/-- One bit of the CRC-16: shift left, and add the polynomial 0x1021 when a one falls out (R191). -/
def crcShift (c : BitVec 16) : BitVec 16 :=
  if c.msb then (c <<< 1) ^^^ 0x1021#16 else c <<< 1

/-- The CRC after one more byte, taken most significant bit first (R191). -/
def crcByte (c : BitVec 16) (b : Byte) : BitVec 16 :=
  crcShift (crcShift (crcShift (crcShift (crcShift (crcShift (crcShift (crcShift
    (c ^^^ ((b.zeroExtend 16) <<< 8)))))))))

/-- The CRC-16 of a run of bytes: initial value 0xFFFF, no final inversion (R191). -/
def crc16 (bs : List Byte) : BitVec 16 := bs.foldl crcByte 0xFFFF#16

/-- The two CRC bytes, most significant first (R191). -/
def crcBytes (bs : List Byte) : List Byte := beBytes 2 (crc16 bs).toNat

/-! ## The sample frame (Table 12-1) -/

/-- The byte at an index; 0 beyond the end. -/
def byteAt (bs : List Byte) (i : Nat) : Byte := bs.getD i 0#8

/-- The unsigned 16-bit field at an index. -/
def wordAt (bs : List Byte) (i : Nat) : Nat := (byteAt bs i).toNat * 256 + (byteAt bs (i + 1)).toNat

/-- The length of a sample frame (12.2). -/
def sampleFrameLength : Nat := 24

/-- R1: the frame's length is that of Chapter 12 and its CRC-16 matches (R191: over bytes 0 to 21). -/
def sampleFrameOk (bs : List Byte) : Bool :=
  bs.length == sampleFrameLength && crcBytes (bs.take 22) == bs.drop 22

/-- The fields of a sample frame (Table 12-1); spare bits are ignored (R191). -/
def decodeSample (bs : List Byte) : SampleFrame :=
  { seqNo := (byteAt bs 0).toNat
    pos := (byteAt bs 1).toNat % 32
    samples :=
      { ia := signed16 (wordAt bs 2), ib := signed16 (wordAt bs 4), ic := signed16 (wordAt bs 6)
        iN := signed16 (wordAt bs 8), va := signed16 (wordAt bs 10), vb := signed16 (wordAt bs 12)
        vc := signed16 (wordAt bs 14)
        satA := bitOf (byteAt bs 21) 0, satB := bitOf (byteAt bs 21) 1
        satC := bitOf (byteAt bs 21) 2, satN := bitOf (byteAt bs 21) 3 }
    cap := wordAt bs 16
    aux := wordAt bs 18
    closedSide := bitOf (byteAt bs 20) 0
    openSide := bitOf (byteAt bs 20) 1
    pulled := bitOf (byteAt bs 20) 2
    mechReady := bitOf (byteAt bs 20) 3
    headFault := bitOf (byteAt bs 20) 4 }

/-- Bytes 0..21 of a sample frame (Table 12-1), as a SAMPLE payload carries them (Table 12-7). -/
def sampleBody (f : SampleFrame) : List Byte :=
  beBytes 1 f.seqNo ++ beBytes 1 (f.pos % 32) ++
  beInt 2 f.samples.ia ++ beInt 2 f.samples.ib ++ beInt 2 f.samples.ic ++ beInt 2 f.samples.iN ++
  beInt 2 f.samples.va ++ beInt 2 f.samples.vb ++ beInt 2 f.samples.vc ++
  beBytes 2 f.cap ++ beBytes 2 f.aux ++
  [maskByte [f.closedSide, f.openSide, f.pulled, f.mechReady, f.headFault]] ++
  [maskByte [f.samples.satA, f.samples.satB, f.samples.satC, f.samples.satN]]

/-- A whole sample frame as the head sends it: the body and its CRC-16 (R191). -/
def encodeSample (f : SampleFrame) : List Byte := sampleBody f ++ crcBytes (sampleBody f)

/-! ## The station frame (Table 12-2) -/

/-- Kind codes of station frames (Table 12-2). -/
def kindCommand : Byte := 0x01#8
/-- RESPONSE 0x02. -/
def kindResponse : Byte := 0x02#8
/-- REPORT 0x03. -/
def kindReport : Byte := 0x03#8
/-- POLL 0x04. -/
def kindPoll : Byte := 0x04#8
/-- NULL 0x05. -/
def kindNull : Byte := 0x05#8
/-- PASS 0x06. -/
def kindPass : Byte := 0x06#8
/-- SAMPLE 0x07. -/
def kindSample : Byte := 0x07#8

/-- What becomes of a frame that ends at a receiver (R180). -/
inductive Reception where
  /-- its length exceeds 240, its bytes stopped coming, its CRC does not match, or its kind is none of
  the seven -/
  | dropped
  /-- a good frame -/
  | good (f : Frame)
  deriving DecidableEq, Repr

/-- The bytes from the destination to the end of the payload, which the CRC covers (R191). -/
def frameBody (f : Frame) : List Byte :=
  beBytes 2 f.dest ++ beBytes 2 f.source ++ [f.kind, f.control] ++
  beBytes 1 f.payload.length ++ f.payload

/-- A station frame on the wire: preamble, body, CRC computed afresh (Table 12-2, R192). -/
def encodeFrame (f : Frame) : List Byte :=
  [0x5A#8, 0xA5#8] ++ frameBody f ++ crcBytes (frameBody f)

/-- The length field of a frame, from the bytes after its preamble (Table 12-2). -/
def lengthField (bs : List Byte) : Nat := (byteAt bs 6).toNat

/-- The checks of R180 on a whole frame, from the bytes after its preamble. -/
def judgeFrame (bs : List Byte) : Reception :=
  let n := lengthField bs
  if crcBytes (bs.take (7 + n)) == (bs.drop (7 + n)).take 2 then
    if 1 ≤ (byteAt bs 4).toNat && (byteAt bs 4).toNat ≤ 7 then
      .good { dest := wordAt bs 0, source := wordAt bs 2, kind := byteAt bs 4
              control := byteAt bs 5, payload := (bs.drop 7).take n }
    else .dropped
  else .dropped

/-- The receiver starts to hunt, or hunts again after a frame (R180). -/
def Receiver.idle : Receiver := .hunt false

/-- A receiver that hunts takes one byte: `half` says that the byte before it was 0x5A (R180). -/
def huntByte (half : Bool) (b : Byte) : Receiver :=
  if half && b == 0xA5#8 then .collect [] Config.byteGapTicks else .hunt (b == 0x5A#8)

/-- A receiver that collects has the bytes `got` after the preamble (R180): it drops a frame whose
length field exceeds 240, judges a frame at its last byte, and hunts again after either. -/
def collectByte (got : List Byte) : Receiver × Option Reception :=
  if got.length < 7 then (.collect got Config.byteGapTicks, none)
  else if 240 < lengthField got then (.idle, some .dropped)
  else if got.length < 9 + lengthField got then (.collect got Config.byteGapTicks, none)
  else (.idle, some (judgeFrame got))

/-- A receiver takes one byte (R180). A byte that comes after more than 10 ms finds its frame
abandoned, and is hunted. -/
def Receiver.take (r : Receiver) (b : Byte) : Receiver × Option Reception :=
  match r with
  | .hunt half => (huntByte half b, none)
  | .collect bs left => if left = 0 then (huntByte false b, some .dropped) else collectByte (bs ++ [b])

/-- The claimed level of a control byte: bits 1..0 (Table 12-2). -/
def claimedLevel (control : Byte) : Nat := control.toNat % 4

/-- The response-requested flag of a control byte: bit 2 (Table 12-2). -/
def wantsReplyBit (control : Byte) : Bool := bitOf control 2

/-- R193, R194: the acknowledgement of a POLL payload; shorter than two bytes it is 0, and bytes
beyond the second are ignored. -/
def pollAck (payload : List Byte) : Nat :=
  if payload.length < 2 then 0 else wordAt payload 0

end Machine
end Sys2Proof
end

