-- ==== Sys2Proof/Machine/Factory.lean ====
section
/-! DEFINITION. The factory contents of the durable store, and the values each block takes at every
reset that do not depend on the store or the pins. -/

namespace Sys2Proof.Machine

/-! ## The durable store in the factory state (Table 3-3) -/

/-- Table 3-4. -/
def factoryDevice : DeviceRec :=
  { station := 1, master := 65534, tagGroup := some 3, closeWait := 30, tripLimit := 60
    closeLimit := 120, capTrip := 1800, capReserve := 2600, capFull := 3000
    radioCeiling := 1, localCeiling := 0 }

/-- Table 7-1. -/
def factoryBattery : BatteryRec :=
  { capacity := 24, absorbV := 2880, floatV := 2720, comp := 60, ceiling := 3000, floor := 2500
    bulkLimit := 300, tail := 50, absorbHours := 4, rebulkMargin := 40, testHours := 168
    rLimit := 120, testMinV := 2200, shed1 := 40, shed2 := 20, shed3 := 10, discV := 2100
    action := .openFirst }

/-- Table 10-2. -/
def factoryRadio : RadioRec :=
  { urgentMs := 1500, routineS := 60, windowMs := 300, keyMs := 20, unsolicited := false
    confirmS := 30 }

/-- Table 9-3. -/
def factoryAreas : Partition :=
  { response := ⟨0, 64⟩, urgent := ⟨64, 512⟩, routine := ⟨576, 256⟩, forward := ⟨832, 192⟩ }

/-- Table 6-4, in the order of the kind codes 0x01 to 0x15 (R194). -/
def factoryGates : List GateEntry :=
  [ ⟨true, 3, .both⟩, ⟨true, 3, .both⟩,                     -- READ_STATUS, READ_TABLE
    ⟨true, 2, .both⟩, ⟨true, 2, .both⟩, ⟨true, 2, .both⟩,   -- SELECT_GROUP, SET_TIME, SAMPLE_FORWARD
    ⟨true, 1, .both⟩, ⟨true, 1, .both⟩,                     -- TRIP, CLOSE
    ⟨true, 1, .both⟩, ⟨true, 1, .both⟩,                     -- PLACE_TAG, REMOVE_TAG
    ⟨true, 1, .both⟩, ⟨true, 1, .both⟩,                     -- TEST_START, TEST_CANCEL
    ⟨true, 0, .both⟩, ⟨true, 0, .both⟩, ⟨true, 0, .both⟩,   -- WRITE_CURVE, CLEAR_CURVE, WRITE_GROUP
    ⟨true, 0, .both⟩, ⟨true, 0, .both⟩, ⟨true, 0, .both⟩,   -- WRITE_DEVICE, WRITE_BATTERY, WRITE_RADIO
    ⟨true, 0, .both⟩, ⟨true, 0, .both⟩, ⟨true, 0, .both⟩,   -- WRITE_AREAS, FLUSH_CLASS, DRIVE_RESTORE
    ⟨true, 0, .both⟩ ]                                      -- RESTART

/-- The durable store as the part leaves the factory (R45, R48, R54, R62, R105, R108, R119). -/
def factoryStore : Store :=
  { curves := List.replicate 16 none, groups := List.replicate 4 none, device := factoryDevice
    selection := ⟨none, none⟩, tags := [], gates := factoryGates, battery := factoryBattery
    radio := factoryRadio, areas := factoryAreas, lastFailure := none, inFlight := none
    waitList := [] }

/-! ## The built-in default (3.8) -/

/-- The built-in curve of Table 3-5. -/
def builtinCurve : Curve := { rows := [⟨16, 4096⟩], decay := none }

/-- The fields of the built-in default (Table 3-5); GT, PH and GH are not used and read 0. The shot
row names the built-in curve, which occupies no slot (R61); the index that stands for it is 0 (DESIGN
CHOICE, log entry 45). -/
def builtinGroup : Group :=
  { ptPickup := 400, gtPickup := 0, ptDial := 64, gtDial := 0, ptMin := 0, gtMin := 0
    phPickup := 0, ghPickup := 0, phDelay := 0, ghDelay := 0, liveV := 5000, deadV := 1000
    shots := 1, rows := [⟨0, 0, false, false⟩], intervals := [], reclaim := 10000
    needLive := false, coord := false }

/-- The built-in default live set (R61): it holds no copy of a stored curve. -/
def builtinLive : LiveSet := { source := none, grp := builtinGroup, curves := [] }

/-! ## Block values at every reset -/

/-- All four flags clear. -/
def noFlags : Flags4 := ⟨false, false, false, false⟩

/-- R9, R12, R19, R20. -/
def slrReset : Slr :=
  { link := .lost, consecMissing := 0, totalMissing := 0, lastSeq := none, gapCount := 0
    lastGood := none, silenceLeft := Config.silenceTicks, runPos := none, prevPosition := none
    prevHandle := none, prevReady := none, position := .indeterminate, handle := .returned
    ready := .notReady, decimation := 0, takeCount := 0, batch := [], droppedCount := 0 }

/-- An empty window (R15). -/
def emptyWindow : Window := { entries := [], sum := 0, satCount := 0 }

/-- R15, R16, R17. -/
def meuReset : Meu :=
  { wIA := emptyWindow, wIB := emptyWindow, wIC := emptyWindow, wIN := emptyWindow
    wVA := emptyWindow, wVB := emptyWindow, wVC := emptyWindow, fill := 0
    mags := ⟨0, 0, 0, 0, 0, 0, 0⟩, valid := false, liveA := false, liveB := false, liveC := false }

/-- R43. -/
def eleReset : Ele :=
  { pt := ⟨0, 0, false, false⟩, gt := ⟨0, 0, false, false⟩, ph := ⟨0, false, false⟩
    gh := ⟨0, false, false⟩, lastPickup := noFlags, lastOperate := noFlags, shotCopy := 0
    posView := .indeterminate, posStale := true, frozen := true }

/-- SET before R62 has read the selection record. -/
def setsReset : Sets :=
  { live := builtinLive, active := none, ret := none, pendingSel := none, settledView := true }

/-- R64, R65; the tag views are then taken from the restored table (R87). -/
def seqReset : Seq :=
  { state := .unknown, shot := 0, lockReason := none, manualReclaim := false, tripCause := none
    closeCause := none, timer := none, restartMark := none, position := .indeterminate
    handle := .returned, ready := .notReady, linkUp := false, cap := 0, capStale := true
    sourceLive := false, tagPresent := false, noClosePresent := false, lastPickup := noFlags
    lastOperate := noFlags, episode := none }

/-- R88, R89, R107. -/
def drvReset : Drv :=
  { state := .idle, coilMain := false, coilBackup := false, coilClose := false, op := none
    monitor := none, degraded := false, recharge := false, summary := none, snapshot := none
    position := .indeterminate, handle := .returned, ready := .notReady, stale := true, cap := 0
    capStale := true }

/-- Table 6-1, R117; the tables are then restored from the store (R115). -/
def lkuReset : Lku :=
  { inForce := [], staged := [], changes := [], countdowns := [], handle := .returned
    handleStale := true }

/-- R141 with the pins released (R189), before the supply line and the record are read. -/
def batReset : Bat :=
  { supply := false, qualLeft := none, absentSince := none, charger := .off, absorbMs := none
    rebulk := 0, fault := none, recoveryLeft := none, voltNow := none, ampNow := none
    tempView := none, cabView := none, voltSum := 0, voltCount := 0, ampSum := 0, ampCount := 0
    secondLeft := Config.secondMs, lastV := none, lastI := none, absorbSet := 0, floatSet := 0
    q := 0, estimated := true, soc := 50, shed := 0, test := .idle, due := none, startCause := none, intervalLeft := 0
    retryLeft := none, settleLeft := none, loadLeft := none, recentV := [], recentI := []
    v0 := none, i0 := none, abortCount := 0, badCount := 0, result := none, disc := .normal
    discAction := none, qualCount := 0, testLoad := false, lvdOut := false, chgEn := false
    chgVset := 0, chgIlim := 0 }

/-- R143; the views are then BAT's. -/
def supReset : Sup :=
  { cap := .idle, radio := .idle, load := .idle, capAgain := false, radioAgain := false
    loadAgain := false, supply := false, shed := 0, capEn := false }

/-- R165, before the RESTART event. -/
def rpbReset : Rpb :=
  { urgent := none, routine := none, nextNumber := 1, lostUrgent := 0, lostRoutine := 0
    profSum := 0, profCount := 0, profLow := none, hourLeft := Config.hourMs }

/-- R165. -/
def pkmReset : Pkm := { response := [], urgent := [], routine := [], forward := [], nextId := 0 }

/-- R167, before R168 decides. -/
def rpcReset : Rpc :=
  { state := .off, answer := none, shed := 0, supply := false, windowLeft := none, keyLeft := none
    holdoff := none, confirmLeft := none, powerDown := false, polls := 0, answered := 0
    abandoned := 0, unsolicited := 0, radioPwr := false, radioKey := false }

/-- R180, R181, R182, R186, R187. -/
def fcuReset : Fcu :=
  { rxRadio := .hunt false, rxLocal := .hunt false, intake := [], outRadio := false
    outLocal := false, localQ := [], badRadio := 0, badLocal := 0, dropRadio := 0, dropLocal := 0, fwdDropped := 0, localDropped := 0, time := ⟨0, 0, false⟩
    running := 0, subMs := 0, secondTick := false }

/-- The input pins at power-on: the cabinet supply present, the modem not ready, no carrier,
RESET_IN released (DESIGN CHOICE, log entry 5). -/
def linesReset : Lines :=
  { supplyPresent := true, modemReady := false, carrierDet := false, resetIn := false }

/-- The free orders at reset (DESIGN CHOICE, log entry 4). -/
def orderReset : Order :=
  { drvFirst := false, deliveryFirst := false, setFirst := false, rpcFirst := false }

/-- The RESTART report that is report 1 after every reset (R165). -/
def restartReport (cause : ResetCause) : Report :=
  { id := 0, number := 1, lost := 0, cls := .urgent, base := ⟨0, 0, false⟩
    entries := [⟨.restart cause, 0⟩], attempts := 0, awaiting := false }

end Sys2Proof.Machine
end

