-- ==== Sys2Proof/Machine/State.lean ====
section
/-! DEFINITION. The state of the part, its reset value, and the two reason types of the interface. -/

namespace Sys2Proof.Machine

/-- The whole state of the part: one field per block of Table 0-2, the durable store, the pins, the
power, the free orders, and the queue of commands that wait (first in, first out). -/
structure State where
  slr : Slr
  meu : Meu
  ele : Ele
  store : Store
  sets : Sets
  seq : Seq
  drv : Drv
  lku : Lku
  bat : Bat
  sup : Sup
  rpb : Rpb
  pkm : Pkm
  rpc : Rpc
  fcu : Fcu
  lines : Lines
  part : Part
  order : Order
  pending : List Instr
  deriving DecidableEq, Repr

/-- Conditions that stop the part. The manual names none: a bad frame is counted, a command that
may not run is answered with an outcome, and a failure of the drive or the charger is a state. -/
inductive Fault where
  deriving DecidableEq, Repr

/-- Reasons to refuse a command. -/
inductive Refusal where
  /-- Raised by an arm of `exec` whose command has no meaning yet: none at present. Safe: the model
  stops where the part goes on. -/
  | notModelled (mnemonic : String)
  deriving DecidableEq, Repr

/-- The REPORT frame of the RESTART report that a factory part queues for the local port after
power-on (R161, R165, R192; payload by Tables 12-5 and 12-6). -/
def restartCopy : LocalItem :=
  .frame .report
    { dest := 0, source := 1, kind := 0x03#8, control := 0#8
      payload := [0, 1, 0, 1, 0, 0, 0, 0, 0, 0, 0, 0,
                  22, 0, 0, 0, 0, 0, 0, 0, 0, 0, 0, 0] } 0

/-- The machine right after a power-on reset of a part in the factory state (R190, log entry 6):
each block at its own rule's values, the selection record on its way to the store as SET's loading
requests it (R55, log entry 9), the charger in BULK on a present supply (R141), the radio WAKING
since shed level 0 wants it powered (R168), the RESTART event sealed as report 1 (R165) with its copy
for the local port (R161), nothing pending. -/
def State.reset : State :=
  { slr := slrReset
    meu := meuReset
    ele := eleReset
    store := { factoryStore with
      inFlight := some ⟨.selection ⟨none, none⟩, none, Config.storeMs⟩ }
    sets := setsReset
    seq := seqReset
    drv := drvReset
    lku := lkuReset
    bat := { batReset with
      supply := true, charger := .bulk, absorbSet := 2880, floatSet := 2720, q := 4320000
      intervalLeft := 604800000, chgEn := true, chgVset := 2880, chgIlim := 300 }
    sup := { supReset with supply := true }
    rpb := { rpbReset with nextNumber := 2 }
    pkm := { pkmReset with urgent := [restartReport .powerOn], nextId := 1 }
    rpc := { rpcReset with state := .waking, supply := true, radioPwr := true }
    fcu := { fcuReset with localQ := [restartCopy] }
    lines := linesReset
    part := { run := .running, resetQual := none }
    order := orderReset
    pending := [] }

end Sys2Proof.Machine
end

