-- ==== Sys2Proof/Machine/Ops.lean ====
section
/-! DEFINITION. The named operations over State: one update per block and the small readings that several blocks share. -/

namespace Sys2Proof.Machine

/-! ## One update per block -/

/-- Update the state of slr. -/
def State.modSlr (f : Slr → Slr) (s : State) : State := { s with slr := f s.slr }

/-- Update the state of meu. -/
def State.modMeu (f : Meu → Meu) (s : State) : State := { s with meu := f s.meu }

/-- Update the state of ele. -/
def State.modEle (f : Ele → Ele) (s : State) : State := { s with ele := f s.ele }

/-- Update the state of store. -/
def State.modStore (f : Store → Store) (s : State) : State := { s with store := f s.store }

/-- Update the state of sets. -/
def State.modSets (f : Sets → Sets) (s : State) : State := { s with sets := f s.sets }

/-- Update the state of seq. -/
def State.modSeq (f : Seq → Seq) (s : State) : State := { s with seq := f s.seq }

/-- Update the state of drv. -/
def State.modDrv (f : Drv → Drv) (s : State) : State := { s with drv := f s.drv }

/-- Update the state of lku. -/
def State.modLku (f : Lku → Lku) (s : State) : State := { s with lku := f s.lku }

/-- Update the state of bat. -/
def State.modBat (f : Bat → Bat) (s : State) : State := { s with bat := f s.bat }

/-- Update the state of sup. -/
def State.modSup (f : Sup → Sup) (s : State) : State := { s with sup := f s.sup }

/-- Update the state of rpb. -/
def State.modRpb (f : Rpb → Rpb) (s : State) : State := { s with rpb := f s.rpb }

/-- Update the state of pkm. -/
def State.modPkm (f : Pkm → Pkm) (s : State) : State := { s with pkm := f s.pkm }

/-- Update the state of rpc. -/
def State.modRpc (f : Rpc → Rpc) (s : State) : State := { s with rpc := f s.rpc }

/-- Update the state of fcu. -/
def State.modFcu (f : Fcu → Fcu) (s : State) : State := { s with fcu := f s.fcu }

/-- Update the state of lines. -/
def State.modLines (f : Lines → Lines) (s : State) : State := { s with lines := f s.lines }

/-- Update the state of part. -/
def State.modPart (f : Part → Part) (s : State) : State := { s with part := f s.part }

/-- Update the queue of waiting commands. -/
def State.setPending (q : List Instr) (s : State) : State := { s with pending := q }

/-! ## Readings shared by several blocks -/

/-- R12: the three values are stale whenever the link is not UP. -/
def linkStale (s : State) : Bool := s.slr.link != .up

/-- R17: the source is LIVE while all three phases are LIVE. -/
def sourceLive (m : Meu) : Bool := m.liveA && m.liveB && m.liveC

/-- Any of the four flags is set. -/
def Flags4.any (f : Flags4) : Bool := f.pt || f.gt || f.ph || f.gh

/-- The four flags in the order PT, GT, PH, GH (Table 12-7). -/
def Flags4.bits (f : Flags4) : List Bool := [f.pt, f.gt, f.ph, f.gh]

/-- The pickup flags of the four elements. -/
def pickupFlags (e : Ele) : Flags4 := ⟨e.pt.pickup, e.gt.pickup, e.ph.pickup, e.gh.pickup⟩

/-- The operate flags of the four elements. -/
def operateFlags (e : Ele) : Flags4 := ⟨e.pt.operate, e.gt.operate, e.ph.operate, e.gh.operate⟩

/-- R22: the shot row in use is the row for trip (shot counter + 1), or row N beyond N; its number,
counting from 1. -/
def rowInUse (shot n : Nat) : Nat := min (shot + 1) n

/-- Any tag is in the table. -/
def anyTag (ts : List Tag) : Bool := !ts.isEmpty

/-- A NO_CLOSE tag is in the table. -/
def anyNoClose (ts : List Tag) : Bool := ts.any (fun t => t.kind == .noClose)

/-- R72: which of the six close conditions are unmet, in order. -/
def unmetConditions (s : State) : List Bool :=
  [ !s.seq.linkUp,
    decide (s.seq.cap < s.store.device.capReserve),
    s.seq.ready == .notReady,
    s.sets.live.grp.needLive && !s.seq.sourceLive,
    s.seq.tagPresent,
    s.seq.handle == .pulled ]

/-- R72: every close condition holds. -/
def closeConditionsMet (s : State) : Bool := !(unmetConditions s).any id

/-- R64: SEQ is settled in UNKNOWN, LOCKOUT and FAILED, and in READY while its last result shows no
pickup. -/
def seqSettled (s : State) : Bool :=
  match s.seq.state with
  | .unknown => true
  | .lockout => true
  | .failed => true
  | .ready => !s.seq.lastPickup.any
  | .tripping => false
  | .openInterval => false
  | .closeWait => false
  | .closing => false
  | .reclaim => false

/-- R88, R105: a flag that belongs to a trip; absent for a close. -/
def tripFlag (k : OpKind) (b : Bool) : Option Bool :=
  match k with
  | .trip _ => some b
  | .close _ => none

/-- R168: at shed level 2 the listen window is the seconds 0..4 of each minute. -/
def inListenWindow (t : PartTime) : Bool := t.secs % 60 ≤ 4

/-- The ceiling of a port (R118). -/
def portCeiling (d : DeviceRec) : Port → Nat
  | .radio => d.radioCeiling
  | .localPort => d.localCeiling

/-- R118: the effective level is the numerically larger of the ceiling and the claimed level. -/
def effectiveLevel (d : DeviceRec) (p : Port) (claimed : Nat) : Nat := max (portCeiling d p) claimed

/-- R157: the words of a report with n events. -/
def reportWords (n : Nat) : Nat := 3 + 3 * n

/-- R157: the words of a RESPONSE or FORWARD record with L payload bytes: 2 + ceiling(L / 4). -/
def frameWords (l : Nat) : Nat := 2 + (l + 3) / 4

/-- The words that a queue of reports holds. -/
def reportsUsed (q : List Report) : Nat := (q.map (fun r => reportWords r.entries.length)).sum

/-- The words that a queue of frame records holds. -/
def framesUsed (q : List FrameRec) : Nat := (q.map (fun r => frameWords r.frame.payload.length)).sum

/-- The words of an area that are in use (R157). -/
def areaUsed (k : Pkm) : Area → Nat
  | .response => framesUsed k.response
  | .urgent => reportsUsed k.urgent
  | .routine => reportsUsed k.routine
  | .forward => framesUsed k.forward

/-- Start and depth of an area. -/
def areaSpec (p : Partition) : Area → AreaSpec
  | .response => p.response
  | .urgent => p.urgent
  | .routine => p.routine
  | .forward => p.forward

/-- R157: the free words of an area are its depth less the words of the records it holds. -/
def freeWords (s : State) (a : Area) : Nat := (areaSpec s.store.areas a).depth - areaUsed s.pkm a

end Sys2Proof.Machine
end

