-- ==== Sys2Proof/Machine/Flags.lean ====
section
/-! DEFINITION. The arithmetic of the measurement unit and of the four elements: windows, magnitudes
and voltage presence (R15 to R17), pickup and operate flags (R21 to R34, R37). -/

namespace Sys2Proof.Machine

/-! ## Windows and magnitudes -/

/-- R15: the square of a sample. -/
def squareOf (x : Int) : Nat := x.natAbs * x.natAbs

/-- R15: a window takes one more entry; at 32 entries the oldest is removed first, its square leaves
the sum and its flag the saturation count. -/
def pushWindow (w : Window) (x : Int) (sat : Bool) : Window :=
  let w1 : Window :=
    match w.entries with
    | [] => w
    | e :: rest =>
      if Config.windowSize ≤ w.entries.length then
        { entries := rest, sum := w.sum - e.square
          satCount := w.satCount - e.sat.toNat }
      else w
  { entries := w1.entries ++ [⟨squareOf x, sat⟩], sum := w1.sum + squareOf x
    satCount := w1.satCount + sat.toNat }

/-- R15: a slot that carries samples adds one entry to every window and raises the fill count up to
32. The voltage channels carry no saturation flags. -/
def pushSamples (m : Meu) (x : Samples) : Meu :=
  { m with
    wIA := pushWindow m.wIA x.ia x.satA
    wIB := pushWindow m.wIB x.ib x.satB
    wIC := pushWindow m.wIC x.ic x.satC
    wIN := pushWindow m.wIN x.iN x.satN
    wVA := pushWindow m.wVA x.va false
    wVB := pushWindow m.wVB x.vb false
    wVC := pushWindow m.wVC x.vc false
    fill := min Config.windowSize (m.fill + 1) }

/-- R6: MEU clears all seven windows. -/
def clearWindows (m : Meu) : Meu :=
  { m with
    wIA := emptyWindow, wIB := emptyWindow, wIC := emptyWindow, wIN := emptyWindow
    wVA := emptyWindow, wVB := emptyWindow, wVC := emptyWindow, fill := 0 }

/-- The largest r built from the bits 2^(n-1)..1 above `r` whose square does not exceed `x`. -/
def sqrtBits (x : Nat) : Nat → Nat → Nat
  | 0, r => r
  | n + 1, r => if (r + 2 ^ n) * (r + 2 ^ n) ≤ x then sqrtBits x n (r + 2 ^ n) else sqrtBits x n r

/-- R16: floor of the square root of a mean square below 2^32. -/
def isqrt (x : Nat) : Nat := sqrtBits x 16 0

/-- R16: the magnitude of a window: floor of the root of floor(sum / 32), forced to full scale while
the saturation count is above 0. -/
def windowMag (w : Window) : Nat :=
  if 0 < w.satCount then Config.fullScale else isqrt (w.sum / 32)

/-- R16: all seven magnitudes. -/
def magnitudes (m : Meu) : Magnitudes :=
  { ia := windowMag m.wIA, ib := windowMag m.wIB, ic := windowMag m.wIC, iN := windowMag m.wIN
    va := windowMag m.wVA, vb := windowMag m.wVB, vc := windowMag m.wVC }

/-- R17: LIVE at or above the live threshold, DEAD at or below the dead threshold, else unchanged. -/
def presence (g : Group) (old : Bool) (v : Nat) : Bool :=
  if g.liveV ≤ v then true else if v ≤ g.deadV then false else old

/-- R21: the largest of the three phase current magnitudes. -/
def maxPhase (m : Magnitudes) : Nat := max m.ia (max m.ib m.ic)

/-! ## Timed elements (2.2) -/

/-- R25: floor(M × 16 / P), clamped to 0..640. -/
def m16 (mag p : Nat) : Nat := min Config.m16Top (mag * 16 / p)

/-- R26: the rate of the row with the largest breakpoint not greater than `m`. -/
def curveRate (rows : List CurveRow) (m : Nat) : Nat :=
  rows.foldl (fun r row => if row.bp ≤ m then row.rate else r) 0

/-- R27: floor(r × 64 / TD), clamped to 1..1,048,576. -/
def effectiveRate (r dial : Nat) : Nat := clampNat 1 Config.accFull (r * 64 / dial)

/-- R25 to R31 at one E-step, with the element's curve (`none`: disabled, held at rest, R23), its
pickup, time dial and minimum response. -/
def timedStep (curve : Option Curve) (pickup dial minResp mag : Nat) (t : Timed) : Timed :=
  match curve with
  | none => { acc := 0, count := 0, pickup := false, operate := false }
  | some c =>
    let m := m16 mag pickup
    let u : Timed :=
      if 16 ≤ m then
        { acc := min (t.acc + effectiveRate (curveRate c.rows m) dial) Config.accFull
          count := min (t.count + 1) Config.countTop, pickup := true, operate := t.operate }
      else
        match c.decay with
        | none => { acc := 0, count := 0, pickup := false, operate := t.operate }
        | some d =>
          { acc := t.acc - d, count := if t.acc - d = 0 then 0 else t.count, pickup := false
            operate := t.operate }
    { u with operate := u.operate || (u.acc == Config.accFull && decide (minResp ≤ u.count)) }

/-! ## High-set elements (2.3) -/

/-- R32, R33 at one E-step, with the element's enabling in the shot row, pickup and delay. -/
def highSetStep (enabled : Bool) (pickup delay mag : Nat) (h : HighSet) : HighSet :=
  let c := if pickup ≤ mag then min (h.count + 1) Config.countTop else 0
  { count := c
    pickup := decide (pickup ≤ mag) && enabled
    operate := h.operate || (decide (delay < c) && enabled) }

/-! ## The engine -/

/-- The shot row in use of a live set (R22); no row where the set has none. -/
def shotRow (l : LiveSet) (shot : Nat) : Option ShotRow := l.grp.rows[rowInUse shot l.grp.shots - 1]?

/-- R26: the live set's copy of the PT curve of a row; the built-in default uses its own (R61). -/
def ptCurve (l : LiveSet) (r : ShotRow) : Option Curve :=
  match l.source with
  | none => some builtinCurve
  | some _ => l.curves.lookup r.ptCurve

/-- R26, R61: the live set's copy of the GT curve; GT is disabled in the built-in default. -/
def gtCurve (l : LiveSet) (r : ShotRow) : Option Curve :=
  match l.source with
  | none => none
  | some _ => l.curves.lookup r.gtCurve

/-- R21 to R33: the four elements are evaluated on one set of magnitudes. -/
def evaluate (l : LiveSet) (m : Magnitudes) (e : Ele) : Ele :=
  let row := (shotRow l e.shotCopy).getD ⟨0, 0, false, false⟩
  { e with
    pt := timedStep (ptCurve l row) l.grp.ptPickup l.grp.ptDial l.grp.ptMin (maxPhase m) e.pt
    gt := timedStep (gtCurve l row) l.grp.gtPickup l.grp.gtDial l.grp.gtMin m.iN e.gt
    ph := highSetStep row.ph l.grp.phPickup l.grp.phDelay (maxPhase m) e.ph
    gh := highSetStep row.gh l.grp.ghPickup l.grp.ghDelay m.iN e.gh }

/-- R37: every accumulator, counter and flag of the elements is cleared. -/
def clearElements (e : Ele) : Ele :=
  { e with pt := ⟨0, 0, false, false⟩, gt := ⟨0, 0, false, false⟩
           ph := ⟨0, false, false⟩, gh := ⟨0, false, false⟩ }

/-- The flags set in `b` and clear in `a`. -/
def newFlags (a b : Flags4) : Flags4 :=
  ⟨b.pt && !a.pt, b.gt && !a.gt, b.ph && !a.ph, b.gh && !a.gh⟩

/-- R34, R38: the result of an E-step: the evaluated flags, or every flag clear where the position
view was OPEN. -/
def stepResult (before after : Ele) : ElemResult :=
  if before.posView = .opened then ⟨noFlags, noFlags, noFlags, true⟩
  else ⟨pickupFlags after, operateFlags after, newFlags (operateFlags before) (operateFlags after), true⟩

/-- R34: the result handed at a clearing. -/
def clearResult : ElemResult := ⟨noFlags, noFlags, noFlags, false⟩

/-- R36, R38, R40: ELE takes one E-step: the frozen indication is cleared, the elements are
evaluated unless the position view is OPEN, and the last E-step record is rewritten. -/
def eleStep (l : LiveSet) (m : Magnitudes) (e : Ele) : Ele :=
  let e1 := if e.posView = .opened then e else evaluate l m e
  { e1 with frozen := false, lastPickup := (stepResult e e1).pickup
            lastOperate := (stepResult e e1).operate }

end Sys2Proof.Machine
end

