-- ==== Sys2Proof/Machine/Operands.lean ====
section
/-! DEFINITION. The operand forms of the commands: how a COMMAND payload after its kind byte is read
(R194, R195, R196, Table 12-4) and the checks its contents must pass. A reader answers `none` where
the length or an enumeration code is wrong. -/

namespace Sys2Proof.Machine

/-! ## Field readers -/

/-- Unsigned fields of the given sizes, which must fill the bytes exactly. -/
def readFields : List Nat → List Byte → Option (List Nat)
  | [], [] => some []
  | [], _ :: _ => none
  | n :: ns, bs =>
    if bs.length < n then none
    else (readFields ns (bs.drop n)).map (fun fs => beNat (bs.take n) :: fs)

/-- The yes/no and on/off codes: 1 and 0 (R196). -/
def readBool : Nat → Option Bool
  | 0 => some false
  | 1 => some true
  | _ => none

/-- The length of a payload without fields. -/
def noFields (bs : List Byte) : Bool := bs.isEmpty

/-- A single one-byte field. -/
def readByte (bs : List Byte) : Option Nat :=
  match bs with
  | [b] => some b.toNat
  | _ => none

/-! ## Central commands (Table 12-4) -/

/-- READ_TABLE: table kind and index. -/
def readTableArgs (bs : List Byte) : Option (Nat × Nat) :=
  match readFields [1, 1] bs with
  | some [k, i] => some (k, i)
  | _ => none

/-- SET_TIME: seconds and milliseconds; milliseconds above 999 are INVALID (R187). -/
def readSetTime (bs : List Byte) : Option (Nat × Nat) :=
  match readFields [4, 2] bs with
  | some [secs, ms] => if ms ≤ 999 then some (secs, ms) else none
  | _ => none

/-- SAMPLE_FORWARD: D is off (0), 1, 2, 4 or 8 (R185). -/
def readDecimation (bs : List Byte) : Option Nat :=
  match readByte bs with
  | some d => if d = 0 ∨ d = 1 ∨ d = 2 ∨ d = 4 ∨ d = 8 then some d else none
  | none => none

/-- A crew id lies in 1..65,535 (Table 6-2). -/
def crewOk (c : Nat) : Bool := 1 ≤ c && c ≤ 65535

/-- PLACE_TAG: crew id, kind and optional expiry (R110 step 1: INVALID outside their ranges). -/
def readPlaceTag (bs : List Byte) : Option (Nat × TagKind × Option Nat) :=
  match readFields [2, 1, 2] bs with
  | some [crew, k, e] =>
    if crewOk crew && e ≤ 1440 then
      match k with
      | 0 => some (crew, .noReclose, if e = 0 then none else some e)
      | 1 => some (crew, .noClose, if e = 0 then none else some e)
      | _ => none
    else none
  | _ => none

/-- REMOVE_TAG: crew id (R112 step 1). -/
def readRemoveTag (bs : List Byte) : Option Nat :=
  match readFields [2] bs with
  | some [crew] => if crewOk crew then some crew else none
  | _ => none

/-- FLUSH_CLASS: the area (R163). -/
def readArea (bs : List Byte) : Option Area :=
  match readByte bs with
  | some 0 => some .response
  | some 1 => some .urgent
  | some 2 => some .routine
  | some 3 => some .forward
  | _ => none

/-! ## Curves (R46) -/

/-- The rows of a curve: breakpoint (2), rate (3) each. -/
def readRows : Nat → List Byte → Option (List CurveRow)
  | 0, [] => some []
  | 0, _ :: _ => none
  | n + 1, bs =>
    if bs.length < 5 then none
    else (readRows n (bs.drop 5)).map
      (fun rs => ⟨beNat (bs.take 2), beNat ((bs.drop 2).take 3)⟩ :: rs)

/-- The breakpoints rise strictly. -/
def risingRows : List CurveRow → Bool
  | [] => true
  | r :: rest =>
    (match rest with
     | [] => true
     | q :: _ => decide (r.bp < q.bp)) && risingRows rest

/-- A rate or decay rate lies in 1..1,048,576. -/
def rateOk (r : Nat) : Bool := 1 ≤ r && r ≤ Config.accFull

/-- The checks of R46 on the contents of a curve. -/
def curveOk (c : Curve) : Bool :=
  2 ≤ c.rows.length && c.rows.length ≤ 32 &&
  (c.rows.head?.map (fun r => r.bp)) == some 16 && risingRows c.rows &&
  c.rows.all (fun r => r.bp ≤ Config.m16Top && rateOk r.rate) &&
  (match c.decay with
   | none => true
   | some d => rateOk d)

/-- WRITE_CURVE: slot, row count, reset mode, decay rate (0: none given), rows. The index and the
contents are checked as a whole (R46). -/
def readCurve (bs : List Byte) : Option (Nat × Curve) :=
  match readFields [1, 1, 1, 3] (bs.take 6) with
  | some [slot, n, mode, d] =>
    match readRows n (bs.drop 6) with
    | some rows =>
      let decay : Option (Option Nat) :=
        match mode with
        | 0 => if d = 0 then some none else none
        | 1 => some (some d)
        | _ => none
      match decay with
      | some dec =>
        if slot ≤ 15 && curveOk ⟨rows, dec⟩ then some (slot, ⟨rows, dec⟩) else none
      | none => none
    | none => none
  | _ => none

/-! ## Settings groups (R49) -/

/-- A value lies in a range. -/
def within (lo hi n : Nat) : Bool := lo ≤ n && n ≤ hi

/-- The ranges and consistency of Table 3-2 and R49, without the presence of the curves. -/
def groupOk (g : Group) : Bool :=
  within 5 3200 g.ptPickup && within 5 3200 g.gtPickup &&
  within 16 1024 g.ptDial && within 16 1024 g.gtDial &&
  g.ptMin ≤ 400 && g.gtMin ≤ 400 &&
  within 50 32768 g.phPickup && within 50 32768 g.ghPickup &&
  g.phDelay ≤ 80 && g.ghDelay ≤ 80 &&
  within 1 32767 g.liveV && g.deadV ≤ 32766 && decide (g.deadV < g.liveV) &&
  within 1 4 g.shots && g.rows.length == g.shots && g.intervals.length == g.shots - 1 &&
  g.rows.all (fun r => r.ptCurve ≤ 15 && r.gtCurve ≤ 15) &&
  g.intervals.all (within 100 180000) && within 1000 600000 g.reclaim

/-- The shot rows: PT curve, GT curve, PH enabled, GH enabled, one byte each. -/
def readShotRows : Nat → List Byte → Option (List ShotRow)
  | 0, _ => some []
  | n + 1, bs =>
    match bs with
    | p :: g :: h :: k :: rest =>
      match readBool h.toNat, readBool k.toNat, readShotRows n rest with
      | some ph, some gh, some rows => some (⟨p.toNat, g.toNat, ph, gh⟩ :: rows)
      | _, _, _ => none
    | _ => none

/-- The contents of a WRITE_GROUP after the slot byte, in table order (R196). -/
def readGroupBody (bs : List Byte) : Option Group :=
  match readFields [2, 2, 2, 2, 2, 2, 2, 2, 1, 1, 2, 2, 1] (bs.take 23) with
  | some [ptP, gtP, ptD, gtD, ptM, gtM, phP, ghP, phD, ghD, live, dead, n] =>
    if within 1 4 n && decide (bs.length = 23 + 4 * n + 3 * (n - 1) + 5) then
      match readShotRows n (bs.drop 23), readFields (List.replicate (n - 1) 3 ++ [3, 1, 1])
          (bs.drop (23 + 4 * n)) with
      | some rows, some tail =>
        match tail.drop (n - 1) with
        | [reclaim, live1, coord1] =>
          match readBool live1, readBool coord1 with
          | some nl, some co =>
            some { ptPickup := ptP, gtPickup := gtP, ptDial := ptD, gtDial := gtD, ptMin := ptM
                   gtMin := gtM, phPickup := phP, ghPickup := ghP, phDelay := phD, ghDelay := ghD
                   liveV := live, deadV := dead, shots := n, rows := rows
                   intervals := tail.take (n - 1), reclaim := reclaim, needLive := nl, coord := co }
          | _, _ => none
        | _ => none
      | _, _ => none
    else none
  | _ => none

/-- What a WRITE_GROUP payload carries: contents, or the clear indication (slot, 0xFF; R196). -/
inductive GroupArg where
  | contents (slot : Nat) (g : Group)
  | clear (slot : Nat)
  deriving DecidableEq, Repr

/-- WRITE_GROUP, read and checked up to the presence of the curves it names (R49, R50). -/
def readGroup (bs : List Byte) : Option GroupArg :=
  match bs with
  | [] => none
  | slot :: rest =>
    if rest == [0xFF#8] then some (.clear slot.toNat)
    else
      match readGroupBody rest with
      | some g => if slot.toNat ≤ 3 && groupOk g then some (.contents slot.toNat g) else none
      | none => none

/-! ## The records -/

/-- Table 3-4 and the checks of R54. -/
def deviceOk (d : DeviceRec) : Bool :=
  within 1 65534 d.station && within 1 65534 d.master && d.master != d.station &&
  (match d.tagGroup with
   | none => true
   | some g => g ≤ 3) &&
  within 1 600 d.closeWait && within 20 200 d.tripLimit && within 40 400 d.closeLimit &&
  within 500 9000 d.capTrip && within 500 9000 d.capReserve && within 500 9000 d.capFull &&
  decide (d.capTrip < d.capReserve) && decide (d.capReserve < d.capFull) &&
  d.radioCeiling ≤ 3 && d.localCeiling ≤ 3

/-- WRITE_DEVICE (R54, R196). -/
def readDevice (bs : List Byte) : Option DeviceRec :=
  match readFields [2, 2, 1, 2, 1, 2, 2, 2, 2, 1, 1] bs with
  | some [st, ma, tg, cw, tl, cl, ct, cr, cf, rc, lc] =>
    let d : DeviceRec :=
      { station := st, master := ma, tagGroup := if tg = 255 then none else some tg
        closeWait := cw, tripLimit := tl, closeLimit := cl, capTrip := ct, capReserve := cr
        capFull := cf, radioCeiling := rc, localCeiling := lc }
    if deviceOk d then some d else none
  | _ => none

/-- Table 7-1 and the checks of R123. -/
def batteryOk (b : BatteryRec) : Bool :=
  within 1 200 b.capacity && within 2000 3200 b.absorbV && within 2000 3200 b.floatV &&
  b.floatV ≤ b.absorbV && b.comp ≤ 120 && within 2400 3200 b.ceiling &&
  within 2000 3000 b.floor && decide (b.floor < b.ceiling) && within 10 2000 b.bulkLimit &&
  within 1 500 b.tail && within 1 24 b.absorbHours && within 10 200 b.rebulkMargin &&
  within 1 720 b.testHours && within 10 2000 b.rLimit && within 1800 2600 b.testMinV &&
  within 6 95 b.shed1 && within 6 95 b.shed2 && within 6 95 b.shed3 &&
  decide (b.shed2 < b.shed1) && decide (b.shed3 < b.shed2) && within 1800 2400 b.discV

/-- The form of a WRITE_BATTERY payload (R194, R196); its ranges are checked after BUSY (R123). -/
def readBattery (bs : List Byte) : Option BatteryRec :=
  match readFields [1, 2, 2, 1, 2, 2, 2, 2, 1, 1, 2, 2, 2, 1, 1, 1, 2, 1] bs with
  | some [cap, av, fv, k, ce, fl, bl, ta, ah, rm, th, rl, mv, s1, s2, s3, dv, ac] =>
    let made (a : DiscAction) : BatteryRec :=
      { capacity := cap, absorbV := av, floatV := fv, comp := k, ceiling := ce, floor := fl
        bulkLimit := bl, tail := ta, absorbHours := ah, rebulkMargin := rm, testHours := th
        rLimit := rl, testMinV := mv, shed1 := s1, shed2 := s2, shed3 := s3, discV := dv
        action := a }
    match ac with
    | 0 => some (made .openFirst)
    | 1 => some (made .hold)
    | _ => none
  | _ => none

/-- Table 10-2 (R178). -/
def radioOk (r : RadioRec) : Bool :=
  within 100 10000 r.urgentMs && within 1 3600 r.routineS && within 50 2000 r.windowMs &&
  r.keyMs ≤ 500 && within 5 600 r.confirmS

/-- WRITE_RADIO (R178, R196). -/
def readRadio (bs : List Byte) : Option RadioRec :=
  match readFields [2, 2, 2, 2, 1, 2] bs with
  | some [u, ro, w, k, on, c] =>
    match readBool on with
    | some b =>
      let r : RadioRec :=
        { urgentMs := u, routineS := ro, windowMs := w, keyMs := k, unsolicited := b, confirmS := c }
      if radioOk r then some r else none
    | none => none
  | _ => none

/-- Two areas share no word (R164). -/
def disjointAreas (a b : AreaSpec) : Bool :=
  a.start + a.depth ≤ b.start || b.start + b.depth ≤ a.start || a.depth = 0 || b.depth = 0

/-- The checks of R164. -/
def areasOk (p : Partition) : Bool :=
  p.response.start + p.response.depth ≤ Config.pkmWords &&
  p.urgent.start + p.urgent.depth ≤ Config.pkmWords &&
  p.routine.start + p.routine.depth ≤ Config.pkmWords &&
  p.forward.start + p.forward.depth ≤ Config.pkmWords &&
  disjointAreas p.response p.urgent && disjointAreas p.response p.routine &&
  disjointAreas p.response p.forward && disjointAreas p.urgent p.routine &&
  disjointAreas p.urgent p.forward && disjointAreas p.routine p.forward &&
  40 ≤ p.urgent.depth && 40 ≤ p.routine.depth &&
  Config.responseWords ≤ p.response.depth && Config.responseWords ≤ p.forward.depth

/-- WRITE_AREAS: a start and a depth for each of the four areas (R164). -/
def readAreas (bs : List Byte) : Option Partition :=
  match readFields [2, 2, 2, 2, 2, 2, 2, 2] bs with
  | some [a, b, c, d, e, f, g, h] =>
    let p : Partition := ⟨⟨a, b⟩, ⟨c, d⟩, ⟨e, f⟩, ⟨g, h⟩⟩
    if areasOk p then some p else none
  | _ => none

/-- The allowed-ports codes RADIO 0, LOCAL 1, both 2 (Table 12-4). -/
def readGatePorts : Nat → Option GatePorts
  | 0 => some .radio
  | 1 => some .localPort
  | 2 => some .both
  | _ => none

/-- The entries of a WRITE_GATES: present, required level 0..3, allowed ports (R121). -/
def readGateEntries : Nat → List Byte → Option (List GateEntry)
  | 0, [] => some []
  | 0, _ :: _ => none
  | n + 1, bs =>
    match bs with
    | p :: l :: a :: rest =>
      match readBool p.toNat, readGatePorts a.toNat, readGateEntries n rest with
      | some pr, some ports, some es =>
        if l.toNat ≤ 3 then some (⟨pr, l.toNat, ports⟩ :: es) else none
      | _, _, _ => none
    | _ => none

/-- WRITE_GATES: exactly one entry for each of the 21 other command kinds (R121). -/
def readGates (bs : List Byte) : Option (List GateEntry) := readGateEntries 21 bs

/-! ## Command kinds (R194) -/

/-- The kind byte of a command (R194), in the order of Table 11-3. -/
inductive CmdKind where
  | readStatus | readTable | selectGroup | setTime | sampleForward | trip | close | placeTag
  | removeTag | testStart | testCancel | writeCurve | clearCurve | writeGroup | writeDevice
  | writeBattery | writeRadio | writeAreas | flushClass | driveRestore | restart | writeGates
  deriving DecidableEq, Repr

/-- The kinds in the order of their codes, from 0x01. -/
def cmdKinds : List CmdKind :=
  [.readStatus, .readTable, .selectGroup, .setTime, .sampleForward, .trip, .close, .placeTag,
   .removeTag, .testStart, .testCancel, .writeCurve, .clearCurve, .writeGroup, .writeDevice,
   .writeBattery, .writeRadio, .writeAreas, .flushClass, .driveRestore, .restart, .writeGates]

/-- The code of a kind: 0x01 to 0x16 (R194). -/
def kindCode : CmdKind → Byte
  | .readStatus => 0x01#8
  | .readTable => 0x02#8
  | .selectGroup => 0x03#8
  | .setTime => 0x04#8
  | .sampleForward => 0x05#8
  | .trip => 0x06#8
  | .close => 0x07#8
  | .placeTag => 0x08#8
  | .removeTag => 0x09#8
  | .testStart => 0x0A#8
  | .testCancel => 0x0B#8
  | .writeCurve => 0x0C#8
  | .clearCurve => 0x0D#8
  | .writeGroup => 0x0E#8
  | .writeDevice => 0x0F#8
  | .writeBattery => 0x10#8
  | .writeRadio => 0x11#8
  | .writeAreas => 0x12#8
  | .flushClass => 0x13#8
  | .driveRestore => 0x14#8
  | .restart => 0x15#8
  | .writeGates => 0x16#8

/-- The kind of a code; none for an unknown code (R194). -/
def kindOfCode (b : Byte) : Option CmdKind :=
  if b.toNat = 0 then none else cmdKinds[b.toNat - 1]?

/-- The kind of an intake entry; none for an empty payload or an unknown code (R194). -/
def entryKind (e : IntakeEntry) : Option CmdKind := e.payload.head?.bind kindOfCode

/-- R183: the kinds that may write a table wait for the store. -/
def needsStore : CmdKind → Bool
  | .readStatus => false
  | .readTable => false
  | .selectGroup => true
  | .setTime => false
  | .sampleForward => false
  | .trip => false
  | .close => false
  | .placeTag => true
  | .removeTag => true
  | .testStart => false
  | .testCancel => false
  | .writeCurve => true
  | .clearCurve => true
  | .writeGroup => true
  | .writeDevice => true
  | .writeBattery => true
  | .writeRadio => true
  | .writeAreas => true
  | .flushClass => false
  | .driveRestore => false
  | .restart => false
  | .writeGates => true

end Sys2Proof.Machine
end

