-- ==== Sys2Proof/Machine/Wire.lean ====
section
/-! DEFINITION. The byte layouts the part sends (Chapter 12): REPORT, SAMPLE and NULL payloads, the
sections of READ_STATUS and the tables of READ_TABLE, and the bytes on RADIO_TX and LOCAL_TX. Where
the manual gives no code or order of its own, the choices are those of log entries 7 and 8. -/

namespace Sys2Proof.Machine

/-! ## Codes of enumerations (R191) -/

/-- A one-byte number. -/
def byteOf (n : Nat) : Byte := BitVec.ofNat 8 n

/-- CLOSED, OPEN, INDETERMINATE (Table 1-3). -/
def codePosition : Position → Byte
  | .closed => 0#8
  | .opened => 1#8
  | .indeterminate => 2#8

/-- PULLED, RETURNED (Table 1-3). -/
def codeHandle : Handle → Byte
  | .pulled => 0#8
  | .returned => 1#8

/-- UP 0, HOLDING 1, LOST 2, REFILLING 3 (Table 12-3). -/
def codeLink : Link → Byte
  | .up => 0#8
  | .holding => 1#8
  | .lost => 2#8
  | .refilling => 3#8

/-- 0..8 in the order of Table 4-1 (Table 12-3). -/
def codeSeqState : SeqState → Byte
  | .unknown => 0#8
  | .ready => 1#8
  | .tripping => 2#8
  | .openInterval => 3#8
  | .closeWait => 4#8
  | .closing => 5#8
  | .reclaim => 6#8
  | .lockout => 7#8
  | .failed => 8#8

/-- 1..9 in the order of Table 4-2 (Table 12-3). -/
def codeLockReason : LockReason → Byte
  | .shotsExhausted => 1#8
  | .commandTrip => 2#8
  | .tag => 3#8
  | .handle => 4#8
  | .closeWaitExpired => 5#8
  | .closeFailed => 6#8
  | .unexpectedOpen => 7#8
  | .restart => 8#8
  | .lowBattery => 9#8

/-- The lockout reason, or 0 for absent (Table 12-3). -/
def codeLockReasonOpt : Option LockReason → Byte
  | none => 0#8
  | some r => codeLockReason r

/-- PROTECTION, COMMAND, LOW_BATTERY (R64). -/
def codeTripCause : TripCause → Byte
  | .protection => 0#8
  | .command => 1#8
  | .lowBattery => 2#8

/-- AUTO, COMMAND (R64). -/
def codeCloseCause : CloseCause → Byte
  | .auto => 0#8
  | .command => 1#8

/-- 0..4 in the order of Table 5-1 (Table 12-3). -/
def codeDriveState : DriveState → Byte
  | .idle => 0#8
  | .tripMain => 1#8
  | .tripBackup => 2#8
  | .closeActive => 3#8
  | .halted => 4#8

/-- MAIN, BACKUP, NONE, and the close coil (log entry 7). -/
def codeCoil : Coil → Byte
  | .main => 0#8
  | .backup => 1#8
  | .noCoil => 2#8
  | .closeCoil => 3#8

/-- TRIP 0, CLOSE 1 (R88). -/
def codeOpKind : OpKind → Byte
  | .trip _ => 0#8
  | .close _ => 1#8

/-- The cause of an operation, in its own list. -/
def codeOpCause : OpKind → Byte
  | .trip c => codeTripCause c
  | .close c => codeCloseCause c

/-- COMPLETED, ABANDONED, CLOSE_FAIL, HALTED (R106). -/
def codeOutcome : OpOutcome → Byte
  | .completed => 0#8
  | .abandoned => 1#8
  | .closeFail => 2#8
  | .halted => 3#8

/-- MAIN_COIL_FAIL, HALTED, CLOSE_FAIL, NONE (R105). -/
def codeFailKind : Option FailKind → Byte
  | some .mainCoilFail => 0#8
  | some .halted => 1#8
  | some .closeFail => 2#8
  | none => 3#8

/-- NO_RECLOSE 0, NO_CLOSE 1 (Table 12-4). -/
def codeTagKind : TagKind → Byte
  | .noReclose => 0#8
  | .noClose => 1#8

/-- RADIO, LOCAL (R119). -/
def codePort : Port → Byte
  | .radio => 0#8
  | .localPort => 1#8

/-- RADIO 0, LOCAL 1, both 2 (Table 12-4). -/
def codeGatePorts : GatePorts → Byte
  | .radio => 0#8
  | .localPort => 1#8
  | .both => 2#8

/-- 0..5 in the order of Table 7-2. -/
def codeCharger : Charger → Byte
  | .off => 0#8
  | .bulk => 1#8
  | .absorb => 2#8
  | .float => 3#8
  | .test => 4#8
  | .fault => 5#8

/-- HOT, COLD, OPEN_STRING (R127). -/
def codeFaultCause : FaultCause → Byte
  | .hot => 0#8
  | .cold => 1#8
  | .openString => 2#8

/-- 0..4 in the order of Table 7-7. -/
def codeTest : TestState → Byte
  | .idle => 0#8
  | .waitGrant => 1#8
  | .settle => 2#8
  | .suspended => 3#8
  | .load => 4#8

/-- INTERVAL, RETRY, COMMAND (R134). -/
def codeStartCause : StartCause → Byte
  | .interval => 0#8
  | .retry => 1#8
  | .command => 2#8

/-- FAIL, NO_LOAD, PASS, ABORTED, CANCELLED (Table 9-1). -/
def codeVerdict : Verdict → Byte
  | .fail => 0#8
  | .noLoad => 1#8
  | .pass => 2#8
  | .aborted => 3#8
  | .cancelled => 4#8

/-- 0..2 in the order of Table 7-8. -/
def codeDisconnect : Disconnect → Byte
  | .normal => 0#8
  | .isPending => 1#8
  | .disconnected => 2#8

/-- OPEN_FIRST, HOLD (Table 7-1). -/
def codeAction : DiscAction → Byte
  | .openFirst => 0#8
  | .hold => 1#8

/-- 0..3 in the order of Table 8-2. -/
def codeReqState : ReqState → Byte
  | .idle => 0#8
  | .requesting => 1#8
  | .holding => 2#8
  | .releasing => 3#8

/-- 0..6 in the order of Table 10-1. -/
def codeRadioState : RadioState → Byte
  | .off => 0#8
  | .waking => 1#8
  | .listen => 2#8
  | .holdoff => 3#8
  | .grantWait => 4#8
  | .keying => 5#8
  | .sending => 6#8

/-- POLL, UNSOLICITED (R167). -/
def codePurpose : Purpose → Byte
  | .poll => 0#8
  | .unsolicited => 1#8

/-- RESPONSE 0, URGENT 1, ROUTINE 2, FORWARD 3 (Table 12-4). -/
def codeArea : Area → Byte
  | .response => 0#8
  | .urgent => 1#8
  | .routine => 2#8
  | .forward => 3#8

/-- COMMAND, TAG, RETURN (3.6). -/
def codeSelCause : SelCause → Byte
  | .command => 0#8
  | .tag => 1#8
  | .ret => 2#8

/-- TRIP_FREE, HANDLE, NO_CLOSE (Table 9-1). -/
def codeAbandon : AbandonCause → Byte
  | .tripFree => 0#8
  | .handle => 1#8
  | .noClose => 2#8

/-- BACKUP, EXTENDED (Table 9-1). -/
def codeNextStep : NextStep → Byte
  | .backup => 0#8
  | .extended => 1#8

/-- POWER_ON, RESET_LINE, COMMAND (Table 9-1). -/
def codeResetCause : ResetCause → Byte
  | .powerOn => 0#8
  | .resetLine => 1#8
  | .command => 2#8

/-- OPEN_INTERVAL, CLOSE_WAIT, RECLAIM (R64); 0xFF where none runs (R195). -/
def codeSeqTimer : Option SeqTimer → Byte
  | none => 0xFF#8
  | some t =>
    match t.kind with
    | .openInterval => 0#8
    | .closeWait => 1#8
    | .reclaim => 2#8

/-! ## Fields that may be absent (R191, R195) -/

/-- An optional natural number in `n` bytes. -/
def optNat (n : Nat) : Option Nat → List Byte
  | none => absentBytes n
  | some v => beBytes n v

/-- An optional integer in `n` bytes. -/
def optInt (n : Nat) : Option Int → List Byte
  | none => absentBytes n
  | some v => beInt n v

/-- An optional code. -/
def optCode {α : Type} (code : α → Byte) : Option α → Byte
  | none => 0xFF#8
  | some a => code a

/-- A remaining time in milliseconds, four bytes (R195). -/
def timeLeft (t : Option Nat) : List Byte := optNat 4 t

/-- A group number or NONE (R191). -/
def codeGroup : Option Nat → Byte
  | none => 0xFF#8
  | some g => byteOf g

/-- A group number, NONE or absent (R191). -/
def codeGroupOpt : Option (Option Nat) → Byte
  | none => 0xFE#8
  | some g => codeGroup g

/-- A part time with its time-set flag (R195). -/
def codeTime (t : PartTime) : List Byte := beBytes 4 t.secs ++ beBytes 2 t.ms ++ [flagByte t.isSet]

/-! ## Events and reports (Tables 12-5 and 12-6) -/

/-- The kind byte of an event: 1..31 in the order of Table 9-1. -/
def eventKind : Event → Nat
  | .trip .. => 1
  | .reclose .. => 2
  | .lockout .. => 3
  | .unexpectedPosition .. => 4
  | .closeFail .. => 5
  | .closeAbandoned .. => 6
  | .tripCoilFail .. => 7
  | .driveHalted .. => 8
  | .driveRestored .. => 9
  | .handlePulled .. => 10
  | .handleReturned .. => 11
  | .tagPlaced .. => 12
  | .tagEscalated .. => 13
  | .tagRemoved .. => 14
  | .tagExpired .. => 15
  | .sensorLost .. => 16
  | .sensorRestored .. => 17
  | .supplyLost .. => 18
  | .chargerFault .. => 19
  | .batteryBad .. => 20
  | .lvdPending .. => 21
  | .restart .. => 22
  | .shedChanged .. => 23
  | .testResult .. => 24
  | .sequenceReset .. => 25
  | .seqAdvance .. => 26
  | .groupChanged .. => 27
  | .groupRefused .. => 28
  | .supplyRestored .. => 29
  | .settingsWritten .. => 30
  | .loadProfile .. => 31

/-- The arguments of an event in the order of Table 9-1, each in the fewest whole bytes. The elements of
a TRIP are one byte, bits 0..3 PT, GT, PH, GH as in Table 12-7 (DEDUCED, log entry 50). -/
def eventArgs : Event → List Byte
  | .trip c n f => [codeTripCause c, byteOf n, maskByte f.bits]
  | .reclose c n => [codeCloseCause c, byteOf n]
  | .lockout r n => [codeLockReason r, byteOf n]
  | .unexpectedPosition p st => [codePosition p, codeSeqState st]
  | .closeFail c p st => [codeCloseCause c, codePosition p, flagByte st]
  | .closeAbandoned c => [codeAbandon c]
  | .tripCoilFail p st n low => [codePosition p, flagByte st, codeNextStep n, flagByte low]
  | .driveHalted c p st low => [codeCoil c, codePosition p, flagByte st, flagByte low]
  | .driveRestored st d => [codeDriveState st, flagByte d]
  | .handlePulled p n => [codePosition p, byteOf n]
  | .handleReturned p n => [codePosition p, byteOf n]
  | .tagPlaced c k p l m =>
    beBytes 2 c ++ [codeTagKind k, codePort p, byteOf l] ++ beBytes 2 m
  | .tagEscalated c p l q m => beBytes 2 c ++ [codePort p, byteOf l, codePort q, byteOf m]
  | .tagRemoved c k q m => beBytes 2 c ++ [codeTagKind k, codePort q, byteOf m]
  | .tagExpired c k m => beBytes 2 c ++ [codeTagKind k] ++ beBytes 2 m
  | .sensorLost n => beBytes 2 n
  | .sensorRestored n => beBytes 2 n
  | .supplyLost q e v => [byteOf q, flagByte e] ++ optInt 2 v
  | .chargerFault c t v => [codeFaultCause c] ++ optInt 2 t ++ optInt 2 v
  | .batteryBad r => optNat 2 r
  | .lvdPending v q a => optInt 2 v ++ [byteOf q, codeAction a]
  | .restart c => [codeResetCause c]
  | .shedChanged a b q => [byteOf a, byteOf b, byteOf q]
  | .testResult v r v1 d =>
    [codeVerdict v] ++ beBytes 2 (r.getD 0) ++ beInt 2 (v1.getD 0) ++ beInt 3 (d.getD 0)
  | .sequenceReset n => [byteOf n]
  | .seqAdvance n => [byteOf n]
  | .groupChanged a b c => [codeGroup a, codeGroup b, codeSelCause c]
  | .groupRefused g => [byteOf g]
  | .supplyRestored q m => [byteOf q] ++ beBytes 2 m
  | .settingsWritten t i => [byteOf t, byteOf i]
  | .loadProfile m n q => optNat 2 m ++ beBytes 3 n ++ optNat 1 q

/-- An event entry of 12 bytes (Table 12-6): kind, offset, arguments, unused bytes 0. -/
def entryBytes (e : Entry) : List Byte :=
  byteOf (eventKind e.ev) :: beBytes 3 e.offset ++ eventArgs e.ev ++
    List.replicate (8 - (eventArgs e.ev).length) 0#8

/-- The class bit of a report header: 0 URGENT, 1 ROUTINE (Table 12-5). -/
def classBit : ReportClass → Bool
  | .urgent => false
  | .routine => true

/-- A REPORT payload (Tables 12-5 and 12-6): 12 + 12n bytes. -/
def reportPayload (r : Report) : List Byte :=
  beBytes 2 r.number ++ [byteOf r.lost, byteOf r.entries.length] ++ beBytes 4 r.base.secs ++
    beBytes 2 r.base.ms ++ [maskByte [r.base.isSet, classBit r.cls], 0#8] ++
    r.entries.flatMap entryBytes

/-- The copy of a report for the local port (R161): destination 0, the station address as source
(R192). -/
def reportCopy (s : State) (r : Report) : Frame :=
  { dest := 0, source := s.store.device.station, kind := kindReport, control := 0#8
    payload := reportPayload r }

/-- A report as a radio frame: the station address as source, the master as destination (R172). -/
def reportFrame (s : State) (r : Report) : Frame :=
  { dest := s.store.device.master, source := s.store.device.station, kind := kindReport
    control := 0#8, payload := reportPayload r }

/-- A SAMPLE frame (Table 12-7): eight taken frames and the annotation of R20. -/
def sampleFrame (s : State) (batch : List SampleFrame) : Frame :=
  { dest := 0, source := s.store.device.station, kind := kindSample, control := 0#8
    payload := batch.flatMap sampleBody ++
      [maskByte s.ele.lastPickup.bits, maskByte s.ele.lastOperate.bits, codeSeqState s.seq.state,
       byteOf s.seq.shot] ++ beBytes 2 s.slr.droppedCount }

/-- The status summary of a NULL frame (R179, Table 12-3). -/
def nullPayload (s : State) : List Byte :=
  [codeSeqState s.seq.state, codeLockReasonOpt s.seq.lockReason, byteOf s.seq.shot,
   codeDriveState s.drv.state,
   maskByte [s.drv.degraded, anyNoClose s.lku.inForce, s.lku.handle == .pulled, s.bat.supply,
     s.bat.estimated],
   byteOf s.lku.inForce.length, codeLink s.slr.link, byteOf s.bat.soc, byteOf s.bat.shed,
   codeGroup s.sets.active, byteOf s.pkm.urgent.length] ++ beBytes 2 s.rpb.nextNumber ++
  [byteOf s.rpb.lostUrgent, byteOf s.rpb.lostRoutine, 0#8]

/-- A NULL frame (R172, R192). -/
def nullFrame (s : State) : Frame :=
  { dest := s.store.device.master, source := s.store.device.station, kind := kindNull
    control := 0#8, payload := nullPayload s }

/-! ## Sections of READ_STATUS (R185, R195) -/

/-- A list whose items vary in number opens with their number (R195). -/
def countedList (items : List (List Byte)) : List Byte := byteOf items.length :: items.flatten

/-- SLR and MEU: the total missing count (R4) and the seven magnitudes with their validity (R16). -/
def secSensor (s : State) : List Byte :=
  beBytes 2 s.slr.totalMissing ++
  [s.meu.mags.ia, s.meu.mags.ib, s.meu.mags.ic, s.meu.mags.iN, s.meu.mags.va, s.meu.mags.vb,
   s.meu.mags.vc].flatMap
    (fun m => beBytes 2 (if s.meu.valid then m else 0) ++ [flagByte s.meu.valid])

/-- ELE: each element's accumulator or counter and flags, the shot row and the frozen mark. -/
def secElements (s : State) : List Byte :=
  let e := s.ele
  beBytes 3 e.pt.acc ++ beBytes 2 e.pt.count ++ [flagByte e.pt.pickup, flagByte e.pt.operate] ++
  beBytes 3 e.gt.acc ++ beBytes 2 e.gt.count ++ [flagByte e.gt.pickup, flagByte e.gt.operate] ++
  beBytes 2 e.ph.count ++ [flagByte e.ph.pickup, flagByte e.ph.operate] ++
  beBytes 2 e.gh.count ++ [flagByte e.gh.pickup, flagByte e.gh.operate] ++
  [byteOf (rowInUse e.shotCopy s.sets.live.grp.shots), flagByte e.frozen]

/-- The settings of a group in the order of WRITE_GROUP, without the slot (Table 3-2, R196). -/
def groupFields (g : Group) : List Byte :=
  beBytes 2 g.ptPickup ++ beBytes 2 g.gtPickup ++ beBytes 2 g.ptDial ++
  beBytes 2 g.gtDial ++ beBytes 2 g.ptMin ++ beBytes 2 g.gtMin ++ beBytes 2 g.phPickup ++
  beBytes 2 g.ghPickup ++ [byteOf g.phDelay, byteOf g.ghDelay] ++ beBytes 2 g.liveV ++
  beBytes 2 g.deadV ++ [byteOf g.shots] ++
  g.rows.flatMap
    (fun r => [byteOf r.ptCurve, byteOf r.gtCurve, flagByte r.ph, flagByte r.gh]) ++
  g.intervals.flatMap (beBytes 3) ++ beBytes 3 g.reclaim ++
  [flagByte g.needLive, flagByte g.coord]

/-- SET: the group context and the contents of the live set in force (R63); a setting that the
built-in default does not use reads 0 (Table 3-5). The curves in force are named by their indices
(log entry 8), and the built-in curve in the shot row of the built-in default by 0 (DESIGN CHOICE, log
entry 45). -/
def secSettings (s : State) : List Byte :=
  [codeGroup s.sets.active, codeGroupOpt s.sets.ret, codeGroupOpt (s.sets.pendingSel.map Prod.fst),
   optCode codeSelCause (s.sets.pendingSel.map Prod.snd)] ++
  countedList (s.sets.live.curves.map (fun c => [byteOf c.1])) ++
  [flagByte s.store.inFlight.isSome] ++ groupFields s.sets.live.grp

/-- SEQ (4.10, R87): the trip cause and the close cause in a byte each, absent as 0xFF, and one byte
for each of the six close conditions, 1 where it is unmet, absent outside CLOSE_WAIT; the paused mark is
clear while no timer runs (log entry 8). -/
def secSequence (s : State) : List Byte :=
  let q := s.seq
  [codeSeqState q.state, byteOf q.shot, codeLockReasonOpt q.lockReason, flagByte q.manualReclaim,
   optCode codeTripCause q.tripCause, optCode codeCloseCause q.closeCause, codeSeqTimer q.timer] ++
  timeLeft (q.timer.map (fun t => t.left)) ++
  [flagByte (q.timer.any (fun t => t.paused))] ++
  (if q.state = .closeWait then (unmetConditions s).map flagByte else absentBytes 6)

/-- The energised coil, or none (R106): main 0, backup 1, close 2, none 0xFF (log entry 8). -/
def energisedCoil (d : Drv) : Byte :=
  if d.coilMain then 0#8 else if d.coilBackup then 1#8 else if d.coilClose then 2#8 else 0xFF#8

/-- The last operation summary (R106), all ones while absent. -/
def summaryBytes : Option OpSummary → List Byte
  | none => absentBytes 9
  | some m =>
    [codeOpKind m.kind, codeOpCause m.kind, codeOutcome m.outcome, codeCoil m.coil,
     optCode flagByte m.lowEnergy] ++ beBytes 4 m.travel

/-- DRV (R106). The low-energy flag and the extended mark are a trip's (R88): absent for a close in
flight, as without an operation (log entry 31). -/
def secDrive (s : State) : List Byte :=
  let d := s.drv
  [codeDriveState d.state, energisedCoil d, optCode codeOpKind (d.op.map (fun o => o.kind)),
   optCode codeOpCause (d.op.map (fun o => o.kind)),
   optCode flagByte (d.op.bind (fun o => tripFlag o.kind o.lowEnergy)),
   optCode flagByte (d.op.bind (fun o => tripFlag o.kind o.extended))] ++
  timeLeft d.monitor ++ [flagByte d.degraded, flagByte d.recharge] ++ beBytes 2 d.cap ++
  [flagByte d.capStale] ++ summaryBytes d.summary

/-- A tag table write is in flight. -/
def tagWriteInFlight (st : Store) : Bool :=
  match st.inFlight with
  | some ⟨.tags _ _, _, _⟩ => true
  | _ => false

/-- LKU (R122). -/
def secLockout (s : State) : List Byte :=
  [byteOf s.lku.inForce.length, flagByte (anyNoClose s.lku.inForce),
   flagByte (!s.lku.changes.isEmpty || tagWriteInFlight s.store), codeHandle s.lku.handle,
   flagByte s.lku.handleStale, byteOf s.store.device.radioCeiling,
   byteOf s.store.device.localCeiling]

/-- The result record (R136), absent fields all ones. -/
def resultBytes : Option TestResult → List Byte
  | none => absentBytes 18
  | some r =>
    codeTime r.time ++ [optCode codeStartCause r.cause] ++ optInt 2 r.v0 ++ optInt 2 r.v1 ++
    optInt 3 r.dI ++ optNat 2 r.r ++ [codeVerdict r.verdict]

/-- BAT (R142). The due mark is sent as set or clear, without its cause (log entry 8). -/
def secBattery (s : State) : List Byte :=
  let b := s.bat
  [if b.supply then 0#8 else 1#8, codeCharger b.charger] ++ beInt 2 b.absorbSet ++
  beInt 2 b.floatSet ++ [flagByte b.chgEn] ++ beInt 2 b.chgVset ++ beBytes 2 b.chgIlim ++
  [flagByte b.fault.isSome, optCode codeFaultCause b.fault] ++ optInt 2 b.tempView ++
  optInt 2 b.cabView ++ optInt 2 b.lastV ++ optInt 2 b.lastI ++ beBytes 4 b.q ++
  [byteOf b.soc, flagByte b.estimated, byteOf b.shed, codeTest b.test, flagByte b.due.isSome,
   byteOf b.abortCount, byteOf b.badCount] ++ timeLeft (some b.intervalLeft) ++
  resultBytes b.result ++ [codeDisconnect b.disc, byteOf b.qualCount]

/-- SUP (R150): the three requesters, PRESENT 0 or ABSENT 1, the shed view. -/
def secSupply (s : State) : List Byte :=
  [codeReqState s.sup.cap, codeReqState s.sup.radio, codeReqState s.sup.load,
   if s.sup.supply then 0#8 else 1#8, byteOf s.sup.shed]

/-- A gathering record of R166: open, its events, the time left. With no record open its events
number 0 (log entry 8). -/
def gatherBytes : Option Gather → List Byte
  | none => [0#8, 0#8] ++ timeLeft none
  | some g => [1#8, byteOf g.entries.length] ++ timeLeft (some g.windowLeft)

/-- The records of an area. -/
def areaCount (k : Pkm) : Area → Nat
  | .response => k.response.length
  | .urgent => k.urgent.length
  | .routine => k.routine.length
  | .forward => k.forward.length

/-- An area of R166: start, depth, records, free words. -/
def areaBytes (s : State) (a : Area) : List Byte :=
  beBytes 2 (areaSpec s.store.areas a).start ++ beBytes 2 (areaSpec s.store.areas a).depth ++
  beBytes 2 (areaCount s.pkm a) ++ beBytes 2 (freeWords s a)

/-- RPB and PKM (R166). -/
def secReports (s : State) : List Byte :=
  beBytes 2 s.rpb.nextNumber ++ [byteOf s.rpb.lostUrgent, byteOf s.rpb.lostRoutine] ++
  gatherBytes s.rpb.urgent ++ gatherBytes s.rpb.routine ++
  areaBytes s .response ++ areaBytes s .urgent ++ areaBytes s .routine ++ areaBytes s .forward ++
  optNat 2 (s.pkm.urgent.head?.map (fun r => r.number))

/-- The report that awaits confirmation (R167). -/
def awaitingReport (s : State) : Option Report := s.pkm.urgent.find? (fun r => r.awaiting)

/-- The timer of the answer in hand: response window 0, key-up delay 1 (R179). -/
def answerTimer (r : Rpc) : List Byte :=
  match r.windowLeft, r.keyLeft with
  | some w, _ => 0#8 :: timeLeft (some w)
  | none, some k => 1#8 :: timeLeft (some k)
  | none, none => 0xFF#8 :: timeLeft none

/-- RPC (R179). -/
def secRadio (s : State) : List Byte :=
  let r := s.rpc
  [codeRadioState r.state, flagByte r.radioPwr, flagByte r.radioKey, flagByte s.lines.modemReady,
   flagByte s.lines.carrierDet, flagByte (inListenWindow s.fcu.time),
   optCode codePurpose (r.answer.map (fun a => a.purpose)),
   optCode codeArea ((r.answer.bind (fun a => a.record)).map Prod.fst)] ++
  answerTimer r ++ timeLeft (r.holdoff.bind (fun h => h.left)) ++
  [flagByte (r.holdoff.any (fun h => h.left.isNone))] ++
  optNat 2 ((awaitingReport s).map (fun p => p.number)) ++
  optNat 1 ((awaitingReport s).map (fun p => p.attempts)) ++ timeLeft r.confirmLeft ++
  [byteOf (s.pkm.urgent.filter (fun p => Config.attemptTop ≤ p.attempts)).length,
   flagByte r.powerDown] ++
  beBytes 2 r.polls ++ beBytes 2 r.answered ++ beBytes 2 r.abandoned ++ beBytes 2 r.unsolicited

/-- The frames of one kind in the local transmit queue. -/
def localCount (q : List LocalItem) (k : LocalKind) : Nat :=
  (q.filter (fun i =>
    match i with
    | .frame k' _ _ => k' == k
    | .reservation => false)).length

/-- A reservation stands in the local transmit queue. -/
def hasReservation (q : List LocalItem) : Bool := q.contains .reservation

/-- FCU (R185). -/
def secFcu (s : State) : List Byte :=
  let f := s.fcu
  countedList (f.intake.map (fun e => [codePort e.port, e.payload.headD 0#8])) ++
  [flagByte f.outRadio, flagByte f.outLocal, byteOf (localCount f.localQ .response),
   byteOf (localCount f.localQ .report), byteOf (localCount f.localQ .pass),
   byteOf (localCount f.localQ .sample), flagByte (hasReservation f.localQ)] ++
  beBytes 2 f.badRadio ++ beBytes 2 f.badLocal ++ beBytes 2 f.dropRadio ++ beBytes 2 f.dropLocal ++
  beBytes 2 f.fwdDropped ++ beBytes 2 f.localDropped ++ codeTime f.time ++ beBytes 4 f.running

/-- The sections of READ_STATUS, 0..10 in the order of R185 (Table 12-4). -/
def statusSection (s : State) : Nat → Option (List Byte)
  | 0 => some (secSensor s)
  | 1 => some (secElements s)
  | 2 => some (secSettings s)
  | 3 => some (secSequence s)
  | 4 => some (secDrive s)
  | 5 => some (secLockout s)
  | 6 => some (secBattery s)
  | 7 => some (secSupply s)
  | 8 => some (secReports s)
  | 9 => some (secRadio s)
  | 10 => some (secFcu s)
  | _ => none

/-! ## Tables of READ_TABLE (R63, R195, Table 3-3) -/

/-- The fields of a WRITE_CURVE payload after the kind byte; a slot without a curve reads 0xFF. -/
def curveBytes (slot : Nat) : Option Curve → List Byte
  | none => [byteOf slot, 0xFF#8]
  | some c =>
    [byteOf slot, byteOf c.rows.length, flagByte c.decay.isSome] ++ beBytes 3 (c.decay.getD 0) ++
    c.rows.flatMap (fun r => beBytes 2 r.bp ++ beBytes 3 r.rate)

/-- The fields of a WRITE_GROUP payload after the kind byte; a slot without a group reads 0xFF. -/
def groupBytes (slot : Nat) : Option Group → List Byte
  | none => [byteOf slot, 0xFF#8]
  | some g =>
    byteOf slot :: groupFields g

/-- The fields of a WRITE_DEVICE payload. -/
def deviceBytes (d : DeviceRec) : List Byte :=
  beBytes 2 d.station ++ beBytes 2 d.master ++ [codeGroup d.tagGroup] ++ beBytes 2 d.closeWait ++
  beBytes 1 d.tripLimit ++ beBytes 2 d.closeLimit ++ beBytes 2 d.capTrip ++
  beBytes 2 d.capReserve ++ beBytes 2 d.capFull ++ [byteOf d.radioCeiling, byteOf d.localCeiling]

/-- The remaining whole minutes of a countdown, rounded up (R122). -/
def minutesLeft (ms : Nat) : Nat := (ms + 59999) / 60000

/-- One tag with every field of Table 6-2 and the remaining minutes of its countdown (R122); 0 for a
countdown that has ended while the tag is still in force (DEDUCED, log entry 54). -/
def tagBytes (l : Lku) (t : Tag) : List Byte :=
  beBytes 2 t.crew ++ [codeTagKind t.kind, codePort t.port, byteOf t.level] ++ codeTime t.placed ++
  optNat 2 t.expiry ++ timeLeft ((l.countdowns.lookup t.crew).map minutesLeft)

/-- Insert a tag in ascending order of crew id. -/
def insertTag (t : Tag) : List Tag → List Tag
  | [] => [t]
  | u :: us => if t.crew ≤ u.crew then t :: u :: us else u :: insertTag t us

/-- The tags in ascending order of crew id (R108). -/
def sortTags (ts : List Tag) : List Tag := ts.foldr insertTag []

/-- The gate table, with the fixed WRITE_GATES condition as the last entry (R122). -/
def gatesBytes (t : List GateEntry) : List Byte :=
  (t ++ [(⟨true, 0, .localPort⟩ : GateEntry)]).flatMap
    (fun e => [flagByte e.isPresent, byteOf e.level, codeGatePorts e.ports])

/-- The fields of a WRITE_BATTERY payload. -/
def batteryBytes (b : BatteryRec) : List Byte :=
  [byteOf b.capacity] ++ beInt 2 b.absorbV ++ beInt 2 b.floatV ++ [byteOf b.comp] ++
  beInt 2 b.ceiling ++ beInt 2 b.floor ++ beBytes 2 b.bulkLimit ++ beBytes 2 b.tail ++
  [byteOf b.absorbHours] ++ beBytes 1 b.rebulkMargin ++ beBytes 2 b.testHours ++
  beBytes 2 b.rLimit ++ beBytes 2 b.testMinV ++ [byteOf b.shed1, byteOf b.shed2, byteOf b.shed3] ++
  beBytes 2 b.discV ++ [codeAction b.action]

/-- The fields of a WRITE_RADIO payload. -/
def radioBytes (r : RadioRec) : List Byte :=
  beBytes 2 r.urgentMs ++ beBytes 2 r.routineS ++ beBytes 2 r.windowMs ++ beBytes 2 r.keyMs ++
  [flagByte r.unsolicited] ++ beBytes 2 r.confirmS

/-- The fields of a WRITE_AREAS payload. -/
def areasBytes (p : Partition) : List Byte :=
  [p.response, p.urgent, p.routine, p.forward].flatMap
    (fun a => beBytes 2 a.start ++ beBytes 2 a.depth)

/-- The last-failure record (R105); its other fields are absent while the kind is NONE (log entry
22). -/
def failureBytes : Option FailureRec → List Byte
  | none => codeFailKind none :: absentBytes 15
  | some f =>
    [codeFailKind (some f.kind)] ++ codeTime f.time ++ [codeOpCause f.op, optCode flagByte f.lowEnergy] ++
    beBytes 2 f.capStart ++ beBytes 2 f.limit ++ [codePosition f.position, flagByte f.stale]

/-- A table by kind, 0..9 in the order of Table 3-3, and index (R63, R195, log entry 27). -/
def tableBytes (s : State) (kind idx : Nat) : Option (List Byte) :=
  match kind with
  | 0 => (s.store.curves[idx]?).map (curveBytes idx)
  | 1 => (s.store.groups[idx]?).map (groupBytes idx)
  | _ =>
    if idx ≠ 0 then none
    else
      match kind with
      | 2 => some (deviceBytes s.store.device)
      | 3 => some [codeGroup s.store.selection.active, codeGroupOpt s.store.selection.ret]
      | 4 => some (countedList ((sortTags s.lku.inForce).map (tagBytes s.lku)))
      | 5 => some (gatesBytes s.store.gates)
      | 6 => some (batteryBytes s.store.battery)
      | 7 => some (radioBytes s.store.radio)
      | 8 => some (areasBytes s.store.areas)
      | 9 => some (failureBytes s.store.lastFailure)
      | _ => none

/-! ## Records in packet memory (R157, R192) -/

/-- The spare bytes that fill a payload up to a whole word. -/
def padding (n : Nat) : List Byte := List.replicate ((4 - n % 4) % 4) 0#8

/-- A RESPONSE or FORWARD record in packet memory: bytes 2 to 8 of the frame and a spare byte, then
the payload padded to a whole word (R192). Spare bytes are 0. -/
def frameRecord (f : Frame) : List Byte :=
  beBytes 2 f.dest ++ beBytes 2 f.source ++ [f.kind, f.control] ++ beBytes 1 f.payload.length ++
  [0#8] ++ f.payload ++ padding f.payload.length

/-- A report record in packet memory is laid out as the REPORT payload (R192). -/
def reportRecord (r : Report) : List Byte := reportPayload r

/-! ## Bytes on the transmit pins (R173, R186, log entry 26) -/

/-- RADIO_TX carries the answer in hand while RPC is SENDING (R173). -/
def State.radioTx (s : State) : List Byte :=
  match s.rpc.state, s.rpc.answer with
  | .sending, some a => encodeFrame a.frame
  | _, _ => []

/-- LOCAL_TX carries the frame at the head of the local transmit queue; a reservation there is not
sent (R186). -/
def State.localTx (s : State) : List Byte :=
  match s.fcu.localQ with
  | .frame _ f _ :: _ => encodeFrame f
  | _ => []

end Sys2Proof.Machine
end

