-- ==== Sys2Proof/Machine/Local.lean ====
section
/-! DEFINITION. The local transmit queue (R186) and the building of responses (R184). -/

namespace Sys2Proof.Machine

/-! ## The local transmit queue (R186) -/

/-- A place that holds a SAMPLE frame. -/
def LocalItem.isSample : LocalItem → Bool
  | .frame .sample _ _ => true
  | .frame .response _ _ => false
  | .frame .report _ _ => false
  | .frame .pass _ _ => false
  | .reservation => false

/-- The dropped count that a place carries (R20). -/
def LocalItem.carried : LocalItem → Nat
  | .frame _ _ n => n
  | .reservation => 0

/-- Remove the oldest SAMPLE frame of a list, with the dropped count it carried. -/
def removeSample : List LocalItem → Option (Nat × List LocalItem)
  | [] => none
  | i :: rest =>
    if i.isSample then some (i.carried, rest)
    else (removeSample rest).map (fun r => (r.1, i :: r.2))

/-- R186: the oldest SAMPLE frame that is not in transmission leaves; the frame at the head is in
transmission. -/
def removeOldestSample : List LocalItem → Option (Nat × List LocalItem)
  | [] => none
  | h :: rest => (removeSample rest).map (fun r => (r.1, h :: r.2))

/-- R183: the local transmit queue has a free place, or a SAMPLE frame that may be removed. -/
def localRoom (q : List LocalItem) : Bool :=
  decide (q.length < Config.localTop) || (removeOldestSample q).isSome

/-- The dropped count of SLR rises by `n`, saturating (R20). -/
def State.addDropped (n : Nat) (s : State) : State :=
  s.modSlr (fun r => { r with droppedCount := satAdd 65535 r.droppedCount n })

/-- R186: put an item at the tail; a full queue gives up its oldest SAMPLE frame not in
transmission, and SLR is told (R20). Without a place the queue is left as it is. -/
def State.localPut (i : LocalItem) (s : State) : State :=
  if s.fcu.localQ.length < Config.localTop then
    s.modFcu (fun f => { f with localQ := f.localQ ++ [i] })
  else
    match removeOldestSample s.fcu.localQ with
    | some (n, q) => (s.addDropped (8 + n)).modFcu (fun f => { f with localQ := q ++ [i] })
    | none => s

/-- R183, R186: FCU reserves a place for a local response. -/
def State.localReserve (s : State) : State := s.localPut .reservation

/-- R186: a REPORT copy or a PASS frame is queued, or dropped and counted. -/
def State.localSend (k : LocalKind) (f : Frame) (s : State) : State :=
  if localRoom s.fcu.localQ then s.localPut (.frame k f 0)
  else s.modFcu (fun c => { c with localDropped := satAdd 65535 c.localDropped 1 })

/-- R186, R20: a SAMPLE frame is appended, and the dropped count it carries returns to 0; or it is
refused, and the dropped count rises by 8. -/
def State.localSample (f : Frame) (s : State) : State :=
  if s.fcu.localQ.length < Config.localTop then
    (s.modFcu (fun c => { c with localQ := c.localQ ++ [.frame .sample f s.slr.droppedCount] })).modSlr
      (fun r => { r with droppedCount := 0 })
  else s.addDropped 8

/-- R184: a response fills the place reserved for it. -/
def fillReservation (f : Frame) : List LocalItem → List LocalItem
  | [] => []
  | i :: rest => if i = .reservation then .frame .response f 0 :: rest else i :: fillReservation f rest

/-- R186: the last byte of the frame at the head has left; the frame leaves the queue. A reservation
at the head is not sent. -/
def State.localSent (s : State) : State :=
  match s.fcu.localQ with
  | .frame _ _ _ :: rest => s.modFcu (fun f => { f with localQ := rest })
  | _ => s

/-! ## Packet memory (R158) -/

/-- R157, R158: an area has room for a record of `n` words. -/
def hasRoom (s : State) (a : Area) (n : Nat) : Bool := decide (n ≤ freeWords s a)

/-- R158: the RESPONSE area reports room while its free words are at least 62. -/
def responseRoom (s : State) : Bool := hasRoom s .response Config.responseWords

/-- R158: a RESPONSE record is placed at the tail of its area when the area has room. -/
def State.appendResponse (f : Frame) (s : State) : State :=
  if hasRoom s .response (frameWords f.payload.length) then
    s.modPkm (fun k => { k with response := k.response ++ [⟨k.nextId, f⟩], nextId := k.nextId + 1 })
  else s

/-- R158, R181: a FORWARD record is placed at the tail of its area when the area has room; without
room the frame is dropped and counted. -/
def State.appendForward (f : Frame) (s : State) : State :=
  if hasRoom s .forward (frameWords f.payload.length) then
    s.modPkm (fun k => { k with forward := k.forward ++ [⟨k.nextId, f⟩], nextId := k.nextId + 1 })
  else s.modFcu (fun c => { c with fwdDropped := satAdd 65535 c.fwdDropped 1 })

/-! ## Outcomes and responses (Table 11-2, R184, R194) -/

/-- The outcomes of Table 11-2. -/
inductive CmdOutcome where
  | done
  | pending
  | authority
  | port
  | invalid
  | state
  | busy
  | full
  | duplicate
  | notFound
  | inUse
  | energy
  | tag
  deriving DecidableEq, Repr

/-- The outcome byte: DONE 0x00, the others 0x01 to 0x0C in the order of Table 11-2 (R194). -/
def codeCmdOutcome : CmdOutcome → Byte
  | .done => 0x00#8
  | .pending => 0x01#8
  | .authority => 0x02#8
  | .port => 0x03#8
  | .invalid => 0x04#8
  | .state => 0x05#8
  | .busy => 0x06#8
  | .full => 0x07#8
  | .duplicate => 0x08#8
  | .notFound => 0x09#8
  | .inUse => 0x0A#8
  | .energy => 0x0B#8
  | .tag => 0x0C#8

/-- A RESPONSE frame (R192, R194): the kind byte of the command, the outcome, the data read. -/
def responseFrame (r : Reply) (o : CmdOutcome) (data : List Byte) : Frame :=
  { dest := r.dest, source := r.source, kind := kindResponse, control := 0#8
    payload := r.kind :: codeCmdOutcome o :: data }

/-- R184: the response to a command is built, if one was requested: appended to the RESPONSE area,
or put in the place reserved for it; it is then no longer outstanding. -/
def State.answerWith (r : Option Reply) (o : CmdOutcome) (data : List Byte) (s : State) : State :=
  match r with
  | none => s
  | some r =>
    match r.port with
    | .radio =>
      (s.appendResponse (responseFrame r o data)).modFcu (fun f => { f with outRadio := false })
    | .localPort =>
      s.modFcu (fun f =>
        { f with localQ := fillReservation (responseFrame r o data) f.localQ, outLocal := false })

/-- A response without data. -/
def State.answer (r : Option Reply) (o : CmdOutcome) (s : State) : State := s.answerWith r o []

end Sys2Proof.Machine
end

