-- ==== Sys2Proof/Machine/Channel.lean ====
section
/-! DEFINITION. The radio port controller below the supply arbiter: its states and lines (Table
10-1), the search for an unsolicited candidate (R175, R176), and the URGENT area with the send state
of its reports (R167). -/

namespace Sys2Proof.Machine

/-- RADIO_KEY is high in KEYING and SENDING (Table 10-1). -/
def RadioState.keyed : RadioState → Bool
  | .off => false
  | .waking => false
  | .listen => false
  | .holdoff => false
  | .grantWait => false
  | .keying => true
  | .sending => true

/-- The answer in hand is present in GRANT_WAIT, KEYING and SENDING (R167). -/
def RadioState.hasAnswer : RadioState → Bool
  | .off => false
  | .waking => false
  | .listen => false
  | .holdoff => false
  | .grantWait => true
  | .keying => true
  | .sending => true

/-- RPC enters a state: the lines follow Table 10-1, and what belongs to no longer present states
goes (the answer in hand, the response window, the key-up delay, the holdoff timer). -/
def State.rpcGoto (st : RadioState) (s : State) : State :=
  s.modRpc (fun r =>
    { r with
      state := st
      radioPwr := st != .off
      radioKey := st.keyed
      answer := if st.hasAnswer then r.answer else none
      windowLeft := if st = .grantWait then r.windowLeft else none
      keyLeft := if st = .keying then r.keyLeft else none
      holdoff := if st = .holdoff then r.holdoff else none })

/-- R176: the holdoff length is 50 ms + (station address mod 16) × 50 ms. -/
def holdoffLength (station : Nat) : Nat := 50 + (station % 16) * 50

/-- R175: the unsolicited candidate is the oldest URGENT report whose attempt count is below 8. -/
def candidate (s : State) : Option Report :=
  s.pkm.urgent.find? (fun r => decide (r.attempts < Config.attemptTop))

/-- R175: RPC looks for a candidate, and begins a holdoff when there is one (R176). The timer runs
while the carrier is low. -/
def State.lookCandidate (s : State) : State :=
  if s.store.radio.unsolicited && s.rpc.shed == 0 && s.rpc.state == .listen &&
      (awaitingReport s).isNone && (candidate s).isSome then
    let len := holdoffLength s.store.device.station
    (s.rpcGoto .holdoff).modRpc (fun r =>
      { r with holdoff := some ⟨len, if s.lines.carrierDet then none else some len⟩ })
  else s

/-- RPC enters LISTEN and looks for a candidate (R175). -/
def State.rpcListen (s : State) : State := (s.rpcGoto .listen).lookCandidate

/-- The URGENT area becomes `q`. A confirmation whose report has left ends and its timer stops
(R177), and RPC looks for a candidate at each append and each removal (R175). -/
def State.setUrgent (q : List Report) (s : State) : State :=
  let s1 := s.modPkm (fun k => { k with urgent := q })
  let s2 := if (awaitingReport s1).isNone then s1.modRpc (fun r => { r with confirmLeft := none }) else s1
  s2.lookCandidate

/-- R162, R171: an acknowledgement removes the URGENT report with its number, wherever it stands; 0
and a number that no report has are ignored. -/
def State.acknowledge (n : Nat) (s : State) : State :=
  if n ≠ 0 ∧ s.pkm.urgent.any (fun r => r.number == n) then
    s.setUrgent (s.pkm.urgent.filter (fun r => r.number != n))
  else s

/-- R173: the poll answer in hand is given up and counted; an unsolicited attempt is not. -/
def State.countAbandon (s : State) : State :=
  if s.rpc.answer.any (fun a => a.purpose == .poll) then
    s.modRpc (fun r => { r with abandoned := satAdd 65535 r.abandoned 1 })
  else s

/-- R168, R173, R174: RPC unkeyed goes to LISTEN, or to OFF when the power-down pending mark is set,
which it clears. -/
def State.rpcRest (s : State) : State :=
  if s.rpc.powerDown then (s.rpcGoto .off).modRpc (fun r => { r with powerDown := false })
  else s.rpcListen

/-- R168: RPC wants the radio powered: always at shed levels 0 and 1, inside a listen window at 2,
never at 3. -/
def wantsPower (s : State) : Bool :=
  match s.rpc.shed with
  | 0 => true
  | 1 => true
  | 2 => inListenWindow s.fcu.time
  | _ => false

end Sys2Proof.Machine
end

