-- ==== Sys2Proof/Machine/Events.lean ====
section
/-! DEFINITION. Events, gathering records and sealing (R151 to R161). -/

namespace Sys2Proof.Machine

/-- The class of an event (Table 9-1); SHED_CHANGED and TEST_RESULT by their arguments. -/
def eventClass : Event → ReportClass
  | .trip .. => .urgent
  | .reclose .. => .urgent
  | .lockout .. => .urgent
  | .unexpectedPosition .. => .urgent
  | .closeFail .. => .urgent
  | .closeAbandoned .. => .urgent
  | .tripCoilFail .. => .urgent
  | .driveHalted .. => .urgent
  | .driveRestored .. => .urgent
  | .handlePulled .. => .urgent
  | .handleReturned .. => .urgent
  | .tagPlaced .. => .urgent
  | .tagEscalated .. => .urgent
  | .tagRemoved .. => .urgent
  | .tagExpired .. => .urgent
  | .sensorLost .. => .urgent
  | .sensorRestored .. => .urgent
  | .supplyLost .. => .urgent
  | .chargerFault .. => .urgent
  | .batteryBad .. => .urgent
  | .lvdPending .. => .urgent
  | .restart .. => .urgent
  | .shedChanged _ new _ => if new = 3 then .urgent else .routine
  | .testResult v _ _ _ =>
    match v with
    | .fail => .urgent
    | .noLoad => .urgent
    | .pass => .routine
    | .aborted => .routine
    | .cancelled => .routine
  | .sequenceReset .. => .routine
  | .seqAdvance .. => .routine
  | .groupChanged .. => .routine
  | .groupRefused .. => .routine
  | .supplyRestored .. => .routine
  | .settingsWritten .. => .routine
  | .loadProfile .. => .routine

/-- The closing events of Table 9-1. -/
def isClosing : Event → Bool
  | .lockout .. => true
  | .driveHalted .. => true
  | .lvdPending .. => true
  | .restart .. => true
  | .trip .. => false
  | .reclose .. => false
  | .unexpectedPosition .. => false
  | .closeFail .. => false
  | .closeAbandoned .. => false
  | .tripCoilFail .. => false
  | .driveRestored .. => false
  | .handlePulled .. => false
  | .handleReturned .. => false
  | .tagPlaced .. => false
  | .tagEscalated .. => false
  | .tagRemoved .. => false
  | .tagExpired .. => false
  | .sensorLost .. => false
  | .sensorRestored .. => false
  | .supplyLost .. => false
  | .chargerFault .. => false
  | .batteryBad .. => false
  | .shedChanged .. => false
  | .testResult .. => false
  | .sequenceReset .. => false
  | .seqAdvance .. => false
  | .groupChanged .. => false
  | .groupRefused .. => false
  | .supplyRestored .. => false
  | .settingsWritten .. => false
  | .loadProfile .. => false

/-- R156: the counter after a number; from 65,535 it advances to 1. -/
def nextReportNumber (n : Nat) : Nat := if 65535 ≤ n then 1 else n + 1

/-- R159 step 4: the oldest reports are discarded while the free words are fewer than `need`. -/
def makeRoom (depth need : Nat) : List Report → List Report
  | [] => []
  | r :: rest =>
    if need ≤ depth - reportsUsed (r :: rest) then r :: rest else makeRoom depth need rest

/-- The report that a gathering record becomes. -/
def sealedReport (id number lost : Nat) (cls : ReportClass) (g : Gather) : Report :=
  { id := id, number := number, lost := lost, cls := cls, base := g.base, entries := g.entries
    attempts := 0, awaiting := false }

/-- R159: an URGENT gathering record is sealed into the URGENT area; PKM appends only when the area
has room (R157). -/
def State.sealUrgent (s : State) : State :=
  match s.rpb.urgent with
  | none => s
  | some g =>
    let size := reportWords g.entries.length
    let number := s.rpb.nextNumber
    let kept1 := s.pkm.urgent.filter (fun r => r.number != number)
    let kept := makeRoom s.store.areas.urgent.depth size kept1
    let tally := s.pkm.urgent.length - kept.length
    let r := sealedReport s.pkm.nextId number (satAdd 255 s.rpb.lostUrgent tally) .urgent g
    if size ≤ s.store.areas.urgent.depth - reportsUsed kept then
      let s1 := s.modRpb (fun b =>
        { b with urgent := none, nextNumber := nextReportNumber b.nextNumber, lostUrgent := 0 })
      let s2 := (s1.modPkm (fun k => { k with nextId := k.nextId + 1 })).setUrgent (kept ++ [r])
      s2.localSend .report (reportCopy s2 r)
    else
      (s.modRpb (fun b =>
        { b with urgent := none, lostUrgent := satAdd 255 b.lostUrgent (tally + 1) })).setUrgent kept

/-- R160: a ROUTINE gathering record is sealed into the ROUTINE area, or discarded and counted. -/
def State.sealRoutine (s : State) : State :=
  match s.rpb.routine with
  | none => s
  | some g =>
    if hasRoom s .routine (reportWords g.entries.length) then
      let r := sealedReport s.pkm.nextId s.rpb.nextNumber s.rpb.lostRoutine .routine g
      let s1 := s.modRpb (fun b =>
        { b with routine := none, nextNumber := nextReportNumber b.nextNumber, lostRoutine := 0 })
      let s2 := s1.modPkm (fun k => { k with routine := k.routine ++ [r], nextId := k.nextId + 1 })
      s2.localSend .report (reportCopy s2 r)
    else
      s.modRpb (fun b => { b with routine := none, lostRoutine := satAdd 255 b.lostRoutine 1 })

/-- R154: the record of a class is sealed. -/
def State.sealClass (c : ReportClass) (s : State) : State :=
  match c with
  | .urgent => s.sealUrgent
  | .routine => s.sealRoutine

/-- The gathering record of a class. -/
def Rpb.gather (b : Rpb) : ReportClass → Option Gather
  | .urgent => b.urgent
  | .routine => b.routine

/-- Put a gathering record in the place of its class. -/
def Rpb.setGather (b : Rpb) (c : ReportClass) (g : Option Gather) : Rpb :=
  match c with
  | .urgent => { b with urgent := g }
  | .routine => { b with routine := g }

/-- R155: the length of the gather window of a class. -/
def gatherWindow (r : RadioRec) : ReportClass → Nat
  | .urgent => r.urgentMs
  | .routine => r.routineS * 1000

/-- R153: the event joins the record of its class, or opens one. -/
def joined (s : State) (e : Event) : Gather :=
  match s.rpb.gather (eventClass e) with
  | none =>
    { base := s.fcu.time, opening := s.fcu.running
      windowLeft := gatherWindow s.store.radio (eventClass e), entries := [⟨e, 0⟩] }
  | some g => { g with entries := g.entries ++ [⟨e, min 3600000 (s.fcu.running - g.opening)⟩] }

/-- R151 to R154: RPB takes an event; the record is sealed at once at its twelfth entry or a closing
event. -/
def State.emit (e : Event) (s : State) : State :=
  let g := joined s e
  let s1 := s.modRpb (fun b => b.setGather (eventClass e) (some g))
  if Config.recordTop ≤ g.entries.length || isClosing e then s1.sealClass (eventClass e) else s1

end Sys2Proof.Machine
end

