-- ==== Sys2Proof/Machine/Supply.lean ====
section
/-! DEFINITION. The supply arbiter (Chapter 8) with what its grants and release requests make the
radio port controller and the load test do (R134 to R137, R173, R174). A grant, a release and a
request are each handled to their end, depth first (log entry 30). -/

namespace Sys2Proof.Machine

/-! ## The charger's lines and states -/

/-- Table 7-4: BAT drives the charger lines from the charger state. -/
def State.chargerPins (s : State) : State :=
  s.modBat (fun b =>
    match b.charger with
    | .bulk => { b with chgEn := true, chgVset := b.absorbSet, chgIlim := s.store.battery.bulkLimit }
    | .absorb =>
      { b with chgEn := true, chgVset := b.absorbSet, chgIlim := s.store.battery.bulkLimit }
    | .float => { b with chgEn := true, chgVset := b.floatSet, chgIlim := s.store.battery.bulkLimit }
    | .off => { b with chgEn := false, chgVset := b.floatSet, chgIlim := 0 }
    | .test => { b with chgEn := false, chgVset := b.floatSet, chgIlim := 0 }
    | .fault => { b with chgEn := false, chgVset := b.floatSet, chgIlim := 0 })

/-- The charger enters a state: the absorb timer starts with ABSORB, the rebulk count starts at 0,
and every other charger timer and count stops (Table 7-3). -/
def State.setCharger (st : Charger) (s : State) : State :=
  (s.modBat (fun b =>
    { b with charger := st, absorbMs := if st = .absorb then some 0 else none, rebulk := 0
             recoveryLeft := none })).chargerPins

/-- R127: the charger enters FAULT and CHARGER_FAULT is emitted. -/
def State.enterFault (s : State) : State :=
  let s1 := s.setCharger .fault
  s1.emit (.chargerFault (s1.bat.fault.getD .hot) s1.bat.tempView s1.bat.lastV)

/-! ## The requesters -/

/-- The state of a requester (R143). -/
def Sup.req (u : Sup) : Requester → ReqState
  | .cap => u.cap
  | .radio => u.radio
  | .load => u.load

/-- The re-request mark of a requester (R143). -/
def Sup.again (u : Sup) : Requester → Bool
  | .cap => u.capAgain
  | .radio => u.radioAgain
  | .load => u.loadAgain

/-- A requester takes a state; CAP_RECHARGE_EN is high exactly while CAP_RECHARGE is HOLDING
(R150). -/
def Sup.setReq (u : Sup) (r : Requester) (q : ReqState) : Sup :=
  match r with
  | .cap => { u with cap := q, capEn := q == .holding }
  | .radio => { u with radio := q }
  | .load => { u with load := q }

/-- The re-request mark of a requester is set or cleared. -/
def Sup.setAgain (u : Sup) (r : Requester) (b : Bool) : Sup :=
  match r with
  | .cap => { u with capAgain := b }
  | .radio => { u with radioAgain := b }
  | .load => { u with loadAgain := b }

/-- Table 8-2: HOLDING and RELEASING count as holding the grant. -/
def ReqState.holds : ReqState → Bool
  | .idle => false
  | .requesting => false
  | .holding => true
  | .releasing => true

/-- Some requester holds the grant. -/
def Sup.anyHolder (u : Sup) : Bool := u.cap.holds || u.radio.holds || u.load.holds

/-- R148: RADIO_TX is not eligible at shed view 3. -/
def Sup.eligible (u : Sup) : Requester → Bool
  | .cap => true
  | .radio => u.shed != 3
  | .load => true

/-- R145: the highest-priority requester that is REQUESTING and eligible. -/
def Sup.pick (u : Sup) : Option Requester :=
  if u.cap == .requesting then some .cap
  else if u.radio == .requesting && u.eligible .radio then some .radio
  else if u.load == .requesting then some .load
  else none

/-- Whether the block behind a requester still waits for the grant: RPC in GRANT_WAIT (R174), BAT in
WAIT_GRANT or SUSPENDED (R137). -/
def awaitsGrant (s : State) : Requester → Bool
  | .cap => true
  | .radio => s.rpc.state == .grantWait
  | .load => s.bat.test == .waitGrant || s.bat.test == .suspended

/-- R173: the grant of RADIO_TX: key, stop the response window, start the key-up delay; with a delay
of 0, SENDING at once. -/
def State.radioGranted (s : State) : State :=
  let k := s.store.radio.keyMs
  if k = 0 then s.rpcGoto .sending
  else (s.rpcGoto .keying).modRpc (fun r => { r with keyLeft := some k })

/-- R135: the grant of LOAD_TEST: SETTLE with its full 30 s, the charger in TEST, nothing measured
yet (log entry 16). -/
def State.loadGranted (s : State) : State :=
  (s.modBat (fun b =>
    { b with test := .settle, settleLeft := some Config.settleMs, recentV := [], recentI := [] })
  ).setCharger .test

/-- A grant: the requester enters HOLDING and SUP hands it the grant (R144); one that no longer
waits for it releases at once (R147). -/
def State.offer (r : Requester) (s : State) : State :=
  if awaitsGrant s r then
    let s1 := s.modSup (fun u => u.setReq r .holding)
    match r with
    | .cap => s1
    | .radio => s1.radioGranted
    | .load => s1.loadGranted
  else s.modSup (fun u => u.setReq r .idle)

/-- R145: the grant decision while the supply view is ABSENT. The bound counts the requesters that
can decline the grant one after another. -/
def State.grantDecision : Nat → State → State
  | 0, s => s
  | n + 1, s =>
    if s.sup.anyHolder then s
    else
      match s.sup.pick with
      | none => s
      | some r => if awaitsGrant s r then s.offer r else (s.offer r).grantDecision n

/-- The grant decision over the three requesters. -/
def State.decide3 (s : State) : State := s.grantDecision 3

/-- R147: the grant is given back; a set re-request mark asks again. -/
def State.giveBack (r : Requester) (s : State) : State :=
  let back := s.sup.again r
  let s1 := s.modSup (fun u =>
    (u.setReq r (if back then .requesting else .idle)).setAgain r false)
  if s1.sup.supply then (if back then s1.offer r else s1) else s1.decide3

/-- R147: a release, or the withdrawal of a request. -/
def State.release (r : Requester) (s : State) : State :=
  match s.sup.req r with
  | .idle => s
  | .requesting => s.modSup (fun u => u.setReq r .idle)
  | .holding => s.giveBack r
  | .releasing => s.giveBack r

/-- R144: a request, up to the preemption check. -/
def State.ask (r : Requester) (s : State) : State :=
  match s.sup.req r with
  | .idle =>
    let s1 := s.modSup (fun u => u.setReq r .requesting)
    if s1.sup.supply then (if s1.sup.eligible r then s1.offer r else s1) else s1.decide3
  | .requesting => s
  | .holding => s
  | .releasing => s.modSup (fun u => u.setAgain r true)

/-! ## Starting and ending a load test (R134 to R137) -/

/-- R134: a start clears the due mark, stops the retry timer, records the cause, enters WAIT_GRANT
and requests LOAD_TEST. LOAD_TEST outranks no requester, so no preemption check follows (R146). -/
def State.startTest (c : StartCause) (s : State) : State :=
  (s.modBat (fun b =>
    { b with due := none, retryLeft := none, startCause := some c, test := .waitGrant })).ask .load

/-- R134: the conditions of a start by due mark. -/
def mayStartTest (s : State) : Bool :=
  s.bat.test == .idle && s.bat.shed ≤ 1 && s.bat.charger != .fault && s.bat.disc == .normal

/-- R134: a test starts on its due mark as soon as the conditions hold. -/
def State.dueCheck (s : State) : State :=
  match s.bat.due with
  | some c => if mayStartTest s then s.startTest c else s
  | none => s

/-- A change of the charger state, and the check of R134 that follows it. -/
def State.chargerTo (st : Charger) (s : State) : State := (s.setCharger st).dueCheck

/-- Table 7-3, row TEST: the charger is told that the test has ended. -/
def State.chargerTestEnded (s : State) : State :=
  if s.bat.charger = .test then
    if !s.bat.supply then s.chargerTo .off
    else if s.bat.fault.isSome then s.enterFault
    else s.chargerTo .bulk
  else s

/-- R136: the counts after a verdict; BATTERY_BAD when the bad-verdict count reaches 2. -/
def State.countVerdict (v : Verdict) (r : Option Nat) (s : State) : State :=
  let bad (s : State) : State :=
    if s.bat.badCount = 1 then
      (s.modBat (fun b => { b with badCount := 2 })).emit (.batteryBad r)
    else if s.bat.badCount = 0 then s.modBat (fun b => { b with badCount := 1 })
    else s
  match v with
  | .fail => bad s
  | .noLoad => bad s
  | .pass => s.modBat (fun b => { b with badCount := 0, abortCount := 0 })
  | .aborted => s
  | .cancelled => s

/-- R136: a test ends with a verdict: the result record is replaced, TEST_RESULT is emitted, the
counts follow, the test enters IDLE and the charger is told. BATT_TEST_LOAD is off and LOAD_TEST
released before this. -/
def State.endTest (v : Verdict) (v1 dI : Option Int) (r : Option Nat) (s : State) : State :=
  let s1 := s.modBat (fun b =>
    { b with
      result := some { time := s.fcu.time, cause := b.startCause, v0 := b.v0, i0 := b.i0, v1 := v1
                       dI := dI, r := r, verdict := v } })
  let s2 := (s1.emit (.testResult v r v1 dI)).countVerdict v r
  (s2.modBat (fun b =>
    { b with test := .idle, startCause := none, settleLeft := none, loadLeft := none, v0 := none
             i0 := none, recentV := [], recentI := [] })).chargerTestEnded

/-- BATT_TEST_LOAD is turned off and LOAD_TEST given back. -/
def State.dropLoad (s : State) : State := (s.modBat (fun b => { b with testLoad := false })).release .load

/-- R137: a test ends as an abort: verdict ABORTED, the abort count rises, and below 3 the retry
timer starts. -/
def State.abortTest (s : State) : State :=
  let s1 := s.dropLoad.modBat (fun b => { b with abortCount := b.abortCount + 1 })
  let s2 := s1.endTest .aborted none none none
  if s2.bat.abortCount < 3 then
    s2.modBat (fun b => { b with retryLeft := some Config.retryMs })
  else s2

/-- R137: SETTLE is suspended: the timer stops, LOAD_TEST is released and requested again. -/
def State.suspendTest (s : State) : State :=
  ((s.modBat (fun b => { b with settleLeft := none, test := .suspended })).release .load).ask .load

/-- R137: a release request, or the loss of the supply, reaches the load test. -/
def State.batAsked (s : State) : State :=
  match s.bat.test with
  | .settle => s.suspendTest
  | .load => s.abortTest
  | .idle => s
  | .waitGrant => s
  | .suspended => s

/-! ## Release requests (R146, R174) -/

/-- R174: a release request reaches RPC. In KEYING the answer is dropped and the grant released; in
SENDING the release follows the frame. -/
def State.rpcAsked (s : State) : State :=
  match s.rpc.state with
  | .keying => ((s.countAbandon.rpcGoto .listen).release .radio).rpcRest
  | .sending => s
  | .off => s
  | .waking => s
  | .listen => s
  | .holdoff => s
  | .grantWait => s

/-- R146: a holder enters RELEASING and is sent a release request; CAP_RECHARGE is never asked. -/
def State.askRelease (r : Requester) (s : State) : State :=
  match r with
  | .cap => s
  | .radio => (s.modSup (fun u => u.setReq .radio .releasing)).rpcAsked
  | .load => (s.modSup (fun u => u.setReq .load .releasing)).batAsked

/-- R146: the preemption check for a requester left REQUESTING, the supply view ABSENT. At most one
requester is in HOLDING then (R145, R149). -/
def State.preempt (r : Requester) (s : State) : State :=
  if !s.sup.supply && s.sup.req r == .requesting && s.sup.eligible r then
    match r with
    | .cap =>
      if s.sup.radio = .holding then s.askRelease .radio
      else if s.sup.load = .holding then s.askRelease .load
      else s
    | .radio => if s.sup.load = .holding then s.askRelease .load else s
    | .load => s
  else s

/-- R144, R146: a request with its preemption check. -/
def State.request (r : Requester) (s : State) : State :=
  match s.sup.req r with
  | .idle => (s.ask r).preempt r
  | .requesting => s.ask r
  | .holding => s.ask r
  | .releasing => s.ask r

/-! ## Notices from BAT (R148, R149) -/

/-- R149: the supply view turns ABSENT: every holder but the one of highest priority is asked to
release, and the grant decision is made. -/
def State.supLost (s : State) : State :=
  let s1 := s.modSup (fun u => { u with supply := false })
  let capH := s1.sup.cap == .holding
  let radioH := s1.sup.radio == .holding
  let loadH := s1.sup.load == .holding
  let s2 := if radioH && capH then s1.askRelease .radio else s1
  let s3 := if loadH && (capH || radioH) then s2.askRelease .load else s2
  s3.decide3

/-- A requester still REQUESTING is granted. -/
def State.offerWaiting (r : Requester) (s : State) : State :=
  if s.sup.req r = .requesting then s.offer r else s

/-- R149: the supply view turns PRESENT: every requester that is REQUESTING is granted, in order of
priority. -/
def State.supBack (s : State) : State :=
  (((s.modSup (fun u => { u with supply := true })).offerWaiting .cap).offerWaiting .radio
    ).offerWaiting .load

/-- R149: SUP takes the supply notice. -/
def State.supSupply (present : Bool) (s : State) : State :=
  if s.sup.supply = present then s else if present then s.supBack else s.supLost

/-- R148: SUP takes the shed notice; a fall below 3 decides again on behalf of RADIO_TX. -/
def State.supShed (level : Nat) (s : State) : State :=
  let old := s.sup.shed
  let s1 := s.modSup (fun u => { u with shed := level })
  if old = 3 ∧ level < 3 ∧ s1.sup.supply = false ∧ s1.sup.radio = .requesting then
    s1.decide3.preempt .radio
  else s1

end Sys2Proof.Machine
end

