-- ==== Sys2Proof/Machine/Battery.lean ====
section
/-! DEFINITION. The battery manager up to its disconnect (Chapter 7) and the radio's power (R168,
R169): setpoints, charge accounting, shed levels, charger transitions, load test measurements. -/

namespace Sys2Proof.Machine

/-! ## Radio power, modem and carrier (R168, R169, R176) -/

/-- RPC leaves its answer: a waiting request is withdrawn, a held grant is given back. -/
def State.rpcWithdraw (st : RadioState) (s : State) : State :=
  (s.countAbandon.rpcGoto st).release .radio

/-- R169: on entry into WAKING RPC looks at MODEM_READY. -/
def State.rpcWake (s : State) : State :=
  let s1 := s.rpcGoto .waking
  if s1.lines.modemReady then s1.rpcListen else s1

/-- R168: RPC re-evaluates whether it wants the radio powered. -/
def State.rpcPower (s : State) : State :=
  if wantsPower s then
    if s.rpc.state = .off then s.rpcWake else s.modRpc (fun r => { r with powerDown := false })
  else
    match s.rpc.state with
    | .off => s
    | .waking => s.rpcGoto .off
    | .listen => s.rpcGoto .off
    | .holdoff => s.rpcGoto .off
    | .grantWait => s.rpcWithdraw .off
    | .keying => s.modRpc (fun r => { r with powerDown := true })
    | .sending => s.modRpc (fun r => { r with powerDown := true })

/-- R176: a holdoff, or a grant wait for an unsolicited answer, is dropped without counting. -/
def State.rpcDropUnsolicited (s : State) : State :=
  match s.rpc.state with
  | .holdoff => s.rpcListen
  | .grantWait =>
    if s.rpc.answer.any (fun a => a.purpose == .unsolicited) then
      (s.rpcWithdraw .listen).lookCandidate
    else s
  | .off => s
  | .waking => s
  | .listen => s
  | .keying => s
  | .sending => s

/-- R168, R175, R176: RPC takes the shed level notice. -/
def State.rpcShed (level : Nat) (s : State) : State :=
  let s1 := (s.modRpc (fun r => { r with shed := level })).rpcPower
  if 0 < level then s1.rpcDropUnsolicited else s1.lookCandidate

/-- R169: in KEYING and SENDING the key drops, the frame is cut short and RADIO_TX is released. -/
def State.modemLost (s : State) : State :=
  if s.rpc.powerDown then (s.rpcWithdraw .off).modRpc (fun r => { r with powerDown := false })
  else s.rpcWithdraw .waking

/-- R169: a rise of MODEM_READY. -/
def State.modemRise (s : State) : State := if s.rpc.state = .waking then s.rpcListen else s

/-- R169: a fall of MODEM_READY. -/
def State.modemFall (s : State) : State :=
  match s.rpc.state with
  | .off => s
  | .waking => s
  | .listen => s.rpcWake
  | .holdoff => s.rpcWake
  | .grantWait => s.rpcWithdraw .waking
  | .keying => s.modemLost
  | .sending => s.modemLost

/-- R169: MODEM_READY changes. -/
def State.modemChange (level : Bool) (s : State) : State :=
  if s.lines.modemReady = level then s
  else
    let s1 := s.modLines (fun l => { l with modemReady := level })
    if level then s1.modemRise else s1.modemFall

/-- R176: CARRIER_DET changes; a running holdoff stops at its rise and starts again from the full
length at its fall. -/
def State.carrierChange (level : Bool) (s : State) : State :=
  if s.lines.carrierDet = level then s
  else
    (s.modLines (fun l => { l with carrierDet := level })).modRpc (fun r =>
      { r with holdoff := r.holdoff.map (fun h =>
          { h with left := if level then none else some h.length }) })

/-! ## Setpoints (R129) -/

/-- Division by 100, rounding half away from zero (R129 step 4). -/
def roundHundredth (c : Int) : Int := c.sign * ((c.natAbs + 50) / 100 : Nat)

/-- The temperature used: 25.0 °C when the link is not UP or the view is absent, clamped (R129 steps
1 and 2). -/
def setpointTemp (linkUp : Bool) (view : Option Int) : Int :=
  clampInt (-300) 500 (if linkUp then view.getD 250 else 250)

/-- A setpoint from its voltage at 25 °C (R129 steps 3 to 5). -/
def setpoint (b : BatteryRec) (v : Nat) (t : Int) : Int :=
  clampInt b.floor b.ceiling (v - roundHundredth ((b.comp : Int) * (t - 250)))

/-- R129: both setpoints are worked out, and the charger outputs follow (R128). -/
def State.updateSetpoints (s : State) : State :=
  let t := setpointTemp (s.slr.link == .up) s.bat.tempView
  (s.modBat (fun b =>
    { b with
      absorbSet := setpoint s.store.battery s.store.battery.absorbV t
      floatSet := setpoint s.store.battery s.store.battery.floatV t })).chargerPins

/-! ## The fault condition (R127) -/

/-- R127: the first cause that applies. -/
def faultCause (b : Bat) : Option FaultCause :=
  if b.tempView.any (fun t => decide (550 < t)) then some .hot
  else if b.tempView.any (fun t => decide (t < -400)) then some .cold
  else if b.supply && b.lastV.any (fun v => decide (v < 1000)) then some .openString
  else none

/-- R127: an evaluation of the condition: FAULT from BULK, ABSORB and FLOAT when it is true; in FAULT
the recovery timer runs from the first evaluation that finds it false and stops at one that finds it
true. -/
def State.evalFault (s : State) : State :=
  let c := faultCause s.bat
  let s1 := s.modBat (fun b => { b with fault := c })
  match s1.bat.charger with
  | .bulk => if c.isSome then s1.enterFault else s1
  | .absorb => if c.isSome then s1.enterFault else s1
  | .float => if c.isSome then s1.enterFault else s1
  | .fault =>
    s1.modBat (fun b =>
      { b with recoveryLeft :=
          if c.isSome then none else some (b.recoveryLeft.getD Config.recoveryMs) })
  | .off => s1
  | .test => s1

/-! ## Shed levels (R132, R133) -/

/-- The threshold of a level above 0. -/
def shedThreshold (b : BatteryRec) : Nat → Nat
  | 0 => 0
  | 1 => b.shed1
  | 2 => b.shed2
  | _ => b.shed3

/-- R132 step 1: the level rises while SoC is below the threshold of the next level up. -/
def shedRise (b : BatteryRec) (soc : Nat) : Nat → Nat → Nat
  | 0, l => l
  | n + 1, l => if l < 3 ∧ soc < shedThreshold b (l + 1) then shedRise b soc n (l + 1) else l

/-- R132 step 2: the level falls while SoC is at or above its threshold plus 5. -/
def shedFall (b : BatteryRec) (soc : Nat) : Nat → Nat
  | 0 => 0
  | l + 1 => if shedThreshold b (l + 1) + 5 ≤ soc then shedFall b soc l else l + 1

/-- R132: one evaluation from the present level. -/
def shedLevel (b : BatteryRec) (soc level : Nat) : Nat :=
  let up := shedRise b soc 3 level
  if up = level then shedFall b soc level else up

/-- R133: a change of the shed level is handed to RPC and SUP (their order is free, log entry 4),
SHED_CHANGED is emitted, and the due mark is checked (R134). -/
def State.setShed (level : Nat) (s : State) : State :=
  if s.bat.shed = level then s
  else
    let old := s.bat.shed
    let s1 := s.modBat (fun b => { b with shed := level })
    let s2 := if s1.order.rpcFirst then (s1.rpcShed level).supShed level
              else (s1.supShed level).rpcShed level
    (s2.emit (.shedChanged old level s2.bat.soc)).dueCheck

/-- R132: the shed level is evaluated while the supply is absent. -/
def State.evalShed (s : State) : State :=
  if s.bat.supply then s else s.setShed (shedLevel s.store.battery s.bat.soc s.bat.shed)

/-! ## Charge accounting (R130, R131) -/

/-- Q_full = C × 360,000 (7.4). -/
def qFull (b : BatteryRec) : Nat := b.capacity * 360000

/-- R130 step 4: SoC is floor(Q × 100 / Q_full). -/
def socOf (b : BatteryRec) (q : Nat) : Nat := q * 100 / qFull b

/-- R152: RPB keeps the lowest SoC of the hour. -/
def State.profileSoc (soc : Nat) (s : State) : State :=
  s.modRpb (fun b => { b with profLow := some (min soc (b.profLow.getD soc)) })

/-- R130 step 4: a new Q and the SoC worked out from it. -/
def State.setQ (q : Nat) (s : State) : State :=
  s.modBat (fun b => { b with q := q, soc := socOf s.store.battery q })

/-- R130, R131: after an update of Q the new SoC is handed to RPB (R152) and the shed level
evaluated on it. -/
def State.updateQ (q : Nat) (s : State) : State :=
  ((s.setQ q).profileSoc (socOf s.store.battery q)).evalShed

/-- R130 steps 1 and 2: the charge of a second at a mean current. -/
def chargeStep (i : Int) : Int := if 0 < i then i * 15 / 16 else i

/-- R130: the update at the end of a second whose mean current is present. A second that ends with
the link not UP, but holds values taken in it while the link was UP, has a mean: R130 then updates Q,
where R18 says that the charge does not move while the link is not UP. The model follows R130
(DEDUCED, log entry 39). -/
def State.chargeSecond (i : Option Int) (s : State) : State :=
  match i with
  | none => s
  | some i => s.updateQ (clampInt 0 (qFull s.store.battery) (s.bat.q + chargeStep i)).toNat

/-- R131: the charger enters FLOAT; with the link UP, Q becomes Q_full and the estimated flag is
cleared. -/
def State.enterFloat (s : State) : State :=
  let s1 := s.setCharger .float
  let s2 :=
    if s1.slr.link = .up then
      (s1.modBat (fun b => { b with estimated := false })).updateQ (qFull s1.store.battery)
    else s1
  s2.dueCheck

/-! ## The charger at the end of a second (R126) -/

/-- The absorb time limit in ms. -/
def absorbLimit (b : BatteryRec) : Nat := b.absorbHours * Config.hourMs

/-- R126, FLOAT: the rebulk count after a second. -/
def rebulkCount (b : Bat) (r : BatteryRec) (v : Option Int) : Nat :=
  match v with
  | none => b.rebulk
  | some v => if v < b.floatSet - r.rebulkMargin then b.rebulk + 1 else 0

/-- R126: the charger transitions checked at the end of a battery second. -/
def State.chargerSecond (v i : Option Int) (s : State) : State :=
  match s.bat.charger with
  | .bulk => if v.any (fun v => decide (s.bat.absorbSet ≤ v)) then s.chargerTo .absorb else s
  | .absorb =>
    if i.any (fun i => decide (i < (s.store.battery.tail : Int))) ||
        s.bat.absorbMs.any (fun t => decide (absorbLimit s.store.battery ≤ t)) then s.enterFloat
    else s
  | .float =>
    let n := rebulkCount s.bat s.store.battery v
    if Config.qualSeconds ≤ n then s.chargerTo .bulk else s.modBat (fun b => { b with rebulk := n })
  | .off => s
  | .test => s
  | .fault => s

/-- A mean truncated toward zero; absent where no value was taken (R125). -/
def meanOf (sum : Int) (count : Nat) : Option Int :=
  if count = 0 then none else some (sum.tdiv count)

/-- R125, R126, R127, R130: the end of a battery second up to the disconnect qualification. The
fault condition is evaluated before the other transitions (log entry 17). -/
def State.secondMeans (v i : Option Int) (s : State) : State :=
  let s1 := s.modBat (fun b =>
    { b with voltSum := 0, voltCount := 0, ampSum := 0, ampCount := 0, secondLeft := Config.secondMs
             lastV := v.orElse (fun _ => b.lastV), lastI := i.orElse (fun _ => b.lastI) })
  let s2 := s1.chargeSecond i
  let s3 := if v.isSome then s2.evalFault else s2
  s3.chargerSecond v i

/-- R126: the absorb timer reaches the absorb time limit. -/
def State.absorbDone (s : State) : State :=
  if s.bat.charger = .absorb then s.enterFloat else s

/-- R126, R127: the fault condition has been false for 60 s. -/
def State.recoveryDone (s : State) : State :=
  if s.bat.charger = .fault ∧ s.bat.recoveryLeft.isSome then s.chargerTo .bulk else s

/-! ## Load test scheduling and measurement (R134, R135, R136, R138) -/

/-- R134: the interval timer elapses and restarts. -/
def State.intervalElapsed (s : State) : State :=
  let s1 := s.modBat (fun b =>
    { b with intervalLeft := s.store.battery.testHours * Config.hourMs, abortCount := 0 })
  if s1.bat.test = .idle then (s1.modBat (fun b => { b with due := some .interval })).dueCheck else s1

/-- R134: the retry timer expires. -/
def State.retryElapsed (s : State) : State :=
  if s.bat.retryLeft.isSome then
    (s.modBat (fun b => { b with retryLeft := none, due := some .retry })).dueCheck
  else s

/-- The mean of the values taken in the last 1,000 ms (R135). -/
def recentMean (now : Nat) (l : List (Nat × Int)) : Option Int :=
  let kept := l.filter (fun p => decide (now < p.1 + 1000))
  meanOf (kept.map Prod.snd).sum kept.length

/-- R135: the end of SETTLE. -/
def State.settleDone (s : State) : State :=
  if s.bat.test = .settle then
    match recentMean s.fcu.running s.bat.recentV, recentMean s.fcu.running s.bat.recentI with
    | some v, some i =>
      s.modBat (fun b =>
        { b with test := .load, settleLeft := none, loadLeft := some Config.loadMs, v0 := some v
                 i0 := some i, recentV := [], recentI := [], testLoad := true })
    | _, _ => s.abortTest
  else s

/-- R136 step 2: R in mΩ, clamped to 0..65,535. -/
def resistance (dV dI : Int) : Nat := (clampInt 0 65535 (dV * 1000 / dI)).toNat

/-- R136: the verdict and, unless NO_LOAD, R. -/
def verdictOf (b : BatteryRec) (v1 dV dI : Int) : Verdict × Option Nat :=
  if dI < 100 then (.noLoad, none)
  else if b.rLimit < resistance dV dI ∨ v1 < b.testMinV then (.fail, some (resistance dV dI))
  else (.pass, some (resistance dV dI))

/-- R135, R136: the end of LOAD. -/
def State.loadDone (s : State) : State :=
  if s.bat.test = .load then
    match recentMean s.fcu.running s.bat.recentV, recentMean s.fcu.running s.bat.recentI,
        s.bat.v0, s.bat.i0 with
    | some v1, some i1, some v0, some i0 =>
      let w := verdictOf s.store.battery v1 (v0 - v1) (i0 - i1)
      s.dropLoad.endTest w.1 (some v1) (some (i0 - i1)) w.2
    | _, _, _, _ => s.abortTest
  else s

/-- R138: TEST_CANCEL ends the test with verdict CANCELLED. -/
def State.cancelTest (s : State) : State := s.dropLoad.endTest .cancelled none none none

/-! ## Auxiliary values (R18, R125, R135) -/

/-- R135: a value is kept while SETTLE or LOAD runs, for the last 1,000 ms. -/
def keepRecent (b : Bat) (now : Nat) (v : Int) (l : List (Nat × Int)) : List (Nat × Int) :=
  if b.test = .settle ∨ b.test = .load then
    l.filter (fun p => decide (now < p.1 + 1000)) ++ [(now, v)]
  else l

/-- R18, R125: BAT takes an auxiliary value handed with the link UP, and keeps it as the most recent
of its kind, which follows the cycle position (Table 1-4); log entry 44. -/
def State.takeAux (pos raw : Nat) (s : State) : State :=
  if s.slr.link = .up then
    let now := s.fcu.running
    match pos % 4 with
    | 0 =>
      s.modBat (fun b =>
        { b with voltNow := some raw, voltSum := b.voltSum + raw, voltCount := b.voltCount + 1
                 recentV := keepRecent b now raw b.recentV })
    | 1 =>
      s.modBat (fun b =>
        { b with ampNow := some (signed16 raw), ampSum := b.ampSum + signed16 raw
                 ampCount := b.ampCount + 1, recentI := keepRecent b now (signed16 raw) b.recentI })
    | 2 => (s.modBat (fun b => { b with tempView := some (signed16 raw) })).updateSetpoints.evalFault
    | _ => s.modBat (fun b => { b with cabView := some (signed16 raw) })
  else s

/-! ## The supply (R124) -/

/-- SUP and RPC are notified of the supply state, in either order (R124, log entry 4). -/
def State.notifySupply (present : Bool) (s : State) : State :=
  let rpc (s : State) : State := s.modRpc (fun r => { r with supply := present })
  if s.order.rpcFirst then (rpc s).supSupply present else rpc (s.supSupply present)

/-- R124: BAT takes the supply as absent. -/
def State.takeSupplyAbsent (s : State) : State :=
  let s1 := s.modBat (fun b =>
    { b with supply := false, qualLeft := none, absentSince := some s.fcu.running })
  let s2 := s1.evalFault
  let s3 := if s2.bat.charger = .test then s2 else s2.chargerTo .off
  let s4 := s3.evalShed.batAsked
  (s4.emit (.supplyLost s4.bat.soc s4.bat.estimated s4.bat.lastV)).notifySupply false

/-- R124: the minutes of absence, saturating at 65,535. -/
def minutesAbsent (s : State) : Nat :=
  min 65535 ((s.fcu.running - s.bat.absentSince.getD s.fcu.running) / 60000)

/-- R139, R140: a pending disconnect is cancelled and one in DISCONNECTED ends; the count becomes 0
and LVD_OUT is released. -/
def State.cancelDisconnect (s : State) : State :=
  (s.modBat (fun b =>
    { b with disc := .normal, discAction := none, qualCount := 0, lvdOut := false })).dueCheck

/-- R124: BAT takes the supply as present. -/
def State.takeSupplyPresent (s : State) : State :=
  let minutes := minutesAbsent s
  let s1 := s.modBat (fun b => { b with supply := true, qualLeft := none, absentSince := none })
  let s2 := s1.evalFault
  let s3 :=
    if s2.bat.charger = .off then
      (if s2.bat.fault.isSome then s2.enterFault else s2.chargerTo .bulk)
    else s2
  let s4 := (s3.setShed 0).cancelDisconnect
  (s4.emit (.supplyRestored s4.bat.soc minutes)).notifySupply true

/-- R124: the line has held its new level for 200 ms. -/
def State.takeSupply (s : State) : State :=
  if s.bat.qualLeft.isSome then
    if s.lines.supplyPresent then s.takeSupplyPresent else s.takeSupplyAbsent
  else s

/-- R124: an edge of SUPPLY_PRESENT starts the 200 ms qualification of a new level, or ends it. -/
def State.supplyEdge (level : Bool) (s : State) : State :=
  if s.lines.supplyPresent = level then s
  else
    (s.modLines (fun l => { l with supplyPresent := level })).modBat (fun b =>
      { b with qualLeft := if b.supply = level then none else some Config.supplyQualMs })

/-! ## The disconnect (R139, R140) -/

/-- R140: BAT asserts LVD_OUT and enters DISCONNECTED. -/
def State.assertLvd (s : State) : State :=
  s.modBat (fun b => { b with disc := .disconnected, lvdOut := true })

/-- R139: the qualification count after a second. -/
def qualifyCount (b : Bat) (r : BatteryRec) (v : Option Int) : Nat :=
  match v with
  | none => b.qualCount
  | some v => if v < r.discV then b.qualCount + 1 else 0

/-- R139: the disconnect enters DISCONNECT_PENDING and LVD_PENDING is emitted; with action HOLD, BAT
asserts LVD_OUT at once (R140). -/
def State.enterPending (s : State) : State :=
  let a := s.store.battery.action
  let s1 := s.modBat (fun b =>
    { b with disc := .isPending, discAction := some a, qualCount := Config.qualSeconds })
  let s2 := s1.emit (.lvdPending s1.bat.lastV s1.bat.soc a)
  match a with
  | .hold => s2.assertLvd
  | .openFirst => s2

/-- R139: the qualification at the end of a second, with the supply absent and the disconnect
NORMAL. -/
def State.qualify (v : Option Int) (s : State) : State :=
  if s.bat.disc = .normal ∧ s.bat.supply = false then
    let n := qualifyCount s.bat s.store.battery v
    if Config.qualSeconds ≤ n then s.enterPending else s.modBat (fun b => { b with qualCount := n })
  else s

/-- A disconnect waits for SEQ (R140). -/
def awaitsSeq (b : Bat) : Bool := b.disc == .isPending && b.discAction == some .openFirst

end Sys2Proof.Machine
end

