-- ==== Sys2Proof/Machine/Settings.lean ====
section
/-! DEFINITION. The durable store's operations (R51 to R53) and the live set that a stored group
gives (R55, R61). -/

namespace Sys2Proof.Machine

/-! ## Store operations (R51) -/

/-- The contents of an internal write as they stand now (R51, R55, R105, R109). -/
def internalBody (s : State) : InternalTable → StoreBody
  | .selection => .selection ⟨s.sets.active, s.sets.ret⟩
  | .tags => .tags s.lku.staged s.lku.changes
  | .lastFailure => .lastFailure s.drv.snapshot

/-- R51: a store operation starts; it completes up to 50 ms later. -/
def State.startStore (b : StoreBody) (r : Option Reply) (s : State) : State :=
  s.modStore (fun st => { st with inFlight := some ⟨b, r, Config.storeMs⟩ })

/-- R51: an internal operation starts with the contents as they stand. A tag table write carries
every change staged by now (R109). -/
def State.startInternal (t : InternalTable) (r : Option Reply) (s : State) : State :=
  let s1 := s.startStore (internalBody s t) r
  match t with
  | .tags => s1.modLku (fun l => { l with changes := [] })
  | .selection => s1
  | .lastFailure => s1

/-- R51: an internal request starts its operation, or joins the wait list once per table. -/
def State.requestStore (t : InternalTable) (r : Option Reply) (s : State) : State :=
  if s.store.inFlight.isNone then s.startInternal t r
  else if s.store.waitList.contains t then s
  else s.modStore (fun st => { st with waitList := st.waitList ++ [t] })

/-- R51: no operation is in flight any more, and the oldest waiting request starts, before FCU looks at
the head of the intake queue (log entry 53). -/
def State.storeFree (s : State) : State :=
  let s1 := s.modStore (fun st => { st with inFlight := none })
  match s1.store.waitList with
  | [] => s1
  | t :: rest => (s1.modStore (fun st => { st with waitList := rest })).startInternal t none

/-- R183: no store operation is in flight and the wait list is empty. -/
def storeIdle (st : Store) : Bool := st.inFlight.isNone && st.waitList.isEmpty

/-! ## Live sets (3.6, R55, R61) -/

/-- The contents of a group slot. -/
def groupAt (st : Store) (g : Nat) : Option Group := (st.groups[g]?).join

/-- The contents of a curve slot. -/
def curveAt (st : Store) (c : Nat) : Option Curve := (st.curves[c]?).join

/-- The distinct curve indices that the shot rows of a group name, each at its last place in the list
of their PT and GT indices (the order in which READ_STATUS sends them, log entry 8). -/
def namedCurves (g : Group) : List Nat := (g.rows.flatMap (fun r => [r.ptCurve, r.gtCurve])).dedup

/-- R55: the copies of the named curves as they stand in the store. -/
def curveCopies (st : Store) (g : Group) : List (Nat × Curve) :=
  (namedCurves g).filterMap (fun c => (curveAt st c).map (fun k => (c, k)))

/-- R55, R61: the live set of a group, or the built-in default for NONE and for an absent slot. The
manual says so of a slot that is absent at a reset; the model takes it of every selection that is
applied (DEDUCED, log entry 41). -/
def liveSetOf (st : Store) (g : Option Nat) : LiveSet :=
  match g with
  | none => builtinLive
  | some n =>
    match groupAt st n with
    | none => builtinLive
    | some k => { source := some n, grp := k, curves := curveCopies st k }

/-- R49: every curve that a group names is present. -/
def curvesPresent (st : Store) (g : Group) : Bool :=
  (namedCurves g).all (fun c => (curveAt st c).isSome)

/-- R47: a present group names a curve slot. -/
def curveNamed (st : Store) (c : Nat) : Bool :=
  st.groups.any (fun g => g.any (fun k => (namedCurves k).contains c))

end Sys2Proof.Machine
end

