-- ==== Sys2Proof/Machine/Drive.lean ====
section
/-! DEFINITION. The mechanism drive (Chapter 5): answers to trip and close requests, coils, monitors,
confirmations, halts and the recharge request. What DRV reports to SEQ is passed on by the callers
in Machine/Sequence.lean. -/

namespace Sys2Proof.Machine

/-! ## Coils and recharge (R90, R104) -/

/-- Every coil is dropped. -/
def Drv.dropCoils (d : Drv) : Drv := { d with coilMain := false, coilBackup := false, coilClose := false }

/-- R90: any energised coil is dropped first, and the new one energised after it. -/
def Drv.energise (d : Drv) (c : Coil) : Drv :=
  match c with
  | .main => { d.dropCoils with coilMain := true }
  | .backup => { d.dropCoils with coilBackup := true }
  | .closeCoil => { d.dropCoils with coilClose := true }
  | .noCoil => d.dropCoils

/-- R104: DRV raises its recharge request; a lowered standing requests CAP_RECHARGE. -/
def State.raiseRecharge (s : State) : State :=
  if s.drv.recharge then s
  else (s.modDrv (fun d => { d with recharge := true })).request .cap

/-- R104: DRV lowers its recharge request and releases CAP_RECHARGE. -/
def State.lowerRecharge (s : State) : State :=
  if s.drv.recharge then (s.modDrv (fun d => { d with recharge := false })).release .cap else s

/-- R89, R103, R104: DRV takes the capacitor voltage of a good frame. -/
def State.drvCap (v : Nat) (stale : Bool) (s : State) : State :=
  let s1 := s.modDrv (fun d => { d with cap := v, capStale := stale })
  if v < s1.store.device.capFull - Config.rechargeDrop then s1.raiseRecharge
  else if s1.store.device.capFull ≤ v then s1.lowerRecharge
  else s1

/-! ## Operations -/

/-- A new operation in flight (R88, R92, R97, R99). -/
def newOp (s : State) (k : OpKind) (limit : Nat) (low : Bool) : DriveOp :=
  { kind := k, limit := limit, capStart := s.drv.cap, startTime := s.fcu.time
    startRun := s.fcu.running, lowEnergy := low, extended := false }

/-- R92: the low-energy flag: the capacitor view is below the trip minimum. -/
def lowEnergy (s : State) : Bool := decide (s.drv.cap < s.store.device.capTrip)

/-- R106: the summary of an operation that ends now (log entry 31). -/
def opSummary (s : State) (o : DriveOp) (out : OpOutcome) (c : Coil) : OpSummary :=
  { kind := o.kind, outcome := out, coil := c, lowEnergy := tripFlag o.kind o.lowEnergy
    travel := s.fcu.running - o.startRun }

/-- R93, R95, R98, R100: the operation in flight ends: coils dropped, monitor stopped, summary
recorded, operation absent, and the drive in the given state. -/
def State.endOp (st : DriveState) (out : OpOutcome) (c : Coil) (s : State) : State :=
  s.modDrv (fun d =>
    { d.dropCoils with
      state := st, monitor := none, op := none
      summary := match d.op with
        | some o => some (opSummary s o out c)
        | none => d.summary })

/-- R105: the failure snapshot, from the operation in flight and the views. -/
def failure (s : State) (k : FailKind) : Option FailureRec :=
  s.drv.op.map (fun o =>
    { kind := k, time := s.fcu.time, op := o.kind, lowEnergy := tripFlag o.kind o.lowEnergy
      capStart := o.capStart, limit := o.limit, position := s.drv.position, stale := s.drv.stale })

/-- R105: DRV takes the snapshot. -/
def State.snapFailure (k : FailKind) (s : State) : State :=
  s.modDrv (fun d => { d with snapshot := failure s k })

/-- The low-energy flag of the operation in flight. -/
def opLow (d : Drv) : Bool := d.op.any (fun o => o.lowEnergy)

/-! ## Trips (R91, R92, R99) -/

/-- DRV's answer to a trip request (Table 5-3, R92). -/
inductive TripAnswer where
  | accepted
  | completed
  | inFlight
  | refused
  deriving DecidableEq, Repr

/-- Table 5-3, with R92's completion at once on a fresh OPEN view. -/
def tripAnswer (d : Drv) : TripAnswer :=
  match d.state with
  | .idle => if d.position = .opened ∧ d.stale = false then .completed else .accepted
  | .closeActive => .accepted
  | .tripMain => .inFlight
  | .tripBackup => .inFlight
  | .halted => .refused

/-- R92, R99: a trip operation on the main coil. -/
def State.startTrip (c : TripCause) (s : State) : State :=
  let limit := s.store.device.tripLimit
  s.modDrv (fun d =>
    { d.energise .main with
      op := some (newOp s (.trip c) limit (lowEnergy s)), monitor := some limit
      state := .tripMain })

/-- R100: a close in flight is given up. -/
def State.abandonClose (c : AbandonCause) (s : State) : State :=
  if s.drv.state = .closeActive then
    ((s.modDrv Drv.dropCoils).emit (.closeAbandoned c)).endOp .idle .abandoned .noCoil |>.raiseRecharge
  else s

/-- R92: a trip that completes at once leaves its summary, with coil NONE and travel time 0. -/
def State.tripAtOnce (c : TripCause) (s : State) : State :=
  s.modDrv (fun d =>
    { d with summary := some ⟨.trip c, .completed, .noCoil, some false, 0⟩ })

/-- R99: the trip-free trip. -/
def State.tripFree (c : TripCause) (s : State) : State :=
  let s1 := s.endOp .idle .abandoned .noCoil
  ((s1.emit (.closeAbandoned .tripFree)).startTrip c).raiseRecharge

/-- R91, R92, R99: DRV takes a trip request. -/
def State.drvTrip (c : TripCause) (s : State) : State :=
  match s.drv.state with
  | .idle => if tripAnswer s.drv = .completed then s.tripAtOnce c else s.startTrip c
  | .closeActive => s.tripFree c
  | .tripMain => s
  | .tripBackup => s
  | .halted => s

/-! ## Closes (R97) -/

/-- DRV's answer to a close request (R97). -/
inductive CloseAnswer where
  | accepted
  | completed
  | refusedState
  | refusedEnergy
  deriving DecidableEq, Repr

/-- The checks of R97 in order, and its completion at once on a fresh CLOSED view. -/
def closeAnswer (s : State) : CloseAnswer :=
  if s.drv.state ≠ .idle then .refusedState
  else if s.drv.cap < s.store.device.capReserve ∨ s.drv.capStale = true then .refusedEnergy
  else if s.drv.ready = .notReady ∨ s.drv.handle = .pulled ∨ s.drv.stale = true then .refusedState
  else if s.drv.position = .closed then .completed
  else .accepted

/-- R97: an accepted close on open contacts energises COIL_CLOSE. -/
def State.drvClose (c : CloseCause) (s : State) : State :=
  match closeAnswer s with
  | .accepted =>
    let limit := s.store.device.closeLimit
    s.modDrv (fun d =>
      { d.energise .closeCoil with
        op := some (newOp s (.close c) limit false), monitor := some limit
        state := .closeActive })
  | .completed => s
  | .refusedState => s
  | .refusedEnergy => s

/-! ## Deliveries (R89, R93, R98, R100) -/

/-- R89: the views of position, handle, mechanism-ready and staleness. -/
def State.drvViews (d : Delivery) (s : State) : State :=
  s.modDrv (fun v =>
    { v with position := d.position, handle := d.handle, ready := d.ready, stale := d.stale
             capStale := d.stale })

/-- R93: the delivery of an OPEN is news: the view before it was not OPEN, so that SLR accepts OPEN
(R11), or was stale, so that the link enters UP. -/
def opensNow (v : Drv) : Bool := v.position != .opened || v.stale

/-- R93: a delivery confirms the trip in flight; `news` says that its OPEN is an acceptance of OPEN
or comes with the link's entry into UP. A handle or mechanism-ready that is accepted behind contacts
already held OPEN confirms nothing. -/
def confirmsTrip (news : Bool) (d : Delivery) (v : Drv) : Bool :=
  news && !d.stale && d.position == .opened && (v.state == .tripMain || v.state == .tripBackup)

/-- R98: a delivery confirms the close in flight. -/
def confirmsClose (d : Delivery) (v : Drv) : Bool :=
  !d.stale && d.position == .closed && v.state == .closeActive

/-- R93 steps 1 to 4; on the backup coil the degraded flag is set. -/
def State.drvTripDone (s : State) : State :=
  if s.drv.state = .tripBackup then
    (s.endOp .idle .completed .backup).modDrv (fun d => { d with degraded := true })
  else s.endOp .idle .completed .main

/-- R98: the close is confirmed. -/
def State.drvCloseDone (s : State) : State := s.endOp .idle .completed .closeCoil

/-! ## Monitor periods (R94, R95, R98) -/

/-- R94: the first period of a trip monitor ends without a confirmation. -/
def State.firstPeriod (s : State) : State :=
  if s.drv.stale then
    let s1 := (s.emit (.tripCoilFail s.drv.position true .extended (opLow s.drv))).snapFailure
      .mainCoilFail
    (s1.modDrv (fun d =>
      { d with op := d.op.map (fun o => { o with extended := true })
               monitor := d.op.map (fun o => o.limit) })).requestStore .lastFailure none
  else
    let s1 := (s.emit (.tripCoilFail s.drv.position false .backup (opLow s.drv))).snapFailure
      .mainCoilFail
    let s2 := (s1.modDrv Drv.dropCoils).raiseRecharge
    (s2.modDrv (fun d =>
      { d.energise .backup with monitor := d.op.map (fun o => o.limit), state := .tripBackup })
    ).requestStore .lastFailure none

/-- The trip coil last energised (R95). -/
def lastCoil (d : Drv) : Coil := if d.state = .tripBackup then .backup else .main

/-- R95 up to the report: the drive halts. -/
def State.drvHalt (s : State) : State :=
  let coil := lastCoil s.drv
  let s1 := (s.modDrv Drv.dropCoils).emit
    (.driveHalted coil s.drv.position s.drv.stale (opLow s.drv))
  ((s1.snapFailure .halted).requestStore .lastFailure none).endOp .halted .halted .noCoil

/-- The close cause of the operation in flight. -/
def opCloseCause (d : Drv) : CloseCause :=
  match d.op with
  | some o =>
    match o.kind with
    | .close c => c
    | .trip _ => .auto
  | none => .auto

/-- R98 up to the report: the close monitor ends without confirmation. -/
def State.drvCloseFail (s : State) : State :=
  let s1 := (s.modDrv Drv.dropCoils).emit
    (.closeFail (opCloseCause s.drv) s.drv.position s.drv.stale)
  ((s1.snapFailure .closeFail).requestStore .lastFailure none).endOp .idle .closeFail .noCoil

/-! ## Restoration (R102) -/

/-- R102: DRV leaves HALTED, or stays IDLE, with the degraded flag clear; DRIVE_RESTORED is
emitted. -/
def State.drvRestore (s : State) : State :=
  (s.modDrv (fun d => { d with state := .idle, degraded := false })).emit
    (.driveRestored s.drv.state s.drv.degraded)

end Sys2Proof.Machine
end

