-- ==== Sys2Proof/Machine/Sequence.lean ====
section
/-! DEFINITION. The reclose sequence (Chapter 4), the selections that SET applies while SEQ is
settled (R55 to R60), and the low-battery trip that BAT asks for (R84, R140). -/

namespace Sys2Proof.Machine

/-! ## States and the shot counter -/

/-- The states that clear the manual-reclaim flag on entry (R71, R86, R83, R76). -/
def SeqState.clearsManual : SeqState → Bool
  | .unknown => true
  | .openInterval => true
  | .lockout => true
  | .failed => true
  | .ready => false
  | .tripping => false
  | .closeWait => false
  | .closing => false
  | .reclaim => false

/-- The states in which SEQ follows pickup episodes (R77). -/
def SeqState.followsEpisodes (st : SeqState) : Bool := st == .ready || st == .reclaim

/-- R140: BAT learns of LOCKOUT or FAILED while its disconnect is pending, and asserts LVD_OUT. -/
def State.tellBat (s : State) : State :=
  if awaitsSeq s.bat && (s.seq.state == .lockout || s.seq.state == .failed) then s.assertLvd else s

/-- SEQ enters a state: its timer stops, and what the state does not have becomes absent: the
lockout reason, the causes, the restart trip mark (R64), the episode (R77). -/
def State.seqGoto (st : SeqState) (s : State) : State :=
  (s.modSeq (fun q =>
    { q with
      state := st
      lockReason := none
      manualReclaim := if st.clearsManual then false else q.manualReclaim
      tripCause := if st = .tripping then q.tripCause else none
      closeCause := if st = .closing then q.closeCause else none
      timer := none
      restartMark := if st = .unknown then q.restartMark else none
      episode := if st.followsEpisodes then q.episode else none })).tellBat

/-- R66: the shot counter changes and is handed to ELE at once (R22). -/
def State.setShot (n : Nat) (s : State) : State :=
  (s.modSeq (fun q => { q with shot := n })).modEle (fun e => { e with shotCopy := n })

/-- R86: SEQ enters LOCKOUT with a reason, or changes it, and emits LOCKOUT. -/
def State.seqLockout (r : LockReason) (s : State) : State :=
  let s1 := (s.seqGoto .lockout).modSeq (fun q => { q with lockReason := some r })
  s1.emit (.lockout r s1.seq.shot)

/-- A sequence timer starts (R64). -/
def State.startSeqTimer (k : SeqTimerKind) (ms : Nat) (paused : Bool) (s : State) : State :=
  s.modSeq (fun q => { q with timer := some ⟨k, ms, paused⟩ })

/-- R71: SEQ enters OPEN_INTERVAL; interval k follows trip k. -/
def State.seqOpenInterval (s : State) : State :=
  let s1 := s.seqGoto .openInterval
  s1.startSeqTimer .openInterval (s1.sets.live.grp.intervals.getD (s1.seq.shot - 1) 0) false

/-- R75: SEQ enters RECLAIM; the timer starts paused while the last result shows a pickup. -/
def State.seqReclaim (s : State) : State :=
  let s1 := s.seqGoto .reclaim
  s1.startSeqTimer .reclaim s1.sets.live.grp.reclaim s1.seq.lastPickup.any

/-- R76: a manual reclaim by a close on the mechanism. -/
def State.seqHandClose (s : State) : State :=
  ((s.setShot (s.sets.live.grp.shots - 1)).modSeq (fun q => { q with manualReclaim := true })).seqReclaim

/-- R82: SEQ emits UNEXPECTED_POSITION with the state in which it was seen. -/
def State.seqUnexpected (p : Position) (s : State) : State :=
  s.emit (.unexpectedPosition p s.seq.state)

/-! ## Reports from DRV (R70, R74, R83, R86) -/

/-- R70: the end of a trip, by the first case that applies. -/
def State.seqTripEnd (s : State) : State :=
  if s.seq.tripCause = some .command then s.seqLockout .commandTrip
  else if s.seq.tripCause = some .lowBattery then s.seqLockout .lowBattery
  else if s.seq.tagPresent then s.seqLockout .tag
  else if s.seq.shot = s.sets.live.grp.shots then s.seqLockout .shotsExhausted
  else if s.seq.manualReclaim then s.seqLockout .shotsExhausted
  else s.seqOpenInterval

/-- R70: DRV reports the trip completed; ignored outside TRIPPING. -/
def State.seqTripDone (s : State) : State := if s.seq.state = .tripping then s.seqTripEnd else s

/-- R74, R86: DRV reports the close completed. -/
def State.seqCloseDone (s : State) : State :=
  match s.seq.state with
  | .closing => (s.emit (.reclose (s.seq.closeCause.getD .auto) s.seq.shot)).seqReclaim
  | .lockout => (s.seqUnexpected .closed).seqHandClose
  | .unknown => s
  | .ready => s
  | .tripping => s
  | .openInterval => s
  | .closeWait => s
  | .reclaim => s
  | .failed => s

/-- R74: DRV reports CLOSE_FAIL. -/
def State.seqCloseFailed (s : State) : State :=
  if s.seq.state = .closing then s.seqLockout .closeFailed else s

/-- R83: DRV reports the halt. -/
def State.seqHalted (s : State) : State := s.seqGoto .failed

/-- R83: DRV reports the restore; the first case that applies. -/
def State.seqRestored (s : State) : State :=
  if s.seq.state = .failed then
    if s.seq.handle = .pulled then s.seqLockout .handle
    else if s.seq.position = .opened ∧ s.seq.linkUp = true then s.seqLockout .restart
    else if s.seq.position = .closed ∧ s.seq.linkUp = true then (s.setShot 0).seqGoto .ready
    else s.seqGoto .unknown
  else s

/-! ## Placing trips (R69, R80, R84) -/

/-- A trip request in READY, RECLAIM or CLOSING: DRV takes it, SEQ enters TRIPPING with its cause,
and TRIP is emitted where the rule says so. A trip that completes at once is reported after that
(R91, R92). A refused request, which no run reaches there (R83), leaves SEQ as it is. DRV takes the
request within SEQ's own handling, so no close confirmation comes between the two: the order of R99 in
which DRV reports a close completed to a SEQ already in TRIPPING is never shown (DESIGN CHOICE, log
entry 55). -/
def State.placeTrip (c : TripCause) (announce : Option Flags4) (s : State) : State :=
  let ans := tripAnswer s.drv
  if ans = .refused then s
  else
    let s1 := ((s.drvTrip c).seqGoto .tripping).modSeq (fun q => { q with tripCause := some c })
    let s2 := match announce with
      | some f => s1.emit (.trip c s1.seq.shot f)
      | none => s1
    if ans = .completed then s2.seqTripDone else s2

/-- R69: a protection trip. -/
def State.seqProtect (s : State) : State :=
  if tripAnswer s.drv = .refused then s
  else (s.setShot (s.seq.shot + 1)).placeTrip .protection (some s.seq.lastOperate)

/-- R80, R84: a trip request passed on in UNKNOWN sets the restart trip mark if DRV accepts it. -/
def State.seqTripUnknown (c : TripCause) (m : RestartMark) (s : State) : State :=
  let ans := tripAnswer s.drv
  if ans = .accepted ∨ ans = .completed then
    (s.drvTrip c).modSeq (fun q => { q with restartMark := some m })
  else s

/-- R80: the outcome of a TRIP command. -/
def tripOutcome (s : State) : CmdOutcome :=
  match s.seq.state with
  | .ready => if tripAnswer s.drv = .refused then .state else .done
  | .reclaim => if tripAnswer s.drv = .refused then .state else .done
  | .closing => if tripAnswer s.drv = .refused then .state else .done
  | .openInterval => .done
  | .closeWait => .done
  | .tripping => .state
  | .lockout => .state
  | .unknown =>
    match tripAnswer s.drv with
    | .accepted => .done
    | .completed => .done
    | .inFlight => .state
    | .refused => .state
  | .failed => .state

/-- R80: the action of a TRIP command. -/
def State.seqTripCommand (s : State) : State :=
  match s.seq.state with
  | .ready => s.placeTrip .command (some noFlags)
  | .reclaim => s.placeTrip .command (some noFlags)
  | .closing => s.placeTrip .command none
  | .openInterval => s.seqLockout .commandTrip
  | .closeWait => s.seqLockout .commandTrip
  | .tripping => s
  | .lockout => s
  | .unknown => s.seqTripUnknown .command .command
  | .failed => s

/-- R84: the low-battery trip request. -/
def State.seqLowBattery (s : State) : State :=
  match s.seq.state with
  | .ready => s.placeTrip .lowBattery (some noFlags)
  | .reclaim => s.placeTrip .lowBattery (some noFlags)
  | .closing => s.placeTrip .lowBattery none
  | .tripping => s.modSeq (fun q => { q with tripCause := some .lowBattery })
  | .openInterval => s.seqLockout .lowBattery
  | .closeWait => s.seqLockout .lowBattery
  | .unknown => s.seqTripUnknown .lowBattery .lowBattery
  | .lockout => s
  | .failed => s

/-- R140: BAT sends the low-battery trip request and acts on SEQ's answer. -/
def State.lowBatteryRequest (s : State) : State := s.seqLowBattery.tellBat

/-! ## Placing closes (R72, R73, R81) -/

/-- SEQ enters CLOSING with a cause, DRV takes the request, and a close that completes at once is
reported. -/
def State.placeClose (c : CloseCause) (ans : CloseAnswer) (s : State) : State :=
  let s1 := ((s.drvClose c).seqGoto .closing).modSeq (fun q => { q with closeCause := some c })
  if ans = .completed then s1.seqCloseDone else s1

/-- R72: SEQ enters CLOSE_WAIT's check: when every condition holds it places a close with cause
AUTO; a refusal leaves it in CLOSE_WAIT with the remaining time (R73). -/
def State.checkClose (s : State) : State :=
  if s.seq.state = .closeWait ∧ closeConditionsMet s = true then
    match closeAnswer s with
    | .accepted => s.placeClose .auto .accepted
    | .completed => s.placeClose .auto .completed
    | .refusedState => s
    | .refusedEnergy => s
  else s

/-- R72: SEQ enters CLOSE_WAIT, starts its timer and checks the conditions. -/
def State.seqCloseWait (s : State) : State :=
  ((s.seqGoto .closeWait).startSeqTimer .closeWait (s.store.device.closeWait * 1000) false).checkClose

/-- R81: the outcome of a CLOSE command: SEQ's checks in order, then DRV's answer. -/
def closeOutcome (s : State) : CmdOutcome :=
  if s.seq.state ≠ .lockout then .state
  else if s.seq.noClosePresent = true ∨ s.seq.handle = .pulled then .tag
  else if s.seq.cap < s.store.device.capReserve then .energy
  else if s.seq.ready = .notReady ∨ s.seq.linkUp = false ∨ s.drv.state ≠ .idle then .state
  else
    match closeAnswer s with
    | .accepted => .done
    | .completed => .done
    | .refusedEnergy => .energy
    | .refusedState => .state

/-- R81: the action of a CLOSE command whose outcome is DONE: the manual reclaim of R76. -/
def State.seqCloseCommand (s : State) : State :=
  if closeOutcome s = .done then
    let ans := closeAnswer s
    ((s.setShot (s.sets.live.grp.shots - 1)).modSeq (fun q => { q with manualReclaim := true })
      ).placeClose .command ans
  else s

/-! ## Results from ELE (R68, R75, R77) -/

/-- R77: the episode after an E-step result with a pickup. -/
def openEpisode (e : Option Episode) (operate : Bool) : Episode :=
  match e with
  | none => ⟨1, operate⟩
  | some e => ⟨e.steps + 1, e.operated || operate⟩

/-- R77: the conditions of an advance at the end of an episode. -/
def advances (s : State) (e : Episode) : Bool :=
  s.sets.live.grp.coord && decide (2 ≤ e.steps) && !e.operated &&
    decide (s.seq.shot + 1 < s.sets.live.grp.shots)

/-- R77: the sequence advances. -/
def State.seqAdvance (s : State) : State :=
  let s1 := (s.setShot (s.seq.shot + 1)).seqReclaim
  s1.emit (.seqAdvance s1.seq.shot)

/-- R77: a result without an operate flag moves the pickup episode; its end may advance. -/
def State.seqEpisode (r : ElemResult) (s : State) : State :=
  if r.fromStep = false then s.modSeq (fun q => { q with episode := none })
  else if r.pickup.any then
    s.modSeq (fun q => { q with episode := some (openEpisode q.episode r.operate.any) })
  else
    match s.seq.episode with
    | none => s
    | some e =>
      let s1 := s.modSeq (fun q => { q with episode := none })
      if advances s e then s1.seqAdvance else s1

/-- R75: the reclaim timer is paused while a pickup flag is set. -/
def pauseTimer (pause : Bool) (t : Option SeqTimer) : Option SeqTimer :=
  t.map (fun t => { t with paused := pause })

/-- R65, R68, R69, R75, R77: a result reaches SEQ: the view first, then the action in its state. -/
def State.seqResult (r : ElemResult) (s : State) : State :=
  let s1 := s.modSeq (fun q => { q with lastPickup := r.pickup, lastOperate := r.operate })
  match s1.seq.state with
  | .ready => if r.operate.any then s1.seqProtect else s1.seqEpisode r
  | .reclaim =>
    if r.operate.any then s1.seqProtect
    else (s1.modSeq (fun q => { q with timer := pauseTimer r.pickup.any q.timer })).seqEpisode r
  | .unknown => s1
  | .tripping => s1
  | .openInterval => s1
  | .closeWait => s1
  | .closing => s1
  | .lockout => s1
  | .failed => s1

/-- R65, R72, R73: SEQ takes a result from ELE; in CLOSE_WAIT a last-result view that changed sets off
the check of the close conditions. (The result of a loading, R41, reaches SEQ while it is settled, and
so never in CLOSE_WAIT.) -/
def State.seqTakeResult (r : ElemResult) (s : State) : State :=
  let s1 := s.seqResult r
  if s1.seq.state = .closeWait ∧ s1.seq ≠ s.seq then s1.checkClose else s1

/-! ## Deliveries and other views (R65, R67, R78, R79, R82) -/

/-- R24, R37: ELE takes the delivery; a view that becomes OPEN and fresh clears every element and a
cleared result follows. -/
def State.elePosition (d : Delivery) (s : State) : State :=
  let fresh := d.position = .opened ∧ d.stale = false
  let was := s.ele.posView = .opened ∧ s.ele.posStale = false
  let s1 := s.modEle (fun e => { e with posView := d.position, posStale := d.stale })
  if fresh ∧ ¬ was then (s1.modEle clearElements).seqTakeResult clearResult else s1

/-- R79: the handle view changes from RETURNED to PULLED. In LOCKOUT with the reason HANDLE already
recorded, LOCKOUT(HANDLE) is emitted again (DEDUCED, log entry 47). -/
def State.seqHandle (before : Handle) (s : State) : State :=
  if before = .returned ∧ s.seq.handle = .pulled ∧ s.seq.state ≠ .failed then s.seqLockout .handle
  else s

/-- The lockout reason of R67 for contacts found open. -/
def restartReason : Option RestartMark → LockReason
  | none => .restart
  | some .command => .commandTrip
  | some .lowBattery => .lowBattery

/-- The trip cause that a restart trip mark stands for (R67). -/
def markCause : RestartMark → TripCause
  | .command => .command
  | .lowBattery => .lowBattery

/-- R67: SEQ leaves UNKNOWN on a fresh delivery. -/
def State.seqLeaveUnknown (d : Delivery) (s : State) : State :=
  if d.handle = .pulled then s.seqLockout .handle
  else
    match d.position with
    | .closed =>
      match s.seq.restartMark with
      | some m => (s.seqGoto .tripping).modSeq (fun q => { q with tripCause := some (markCause m) })
      | none => (s.setShot 0).seqGoto .ready
    | .opened => s.seqLockout (restartReason s.seq.restartMark)
    | .indeterminate => s

/-- R82: an unexpected OPEN in READY or RECLAIM, with the handle RETURNED. -/
def State.seqOpened (d : Delivery) (changed : Bool) (s : State) : State :=
  if changed ∧ d.position = .opened ∧ s.seq.handle = .returned then
    (s.seqUnexpected .opened).seqLockout .unexpectedOpen
  else s

/-- R82: an unexpected CLOSED in LOCKOUT, OPEN_INTERVAL or CLOSE_WAIT. -/
def State.seqClosed (d : Delivery) (changed : Bool) (s : State) : State :=
  if changed ∧ d.position = .closed then (s.seqUnexpected .closed).seqHandClose else s

/-- R82: SEQ acts on the position of a fresh delivery; `changed` says that the accepted position
differs from the view before it. -/
def State.seqPosition (d : Delivery) (changed : Bool) (s : State) : State :=
  if d.stale then s
  else
    match s.seq.state with
    | .unknown => s
    | .ready => s.seqOpened d changed
    | .reclaim => s.seqOpened d changed
    | .lockout => s.seqClosed d changed
    | .openInterval => s.seqClosed d changed
    | .closeWait => s.seqClosed d changed
    | .tripping => s
    | .closing => s
    | .failed => s

/-- R72: SEQ brings its views up to date, and in CLOSE_WAIT a view that changed sets off the check
of the close conditions. -/
def State.seqView (f : Seq → Seq) (s : State) : State :=
  let s1 := s.modSeq f
  if s1.seq = s.seq then s1 else s1.checkClose

/-- R65: the views that a delivery carries. -/
def deliveryViews (d : Delivery) (q : Seq) : Seq :=
  { q with position := d.position, handle := d.handle, ready := d.ready, linkUp := !d.stale
           capStale := d.stale }

/-- R65, R67, R79, R82: SEQ takes a delivery from SLR: the views first, ELE's copy of the position,
then the handle, then the position, then the close conditions. A fresh delivery in UNKNOWN is
decided by R67 alone. Where one delivery brings PULLED and CLOSED, the handle is taken first, as R79
says of an OPEN, and the manual reclaim of R82 follows the lockout (DEDUCED, log entry 42). In
CLOSE_WAIT a CLOSED begins its manual reclaim before the check of R72, which then finds SEQ in RECLAIM
(DESIGN CHOICE, log entry 46). -/
def State.seqDelivery (d : Delivery) (s : State) : State :=
  let changed := s.seq.position != d.position
  let before := s.seq.handle
  let viewed := decide (deliveryViews d s.seq ≠ s.seq)
  let s1 := (s.modSeq (deliveryViews d)).elePosition d
  let s2 :=
    if s1.seq.state = .unknown ∧ d.stale = false then s1.seqLeaveUnknown d
    else (s1.seqHandle before).seqPosition d changed
  if viewed then s2.checkClose else s2

/-- R13, R72: SEQ takes the capacitor voltage of a good frame. -/
def State.seqCap (v : Nat) (stale : Bool) (s : State) : State :=
  s.seqView (fun q => { q with cap := v, capStale := stale })

/-- R8: SLR reports a return of the link to UP. -/
def State.seqLinkUp (s : State) : State := s.seqView (fun q => { q with linkUp := true })

/-- R17: MEU's notice of the source. -/
def State.seqSource (live : Bool) (s : State) : State :=
  s.seqView (fun q => { q with sourceLive := live })

/-- R78, R100, column "a NO_CLOSE tag becomes present". In CLOSING the drive abandons the close first and
SEQ enters LOCKOUT after it, as R78 names the two, so that CLOSE_ABANDONED stands before the closing
LOCKOUT in one record, though R100 says that SEQ has already entered LOCKOUT (DESIGN CHOICE, log
entry 51). DRV takes the abandon within SEQ's own handling, so no close confirmation comes between the
two: the order of R78 and R100 in which a completion finds SEQ already in LOCKOUT is never shown (DESIGN
CHOICE, log entry 56). -/
def State.seqNoClose (s : State) : State :=
  match s.seq.state with
  | .closing => (s.abandonClose .noClose).seqLockout .tag
  | .openInterval => s.seqLockout .tag
  | .closeWait => s.seqLockout .tag
  | .ready => s
  | .reclaim => s
  | .tripping => s
  | .unknown => s
  | .lockout => s
  | .failed => s

/-- R78, column "a tag becomes present". -/
def State.seqAnyTag (s : State) : State :=
  match s.seq.state with
  | .openInterval => s.seqLockout .tag
  | .closeWait => s.seqLockout .tag
  | .closing => s.modSeq (fun q => { q with manualReclaim := true })
  | .ready => s
  | .reclaim => s
  | .tripping => s
  | .unknown => s
  | .lockout => s
  | .failed => s

/-- R78: SEQ takes LKU's notice of the tag table. -/
def State.seqTags (present noClose : Bool) (s : State) : State :=
  let newTag := present && !s.seq.tagPresent
  let newNoClose := noClose && !s.seq.noClosePresent
  let s1 := s.modSeq (fun q => { q with tagPresent := present, noClosePresent := noClose })
  if newNoClose then s1.seqNoClose
  else if newTag then s1.seqAnyTag
  else s1.checkClose

/-! ## Sequence timers (R71, R73, R75) -/

/-- A sequence timer of the given kind runs and is not paused. -/
def timerRuns (q : Seq) (k : SeqTimerKind) : Bool := q.timer.any (fun t => t.kind == k && !t.paused)

/-- R71: the open interval expires. -/
def State.seqIntervalEnd (s : State) : State := s.seqCloseWait

/-- R73: the close wait expires. -/
def State.seqWaitEnd (s : State) : State := s.seqLockout .closeWaitExpired

/-- R75: the reclaim time expires. -/
def State.seqReclaimEnd (s : State) : State :=
  (((s.emit (.sequenceReset s.seq.shot)).setShot 0).modSeq (fun q => { q with manualReclaim := false })
    ).seqGoto .ready

/-! ## Selections (R55, R58 to R60) -/

/-- R55, R41, R85: a live set is loaded: ELE clears every element, SEQ lowers a shot counter above
the new N and takes the cleared result. -/
def State.takeLive (l : LiveSet) (s : State) : State :=
  let s1 := s.modSets (fun c => { c with live := l, active := l.source })
  let s2 := s1.modEle clearElements
  let s3 := if l.grp.shots < s2.seq.shot then s2.setShot l.grp.shots else s2
  s3.seqResult clearResult

/-- R55: a selection is applied by loading: the live set, the write of the selection record,
GROUP_CHANGED. A RETURN also clears the return group (R58). -/
def State.applyLoad (g : Option Nat) (c : SelCause) (r : Option Reply) (s : State) : State :=
  let old := s.sets.active
  let s1 := s.takeLive (liveSetOf s.store g)
  let s2 := s1.modSets (fun k =>
    { k with pendingSel := none, ret := if c = .ret then none else k.ret })
  (s2.requestStore .selection r).emit (.groupChanged old s2.sets.active c)

/-- R58: a TAG or RETURN selection of the group already active completes without a loading. -/
def State.completeInPlace (c : SelCause) (s : State) : State :=
  let s1 := s.modSets (fun k =>
    { k with pendingSel := none, ret := if c = .ret then none else k.ret })
  if s1.sets.ret = s.sets.ret then s1 else s1.requestStore .selection none

/-- R58: the pending selection is applied. -/
def State.applyPending (s : State) : State :=
  match s.sets.pendingSel with
  | none => s
  | some (g, c) =>
    if (c = .tag ∨ c = .ret) ∧ g = s.sets.active then s.completeInPlace c
    else s.applyLoad g c none

/-- R58: a selection that becomes pending is applied at once while the view of SEQ is settled. -/
def State.applyIfSettled (s : State) : State := if s.sets.settledView then s.applyPending else s

/-- R59: the tag table has gone from empty to non-empty. -/
def State.setTagged (s : State) : State :=
  match s.store.device.tagGroup with
  | none => s
  | some g =>
    if (groupAt s.store g).isSome then
      let s1 := s.modSets (fun k =>
        { k with ret := some (k.ret.getD k.active), pendingSel := some (some g, .tag) })
      let s2 := if s1.sets.ret = s.sets.ret then s1 else s1.requestStore .selection none
      s2.applyIfSettled
    else s

/-- R60: the tag table has gone from non-empty to empty. -/
def State.setUntagged (s : State) : State :=
  match s.sets.ret with
  | none => s
  | some g =>
    if g = s.sets.active then
      (s.modSets (fun k => { k with pendingSel := some (g, .ret) })).completeInPlace .ret
    else (s.modSets (fun k => { k with pendingSel := some (g, .ret) })).applyIfSettled

/-! ## An arrival at SEQ as a whole (R56, R64, R140) -/

/-- R140: SEQ has come into READY or RECLAIM while the disconnect waits; BAT sends the request
again. -/
def State.resendTrip (before : SeqState) (s : State) : State :=
  if awaitsSeq s.bat ∧ s.seq.state ≠ before ∧ (s.seq.state = .ready ∨ s.seq.state = .reclaim) then
    s.lowBatteryRequest
  else s

/-- R56, R58, R64: SEQ hands SET a notice when it has become settled or ceased to be; at a settled
notice a pending selection is applied. The notice is handed over within SEQ's own arrival, before any
selection request that reaches SET together with it (DESIGN CHOICE, log entry 48). -/
def State.settleNotice (s : State) : State :=
  let now := seqSettled s
  if now = s.sets.settledView then s
  else
    let s1 := s.modSets (fun k => { k with settledView := now })
    if now then s1.applyPending else s1

/-- One arrival at SEQ, handled to its end: the action, BAT's answer to the state it leads to, and
one notice to SET (R64: a settled condition passed through gives none). -/
def State.seqArrive (f : State → State) (s : State) : State :=
  ((f s).resendTrip s.seq.state).settleNotice

end Sys2Proof.Machine
end

