-- ==== Sys2Proof/Machine/Lockout.lean ====
section
/-! DEFINITION. The crew lockout (Chapter 6): decided changes of the tag table, their completion and
notices (R109 to R114), the handle (R117), and the command gate (R119 to R121). -/

namespace Sys2Proof.Machine

/-! ## The tag table (R108 to R113) -/

/-- The tag of a crew. -/
def tagOf (ts : List Tag) (crew : Nat) : Option Tag := ts.find? (fun t => t.crew == crew)

/-- The table without the tag of a crew. -/
def dropTag (ts : List Tag) (crew : Nat) : List Tag := ts.filter (fun t => t.crew != crew)

/-- R111: a tag's kind becomes NO_CLOSE; its other fields stay. -/
def escalateTag (crew : Nat) (ts : List Tag) : List Tag :=
  ts.map (fun t => if t.crew = crew then { t with kind := .noClose } else t)

/-- A decided change, applied to a table. -/
def TagChange.apply (c : TagChange) (ts : List Tag) : List Tag :=
  match c with
  | .place t _ => ts ++ [t]
  | .escalate crew _ _ _ => escalateTag crew ts
  | .remove crew _ _ _ => dropTag ts crew
  | .expire crew => dropTag ts crew

/-- R109: LKU decides a change: it applies it to the staged table and requests a store operation. -/
def State.stageTag (c : TagChange) (s : State) : State :=
  (s.modLku (fun l => { l with staged := c.apply l.staged, changes := l.changes ++ [c] })
    ).requestStore .tags none

/-- R113: minutes of an expiry as a countdown in milliseconds. -/
def countdownMs (minutes : Nat) : Nat := minutes * 60000

/-- R109, R110: a placed tag takes its placed time at the moment it takes effect. -/
def placedNow (now : PartTime) : TagChange → TagChange
  | .place t r => .place { t with placed := now } r
  | .escalate c p l r => .escalate c p l r
  | .remove c p l r => .remove c p l r
  | .expire c => .expire c

/-- R110, R112, R113: the countdowns after a change has taken effect. -/
def countdownsAfter (c : TagChange) (cs : List (Nat × Nat)) : List (Nat × Nat) :=
  match c with
  | .place t _ =>
    match t.expiry with
    | some m => cs ++ [(t.crew, countdownMs m)]
    | none => cs
  | .escalate _ _ _ _ => cs
  | .remove crew _ _ _ => cs.filter (fun p => p.1 != crew)
  | .expire crew => cs.filter (fun p => p.1 != crew)

/-- R116: the event of a change, from the table before it. -/
def tagEvent (before : List Tag) : TagChange → Option Event
  | .place t _ => some (.tagPlaced t.crew t.kind t.port t.level (t.expiry.getD 0))
  | .escalate crew p l _ => (tagOf before crew).map (fun t => .tagEscalated crew t.port t.level p l)
  | .remove crew p l _ => (tagOf before crew).map (fun t => .tagRemoved crew t.kind p l)
  | .expire crew => (tagOf before crew).map (fun t => .tagExpired crew t.kind (t.expiry.getD 0))

/-- The response that a change owes. -/
def TagChange.reply : TagChange → Option Reply
  | .place _ r => r
  | .escalate _ _ _ r => r
  | .remove _ _ _ r => r
  | .expire _ => none

/-- R109: one change takes effect in the table in force and in the stored table; its placed time is
also that of the staged table. -/
def State.effectTag (c : TagChange) (s : State) : State :=
  let c' := placedNow s.fcu.time c
  let table := c'.apply s.lku.inForce
  (s.modLku (fun l =>
    { l with
      inForce := table
      staged := match c' with
        | .place t _ => l.staged.map (fun u => if u.crew = t.crew then { u with placed := t.placed } else u)
        | _ => l.staged
      countdowns := countdownsAfter c' l.countdowns })
    ).modStore (fun st => { st with tags := table })

/-- R109: every change takes effect in order; the events follow the notices. -/
def State.effectTags : List TagChange → State → State
  | [], s => s
  | c :: cs, s => (s.effectTag c).effectTags cs

/-- The events of changes in the order in which they were decided (R116). -/
def tagEvents : List TagChange → List Tag → List Event
  | [], _ => []
  | c :: cs, before => (tagEvent before c).toList ++ tagEvents cs (c.apply before)

/-- Events in order (R151). -/
def State.emitAll : List Event → State → State
  | [], s => s
  | e :: es, s => (s.emit e).emitAll es

/-- R109, R184: each change that came from a command is answered DONE. -/
def State.answerTags : List TagChange → State → State
  | [], s => s
  | c :: cs, s => (s.answer c.reply .done).answerTags cs

/-- R114: the notices of a completion, from the table before it; SEQ and SET take theirs in either
order (log entry 4). -/
def State.tagNotices (before : List Tag) (s : State) : State :=
  let now := s.lku.inForce
  let setNotice (s : State) : State :=
    if anyTag before = anyTag now then s else if anyTag now then s.setTagged else s.setUntagged
  let seqNotice (s : State) : State :=
    if anyTag before = anyTag now ∧ anyNoClose before = anyNoClose now then s
    else s.seqArrive (State.seqTags (anyTag now) (anyNoClose now))
  if s.order.setFirst then seqNotice (setNotice s) else setNotice (seqNotice s)

/-- R109, R114: a tag table write completes. -/
def State.tagsStored (cs : List TagChange) (s : State) : State :=
  let before := s.lku.inForce
  let s1 := (s.effectTags cs).tagNotices before
  (s1.emitAll (tagEvents cs before)).answerTags cs

/-- A staged removal of a crew's tag stands, in the staged table or in the write in flight. -/
def removalStaged (s : State) (crew : Nat) : Bool := (tagOf s.lku.staged crew).isNone

/-- R113: the countdown of a tag reaches its end; with a removal already staged it does nothing. The
countdown stands at 0 until the tag leaves the table in force (DEDUCED, log entry 54). -/
def State.tagExpires (crew : Nat) (s : State) : State :=
  let s1 := s.modLku (fun l =>
    { l with countdowns := l.countdowns.map (fun p => if p.1 = crew then (p.1, 0) else p) })
  if removalStaged s crew then s1 else s1.stageTag (.expire crew)

/-! ## The handle (R117) -/

/-- R117: LKU takes the handle of a delivery. -/
def State.lkuHandle (d : Delivery) (s : State) : State :=
  let old := s.lku.handle
  let s1 := s.modLku (fun l => { l with handle := d.handle, handleStale := d.stale })
  if old = d.handle then s1
  else
    match d.handle with
    | .pulled => s1.emit (.handlePulled d.position s1.lku.inForce.length)
    | .returned => s1.emit (.handleReturned d.position s1.lku.inForce.length)

/-! ## The gate (R120, R121) -/

/-- The port is among the allowed ports of a gate entry. -/
def GatePorts.allows : GatePorts → Port → Bool
  | .radio, .radio => true
  | .radio, .localPort => false
  | .localPort, .radio => false
  | .localPort, .localPort => true
  | .both, .radio => true
  | .both, .localPort => true

/-- The gate entry of a kind: the entries stand in the order of the kind codes (R194). -/
def gateEntry (t : List GateEntry) (k : CmdKind) : Option GateEntry := t[(kindCode k).toNat - 1]?

/-- R121: WRITE_GATES is executed only from the local port at effective level 0. -/
def gateWriteGates (p : Port) (level : Nat) : Option CmdOutcome :=
  if p = .radio then some .port else if level ≠ 0 then some .authority else none

/-- R120: the gate check; `none` where the command passes. -/
def gateCheck (t : List GateEntry) (k : Option CmdKind) (p : Port) (level : Nat) :
    Option CmdOutcome :=
  match k with
  | none => some .invalid
  | some .writeGates => gateWriteGates p level
  | some k =>
    match gateEntry t k with
    | none => some .invalid
    | some e =>
      if !e.isPresent then some .invalid
      else if !e.ports.allows p then some .port
      else if e.level < level then some .authority
      else none

end Sys2Proof.Machine
end

