-- ==== Sys2Proof/Machine/Sensor.lean ====
section
/-! DEFINITION. The sensor link (Chapter 1): frame slots, link states, debounced values, deliveries,
E-steps, and the forwarding of sample frames. -/

namespace Sys2Proof.Machine

/-! ## Deliveries (R12, R93, R98, R100) -/

/-- R93, R98: DRV's report of a confirmation reaches SEQ, and the recharge request follows the coil
drop. -/
def State.drvConfirm (news : Bool) (d : Delivery) (s : State) : State :=
  if confirmsTrip news d s.drv then (s.drvTripDone.seqArrive State.seqTripDone).raiseRecharge
  else if confirmsClose d s.drv then (s.drvCloseDone.seqArrive State.seqCloseDone).raiseRecharge
  else s

/-- R89, R93, R98, R100: DRV takes a delivery: its views first; a pulled handle abandons a close
before a confirmation is looked for (log entry 20). -/
def State.drvDelivery (d : Delivery) (s : State) : State :=
  let news := opensNow s.drv
  let s1 := s.drvViews d
  let s2 := if d.handle = .pulled then s1.abandonClose .handle else s1
  s2.drvConfirm news d

/-- R12: a delivery to SEQ, DRV and LKU. Which of SEQ and DRV takes it first is free (log entry
4). -/
def State.deliver (s : State) : State :=
  let d : Delivery := ⟨s.slr.position, s.slr.handle, s.slr.ready, linkStale s⟩
  let s1 :=
    if s.order.drvFirst then (s.drvDelivery d).seqArrive (State.seqDelivery d)
    else (s.seqArrive (State.seqDelivery d)).drvDelivery d
  s1.lkuHandle d

/-! ## The E-step (R14, R16, R17, R21) -/

/-- R16, R17: MEU computes the magnitudes and the presence of each phase. -/
def measure (g : Group) (m : Meu) : Meu :=
  let v := magnitudes m
  { m with mags := v, valid := true, liveA := presence g m.liveA v.va
           liveB := presence g m.liveB v.vb, liveC := presence g m.liveC v.vc }

/-- R152: RPB adds the maximum phase magnitude of the E-step to the profile. -/
def State.profileStep (m : Nat) (s : State) : State :=
  s.modRpb (fun b =>
    { b with profSum := b.profSum + m, profCount := satAdd 16777215 b.profCount 1 })

/-- R16, R17, R21, R34: one E-step: the magnitudes go to ELE, whose result goes to SEQ; a change of
the source is told to SEQ, and RPB takes the maximum phase magnitude. -/
def State.eStep (s : State) : State :=
  let wasLive := sourceLive s.meu
  let s1 := s.modMeu (measure s.sets.live.grp)
  let mags := s1.meu.mags
  let before := s1.ele
  let s2 := s1.modEle (eleStep s1.sets.live mags)
  let s3 := s2.seqArrive (State.seqTakeResult (stepResult before s2.ele))
  let live := sourceLive s1.meu
  let s4 := if wasLive = live then s3 else s3.seqArrive (State.seqSource live)
  s4.profileStep (maxPhase mags)

/-- R14: a slot ends a quarter cycle at a position that differs from that of the slot before it. -/
def endsQuarter (before : Option Nat) (pos : Nat) : Bool :=
  (pos == 7 || pos == 15 || pos == 23 || pos == 31) && before != some pos

/-- R39: the E-step and the delivery of one slot, in either order (log entry 4). -/
def State.stepAndDeliver (estep delivery : Bool) (s : State) : State :=
  let e (s : State) : State := if estep then s.eStep else s
  let d (s : State) : State := if delivery then s.deliver else s
  if s.order.deliveryFirst then e (d s) else d (e s)

/-! ## Missing frames (R4 to R7) -/

/-- R6: the link enters LOST: the windows are cleared, the magnitudes become invalid, the last good
frame is discarded, ELE is frozen (R40) and BAT is told (R129). -/
def State.loseLink (s : State) : State :=
  (((s.modSlr (fun r => { r with link := .lost, lastGood := none })).modMeu
      (fun m => { clearWindows m with valid := false })).modEle
    (fun e => { e with frozen := true })).updateSetpoints

/-- R5, R14, R15: a held slot: the last good frame's samples enter the windows, and the running
cycle position moves on by one. -/
def State.holdSlot (s : State) : State :=
  let s1 := match s.slr.lastGood with
    | some x => s.modMeu (fun m => pushSamples m x)
    | none => s
  s1.modSlr (fun r => { r with runPos := r.runPos.map (fun p => (p + 1) % 32) })

/-- R14: whether the held slot just taken is an E-step. -/
def heldStep (before : Option Nat) (s : State) : Bool :=
  s.slr.runPos.any (fun p => endsQuarter before p)

/-- R4, R10: the counts of a missing frame; every previous reading becomes absent. -/
def State.countMissing (s : State) : State :=
  s.modSlr (fun r =>
    { r with
      consecMissing := satAdd Config.missingLimit r.consecMissing 1
      totalMissing := satAdd 65535 r.totalMissing 1
      prevPosition := none, prevHandle := none, prevReady := none })

/-- R5 to R8: one missing frame takes its slot. -/
def State.missingSlot (s : State) : State :=
  let before := s.slr.runPos
  let s1 := s.countMissing
  match s1.slr.link with
  | .up =>
    if Config.missingLimit ≤ s1.slr.consecMissing then
      (s1.loseLink.emit (.sensorLost s1.slr.totalMissing)).deliver
    else
      let s2 := (s1.modSlr (fun r => { r with link := .holding })).updateSetpoints.holdSlot
      s2.stepAndDeliver (heldStep before s2) true
  | .holding =>
    if Config.missingLimit ≤ s1.slr.consecMissing then
      s1.loseLink.emit (.sensorLost s1.slr.totalMissing)
    else
      let s2 := s1.holdSlot
      s2.stepAndDeliver (heldStep before s2) false
  | .lost => s1
  | .refilling =>
    (s1.modSlr (fun r => { r with link := .lost })).modMeu clearWindows

/-- R4: several missing frames, one slot after another. -/
def State.missingSlots : Nat → State → State
  | 0, s => s
  | n + 1, s => s.missingSlot.missingSlots n

/-! ## Good frames (R5, R7, R10, R11) -/

/-- R7: the link state after a good frame, with the fill count it leaves. -/
def linkAfterGood (l : Link) (fill : Nat) : Link :=
  match l with
  | .up => .up
  | .holding => .up
  | .lost => .refilling
  | .refilling => if Config.windowSize ≤ fill then .up else .refilling

/-- The reading of the contact position (Table 1-3). -/
def readPosition (f : SampleFrame) : Position :=
  match f.closedSide, f.openSide with
  | true, false => .closed
  | false, true => .opened
  | true, true => .indeterminate
  | false, false => .indeterminate

/-- The reading of the handle (Table 1-3). -/
def readHandle (f : SampleFrame) : Handle := if f.pulled then .pulled else .returned

/-- The reading of mechanism-ready (Table 1-3). -/
def readReady (f : SampleFrame) : MechReady := if f.mechReady then .ready else .notReady

/-- R11: the accepted value after a good frame. -/
def accept {α : Type} [DecidableEq α] (up : Bool) (prev : Option α) (reading accepted : α) : α :=
  if up ∧ prev = some reading then reading else accepted

/-- R10, R11: the acceptance check of a good frame, then its readings become the previous ones. -/
def acceptValues (f : SampleFrame) (r : Slr) : Slr :=
  let up := r.link == .up
  { r with
    position := accept up r.prevPosition (readPosition f) r.position
    handle := accept up r.prevHandle (readHandle f) r.handle
    ready := accept up r.prevReady (readReady f) r.ready
    prevPosition := some (readPosition f), prevHandle := some (readHandle f)
    prevReady := some (readReady f) }

/-- An accepted value differs between two states of SLR. -/
def acceptedChange (a b : Slr) : Bool :=
  a.position != b.position || a.handle != b.handle || a.ready != b.ready

/-- R19, R20: a good frame may be taken for forwarding; an eighth taken frame closes the batch. -/
def State.forwardSample (f : SampleFrame) (s : State) : State :=
  if s.slr.decimation = 0 then s
  else
    let n := s.slr.takeCount + 1
    if n < s.slr.decimation then s.modSlr (fun r => { r with takeCount := n })
    else
      let batch := s.slr.batch ++ [f]
      if batch.length < 8 then s.modSlr (fun r => { r with takeCount := 0, batch := batch })
      else
        let s1 := s.modSlr (fun r => { r with takeCount := 0, batch := [] })
        s1.localSample (sampleFrame s1 batch)

/-- R5, R7, R14, R15: the link and the windows after a good slot. -/
def State.goodLink (f : SampleFrame) (s : State) : State :=
  let s1 := s.modMeu (fun m => pushSamples m f.samples)
  s1.modSlr (fun r =>
    { r with link := linkAfterGood r.link s1.meu.fill, consecMissing := 0
             lastGood := some f.samples, runPos := some f.pos })

/-- R8: what SLR tells its neighbours when a good frame brings the link to UP. -/
def State.linkUpNotices (before : Link) (s : State) : State :=
  if s.slr.link = .up ∧ before ≠ .up then
    let s1 := if before = .holding then s else s.emit (.sensorRestored s.slr.totalMissing)
    s1.updateSetpoints.seqArrive State.seqLinkUp
  else s

/-- A good frame takes its slot (R5, R7, R10 to R14, R18, R19), in the order of log entry 11. -/
def State.goodSlot (f : SampleFrame) (s : State) : State :=
  let before := s.slr.link
  let runBefore := s.slr.runPos
  let s1 := (s.goodLink f).linkUpNotices before
  let stale := linkStale s1
  let s2 := (s1.drvCap f.cap stale).seqArrive (State.seqCap f.cap stale)
  let old := s2.slr
  let s3 := s2.modSlr (acceptValues f)
  let delivery := (s3.slr.link == .up && before != .up) || acceptedChange old s3.slr
  let estep := s3.slr.link == .up && endsQuarter runBefore f.pos
  let s4 := s3.stepAndDeliver estep delivery
  (s4.takeAux f.pos f.aux).forwardSample f

/-! ## Receptions (R1, R2, R3) -/

/-- R2: the missing frames that a CRC-valid frame reveals. -/
def gapFrames (r : Slr) (seqNo : Nat) : Nat :=
  match r.lastSeq with
  | none => 0
  | some l => if r.link = .lost then 0 else (seqNo + 511 - l) % 256 - r.gapCount

/-- R2: the sequence accounting of a CRC-valid frame. -/
def State.accountSeq (seqNo : Nat) (s : State) : State :=
  (s.missingSlots (gapFrames s.slr seqNo)).modSlr (fun r =>
    { r with lastSeq := some seqNo, gapCount := 0 })

/-- The silence timer restarts (R1, R3). -/
def State.restartSilence (s : State) : State :=
  s.modSlr (fun r => { r with silenceLeft := Config.silenceTicks })

/-- A missing frame that adds one to k: a bad frame or a silence expiry (R2). -/
def State.declareMissing (s : State) : State :=
  (s.modSlr (fun r => { r with gapCount := r.gapCount + 1 })).missingSlot

/-- R1: a reception on SLINK_RX completes. -/
def State.sampleReceived (bytes : List Byte) (s : State) : State :=
  let s1 := s.restartSilence
  if sampleFrameOk bytes then
    let f := decodeSample bytes
    let s2 := s1.accountSeq f.seqNo
    if f.headFault then s2.missingSlot else s2.goodSlot f
  else s1.declareMissing

/-- R3: the silence timer expires. -/
def State.silenceExpired (s : State) : State := s.restartSilence.declareMissing

end Sys2Proof.Machine
end

