-- ==== Sys2Proof/Machine/Completion.lean ====
section
/-! DEFINITION. The completion of a store operation (R52): the new contents take effect, the block
that uses the table is handed them, the response is built, and the next waiting request starts. -/

namespace Sys2Proof.Machine

/-- The positions of the tables in Table 3-3. -/
def tableCurve : Nat := 0
/-- Settings group slots. -/
def tableGroup : Nat := 1
/-- Device record. -/
def tableDevice : Nat := 2
/-- Gate table. -/
def tableGates : Nat := 5
/-- Battery record. -/
def tableBattery : Nat := 6
/-- Radio record. -/
def tableRadio : Nat := 7
/-- Area partition. -/
def tableAreas : Nat := 8

/-- R52: the response DONE and SETTINGS_WRITTEN of a command's write. -/
def State.written (table index : Nat) (r : Option Reply) (s : State) : State :=
  (s.answer r .done).emit (.settingsWritten table index)

/-- R46, R47: a curve slot takes its contents. -/
def State.curveStored (slot : Nat) (c : Option Curve) (s : State) : State :=
  s.modStore (fun st => { st with curves := st.curves.set slot c })

/-- R50: a pending selection of a cleared group is dropped, and GROUP_REFUSED is emitted. -/
def State.dropPendingOf (slot : Nat) (s : State) : State :=
  if s.sets.pendingSel.any (fun p => p.1 == some slot) then
    (s.modSets (fun k => { k with pendingSel := none })).emit (.groupRefused slot)
  else s

/-- R49, R50: a group slot takes its contents. -/
def State.groupStored (slot : Nat) (g : Option Group) (s : State) : State :=
  let s1 := s.modStore (fun st => { st with groups := st.groups.set slot g })
  if g.isNone then s1.dropPendingOf slot else s1

/-- R54: the device record takes effect. -/
def State.deviceStored (d : DeviceRec) (s : State) : State :=
  s.modStore (fun st => { st with device := d })

/-- R123: BAT takes the battery record. A new capacity limits the charge; its SoC is not handed to
RPB, which R130 and R131 alone do. A test that has started since the write was accepted is judged by the
new R limit and test minimum voltage, where R138 says that the settings of a test cannot change under
it (DEDUCED, log entry 52). -/
def State.batteryStored (b : BatteryRec) (s : State) : State :=
  let old := s.store.battery
  let s1 := (s.modStore (fun st => { st with battery := b })).updateSetpoints
  let s2 :=
    if old.capacity = b.capacity then s1
    else ((s1.modBat (fun k => { k with estimated := true })).setQ (min s1.bat.q (qFull b))).evalShed
  if old.testHours = b.testHours then s2
  else s2.modBat (fun k => { k with intervalLeft := b.testHours * Config.hourMs })

/-- R155, R175, R176, R178: RPB and RPC take the radio record. -/
def State.radioStored (r : RadioRec) (s : State) : State :=
  let s1 := s.modStore (fun st => { st with radio := r })
  if r.unsolicited then s1.lookCandidate else s1.rpcDropUnsolicited

/-- R163, R164: an area is emptied; reports removed from the URGENT area are added to its lost
count. -/
def State.emptyArea (a : Area) (s : State) : State :=
  match a with
  | .response => s.modPkm (fun k => { k with response := [] })
  | .urgent =>
    (s.modRpb (fun b => { b with lostUrgent := satAdd 255 b.lostUrgent s.pkm.urgent.length })
      ).setUrgent []
  | .routine => s.modPkm (fun k => { k with routine := [] })
  | .forward => s.modPkm (fun k => { k with forward := [] })

/-- R164: all four areas are emptied and the new partition takes effect. -/
def State.areasStored (p : Partition) (s : State) : State :=
  ((((s.emptyArea .response).emptyArea .urgent).emptyArea .routine).emptyArea .forward).modStore
    (fun st => { st with areas := p })

/-- R52: what the completion of a write does, up to the start of the next request. SETTINGS_WRITTEN
names a table without an index with index 0 (DESIGN CHOICE, log entry 40). -/
def State.completeStore (b : StoreBody) (r : Option Reply) (s : State) : State :=
  match b with
  | .curve slot c => (s.curveStored slot c).written tableCurve slot r
  | .group slot g => (s.groupStored slot g).written tableGroup slot r
  | .device d => (s.deviceStored d).written tableDevice 0 r
  | .selection k => (s.modStore (fun st => { st with selection := k })).answer r .done
  | .tags _ cs => s.tagsStored cs
  | .gates t => (s.modStore (fun st => { st with gates := t })).written tableGates 0 r
  | .battery k => (s.batteryStored k).written tableBattery 0 r
  | .radio k => (s.radioStored k).written tableRadio 0 r
  | .areas p => (s.areasStored p).written tableAreas 0 r
  | .lastFailure f => s.modStore (fun st => { st with lastFailure := f })

/-- R51, R52: a store operation completes, and the store starts the oldest waiting request. An internal
request that the completion itself brings (SET's after a tag write) joins the wait list before the store
is free, and so starts before a command that waits at the head of the intake queue, where R51 allows
either order (DESIGN CHOICE, log entry 53). -/
def State.storeComplete (s : State) : State :=
  match s.store.inFlight with
  | none => s
  | some op => (s.completeStore op.body op.reply).storeFree

end Sys2Proof.Machine
end

