-- ==== Sys2Proof/Machine/Reset.lean ====
section
/-! DEFINITION. Resets (R188 to R190): what every reset leaves, and how each block reads its tables
from the durable store. -/

namespace Sys2Proof.Machine

/-- R53, R190: the durable tables are kept, no operation is in flight and the wait list is empty. -/
def keptStore (st : Store) : Store := { st with inFlight := none, waitList := [] }

/-- R189, R190: every block at its reset values with every output low or released, before the tables
are read. -/
def State.resetBlocks (s : State) : State :=
  { slr := slrReset, meu := meuReset, ele := eleReset, store := keptStore s.store, sets := setsReset
    seq := seqReset, drv := drvReset, lku := lkuReset, bat := batReset, sup := supReset
    rpb := rpbReset, pkm := pkmReset, rpc := rpcReset, fcu := fcuReset, lines := s.lines
    part := s.part, order := s.order, pending := s.pending }

/-- R62 step 3: the return interrupted by the reset: the tag table is empty and the record holds a
return group. -/
def returnInterrupted (st : Store) : Bool := st.tags.isEmpty && st.selection.ret.isSome

/-- R62, R55: SET reads the selection record and loads the live set, and requests the write of the
selection record that belongs to every loading (log entry 9). -/
def State.resetSets (s : State) : State :=
  let st := s.store
  let active := if returnInterrupted st then st.selection.ret.join else st.selection.active
  let ret := if returnInterrupted st then none else st.selection.ret
  let l := liveSetOf st active
  let s1 := s.modSets (fun k => { k with live := l, active := l.source, ret := ret })
  s1.requestStore .selection none

/-- R115: LKU restores the tag table and restarts every countdown in full. -/
def State.resetLku (s : State) : State :=
  s.modLku (fun l =>
    { l with
      inForce := s.store.tags, staged := s.store.tags
      countdowns := s.store.tags.filterMap (fun t => t.expiry.map (fun m => (t.crew, countdownMs m))) })

/-- R87: SEQ takes its tag view from the restored table. -/
def State.resetSeq (s : State) : State :=
  s.modSeq (fun q =>
    { q with tagPresent := anyTag s.store.tags, noClosePresent := anyNoClose s.store.tags })

/-- R124, R141: BAT takes the supply from the line and reads its record. With the supply absent the
shed level is evaluated from level 0 (DEDUCED, log entry 43). -/
def State.resetBat (s : State) : State :=
  let b := s.store.battery
  let present := s.lines.supplyPresent
  (s.modBat (fun k =>
    { k with
      supply := present
      absentSince := if present then none else some 0
      charger := if present then .bulk else .off
      absorbSet := setpoint b b.absorbV 250
      floatSet := setpoint b b.floatV 250
      q := qFull b / 2
      shed := if present then 0 else shedLevel b 50 0
      intervalLeft := b.testHours * Config.hourMs })).chargerPins

/-- R143, R167: the views of SUP and RPC equal BAT's values. -/
def State.resetViews (s : State) : State :=
  (s.modSup (fun u => { u with supply := s.bat.supply, shed := s.bat.shed })).modRpc
    (fun r => { r with supply := s.bat.supply, shed := s.bat.shed })

/-- R189: the qualification of a RESET_IN that stands asserted when the part starts (log entry
18). -/
def startQual (l : Lines) : Option Nat := if l.resetIn then some Config.resetQualMs else none

/-- R187, R190: the part starts: the blocks read their tables, RESTART is emitted (R165), and RPC
decides whether the radio is powered (R167). -/
def State.startPart (c : ResetCause) (s : State) : State :=
  let s1 := s.modPart (fun _ => { run := .running, resetQual := startQual s.lines })
  let s2 := s1.resetSets.resetLku.resetSeq.resetBat.resetViews
  (s2.emit (.restart c)).rpcPower

/-- A reset as a whole (R190). -/
def State.resetAs (c : ResetCause) (s : State) : State := s.resetBlocks.startPart c

/-- R189: RESET_IN is asserted; its 20 ms qualification begins. -/
def State.resetAsserted (s : State) : State :=
  let s1 := s.modLines (fun l => { l with resetIn := true })
  if s.lines.resetIn = false ∧ s.part.run = .running then
    s1.modPart (fun p => { p with resetQual := some Config.resetQualMs })
  else s1

/-- R189: RESET_IN has been asserted for 20 ms: the part is held in reset. -/
def State.resetTaken (s : State) : State :=
  if s.part.run = .running ∧ s.part.resetQual.isSome then
    s.resetBlocks.modPart (fun _ => { run := .held, resetQual := none })
  else s

/-- R189: RESET_IN is released: a part held in reset starts; a shorter assertion is ignored. -/
def State.resetReleased (s : State) : State :=
  let s1 := s.modLines (fun l => { l with resetIn := false })
  if s.part.run = .held then s1.resetAs .resetLine
  else s1.modPart (fun p => { p with resetQual := none })

/-- R189: the part's power rises. -/
def State.powerRise (s : State) : State := s.resetAs .powerOn

/-- R189: the part's power is lost; nothing runs until it returns. -/
def State.powerGone (s : State) : State :=
  s.resetBlocks.modPart (fun _ => { run := .unpowered, resetQual := none })

end Sys2Proof.Machine
end

