-- ==== Sys2Proof/Machine/Radio.lean ====
section
/-! DEFINITION. The radio channel (Chapter 10): sorting of received frames, polls, keying and
sending, holdoff and confirmation; and the intake of frames on both ports (R180 to R182). -/

namespace Sys2Proof.Machine

/-! ## Intake (R118, R182) -/

/-- R182: FCU appends an entry to the intake queue, or drops the command and counts it. -/
def State.intakeOffer (e : IntakeEntry) (s : State) : State :=
  if s.fcu.intake.length < Config.intakeTop then
    s.modFcu (fun f => { f with intake := f.intake ++ [e] })
  else
    match e.port with
    | .radio => s.modFcu (fun f => { f with dropRadio := satAdd 65535 f.dropRadio 1 })
    | .localPort => s.modFcu (fun f => { f with dropLocal := satAdd 65535 f.dropLocal 1 })

/-- The entry of a COMMAND frame, with its effective level (R118). -/
def entryOf (s : State) (p : Port) (f : Frame) : IntakeEntry :=
  { port := p, level := effectiveLevel s.store.device p (claimedLevel f.control)
    wantsReply := wantsReplyBit f.control, source := f.source, payload := f.payload }

/-- The receiver of a port (R180). -/
def Fcu.rx (f : Fcu) : Port → Receiver
  | .radio => f.rxRadio
  | .localPort => f.rxLocal

/-- The receiver of a port takes a state. -/
def State.setRx (p : Port) (r : Receiver) (s : State) : State :=
  match p with
  | .radio => s.modFcu (fun f => { f with rxRadio := r })
  | .localPort => s.modFcu (fun f => { f with rxLocal := r })

/-- R180: a dropped frame raises the bad-frame count of its port. -/
def State.badFrame (p : Port) (s : State) : State :=
  match p with
  | .radio => s.modFcu (fun f => { f with badRadio := satAdd 65535 f.badRadio 1 })
  | .localPort => s.modFcu (fun f => { f with badLocal := satAdd 65535 f.badLocal 1 })

/-! ## Polls (R171, R172) -/

/-- R172: the record chosen for a poll answer, and its frame, by the areas' contents and the shed
level view. -/
def pollAnswer (s : State) : Option (Area × Nat) × Frame :=
  match s.pkm.response.head?, s.pkm.urgent.head?, s.pkm.forward.head?, s.pkm.routine.head? with
  | some r, _, _, _ => (some (.response, r.id), r.frame)
  | none, some r, _, _ => (some (.urgent, r.id), reportFrame s r)
  | none, none, f, r =>
    match (if s.rpc.shed ≤ 1 then f else none), (if s.rpc.shed = 0 then r else none) with
    | some f, _ => (some (.forward, f.id), f.frame)
    | none, some r => (some (.routine, r.id), reportFrame s r)
    | none, none => (none, nullFrame s)

/-- R172, R176: the answer is in hand, the response window starts, RPC enters GRANT_WAIT and
requests RADIO_TX. -/
def State.takeAnswer (p : Purpose) (rec : Option (Area × Nat)) (f : Frame) (s : State) : State :=
  ((s.rpcGoto .grantWait).modRpc (fun r =>
    { r with answer := some ⟨p, rec, f⟩, windowLeft := some s.store.radio.windowMs })).request .radio

/-- R172: RPC answers a poll in LISTEN and HOLDOFF. -/
def State.answerPoll (s : State) : State :=
  if s.rpc.state = .listen ∨ s.rpc.state = .holdoff then
    let a := pollAnswer s
    s.takeAnswer .poll a.1 a.2
  else s

/-- RPC sorts frames in every state but OFF and WAKING (R170). -/
def RadioState.sorts : RadioState → Bool
  | .off => false
  | .waking => false
  | .listen => true
  | .holdoff => true
  | .grantWait => true
  | .keying => true
  | .sending => true

/-- R170, R171, R172: a POLL from the master to this station: counted, its acknowledgement taken,
then answered. -/
def State.pollTaken (payload : List Byte) (s : State) : State :=
  if s.rpc.state.sorts then
    ((s.modRpc (fun r => { r with polls := satAdd 65535 r.polls 1 })).acknowledge
      (pollAck payload)).answerPoll
  else s

/-- R170: RPC sorts a good frame from the radio port. -/
def State.sortRadio (f : Frame) (s : State) : State :=
  if !s.rpc.state.sorts then s
  else if f.dest ≠ s.store.device.station then s
  else if f.kind = kindPass then s.localSend .pass f
  else if f.source ≠ s.store.device.master then s
  else if f.kind = kindCommand then s.intakeOffer (entryOf s .radio f)
  else if f.kind = kindPoll then s.pollTaken f.payload
  else s

/-- R181: FCU sorts a good frame from the local port. -/
def State.sortLocal (f : Frame) (s : State) : State :=
  if f.dest = s.store.device.station then
    if f.kind = kindCommand then s.intakeOffer (entryOf s .localPort f) else s
  else s.appendForward f

/-- R180: a frame has ended at the receiver of a port: a good one is sorted, a dropped one counted. -/
def State.frameEnded (p : Port) (r : Reception) (s : State) : State :=
  match r with
  | .dropped => s.badFrame p
  | .good f =>
    match p with
    | .radio => s.sortRadio f
    | .localPort => s.sortLocal f

/-! ## Keying and sending (R173) -/

/-- R173: the response window runs out in GRANT_WAIT. -/
def State.windowExpired (s : State) : State :=
  if s.rpc.state = .grantWait ∧ s.rpc.windowLeft.isSome then (s.rpcWithdraw .listen).lookCandidate
  else s

/-- R173: the key-up delay runs out. -/
def State.keyExpired (s : State) : State :=
  if s.rpc.state = .keying ∧ s.rpc.keyLeft.isSome then s.rpcGoto .sending else s

/-- A queue without the record of an identity. -/
def withoutFrame (id : Nat) (q : List FrameRec) : List FrameRec := q.filter (fun r => r.id != id)

/-- R177: an unsolicited frame has ended with its report in the area: the attempt is counted, the
report awaits confirmation and the confirm timer starts. -/
def State.markSent (id : Nat) (s : State) : State :=
  if s.pkm.urgent.any (fun r => r.id == id) then
    (s.modPkm (fun k =>
      { k with urgent := k.urgent.map (fun r =>
          if r.id = id then
            { r with attempts := satAdd Config.attemptTop r.attempts 1, awaiting := true }
          else r) })).modRpc (fun r => { r with confirmLeft := some (s.store.radio.confirmS * 1000) })
  else s

/-- R173 step 2: the record is settled by the area it came from, looked up by its identity. -/
def State.settleRecord (a : Answer) (s : State) : State :=
  match a.record with
  | none => s
  | some (.response, id) => s.modPkm (fun k => { k with response := withoutFrame id k.response })
  | some (.forward, id) => s.modPkm (fun k => { k with forward := withoutFrame id k.forward })
  | some (.routine, id) =>
    s.modPkm (fun k => { k with routine := k.routine.filter (fun r => r.id != id) })
  | some (.urgent, id) => if a.purpose = .unsolicited then s.markSent id else s

/-- R173 step 3: the count of the purpose. -/
def State.countSent (p : Purpose) (s : State) : State :=
  match p with
  | .poll => s.modRpc (fun r => { r with answered := satAdd 65535 r.answered 1 })
  | .unsolicited => s.modRpc (fun r => { r with unsolicited := satAdd 65535 r.unsolicited 1 })

/-- R173: the last byte of the frame has left RADIO_TX. -/
def State.frameSent (s : State) : State :=
  if s.rpc.state = .sending then
    let s1 := (s.modRpc (fun r => { r with radioKey := false })).release .radio
    match s.rpc.answer with
    | some a => ((s1.settleRecord a).countSent a.purpose).rpcRest
    | none => s1.rpcRest
  else s

/-! ## Holdoff and confirmation (R176, R177) -/

/-- R176: the holdoff timer runs out. -/
def State.holdoffExpired (s : State) : State :=
  if s.rpc.state = .holdoff ∧ (s.rpc.holdoff.bind (fun h => h.left)).isSome then
    match candidate s with
    | some r => s.takeAnswer .unsolicited (some (.urgent, r.id)) (reportFrame s r)
    | none => s.rpcListen
  else s

/-- R177: the confirm timer runs out. -/
def State.confirmExpired (s : State) : State :=
  if s.rpc.confirmLeft.isSome then
    ((s.modPkm (fun k =>
      { k with urgent := k.urgent.map (fun r => { r with awaiting := false }) })).modRpc
      (fun r => { r with confirmLeft := none })).lookCandidate
  else s

end Sys2Proof.Machine
end

