-- ==== Sys2Proof/Machine/Commands.lean ====
section
/-! DEFINITION. The commands of Table 11-3: their execution at the head of the intake queue (R183),
and one meaning per row, its arrival (R182). A payload of the wrong length or with an enumeration code outside its list
is refused INVALID first, then the rule's own checks follow in their order (log entry 28). -/

namespace Sys2Proof.Machine

/-! ## The conditions of an execution (R183) -/

/-- R183 condition 1: a response for the port may be built later. -/
def responseFits (s : State) (e : IntakeEntry) : Bool :=
  !e.wantsReply ||
    (match e.port with
     | .radio => !s.fcu.outRadio && responseRoom s
     | .localPort => !s.fcu.outLocal && localRoom s.fcu.localQ)

/-- R183 condition 2: a kind that may write a table waits for the store. -/
def storeFits (s : State) (e : IntakeEntry) : Bool :=
  !(entryKind e).any needsStore || storeIdle s.store

/-- R183: every condition that applies to an entry at the head holds. -/
def executable (s : State) (e : IntakeEntry) : Bool := responseFits s e && storeFits s e

/-- The response that an executed entry will have (R184, R192): a local one goes to the entry's
source, a radio one to the master; both from the station address as it stands now. -/
def replyOf (s : State) (e : IntakeEntry) : Option Reply :=
  if e.wantsReply then
    some { port := e.port, kind := e.payload.headD 0#8, source := s.store.device.station
           dest := match e.port with
             | .radio => s.store.device.master
             | .localPort => e.source }
  else none

/-- R183: the response of an executed entry becomes outstanding; a local one reserves its place. -/
def State.markOutstanding (e : IntakeEntry) (s : State) : State :=
  if e.wantsReply then
    match e.port with
    | .radio => s.modFcu (fun f => { f with outRadio := true })
    | .localPort => (s.modFcu (fun f => { f with outLocal := true })).localReserve
  else s

/-- What the block that owns a command does with its entry and the response it owes. -/
abbrev Body := IntakeEntry → Option Reply → State → State

/-- An entry with the level that intake gives it (R118). -/
def atIntake (s : State) (e : IntakeEntry) : IntakeEntry :=
  { e with level := effectiveLevel s.store.device e.port e.level }

/-- The intake entry of a command row of a known kind. -/
def rowEntry (h : CmdHead) (k : CmdKind) (payload : List Byte) : IntakeEntry :=
  { port := h.port, level := h.level, wantsReply := h.wantsReply, source := h.source
    payload := kindCode k :: payload }

/-- The fields of an entry, after the kind byte. -/
def IntakeEntry.args (e : IntakeEntry) : List Byte := e.payload.tail

/-! ## READ_STATUS, READ_TABLE, SET_TIME, SAMPLE_FORWARD (R185, R187, R19) -/

/-- R185: one section of status, read before the response is placed: the response being built shows as
outstanding, and its local place as reserved (DEDUCED, log entry 49). -/
def bodyReadStatus : Body := fun e r s =>
  match (readByte e.args).bind (statusSection s) with
  | some data => s.answerWith r .done data
  | none => s.answer r .invalid

/-- R63, R185: one table. -/
def bodyReadTable : Body := fun e r s =>
  match (readTableArgs e.args).bind (fun a => tableBytes s a.1 a.2) with
  | some data => s.answerWith r .done data
  | none => s.answer r .invalid

/-- R187: the part time is set, and RPC re-evaluates its listen window at once (R168). -/
def bodySetTime : Body := fun e r s =>
  match readSetTime e.args with
  | some (secs, ms) =>
    ((s.modFcu (fun f => { f with time := ⟨secs, ms, true⟩ })).rpcPower).answer r .done
  | none => s.answer r .invalid

/-- R19: SLR takes a new decimation. -/
def State.setDecimation (d : Nat) (s : State) : State :=
  s.modSlr (fun l =>
    { l with decimation := d, takeCount := 0, batch := []
             droppedCount := if d = 0 then 0 else satAdd 65535 l.droppedCount l.batch.length })

/-- R185, R19: SAMPLE_FORWARD. -/
def bodySampleForward : Body := fun e r s =>
  match readDecimation e.args with
  | some d => (s.setDecimation d).answer r .done
  | none => s.answer r .invalid

/-! ## SELECT_GROUP (R57) -/

/-- R57 step 5: the selection becomes pending; a replaced RETURN clears the return group. -/
def State.pendSelection (g : Nat) (s : State) : State :=
  let wasReturn := s.sets.pendingSel.any (fun p => p.2 == .ret)
  let s1 := s.modSets (fun k => { k with pendingSel := some (some g, .command) })
  if wasReturn then
    (s1.modSets (fun k => { k with ret := none })).requestStore .selection none
  else s1

/-- R57: SELECT_GROUP, in its order. -/
def bodySelectGroup : Body := fun e r s =>
  match readByte e.args with
  | none => s.answer r .invalid
  | some g =>
    if 3 < g then s.answer r .invalid
    else if anyTag s.lku.inForce then s.answer r .tag
    else if (groupAt s.store g).isNone then s.answer r .invalid
    else if s.sets.settledView then s.applyLoad (some g) .command r
    else (s.pendSelection g).answer r .pending

/-! ## TRIP and CLOSE (R80, R81) -/

/-- R80: TRIP. -/
def bodyTrip : Body := fun e r s =>
  if noFields e.args then (s.seqArrive State.seqTripCommand).answer r (tripOutcome s)
  else s.answer r .invalid

/-- R81: CLOSE. -/
def bodyClose : Body := fun e r s =>
  if noFields e.args then (s.seqArrive State.seqCloseCommand).answer r (closeOutcome s)
  else s.answer r .invalid

/-! ## PLACE_TAG and REMOVE_TAG (R110 to R112) -/

/-- R111: a PLACE_TAG on a crew that has a tag in force: staged as an escalation, or refused. -/
def placeOnTag (t : Tag) (kind : TagKind) (level : Nat) : Option CmdOutcome :=
  if t.kind = kind then some .duplicate
  else
    match kind with
    | .noReclose => some .state
    | .noClose => if level ≤ t.level then none else some .authority

/-- R110: the tag that a PLACE_TAG stages. -/
def newTag (s : State) (e : IntakeEntry) (crew : Nat) (kind : TagKind) (expiry : Option Nat) : Tag :=
  { crew := crew, kind := kind, port := e.port, level := e.level, placed := s.fcu.time
    expiry := expiry }

/-- R110, R111: PLACE_TAG. -/
def bodyPlaceTag : Body := fun e r s =>
  match readPlaceTag e.args with
  | none => s.answer r .invalid
  | some (crew, kind, expiry) =>
    match tagOf s.lku.inForce crew with
    | some t =>
      match placeOnTag t kind e.level with
      | some o => s.answer r o
      | none => s.stageTag (.escalate crew e.port e.level r)
    | none =>
      if Config.tagTop ≤ s.lku.inForce.length then s.answer r .full
      else s.stageTag (.place (newTag s e crew kind expiry) r)

/-- R112 steps 3 to 5: the removal is allowed. -/
def mayRemove (t : Tag) (p : Port) (level : Nat) : Bool :=
  (p == t.port && level ≤ t.level) || level == 0

/-- R112: REMOVE_TAG. -/
def bodyRemoveTag : Body := fun e r s =>
  match readRemoveTag e.args with
  | none => s.answer r .invalid
  | some crew =>
    match tagOf s.lku.inForce crew with
    | none => s.answer r .notFound
    | some t =>
      if mayRemove t e.port e.level then s.stageTag (.remove crew e.port e.level r)
      else s.answer r .authority

/-! ## TEST_START and TEST_CANCEL (R138) -/

/-- R138: TEST_START. -/
def bodyTestStart : Body := fun e r s =>
  if !noFields e.args then s.answer r .invalid
  else if s.bat.test ≠ .idle then s.answer r .busy
  else if mayStartTest s then (s.startTest .command).answer r .done
  else s.answer r .state

/-- R138: TEST_CANCEL. -/
def bodyTestCancel : Body := fun e r s =>
  if !noFields e.args then s.answer r .invalid
  else if s.bat.test = .idle then s.answer r .state
  else s.cancelTest.answer r .done

/-! ## Writes of settings (R46 to R50, R54, R123, R178, R164, R121) -/

/-- R46: WRITE_CURVE. -/
def bodyWriteCurve : Body := fun e r s =>
  match readCurve e.args with
  | some (slot, c) => s.startStore (.curve slot (some c)) r
  | none => s.answer r .invalid

/-- R47: CLEAR_CURVE. -/
def bodyClearCurve : Body := fun e r s =>
  match readByte e.args with
  | none => s.answer r .invalid
  | some slot =>
    if 15 < slot then s.answer r .invalid
    else if (curveAt s.store slot).isNone then s.answer r .notFound
    else if curveNamed s.store slot then s.answer r .inUse
    else s.startStore (.curve slot none) r

/-- R50: a clear indication for a group slot. -/
def State.clearGroup (slot : Nat) (r : Option Reply) (s : State) : State :=
  if 3 < slot then s.answer r .invalid
  else if (groupAt s.store slot).isNone then s.answer r .notFound
  else if s.sets.active = some slot ∨ s.sets.ret = some (some slot) then s.answer r .inUse
  else s.startStore (.group slot none) r

/-- R49, R50: WRITE_GROUP. -/
def bodyWriteGroup : Body := fun e r s =>
  match readGroup e.args with
  | some (.contents slot g) =>
    if curvesPresent s.store g then s.startStore (.group slot (some g)) r else s.answer r .invalid
  | some (.clear slot) => s.clearGroup slot r
  | none => s.answer r .invalid

/-- R54: WRITE_DEVICE. -/
def bodyWriteDevice : Body := fun e r s =>
  match readDevice e.args with
  | some d => s.startStore (.device d) r
  | none => s.answer r .invalid

/-- R123: WRITE_BATTERY. -/
def bodyWriteBattery : Body := fun e r s =>
  match readBattery e.args with
  | none => s.answer r .invalid
  | some b =>
    if s.bat.test ≠ .idle then s.answer r .busy
    else if batteryOk b then s.startStore (.battery b) r
    else s.answer r .invalid

/-- R178: WRITE_RADIO. -/
def bodyWriteRadio : Body := fun e r s =>
  match readRadio e.args with
  | some k => s.startStore (.radio k) r
  | none => s.answer r .invalid

/-- R164: WRITE_AREAS. -/
def bodyWriteAreas : Body := fun e r s =>
  match readAreas e.args with
  | some p => s.startStore (.areas p) r
  | none => s.answer r .invalid

/-- R121: WRITE_GATES, after its fixed gate. -/
def bodyWriteGates : Body := fun e r s =>
  match readGates e.args with
  | some t => s.startStore (.gates t) r
  | none => s.answer r .invalid

/-! ## FLUSH_CLASS, DRIVE_RESTORE, RESTART (R163, R102, R188) -/

/-- R163: FLUSH_CLASS. -/
def bodyFlushClass : Body := fun e r s =>
  match readArea e.args with
  | some a => (s.emptyArea a).answer r .done
  | none => s.answer r .invalid

/-- R102: DRIVE_RESTORE. -/
def bodyDriveRestore : Body := fun e r s =>
  if !noFields e.args then s.answer r .invalid
  else
    match s.drv.state with
    | .halted => (s.drvRestore.seqArrive State.seqRestored).answer r .done
    | .idle => s.drvRestore.answer r .done
    | .tripMain => s.answer r .busy
    | .tripBackup => s.answer r .busy
    | .closeActive => s.answer r .busy

/-- R188: RESTART. -/
def bodyRestart : Body := fun e r s =>
  if !noFields e.args then s.answer r .invalid
  else if s.drv.state = .idle ∧ storeIdle s.store = true then s.resetAs .command
  else s.answer r .busy

/-- R194: an unknown kind does not pass the gate; nothing owns it. -/
def bodyUnknown : Body := fun _ r s => s.answer r .invalid

/-! ## Execution at the head of the intake queue (R120, R183) -/

/-- The owner of a command, by its kind (Table 11-3). -/
def bodyOf : Option CmdKind → Body
  | none => bodyUnknown
  | some .readStatus => bodyReadStatus
  | some .readTable => bodyReadTable
  | some .selectGroup => bodySelectGroup
  | some .setTime => bodySetTime
  | some .sampleForward => bodySampleForward
  | some .trip => bodyTrip
  | some .close => bodyClose
  | some .placeTag => bodyPlaceTag
  | some .removeTag => bodyRemoveTag
  | some .testStart => bodyTestStart
  | some .testCancel => bodyTestCancel
  | some .writeCurve => bodyWriteCurve
  | some .clearCurve => bodyClearCurve
  | some .writeGroup => bodyWriteGroup
  | some .writeDevice => bodyWriteDevice
  | some .writeBattery => bodyWriteBattery
  | some .writeRadio => bodyWriteRadio
  | some .writeAreas => bodyWriteAreas
  | some .flushClass => bodyFlushClass
  | some .driveRestore => bodyDriveRestore
  | some .restart => bodyRestart
  | some .writeGates => bodyWriteGates

/-- R120, R183: the head leaves the queue, its response becomes outstanding, the gate is checked,
and a command that passes goes to its owner. -/
def State.executeHead (e : IntakeEntry) (rest : List IntakeEntry) (s : State) : State :=
  let r := replyOf s e
  let s1 := (s.modFcu (fun f => { f with intake := rest })).markOutstanding e
  match gateCheck s1.store.gates (entryKind e) e.port e.level with
  | some o => s1.answer r o
  | none => bodyOf (entryKind e) e r s1

/-- R183: the head is executed while its conditions hold, at most `n` times. -/
def State.serveHeads : Nat → State → State
  | 0, s => s
  | n + 1, s =>
    match s.fcu.intake with
    | [] => s
    | e :: rest => if executable s e then (s.executeHead e rest).serveHeads n else s

/-- R183: FCU looks at the head of the intake queue, and executes one entry after another for as long
as the conditions of the head hold. Nothing that is executed adds an entry. -/
def State.serve (s : State) : State := s.serveHeads s.fcu.intake.length

/-- What a row does in a part that runs: its own effect, then FCU looks at the intake queue, whose
conditions the row may have changed (R183, log entry 29). A part that is held in reset or has no
power takes no arrival and runs no timer (R189). -/
def whenRunning (f : State → State) (s : State) : State :=
  if s.part.run = .running then (f s).serve else s

/-! ## The rows -/

/-- A row sent to the part. -/
abbrev Outcome := Host.Outcome State Fault Refusal

/-- R182: the entry of a command row arrives with its effective level (log entry 2). -/
def State.offerRow (e : IntakeEntry) (s : State) : State := s.intakeOffer (atIntake s e)

/-- A command row of a known kind: its entry arrives, and is executed as soon as R183 allows. -/
def commandRow (h : CmdHead) (k : CmdKind) (payload : List Byte) (s : State) : Outcome :=
  .next (whenRunning (State.offerRow (rowEntry h k payload)) s)

/-- READ_STATUS (R185). -/
def execReadStatus (h : CmdHead) (payload : List Byte) (s : State) : Outcome :=
  commandRow h .readStatus payload s

/-- READ_TABLE (R63, R185). -/
def execReadTable (h : CmdHead) (payload : List Byte) (s : State) : Outcome :=
  commandRow h .readTable payload s

/-- SELECT_GROUP (R57). -/
def execSelectGroup (h : CmdHead) (payload : List Byte) (s : State) : Outcome :=
  commandRow h .selectGroup payload s

/-- SET_TIME (R187). -/
def execSetTime (h : CmdHead) (payload : List Byte) (s : State) : Outcome :=
  commandRow h .setTime payload s

/-- SAMPLE_FORWARD (R185, R19). -/
def execSampleForward (h : CmdHead) (payload : List Byte) (s : State) : Outcome :=
  commandRow h .sampleForward payload s

/-- TRIP (R80). -/
def execTrip (h : CmdHead) (payload : List Byte) (s : State) : Outcome :=
  commandRow h .trip payload s

/-- CLOSE (R81). -/
def execClose (h : CmdHead) (payload : List Byte) (s : State) : Outcome :=
  commandRow h .close payload s

/-- PLACE_TAG (R110, R111). -/
def execPlaceTag (h : CmdHead) (payload : List Byte) (s : State) : Outcome :=
  commandRow h .placeTag payload s

/-- REMOVE_TAG (R112). -/
def execRemoveTag (h : CmdHead) (payload : List Byte) (s : State) : Outcome :=
  commandRow h .removeTag payload s

/-- TEST_START (R138). -/
def execTestStart (h : CmdHead) (payload : List Byte) (s : State) : Outcome :=
  commandRow h .testStart payload s

/-- TEST_CANCEL (R138). -/
def execTestCancel (h : CmdHead) (payload : List Byte) (s : State) : Outcome :=
  commandRow h .testCancel payload s

/-- WRITE_CURVE (R46). -/
def execWriteCurve (h : CmdHead) (payload : List Byte) (s : State) : Outcome :=
  commandRow h .writeCurve payload s

/-- CLEAR_CURVE (R47). -/
def execClearCurve (h : CmdHead) (payload : List Byte) (s : State) : Outcome :=
  commandRow h .clearCurve payload s

/-- WRITE_GROUP (R49). -/
def execWriteGroup (h : CmdHead) (payload : List Byte) (s : State) : Outcome :=
  commandRow h .writeGroup payload s

/-- WRITE_GROUP_CLEAR (R50): the slot byte followed by 0xFF (R196). -/
def execWriteGroupClear (h : CmdHead) (slot : Byte) (s : State) : Outcome :=
  commandRow h .writeGroup [slot, 0xFF#8] s

/-- WRITE_DEVICE (R54). -/
def execWriteDevice (h : CmdHead) (payload : List Byte) (s : State) : Outcome :=
  commandRow h .writeDevice payload s

/-- WRITE_BATTERY (R123). -/
def execWriteBattery (h : CmdHead) (payload : List Byte) (s : State) : Outcome :=
  commandRow h .writeBattery payload s

/-- WRITE_RADIO (R178). -/
def execWriteRadio (h : CmdHead) (payload : List Byte) (s : State) : Outcome :=
  commandRow h .writeRadio payload s

/-- WRITE_AREAS (R164). -/
def execWriteAreas (h : CmdHead) (payload : List Byte) (s : State) : Outcome :=
  commandRow h .writeAreas payload s

/-- FLUSH_CLASS (R163). -/
def execFlushClass (h : CmdHead) (payload : List Byte) (s : State) : Outcome :=
  commandRow h .flushClass payload s

/-- DRIVE_RESTORE (R102). -/
def execDriveRestore (h : CmdHead) (payload : List Byte) (s : State) : Outcome :=
  commandRow h .driveRestore payload s

/-- RESTART (R188). -/
def execRestart (h : CmdHead) (payload : List Byte) (s : State) : Outcome :=
  commandRow h .restart payload s

/-- WRITE_GATES (R121). -/
def execWriteGates (h : CmdHead) (payload : List Byte) (s : State) : Outcome :=
  commandRow h .writeGates payload s

/-- UNKNOWN_COMMAND (R120, R194): the whole payload, empty or with an unknown kind byte. -/
def execUnknownCommand (h : CmdHead) (payload : List Byte) (s : State) : Outcome :=
  .next (whenRunning (State.offerRow
    { port := h.port, level := h.level, wantsReply := h.wantsReply, source := h.source
      payload := payload }) s)

end Sys2Proof.Machine
end

