-- ==== Sys2Proof/Machine/Arrivals.lean ====
section
/-! DEFINITION. The rows that are arrivals, line changes and the ends of the part's timers: one
meaning each. A timer's expiry is taken while its timer runs; no time passes in the row (log entry
3). A timer that does not run leaves the part as it is. -/

namespace Sys2Proof.Machine

/-! ## Sensor link -/

/-- SAMPLE_FRAME_RECEIVED (R1). -/
def execSampleFrameReceived (bytes : List Byte) (s : State) : Outcome :=
  .next (whenRunning (State.sampleReceived bytes) s)

/-- SILENCE_TIMER_EXPIRY (R3). -/
def execSilenceTimerExpiry (s : State) : Outcome := .next (whenRunning State.silenceExpired s)

/-! ## Sequence timers -/

/-- An expiry of a sequence timer that runs and is not paused. -/
def State.seqExpiry (k : SeqTimerKind) (f : State → State) (s : State) : State :=
  if timerRuns s.seq k then s.seqArrive f else s

/-- OPEN_INTERVAL_EXPIRY (R71, R72). -/
def execOpenIntervalExpiry (s : State) : Outcome :=
  .next (whenRunning (State.seqExpiry .openInterval State.seqIntervalEnd) s)

/-- CLOSE_WAIT_EXPIRY (R73). -/
def execCloseWaitExpiry (s : State) : Outcome :=
  .next (whenRunning (State.seqExpiry .closeWait State.seqWaitEnd) s)

/-- RECLAIM_EXPIRY (R75). -/
def execReclaimExpiry (s : State) : Outcome :=
  .next (whenRunning (State.seqExpiry .reclaim State.seqReclaimEnd) s)

/-! ## Travel monitors -/

/-- R94, R95: the end of a trip monitor period: the first period changes coil or is extended, the
backup or the extended period halts the drive, which is reported to SEQ (R83). -/
def State.tripMonitorEnd (s : State) : State :=
  if s.drv.monitor.isNone then s
  else
    match s.drv.state with
    | .tripMain =>
      if s.drv.op.any (fun o => o.extended) then
        (s.drvHalt.seqArrive State.seqHalted).raiseRecharge
      else s.firstPeriod
    | .tripBackup => (s.drvHalt.seqArrive State.seqHalted).raiseRecharge
    | .idle => s
    | .closeActive => s
    | .halted => s

/-- R98: the close monitor ends without confirmation; CLOSE_FAIL is reported to SEQ. -/
def State.closeMonitorEnd (s : State) : State :=
  if s.drv.monitor.isSome ∧ s.drv.state = .closeActive then
    (s.drvCloseFail.seqArrive State.seqCloseFailed).raiseRecharge
  else s

/-- TRIP_MONITOR_EXPIRY (R94, R95). -/
def execTripMonitorExpiry (s : State) : Outcome := .next (whenRunning State.tripMonitorEnd s)

/-- CLOSE_MONITOR_EXPIRY (R98). -/
def execCloseMonitorExpiry (s : State) : Outcome := .next (whenRunning State.closeMonitorEnd s)

/-! ## Store and tags -/

/-- STORE_OPERATION_COMPLETE (R51, R52). -/
def execStoreOperationComplete (s : State) : Outcome := .next (whenRunning State.storeComplete s)

/-- R113: the countdown of a crew's tag ends. -/
def State.countdownEnd (crew : Nat) (s : State) : State :=
  if (s.lku.countdowns.lookup crew).isSome then s.tagExpires crew else s

/-- TAG_EXPIRY_COUNTDOWN_END (R113). -/
def execTagExpiryCountdownEnd (crew : Nat) (s : State) : Outcome :=
  .next (whenRunning (State.countdownEnd crew) s)

/-! ## Battery -/

/-- SUPPLY_PRESENT_EDGE (R124). The line is tracked while the part does not run (log entry 18). -/
def execSupplyPresentEdge (level : Bool) (s : State) : Outcome :=
  .next (if s.part.run = .running then (s.supplyEdge level).serve
         else s.modLines (fun l => { l with supplyPresent := level }))

/-- SUPPLY_CHANGE_TAKEN (R124). -/
def execSupplyChangeTaken (s : State) : Outcome := .next (whenRunning State.takeSupply s)

/-- R140: BAT sends the low-battery trip request at the entry into DISCONNECT_PENDING. -/
def State.sendIfPending (before : Disconnect) (s : State) : State :=
  if before = .normal ∧ awaitsSeq s.bat = true then s.seqArrive State.lowBatteryRequest else s

/-- R125, R126, R130, R139: a battery second ends. -/
def State.secondEnd (s : State) : State :=
  let v := meanOf s.bat.voltSum s.bat.voltCount
  let i := meanOf s.bat.ampSum s.bat.ampCount
  let s1 := s.secondMeans v i
  (s1.qualify v).sendIfPending s1.bat.disc

/-- BATTERY_SECOND_END (R125). -/
def execBatterySecondEnd (s : State) : Outcome := .next (whenRunning State.secondEnd s)

/-- ABSORB_TIME_LIMIT_REACHED (R126). -/
def execAbsorbTimeLimitReached (s : State) : Outcome := .next (whenRunning State.absorbDone s)

/-- FAULT_RECOVERY_EXPIRY (R126, R127). -/
def execFaultRecoveryExpiry (s : State) : Outcome := .next (whenRunning State.recoveryDone s)

/-- TEST_INTERVAL_ELAPSE (R134). -/
def execTestIntervalElapse (s : State) : Outcome := .next (whenRunning State.intervalElapsed s)

/-- TEST_RETRY_EXPIRY (R134). -/
def execTestRetryExpiry (s : State) : Outcome := .next (whenRunning State.retryElapsed s)

/-- SETTLE_END (R135). -/
def execSettleEnd (s : State) : Outcome := .next (whenRunning State.settleDone s)

/-- LOAD_END (R135, R136). -/
def execLoadEnd (s : State) : Outcome := .next (whenRunning State.loadDone s)

/-! ## Reports -/

/-- GATHER_WINDOW_EXPIRY (R154). -/
def execGatherWindowExpiry (cls : ReportClass) (s : State) : Outcome :=
  .next (whenRunning (State.sealClass cls) s)

/-- R152: the profile hour ends: LOAD_PROFILE is emitted and the next hour opens. -/
def State.hourEnd (s : State) : State :=
  let b := s.rpb
  let mean := if b.profCount = 0 then none else some (b.profSum / b.profCount)
  (s.emit (.loadProfile mean b.profCount b.profLow)).modRpb (fun b =>
    { b with profSum := 0, profCount := 0, profLow := none, hourLeft := Config.hourMs })

/-- PROFILE_HOUR_END (R152). -/
def execProfileHourEnd (s : State) : Outcome := .next (whenRunning State.hourEnd s)

/-! ## Frames and the radio -/

/-- R180: a byte arrives on a port; a frame that ends with it is counted or sorted, and a command
that it brought is executed as soon as R183 allows. -/
def State.rxByte (p : Port) (b : Byte) (s : State) : State :=
  let r := (s.fcu.rx p).take b
  let s1 := s.setRx p r.1
  match r.2 with
  | none => s1
  | some x => (s1.frameEnded p x).serve

/-- R180: bytes arrive on a port, one after another. -/
def State.rxBytes (p : Port) : List Byte → State → State
  | [], s => s
  | b :: bs, s => (s.rxByte p b).rxBytes p bs

/-- R180: more than 10 ms have passed since the last byte of a frame; a receiver that hunts has none
to abandon. -/
def State.byteGap (p : Port) (s : State) : State :=
  match s.fcu.rx p with
  | .hunt _ => s
  | .collect _ _ => (s.badFrame p).setRx p .idle

/-- R180: a header whose length field exceeds 240 has been collected; the frame is dropped. -/
def State.lengthExceeded (p : Port) (s : State) : State := (s.badFrame p).setRx p .idle

/-- STATION_FRAME_RECEIVED (R180, R181, R170; log entry 19). -/
def execStationFrameReceived (port : Port) (bytes : List Byte) (s : State) : Outcome :=
  .next (whenRunning (State.rxBytes port bytes) s)

/-- FRAME_BYTE_GAP_TIMEOUT (R180): the receiver abandons the frame. -/
def execFrameByteGapTimeout (port : Port) (s : State) : Outcome :=
  .next (whenRunning (State.byteGap port) s)

/-- FRAME_LENGTH_EXCEEDED (R180): the receiver drops the frame at once. -/
def execFrameLengthExceeded (port : Port) (s : State) : Outcome :=
  .next (whenRunning (State.lengthExceeded port) s)

/-- POLL (R171, R172). -/
def execPoll (payload : List Byte) (s : State) : Outcome :=
  .next (whenRunning (State.pollTaken payload) s)

/-- RESPONSE_WINDOW_EXPIRY (R173). -/
def execResponseWindowExpiry (s : State) : Outcome := .next (whenRunning State.windowExpired s)

/-- KEY_UP_DELAY_EXPIRY (R173). -/
def execKeyUpDelayExpiry (s : State) : Outcome := .next (whenRunning State.keyExpired s)

/-- RADIO_FRAME_SENT (R173). -/
def execRadioFrameSent (s : State) : Outcome := .next (whenRunning State.frameSent s)

/-- HOLDOFF_EXPIRY (R176). -/
def execHoldoffExpiry (s : State) : Outcome := .next (whenRunning State.holdoffExpired s)

/-- CONFIRM_TIMEOUT (R177). -/
def execConfirmTimeout (s : State) : Outcome := .next (whenRunning State.confirmExpired s)

/-- MODEM_READY_CHANGE (R169). -/
def execModemReadyChange (level : Bool) (s : State) : Outcome :=
  .next (if s.part.run = .running then (s.modemChange level).serve
         else s.modLines (fun l => { l with modemReady := level }))

/-- CARRIER_DET_CHANGE (R176). -/
def execCarrierDetChange (level : Bool) (s : State) : Outcome :=
  .next (if s.part.run = .running then (s.carrierChange level).serve
         else s.modLines (fun l => { l with carrierDet := level }))

/-- LOCAL_FRAME_SENT (R186). -/
def execLocalFrameSent (s : State) : Outcome := .next (whenRunning State.localSent s)

/-! ## Resets and power (R189) -/

/-- RESET_LINE (R189). -/
def execResetLine (s : State) : Outcome := .next s.resetTaken

/-- RESET_IN_RELEASE (R189). -/
def execResetInRelease (s : State) : Outcome := .next s.resetReleased

/-- POWER_ON (R189). -/
def execPowerOn (s : State) : Outcome := .next s.powerRise

/-- RESET_IN_ASSERTED (R189). -/
def execResetInAsserted (s : State) : Outcome := .next s.resetAsserted

/-- POWER_LOSS (R189). -/
def execPowerLoss (s : State) : Outcome := .next s.powerGone

end Sys2Proof.Machine
end

