-- ==== Sys2Proof/Machine/Clock.lean ====
section
/-! DEFINITION. The part's own time: what an elapsed time does to every timer (R187), the second of
part time (R168), and the command that is due while nothing is commanded (log entry 1). -/

namespace Sys2Proof.Machine

/-! ## Elapsed time -/

/-- R187: the part time after `k` more milliseconds; the seconds wrap to 0. -/
def PartTime.plus (t : PartTime) (k : Nat) : PartTime :=
  { secs := (t.secs + (t.ms + k) / 1000) % Config.secondsTop, ms := (t.ms + k) % 1000
    isSet := t.isSet }

/-- A timer that counts down, if it runs. -/
def lessBy (k : Nat) (t : Option Nat) : Option Nat := t.map (fun n => n - k)

/-- R75: a paused sequence timer stands still. -/
def SeqTimer.lessBy (k : Nat) (t : SeqTimer) : SeqTimer :=
  if t.paused then t else { t with left := t.left - k }

/-- The absorb timer stops at the limit, where ABSORB_TIME_LIMIT_REACHED is due (R126). -/
def absorbAfter (limit k t : Nat) : Nat := if t < limit then min (t + k) limit else t + k

/-- `k` milliseconds elapse for BAT (R124 to R137). -/
def Bat.elapse (limit k : Nat) (b : Bat) : Bat :=
  { b with
    qualLeft := lessBy k b.qualLeft, absorbMs := b.absorbMs.map (absorbAfter limit k)
    recoveryLeft := lessBy k b.recoveryLeft, secondLeft := b.secondLeft - k
    intervalLeft := b.intervalLeft - k, retryLeft := lessBy k b.retryLeft
    settleLeft := lessBy k b.settleLeft, loadLeft := lessBy k b.loadLeft }

/-- A gathering record's window (R153). -/
def Gather.elapse (k : Nat) (g : Gather) : Gather := { g with windowLeft := g.windowLeft - k }

/-- `k` milliseconds elapse for RPB (R152, R153). -/
def Rpb.elapse (k : Nat) (b : Rpb) : Rpb :=
  { b with urgent := b.urgent.map (Gather.elapse k), routine := b.routine.map (Gather.elapse k)
           hourLeft := b.hourLeft - k }

/-- `k` milliseconds elapse for RPC (R167). -/
def Rpc.elapse (k : Nat) (r : Rpc) : Rpc :=
  { r with windowLeft := lessBy k r.windowLeft, keyLeft := lessBy k r.keyLeft
           holdoff := r.holdoff.map (fun h => { h with left := lessBy k h.left })
           confirmLeft := lessBy k r.confirmLeft }

/-- A receiver that collects a frame counts the gap since its last byte, in ticks (R180). -/
def Receiver.elapse (n : Nat) : Receiver → Receiver
  | .hunt half => .hunt half
  | .collect bs left => .collect bs (left - n)

/-- `k` milliseconds elapse for FCU (R187): both clocks, and the change of second for RPC. -/
def Fcu.elapse (k : Nat) (f : Fcu) : Fcu :=
  { f with time := f.time.plus k, running := f.running + k
           secondTick := f.secondTick || decide (1000 ≤ f.time.ms + k) }

/-- `n` ticks of 100 µs elapse for the timers that need them: the silence timer (R3) and the byte gaps
(R180). -/
def State.countTicks (n : Nat) (s : State) : State :=
  { s with
    slr := { s.slr with silenceLeft := s.slr.silenceLeft - n }
    fcu := { s.fcu with rxRadio := s.fcu.rxRadio.elapse n, rxLocal := s.fcu.rxLocal.elapse n } }

/-- `k` milliseconds elapse for every other timer. -/
def State.countMs (k : Nat) (s : State) : State :=
  { s with
    store := { s.store with inFlight := s.store.inFlight.map (fun o => { o with left := o.left - k }) }
    seq := { s.seq with timer := s.seq.timer.map (SeqTimer.lessBy k) }
    drv := { s.drv with monitor := lessBy k s.drv.monitor }
    lku := { s.lku with countdowns := s.lku.countdowns.map (fun p => (p.1, p.2 - k)) }
    bat := s.bat.elapse (absorbLimit s.store.battery) k
    rpb := s.rpb.elapse k
    rpc := s.rpc.elapse k
    fcu := s.fcu.elapse k
    part := { s.part with resetQual := lessBy k s.part.resetQual } }

/-- `k` milliseconds of running time elapse: every timer that runs counts them. -/
def State.elapse (k : Nat) (s : State) : State :=
  (s.countTicks (Config.ticksPerMs * k)).countMs k

/-- 100 µs pass, and every tenth tick completes a millisecond. -/
def State.tick (s : State) : State :=
  let s1 := s.countTicks 1
  if s.fcu.subMs + 1 < Config.ticksPerMs then s1.modFcu (fun f => { f with subMs := f.subMs + 1 })
  else (s1.countMs 1).modFcu (fun f => { f with subMs := 0 })

/-! ## The second of part time (R168) -/

/-- R168: the part time's seconds value changes: the time to the next second passes, unless it has
already (log entry 15), and RPC re-evaluates whether the radio is wanted powered. -/
def State.partSecond (s : State) : State :=
  let s1 := if s.fcu.secondTick then s else s.elapse (1000 - s.fcu.time.ms)
  (s1.modFcu (fun f => { f with secondTick := false })).rpcPower

/-- PART_TIME_SECOND (R168, R187). -/
def execPartTimeSecond (s : State) : Outcome := .next (whenRunning State.partSecond s)

/-! ## What is due (log entry 1) -/

/-- A timer has run out. -/
def ranOut (t : Option Nat) : Bool := t == some 0

/-- The row of a sequence timer. -/
def seqTimerRow : SeqTimerKind → Instr
  | .openInterval => .openIntervalExpiry
  | .closeWait => .closeWaitExpiry
  | .reclaim => .reclaimExpiry

/-- A sequence timer that has run out. -/
def dueSeq (q : Seq) : Option Instr :=
  match q.timer with
  | some t => if t.left = 0 ∧ t.paused = false then some (seqTimerRow t.kind) else none
  | none => none

/-- A travel monitor that has run out. -/
def dueDrive (d : Drv) : Option Instr :=
  if ranOut d.monitor then
    if d.state = .closeActive then some .closeMonitorExpiry
    else if d.state = .tripMain ∨ d.state = .tripBackup then some .tripMonitorExpiry
    else none
  else none

/-- A store operation that has taken its 50 ms (log entry 14), or a countdown that has ended with no
removal staged (R113). Of two countdowns that end in the same millisecond the first in the list, the
older one, is taken first (DESIGN CHOICE, log entry 1). -/
def dueStore (s : State) : Option Instr :=
  if s.store.inFlight.any (fun o => o.left == 0) then some .storeOperationComplete
  else
    (s.lku.countdowns.find? (fun p => p.2 == 0 && !removalStaged s p.1)).map
      (fun p => .tagExpiryCountdownEnd p.1)

/-- A timer of BAT that has run out; of several that end in the same millisecond, in this order (DESIGN
CHOICE, log entry 1). -/
def dueBattery (s : State) : Option Instr :=
  let b := s.bat
  if ranOut b.qualLeft then some .supplyChangeTaken
  else if b.charger == .absorb && b.absorbMs == some (absorbLimit s.store.battery) then
    some .absorbTimeLimitReached
  else if b.charger == .fault && ranOut b.recoveryLeft then some .faultRecoveryExpiry
  else if b.test == .settle && ranOut b.settleLeft then some .settleEnd
  else if b.test == .load && ranOut b.loadLeft then some .loadEnd
  else if b.secondLeft = 0 then some .batterySecondEnd
  else if b.intervalLeft = 0 then some .testIntervalElapse
  else if ranOut b.retryLeft then some .testRetryExpiry
  else none

/-- A window or the hour of RPB that has run out. Of two gather windows that end in the same millisecond
the URGENT one is taken first, and its report takes the lower number; R154 gives no order (DESIGN CHOICE,
log entry 1). -/
def dueReports (b : Rpb) : Option Instr :=
  if b.urgent.any (fun g => g.windowLeft == 0) then some (.gatherWindowExpiry .urgent)
  else if b.routine.any (fun g => g.windowLeft == 0) then some (.gatherWindowExpiry .routine)
  else if b.hourLeft = 0 then some .profileHourEnd
  else none

/-- A timer of RPC that has run out, and the change of second, in this order (DESIGN CHOICE, log
entry 1). -/
def dueRadio (s : State) : Option Instr :=
  let r := s.rpc
  if r.state == .grantWait && ranOut r.windowLeft then some .responseWindowExpiry
  else if r.state == .keying && ranOut r.keyLeft then some .keyUpDelayExpiry
  else if r.state == .holdoff && ranOut (r.holdoff.bind (fun h => h.left)) then some .holdoffExpiry
  else if ranOut r.confirmLeft then some .confirmTimeout
  else if s.fcu.secondTick then some .partTimeSecond
  else none

/-- A receiver that collects a frame, and whose byte gap has run out (R180). -/
def Receiver.gapOver : Receiver → Bool
  | .hunt _ => false
  | .collect _ left => left == 0

/-- A byte gap that has run out (R180), the radio port's first (DESIGN CHOICE, log entry 1). -/
def dueGap (f : Fcu) : Option Instr :=
  if f.rxRadio.gapOver then some (.frameByteGapTimeout .radio)
  else if f.rxLocal.gapOver then some (.frameByteGapTimeout .localPort)
  else none

/-- What is due while no command is sent, in this order (log entry 1). -/
def due (s : State) : Option Instr :=
  if s.part.run ≠ .running then none
  else if ranOut s.part.resetQual then some .resetLine
  else if s.slr.silenceLeft = 0 then some .silenceTimerExpiry
  else
    ((((((dueDrive s.drv).orElse fun _ => dueSeq s.seq).orElse fun _ => dueStore s).orElse
      fun _ => dueBattery s).orElse fun _ => dueReports s.rpb).orElse fun _ => dueRadio s).orElse
      fun _ => dueGap s.fcu

end Sys2Proof.Machine
end

