-- ==== Sys2Proof/Machine/Dispatch.lean ====
section
/-! DEFINITION. The dispatch of the commands: one arm per constructor of Instr. -/

namespace Sys2Proof.Machine

/-- The effect of one command on everything but the queue. -/
def exec (i : Instr) (s : State) : Host.Outcome State Fault Refusal :=
  match i with
  | .sampleFrameReceived bytes => Sys2Proof.Machine.execSampleFrameReceived bytes s
  | .silenceTimerExpiry => Sys2Proof.Machine.execSilenceTimerExpiry s
  | .openIntervalExpiry => Sys2Proof.Machine.execOpenIntervalExpiry s
  | .closeWaitExpiry => Sys2Proof.Machine.execCloseWaitExpiry s
  | .reclaimExpiry => Sys2Proof.Machine.execReclaimExpiry s
  | .tripMonitorExpiry => Sys2Proof.Machine.execTripMonitorExpiry s
  | .closeMonitorExpiry => Sys2Proof.Machine.execCloseMonitorExpiry s
  | .storeOperationComplete => Sys2Proof.Machine.execStoreOperationComplete s
  | .tagExpiryCountdownEnd crew => Sys2Proof.Machine.execTagExpiryCountdownEnd crew s
  | .supplyPresentEdge level => Sys2Proof.Machine.execSupplyPresentEdge level s
  | .supplyChangeTaken => Sys2Proof.Machine.execSupplyChangeTaken s
  | .batterySecondEnd => Sys2Proof.Machine.execBatterySecondEnd s
  | .absorbTimeLimitReached => Sys2Proof.Machine.execAbsorbTimeLimitReached s
  | .faultRecoveryExpiry => Sys2Proof.Machine.execFaultRecoveryExpiry s
  | .testIntervalElapse => Sys2Proof.Machine.execTestIntervalElapse s
  | .testRetryExpiry => Sys2Proof.Machine.execTestRetryExpiry s
  | .settleEnd => Sys2Proof.Machine.execSettleEnd s
  | .loadEnd => Sys2Proof.Machine.execLoadEnd s
  | .gatherWindowExpiry cls => Sys2Proof.Machine.execGatherWindowExpiry cls s
  | .profileHourEnd => Sys2Proof.Machine.execProfileHourEnd s
  | .stationFrameReceived port bytes => Sys2Proof.Machine.execStationFrameReceived port bytes s
  | .frameByteGapTimeout port => Sys2Proof.Machine.execFrameByteGapTimeout port s
  | .poll payload => Sys2Proof.Machine.execPoll payload s
  | .responseWindowExpiry => Sys2Proof.Machine.execResponseWindowExpiry s
  | .keyUpDelayExpiry => Sys2Proof.Machine.execKeyUpDelayExpiry s
  | .radioFrameSent => Sys2Proof.Machine.execRadioFrameSent s
  | .holdoffExpiry => Sys2Proof.Machine.execHoldoffExpiry s
  | .confirmTimeout => Sys2Proof.Machine.execConfirmTimeout s
  | .modemReadyChange level => Sys2Proof.Machine.execModemReadyChange level s
  | .carrierDetChange level => Sys2Proof.Machine.execCarrierDetChange level s
  | .partTimeSecond => Sys2Proof.Machine.execPartTimeSecond s
  | .localFrameSent => Sys2Proof.Machine.execLocalFrameSent s
  | .readStatus h payload => Sys2Proof.Machine.execReadStatus h payload s
  | .readTable h payload => Sys2Proof.Machine.execReadTable h payload s
  | .selectGroup h payload => Sys2Proof.Machine.execSelectGroup h payload s
  | .setTime h payload => Sys2Proof.Machine.execSetTime h payload s
  | .sampleForward h payload => Sys2Proof.Machine.execSampleForward h payload s
  | .trip h payload => Sys2Proof.Machine.execTrip h payload s
  | .close h payload => Sys2Proof.Machine.execClose h payload s
  | .placeTag h payload => Sys2Proof.Machine.execPlaceTag h payload s
  | .removeTag h payload => Sys2Proof.Machine.execRemoveTag h payload s
  | .testStart h payload => Sys2Proof.Machine.execTestStart h payload s
  | .testCancel h payload => Sys2Proof.Machine.execTestCancel h payload s
  | .writeCurve h payload => Sys2Proof.Machine.execWriteCurve h payload s
  | .clearCurve h payload => Sys2Proof.Machine.execClearCurve h payload s
  | .writeGroup h payload => Sys2Proof.Machine.execWriteGroup h payload s
  | .writeGroupClear h slot => Sys2Proof.Machine.execWriteGroupClear h slot s
  | .writeDevice h payload => Sys2Proof.Machine.execWriteDevice h payload s
  | .writeBattery h payload => Sys2Proof.Machine.execWriteBattery h payload s
  | .writeRadio h payload => Sys2Proof.Machine.execWriteRadio h payload s
  | .writeAreas h payload => Sys2Proof.Machine.execWriteAreas h payload s
  | .flushClass h payload => Sys2Proof.Machine.execFlushClass h payload s
  | .driveRestore h payload => Sys2Proof.Machine.execDriveRestore h payload s
  | .restart h payload => Sys2Proof.Machine.execRestart h payload s
  | .writeGates h payload => Sys2Proof.Machine.execWriteGates h payload s
  | .unknownCommand h payload => Sys2Proof.Machine.execUnknownCommand h payload s
  | .resetLine => Sys2Proof.Machine.execResetLine s
  | .resetInRelease => Sys2Proof.Machine.execResetInRelease s
  | .powerOn => Sys2Proof.Machine.execPowerOn s
  | .resetInAsserted => Sys2Proof.Machine.execResetInAsserted s
  | .powerLoss => Sys2Proof.Machine.execPowerLoss s
  | .frameLengthExceeded port => Sys2Proof.Machine.execFrameLengthExceeded port s

end Sys2Proof.Machine
end

