-- ==== Sys2Proof/Machine/Step.lean ====
section
/-! DEFINITION. One step of the part, and how the host places a command at the front. -/

namespace Sys2Proof.Machine

/-- An empty queue: what is due happens, or 100 µs pass in a part that runs (DESIGN CHOICE, log
entry 1). -/
def idle (s : State) : Host.Outcome State Fault Refusal :=
  match due s with
  | some c => exec c s
  | none => .next (whenRunning State.tick s)

/-- One step: the command at the front of the queue is executed on the state with the queue's
rest. -/
def step (s : State) : Host.Outcome State Fault Refusal :=
  match s.pending with
  | [] => idle s
  | c :: rest => exec c (s.setPending rest)

/-- The command that a word spells is put at the front of the queue; a word that spells none leaves
the state as it is. -/
def State.withFetchWord (s : State) (nbits w : Nat) : State :=
  match decodeTableWord nbits w with
  | some c => s.setPending (c :: s.pending)
  | none => s

end Sys2Proof.Machine
end

