-- ==== Sys2Proof/Safety.lean ====
section
/-! DEFINITION. What counts as a sound state of the part, and the vocabulary of the statements: which
blocks a command leaves, when a command of Table 11-3 is executed, what its answer is, and the laws
that every step keeps. -/

namespace Sys2Proof.Machine

/-! ## Frames -/

/-- The parts of State. -/
inductive Block where
  | slr | meu | ele | store | sets | seq | drv | lku | bat | sup | rpb | pkm | rpc | fcu | lines
  | part | order | pending
  deriving DecidableEq, Repr

/-- A block is the same in two states. -/
def sameBlock (s t : State) : Block → Prop
  | .slr => t.slr = s.slr
  | .meu => t.meu = s.meu
  | .ele => t.ele = s.ele
  | .store => t.store = s.store
  | .sets => t.sets = s.sets
  | .seq => t.seq = s.seq
  | .drv => t.drv = s.drv
  | .lku => t.lku = s.lku
  | .bat => t.bat = s.bat
  | .sup => t.sup = s.sup
  | .rpb => t.rpb = s.rpb
  | .pkm => t.pkm = s.pkm
  | .rpc => t.rpc = s.rpc
  | .fcu => t.fcu = s.fcu
  | .lines => t.lines = s.lines
  | .part => t.part = s.part
  | .order => t.order = s.order
  | .pending => t.pending = s.pending

/-- Every block but the listed ones is the same in `t` as in `s`. -/
def AllBut (changed : List Block) (s t : State) : Prop := ∀ b, b ∉ changed → sameBlock s t b

/-- What an event may change (R151 to R161): the reports, their packet memory, the radio's look for
a candidate and its confirmation (R175, R177), the local copy and the SAMPLE frame it displaces
(R186, R20). -/
def eventBlocks : List Block := [.slr, .rpb, .pkm, .rpc, .fcu]

/-- The blocks of a recorded event: RPB and PKM stand as after `s.emit e`. -/
def Emitted (s : State) (e : Event) (t : State) : Prop :=
  t.rpb = (s.emit e).rpb ∧ t.pkm = (s.emit e).pkm

/-! ## The execution of a command of Table 11-3 (R182 to R184) -/

/-- The instruction that an intake entry asks for: the row it came from (log entry 29). -/
def instrOf (e : IntakeEntry) : Instr :=
  let h : CmdHead := ⟨e.port, e.level, e.wantsReply, e.source⟩
  let p := e.payload.tail
  match entryKind e with
  | none => .unknownCommand h e.payload
  | some .readStatus => .readStatus h p
  | some .readTable => .readTable h p
  | some .selectGroup => .selectGroup h p
  | some .setTime => .setTime h p
  | some .sampleForward => .sampleForward h p
  | some .trip => .trip h p
  | some .close => .close h p
  | some .placeTag => .placeTag h p
  | some .removeTag => .removeTag h p
  | some .testStart => .testStart h p
  | some .testCancel => .testCancel h p
  | some .writeCurve => .writeCurve h p
  | some .clearCurve => .clearCurve h p
  | some .writeGroup =>
    match p with
    | [slot, b] => if b == 0xFF#8 then .writeGroupClear h slot else .writeGroup h p
    | _ => .writeGroup h p
  | some .writeDevice => .writeDevice h p
  | some .writeBattery => .writeBattery h p
  | some .writeRadio => .writeRadio h p
  | some .writeAreas => .writeAreas h p
  | some .flushClass => .flushClass h p
  | some .driveRestore => .driveRestore h p
  | some .restart => .restart h p
  | some .writeGates => .writeGates h p

/-- The intake entry that a command row carries; no other row has one. -/
def entryOfRow : Instr → Option IntakeEntry
  | .readStatus h p => some (rowEntry h .readStatus p)
  | .readTable h p => some (rowEntry h .readTable p)
  | .selectGroup h p => some (rowEntry h .selectGroup p)
  | .setTime h p => some (rowEntry h .setTime p)
  | .sampleForward h p => some (rowEntry h .sampleForward p)
  | .trip h p => some (rowEntry h .trip p)
  | .close h p => some (rowEntry h .close p)
  | .placeTag h p => some (rowEntry h .placeTag p)
  | .removeTag h p => some (rowEntry h .removeTag p)
  | .testStart h p => some (rowEntry h .testStart p)
  | .testCancel h p => some (rowEntry h .testCancel p)
  | .writeCurve h p => some (rowEntry h .writeCurve p)
  | .clearCurve h p => some (rowEntry h .clearCurve p)
  | .writeGroup h p => some (rowEntry h .writeGroup p)
  | .writeGroupClear h slot => some (rowEntry h .writeGroup [slot, 0xFF#8])
  | .writeDevice h p => some (rowEntry h .writeDevice p)
  | .writeBattery h p => some (rowEntry h .writeBattery p)
  | .writeRadio h p => some (rowEntry h .writeRadio p)
  | .writeAreas h p => some (rowEntry h .writeAreas p)
  | .flushClass h p => some (rowEntry h .flushClass p)
  | .driveRestore h p => some (rowEntry h .driveRestore p)
  | .restart h p => some (rowEntry h .restart p)
  | .writeGates h p => some (rowEntry h .writeGates p)
  | .unknownCommand h p => some ⟨h.port, h.level, h.wantsReply, h.source, p⟩
  | _ => none

/-- The row's entry `e` is taken from the intake queue at once, as `e'`: the part runs, the queue is
empty and takes the entry with its effective level (R118), and the conditions of R183 hold. -/
def Taken (s : State) (e e' : IntakeEntry) : Prop :=
  s.part.run = .running ∧ s.fcu.intake = [] ∧ e' = atIntake s e ∧ executable s e' = true

/-- The entry is taken, and the gate of R120 lets it pass. -/
def Executes (s : State) (e e' : IntakeEntry) : Prop :=
  Taken s e e' ∧ gateCheck s.store.gates (entryKind e') e'.port e'.level = none

/-- The state in which the owner of a command takes it: the entry has left the intake queue and its
response, where one is requested, is outstanding (R183). -/
def State.begun (s : State) (e : IntakeEntry) : State :=
  (s.modFcu (fun f => { f with intake := f.intake.tail })).markOutstanding e

/-- The response to an executed entry stands at the tail of the RESPONSE area, or in the local
transmit queue, and is no longer outstanding (R184). Without a request for one, nothing is owed. -/
def Answered (s : State) (e : IntakeEntry) (o : CmdOutcome) (data : List Byte) (t : State) : Prop :=
  match replyOf s e with
  | none => True
  | some r =>
    match r.port with
    | .radio =>
      t.pkm.response.getLast?.map (fun x => x.frame) = some (responseFrame r o data) ∧
        t.fcu.outRadio = false
    | .localPort =>
      LocalItem.frame .response (responseFrame r o data) 0 ∈ t.fcu.localQ ∧ t.fcu.outLocal = false

/-- A store operation has started: nothing else changes (R51). -/
def Started (b : State) (body : StoreBody) (r : Option Reply) (t : State) : Prop :=
  t.store = { b.store with inFlight := some ⟨body, r, Config.storeMs⟩ } ∧ AllBut [.store] b t

/-- The table that a write holds has its new contents (R46 to R54); a tag table write takes effect
through its changes (R109). -/
def StoreBody.into (b : StoreBody) (st : Store) : Store :=
  match b with
  | .curve i c => { st with curves := st.curves.set i c }
  | .group i g => { st with groups := st.groups.set i g }
  | .device d => { st with device := d }
  | .selection k => { st with selection := k }
  | .tags _ _ => st
  | .gates t => { st with gates := t }
  | .battery k => { st with battery := k }
  | .radio k => { st with radio := k }
  | .areas p => { st with areas := p }
  | .lastFailure f => { st with lastFailure := f }

/-- The durable tables agree; the operation in flight and the wait list may differ. -/
def sameTables (a b : Store) : Prop :=
  { a with inFlight := none, waitList := [] } = { b with inFlight := none, waitList := [] }

/-- An internal request for a table is in flight, or waits for the operation in flight (R51). -/
def Requested (s t : State) (table : InternalTable) (body : StoreBody) : Prop :=
  (s.store.inFlight = none → t.store.inFlight = some ⟨body, none, Config.storeMs⟩) ∧
  (s.store.inFlight ≠ none →
    t.store.inFlight = s.store.inFlight ∧ table ∈ t.store.waitList)

/-- The windows and the fill count agree; the magnitudes may differ. -/
def sameWindows (m n : Meu) : Prop :=
  m.wIA = n.wIA ∧ m.wIB = n.wIB ∧ m.wIC = n.wIC ∧ m.wIN = n.wIN ∧ m.wVA = n.wVA ∧ m.wVB = n.wVB ∧
  m.wVC = n.wVC ∧ m.fill = n.fill

/-- The fields of a sample frame lie in the ranges of Table 12-1. -/
def SampleFrame.inRange (f : SampleFrame) : Prop :=
  f.seqNo < 256 ∧ f.pos < 32 ∧ f.cap < 65536 ∧ f.aux < 65536 ∧
  ∀ v ∈ [f.samples.ia, f.samples.ib, f.samples.ic, f.samples.iN, f.samples.va, f.samples.vb,
    f.samples.vc], -32768 ≤ v ∧ v ≤ 32767

/-- The fields of a station frame lie in the ranges of Table 12-2. -/
def Frame.inRange (f : Frame) : Prop :=
  f.dest < 65536 ∧ f.source < 65536 ∧ 1 ≤ f.kind.toNat ∧ f.kind.toNat ≤ 7 ∧ f.payload.length ≤ 240

/-- What a receiver makes of a run of bytes: its state after them, and the frames that ended in them,
in order (R180). -/
def Receiver.run (r : Receiver) : List Byte → Receiver × List Reception
  | [] => (r, [])
  | b :: bs =>
    let x := r.take b
    let y := Receiver.run x.1 bs
    (y.1, x.2.toList ++ y.2)

/-- The bytes, taken by a receiver, end one frame, and end it with their last byte (R180). -/
def EndsFrame (r : Receiver) (bytes : List Byte) (x : Reception) : Prop :=
  (r.run bytes.dropLast).2 = [] ∧ (r.run bytes).2 = [x]

/-- The kind of table and the index that SETTINGS_WRITTEN carries for a write (R52, Table 3-3; index 0
where the table has none, log entry 40). -/
def StoreBody.names : StoreBody → Option (Nat × Nat)
  | .curve i _ => some (0, i)
  | .group i _ => some (1, i)
  | .device _ => some (2, 0)
  | .gates _ => some (5, 0)
  | .battery _ => some (6, 0)
  | .radio _ => some (7, 0)
  | .areas _ => some (8, 0)
  | .selection _ => none
  | .tags _ _ => none
  | .lastFailure _ => none

/-- A good frame makes SLR accept a new position (R11). -/
def AcceptsPosition (s : State) (f : SampleFrame) (p : Position) : Prop :=
  s.slr.link = .up ∧ s.slr.prevPosition = some p ∧ readPosition f = p ∧ s.slr.position ≠ p

/-- The handle is RETURNED before a good frame and in it. -/
def HandleStays (s : State) (f : SampleFrame) : Prop :=
  s.slr.handle = .returned ∧ readHandle f = .returned

/-- A slot without an E-step (R14), while SET's view of SEQ is right (R56). -/
def PlainSlot (s : State) (f : SampleFrame) : Prop :=
  endsQuarter s.slr.runPos f.pos = false ∧ s.sets.settledView = seqSettled s

/-- The accepted values are the same in two states. -/
def sameAccepted (s t : State) : Prop :=
  t.slr.position = s.slr.position ∧ t.slr.handle = s.slr.handle ∧ t.slr.ready = s.slr.ready

/-- The drive has ended its operation: no coil, no monitor, nothing in flight, a recharge requested
(R93, R98, R100, R104). -/
def DriveRests (d : Drv) : Prop :=
  d.state = .idle ∧ d.op = none ∧ d.monitor = none ∧ d.coilMain = false ∧ d.coilBackup = false ∧
  d.coilClose = false ∧ d.recharge = true

/-! ## Laws that every step keeps -/

/-- R15: a window holds as many entries as the fill count says, with their sum and their
saturation count. -/
def windowOk (fill : Nat) (w : Window) : Prop :=
  w.entries.length = fill ∧ w.sum = (w.entries.map (fun e => e.square)).sum ∧
  w.satCount = (w.entries.map (fun e => e.sat.toNat)).sum

/-- R15, R28, R32: the seven windows agree with one fill count of at most 32, and the accumulators
and counters of the elements stay in their ranges. -/
def MeasureLaw (s : State) : Prop :=
  s.meu.fill ≤ 32 ∧
  (∀ w ∈ [s.meu.wIA, s.meu.wIB, s.meu.wIC, s.meu.wIN, s.meu.wVA, s.meu.wVB, s.meu.wVC],
    windowOk s.meu.fill w) ∧
  (∀ t ∈ [s.ele.pt, s.ele.gt], t.acc ≤ 1048576 ∧ t.count ≤ 65535) ∧
  (∀ h ∈ [s.ele.ph, s.ele.gh], h.count ≤ 65535)

/-- The operation in flight is a trip. -/
def isTrip (o : DriveOp) : Bool :=
  match o.kind with
  | .trip _ => true
  | .close _ => false

/-- R90, Table 5-1: at most one coil is energised, and it is the coil of the drive state; an
operation with its monitor is in flight exactly in the states that have one. -/
def CoilsLaw (s : State) : Prop :=
  match s.drv.state with
  | .idle | .halted =>
    s.drv.coilMain = false ∧ s.drv.coilBackup = false ∧ s.drv.coilClose = false ∧
    s.drv.op = none ∧ s.drv.monitor = none
  | .tripMain =>
    s.drv.coilMain = true ∧ s.drv.coilBackup = false ∧ s.drv.coilClose = false ∧
    s.drv.op.any isTrip = true ∧ s.drv.monitor.isSome = true
  | .tripBackup =>
    s.drv.coilMain = false ∧ s.drv.coilBackup = true ∧ s.drv.coilClose = false ∧
    s.drv.op.any isTrip = true ∧ s.drv.monitor.isSome = true
  | .closeActive =>
    s.drv.coilMain = false ∧ s.drv.coilBackup = false ∧ s.drv.coilClose = true ∧
    s.drv.op.any (fun o => !isTrip o) = true ∧ s.drv.monitor.isSome = true

/-- The sequence timer that a state runs (R64). -/
def timerOfState : SeqState → Option SeqTimerKind
  | .openInterval => some .openInterval
  | .closeWait => some .closeWait
  | .reclaim => some .reclaim
  | .unknown => none
  | .ready => none
  | .tripping => none
  | .closing => none
  | .lockout => none
  | .failed => none

/-- R64, R77, R83: what SEQ holds in each of its states, and FAILED goes with a halted drive. -/
def SequenceLaw (s : State) : Prop :=
  s.seq.lockReason.isSome = (s.seq.state == .lockout) ∧
  s.seq.tripCause.isSome = (s.seq.state == .tripping) ∧
  s.seq.closeCause.isSome = (s.seq.state == .closing) ∧
  s.seq.timer.map (fun t => t.kind) = timerOfState s.seq.state ∧
  (s.seq.timer.any (fun t => t.paused) = true → s.seq.state = .reclaim) ∧
  (s.seq.restartMark.isSome = true → s.seq.state = .unknown) ∧
  (s.seq.episode.isSome = true → s.seq.state = .ready ∨ s.seq.state = .reclaim) ∧
  (s.seq.state = .failed ↔ s.drv.state = .halted)

/-- Every group that may become the live set has at least one shot (Table 3-2). -/
def groupsOk (st : Store) : Prop :=
  (∀ g ∈ st.groups, ∀ k ∈ g, 1 ≤ k.shots) ∧
  (∀ op ∈ st.inFlight,
    match op.body with
    | .group _ (some k) => 1 ≤ k.shots
    | _ => True)

/-- R22, R56, R66, R69, R71, R76: the shot counter never exceeds N, leaves a trip to come in the
states that may trip again, is 0 in READY, and is what ELE holds; SET's view of SEQ is right. -/
def ShotLaw (s : State) : Prop :=
  groupsOk s.store ∧ 1 ≤ s.sets.live.grp.shots ∧ s.seq.shot ≤ s.sets.live.grp.shots ∧
  s.ele.shotCopy = s.seq.shot ∧
  (s.seq.state = .ready → s.seq.shot = 0) ∧
  (s.seq.state = .openInterval ∨ s.seq.state = .closeWait ∨ s.seq.state = .closing ∨
    s.seq.state = .reclaim → s.seq.shot < s.sets.live.grp.shots) ∧
  s.sets.settledView = seqSettled s

/-- A tag table as R108 has it: at most eight tags, one for each crew. -/
def tagsOk (ts : List Tag) : Prop := ts.length ≤ 8 ∧ (ts.map (fun t => t.crew)).Nodup

/-- A change that places a tag. -/
def isPlace : TagChange → Bool
  | .place _ _ => true
  | .escalate _ _ _ _ => false
  | .remove _ _ _ _ => false
  | .expire _ => false

/-- A change that an expiry has staged (R113). -/
def isExpire : TagChange → Bool
  | .expire _ => true
  | .place _ _ => false
  | .escalate _ _ _ _ => false
  | .remove _ _ _ _ => false

/-- A tag table write places no tag, or it places one tag alone, for a crew without one, in a table
with room (R109, R110, R183). -/
def writeOk (inForce : List Tag) (cs : List TagChange) : Prop :=
  cs.all (fun c => !isPlace c) = true ∨
    ∃ t r, cs = [.place t r] ∧ tagOf inForce t.crew = none ∧ inForce.length < 8

/-- R51, R65, R108 to R114: the table in force and the stored table hold at most eight tags with one for
each crew, and agree while the part runs; SEQ's two views are those of the table in force; changes that
wait are expiries, and wait for the store. -/
def TagLaw (s : State) : Prop :=
  tagsOk s.lku.inForce ∧ tagsOk s.store.tags ∧
  s.seq.tagPresent = anyTag s.lku.inForce ∧ s.seq.noClosePresent = anyNoClose s.lku.inForce ∧
  (s.part.run = .running → s.store.tags = s.lku.inForce) ∧
  s.lku.changes.all isExpire = true ∧
  (s.lku.changes ≠ [] → InternalTable.tags ∈ s.store.waitList) ∧
  (s.store.waitList ≠ [] → s.store.inFlight.isSome = true) ∧
  (∀ op ∈ s.store.inFlight, ∀ ts cs, op.body = .tags ts cs → writeOk s.lku.inForce cs)

/-- R180: a receiver that collects holds a part of one frame whose length field does not exceed 240,
and the ticks left of its byte gap are at most those of Config.byteGapTicks. -/
def receiverOk : Receiver → Prop
  | .hunt _ => True
  | .collect bs left =>
    left ≤ Config.byteGapTicks ∧ (7 ≤ bs.length → lengthField bs ≤ 240 ∧ bs.length < 9 + lengthField bs)

/-- R20, R153, R180, R182, R183, R186: the intake queue, the local transmit queue, the gathering
records and the batch of taken frames keep their limits, a local response that is outstanding has
exactly one place reserved, the receivers hold parts of one frame, and no command whose conditions
hold waits at the head of the intake queue. -/
def QueueLaw (s : State) : Prop :=
  s.fcu.intake.length ≤ 4 ∧ s.fcu.localQ.length ≤ 8 ∧
  s.fcu.localQ.count .reservation = s.fcu.outLocal.toNat ∧
  (∀ g ∈ s.rpb.urgent, 1 ≤ g.entries.length ∧ g.entries.length ≤ 11) ∧
  (∀ g ∈ s.rpb.routine, 1 ≤ g.entries.length ∧ g.entries.length ≤ 11) ∧
  s.slr.batch.length < 8 ∧ receiverOk s.fcu.rxRadio ∧ receiverOk s.fcu.rxLocal ∧
  (s.part.run = .running → ∀ e ∈ s.fcu.intake.head?, executable s e = false)

/-- R157, R159, R164: no area holds more words than its depth, no two URGENT reports share a number,
and the partition in force, like one on its way to the store, passes the checks of R164. -/
def AreasLaw (s : State) : Prop :=
  (∀ a, areaUsed s.pkm a ≤ (areaSpec s.store.areas a).depth) ∧
  (s.pkm.urgent.map (fun r => r.number)).Nodup ∧ areasOk s.store.areas = true ∧
  (∀ op ∈ s.store.inFlight,
    match op.body with
    | .areas p => areasOk p = true
    | _ => True)

/-- Table 7-4: the charger lines of a charger state. -/
def chargerLines (b : Bat) (r : BatteryRec) : Bool × Int × Nat :=
  match b.charger with
  | .bulk => (true, b.absorbSet, r.bulkLimit)
  | .absorb => (true, b.absorbSet, r.bulkLimit)
  | .float => (true, b.floatSet, r.bulkLimit)
  | .off => (false, b.floatSet, 0)
  | .test => (false, b.floatSet, 0)
  | .fault => (false, b.floatSet, 0)

/-- Tables 7-4, 7-7, 7-8, 10-1 and R150: every output of the charger, the load test, the disconnect,
the radio and the capacitor follows the state it belongs to, and so do RPC's answer and timers. -/
def OutputsLaw (s : State) : Prop :=
  (s.bat.chgEn, s.bat.chgVset, s.bat.chgIlim) = chargerLines s.bat s.store.battery ∧
  s.bat.testLoad = (s.bat.test == .load) ∧
  s.bat.lvdOut = (s.bat.disc == .disconnected) ∧
  s.bat.discAction.isSome = (s.bat.disc != .normal) ∧
  s.rpc.radioPwr = (s.rpc.state != .off) ∧ s.rpc.radioKey = s.rpc.state.keyed ∧
  s.rpc.answer.isSome = s.rpc.state.hasAnswer ∧
  s.rpc.windowLeft.isSome = (s.rpc.state == .grantWait) ∧
  s.rpc.keyLeft.isSome = (s.rpc.state == .keying) ∧
  s.rpc.holdoff.isSome = (s.rpc.state == .holdoff) ∧
  s.sup.capEn = (s.sup.cap == .holding)

/-- The number of requesters in HOLDING. -/
def holders (u : Sup) : Nat :=
  (u.cap == .holding).toNat + (u.radio == .holding).toNat + (u.load == .holding).toNat

/-- R145, R149, R173, R135: while the supply view is ABSENT at most one requester is in HOLDING; the
radio is keyed, and the load test settles or loads, only under a grant. -/
def GrantLaw (s : State) : Prop :=
  (s.sup.supply = false → holders s.sup ≤ 1) ∧
  (s.rpc.state.keyed = true → s.sup.radio.holds = true) ∧
  (s.bat.test = .settle ∨ s.bat.test = .load → s.sup.load.holds = true)

/-- R12, R24, R65, R89, R117: every view of the position, the handle, mechanism-ready and the
staleness is what SLR has accepted; R37, R38: behind open contacts the elements are at rest. -/
def ViewsLaw (s : State) : Prop :=
  s.seq.position = s.slr.position ∧ s.seq.handle = s.slr.handle ∧ s.seq.ready = s.slr.ready ∧
  s.seq.linkUp = (s.slr.link == .up) ∧ s.seq.capStale = linkStale s ∧
  s.drv.position = s.slr.position ∧ s.drv.handle = s.slr.handle ∧ s.drv.ready = s.slr.ready ∧
  s.drv.stale = linkStale s ∧ s.drv.capStale = linkStale s ∧
  s.ele.posView = s.slr.position ∧ s.ele.posStale = linkStale s ∧
  s.lku.handle = s.slr.handle ∧ s.lku.handleStale = linkStale s ∧
  (s.ele.posView = .opened → clearElements s.ele = s.ele)

/-- R124, R126, R130, R132, R133: the charge keeps its range and SoC is worked out from it; the shed
level is 0..3, and 0 while the supply is present; without the supply the charger is in OFF or TEST;
the views of SUP and RPC are BAT's values; the battery record, like one on its way to the store, passes
the checks of R123. -/
def BatteryLaw (s : State) : Prop :=
  batteryOk s.store.battery = true ∧
  (∀ op ∈ s.store.inFlight,
    match op.body with
    | .battery b => batteryOk b = true
    | _ => True) ∧
  (s.part.run = .running →
    s.bat.q ≤ qFull s.store.battery ∧ s.bat.soc = socOf s.store.battery s.bat.q) ∧
  s.bat.shed ≤ 3 ∧ (s.bat.supply = true → s.bat.shed = 0) ∧
  (s.bat.supply = false → s.bat.charger = .off ∨ s.bat.charger = .test) ∧
  s.sup.shed = s.bat.shed ∧ s.rpc.shed = s.bat.shed ∧
  s.sup.supply = s.bat.supply ∧ s.rpc.supply = s.bat.supply

/-- A law that every step keeps, from every state that meets it. -/
def Kept (law : State → Prop) : Prop := ∀ s t, law s → step s = .next t → law t

end Sys2Proof.Machine
end

