-- ==== Sys2Proof/WellFormed.lean ====
section
/-! DEFINITION. Which terms of Instr are commands the part can be sent. -/

namespace Sys2Proof

/-- The head of a COMMAND frame: level 0..3 (R118) and a two-byte source address (Table 12-2). -/
def CmdHead.wf (h : CmdHead) : Bool := h.level ≤ 3 && h.source < 65536

/-- A payload after its kind byte: the whole payload has at most 240 bytes (Table 12-2). -/
def argsWf (payload : List Byte) : Bool := payload.length ≤ 239

/-- R194: the kind byte is one of the codes 0x01 to 0x16. -/
def knownKind (b : Byte) : Bool := 1 ≤ b.toNat && b.toNat ≤ 22

/-- Well-formed commands: a reception begins with a byte (R1); a STATION_FRAME_RECEIVED row carries
at most 251 bytes, those of one frame (Table 12-2); a crew id is 1..65,535 (Table 6-2); a
WRITE_GROUP row is not a clear indication (R50); an UNKNOWN_COMMAND row has no known kind byte (R194). -/
def Instr.wf : Instr → Bool
  | .sampleFrameReceived bytes => bytes != []
  | .silenceTimerExpiry => true
  | .openIntervalExpiry => true
  | .closeWaitExpiry => true
  | .reclaimExpiry => true
  | .tripMonitorExpiry => true
  | .closeMonitorExpiry => true
  | .storeOperationComplete => true
  | .tagExpiryCountdownEnd crew => 1 ≤ crew && crew ≤ 65535
  | .supplyPresentEdge _ => true
  | .supplyChangeTaken => true
  | .batterySecondEnd => true
  | .absorbTimeLimitReached => true
  | .faultRecoveryExpiry => true
  | .testIntervalElapse => true
  | .testRetryExpiry => true
  | .settleEnd => true
  | .loadEnd => true
  | .gatherWindowExpiry _ => true
  | .profileHourEnd => true
  | .stationFrameReceived _ bytes => bytes.length ≤ 251
  | .frameByteGapTimeout _ => true
  | .poll payload => payload.length ≤ 240
  | .responseWindowExpiry => true
  | .keyUpDelayExpiry => true
  | .radioFrameSent => true
  | .holdoffExpiry => true
  | .confirmTimeout => true
  | .modemReadyChange _ => true
  | .carrierDetChange _ => true
  | .partTimeSecond => true
  | .localFrameSent => true
  | .readStatus h p => h.wf && argsWf p
  | .readTable h p => h.wf && argsWf p
  | .selectGroup h p => h.wf && argsWf p
  | .setTime h p => h.wf && argsWf p
  | .sampleForward h p => h.wf && argsWf p
  | .trip h p => h.wf && argsWf p
  | .close h p => h.wf && argsWf p
  | .placeTag h p => h.wf && argsWf p
  | .removeTag h p => h.wf && argsWf p
  | .testStart h p => h.wf && argsWf p
  | .testCancel h p => h.wf && argsWf p
  | .writeCurve h p => h.wf && argsWf p
  | .clearCurve h p => h.wf && argsWf p
  | .writeGroup h p => h.wf && argsWf p && !(p.length == 2 && p.getD 1 0#8 == 0xFF#8)
  | .writeGroupClear h _ => h.wf
  | .writeDevice h p => h.wf && argsWf p
  | .writeBattery h p => h.wf && argsWf p
  | .writeRadio h p => h.wf && argsWf p
  | .writeAreas h p => h.wf && argsWf p
  | .flushClass h p => h.wf && argsWf p
  | .driveRestore h p => h.wf && argsWf p
  | .restart h p => h.wf && argsWf p
  | .writeGates h p => h.wf && argsWf p
  | .unknownCommand h p =>
    h.wf && p.length ≤ 240 && (match p with | [] => true | b :: _ => !knownKind b)
  | .resetLine => true
  | .resetInRelease => true
  | .powerOn => true
  | .resetInAsserted => true
  | .powerLoss => true
  | .frameLengthExceeded _ => true

end Sys2Proof
end

