-- ==== Sys2Proof/Certificates/Slice0/Obligations.lean ====
section
/-! DEFINITION. The statements about the part, for the provers. Each one's entry in OBLIGATIONS.json
carries its title, its basis and the rules it rests on. -/

section

open Sys2Proof Sys2Proof.Machine

/-! ## The queue, the clock and the reach of the commands -/

/-- A step takes the command at the front of the queue and executes it on the state with the queue's
rest. -/
def Obligations.StepTakesTheFront : Prop :=
  ∀ (c : Instr) (rest : List Instr) (s : State),
    s.pending = c :: rest → step s = exec c (s.setPending rest)

/-- On an empty queue the step executes what is due; where nothing is due, 100 µs pass in a part that
runs, and nothing happens in one that does not (the model's choice, log entry 1; after the tick FCU
looks at the intake queue as after every row, log entry 29). -/
def Obligations.IdleStepRunsTheClock : Prop :=
  ∀ s : State, s.pending = [] →
    (∀ c, due s = some c → step s = exec c s) ∧
    (due s = none → s.part.run = .running → step s = .next s.tick.serve) ∧
    (s.part.run ≠ .running → step s = .next s)

/-- Whatever command is executed, the queue and the free orders stay (the free orders are the model's
own state, log entry 4), the input lines follow their own five rows alone (also in a part that does
not run, the model's choice, log entry 18), and only the rows of R189 change whether the part runs. -/
def Obligations.QueueLinesAndPowerFrame : Prop :=
  ∀ (c : Instr) (s t : State), exec c s = .next t →
    t.pending = s.pending ∧ t.order = s.order ∧
    (match c with
     | .supplyPresentEdge level => t.lines = { s.lines with supplyPresent := level }
     | .modemReadyChange level => t.lines = { s.lines with modemReady := level }
     | .carrierDetChange level => t.lines = { s.lines with carrierDet := level }
     | .resetInRelease => t.lines = { s.lines with resetIn := false }
     | .resetInAsserted => t.lines = { s.lines with resetIn := true }
     | _ => t.lines = s.lines) ∧
    (match c with
     | .resetLine => t.part.run = s.part.run ∨ t.part.run = .held
     | .resetInRelease => t.part.run = s.part.run ∨ t.part.run = .running
     | .powerOn => t.part.run = .running
     | .powerLoss => t.part.run = .unpowered
     | _ => t.part.run = s.part.run)

/-- R189: while the part is held in reset or has no power, a row leaves everything as it is, but
that the input lines are followed; the release of RESET_IN and the two power rows have their own
statement (that the lines are followed is the model's choice, log entry 18). -/
def Obligations.NothingRunsInReset : Prop :=
  ∀ (c : Instr) (s : State), s.part.run ≠ .running →
    (match c with
     | .supplyPresentEdge level =>
       exec c s = .next (s.modLines (fun l => { l with supplyPresent := level }))
     | .modemReadyChange level =>
       exec c s = .next (s.modLines (fun l => { l with modemReady := level }))
     | .carrierDetChange level =>
       exec c s = .next (s.modLines (fun l => { l with carrierDet := level }))
     | .resetInAsserted => exec c s = .next (s.modLines (fun l => { l with resetIn := true }))
     | .resetInRelease => True
     | .powerOn => True
     | .powerLoss => True
     | _ => exec c s = .next s)

/-! ## Byte layouts (Chapter 12) -/

/-- Tables 12-1, R191: a sample frame as the head sends it is accepted and read back whole. -/
def Obligations.SampleFrameRoundTrip : Prop :=
  ∀ f : SampleFrame, f.inRange →
    sampleFrameOk (encodeSample f) = true ∧ decodeSample (encodeSample f) = f

/-- Table 12-2, R180, R191, R192, R157: a receiver that hunts takes a station frame on the wire as it was
sent, at its last byte, and hunts again in what follows it. A frame with another CRC, with a kind that
is none of the seven, or with a length field above 240 is dropped, the last at the length byte, and
bytes without a preamble end no frame (a receiver that has just seen the first preamble byte hunts on,
the model's reading of the hunt, log entry 19). In packet memory a frame's record fills the whole words
of R157 with its header and payload, and a report's record fills its words. -/
def Obligations.StationFrameRoundTrip : Prop :=
  (∀ (f : Frame) (half : Bool) (rest : List Byte), f.inRange →
    Receiver.run (.hunt half) (encodeFrame f ++ rest) =
      ((Receiver.idle.run rest).1, .good f :: (Receiver.idle.run rest).2) ∧
    (Receiver.run (.hunt half) (encodeFrame f).dropLast).2 = []) ∧
  (∀ (f : Frame) (half : Bool) (crc : List Byte), f.inRange → crc.length = 2 →
    crc ≠ crcBytes (frameBody f) →
    Receiver.run (.hunt half) ([0x5A#8, 0xA5#8] ++ frameBody f ++ crc) = (.idle, [.dropped])) ∧
  (∀ (f : Frame) (half : Bool), f.payload.length ≤ 240 → f.kind.toNat = 0 ∨ 7 < f.kind.toNat →
    Receiver.run (.hunt half) (encodeFrame f) = (.idle, [.dropped])) ∧
  (∀ (half : Bool) (header : List Byte) (n : Byte), header.length = 6 → 240 < n.toNat →
    Receiver.run (.hunt half) ([0x5A#8, 0xA5#8] ++ header ++ [n]) = (.idle, [.dropped])) ∧
  (∀ bytes : List Byte, 0x5A#8 ∉ bytes → Receiver.idle.run bytes = (.idle, [])) ∧
  (∀ f : Frame, f.payload.length ≤ 240 →
    (frameRecord f).length = 4 * frameWords f.payload.length ∧
    (frameRecord f).take 7 = ((encodeFrame f).drop 2).take 7 ∧
    ((frameRecord f).drop 8).take f.payload.length = f.payload) ∧
  (∀ r : Report, (reportRecord r).length = 4 * reportWords r.entries.length)

/-- R195, R196: what READ_TABLE sends of a table that passes its checks is read back by the write
command of that table as the same contents. -/
def Obligations.TableRoundTrip : Prop :=
  (∀ slot c, slot ≤ 15 → curveOk c = true →
    readCurve (curveBytes slot (some c)) = some (slot, c)) ∧
  (∀ slot g, slot ≤ 3 → groupOk g = true →
    readGroup (groupBytes slot (some g)) = some (.contents slot g)) ∧
  (∀ d, deviceOk d = true → readDevice (deviceBytes d) = some d) ∧
  (∀ b, batteryOk b = true → readBattery (batteryBytes b) = some b) ∧
  (∀ r, radioOk r = true → readRadio (radioBytes r) = some r) ∧
  (∀ p, areasOk p = true → readAreas (areasBytes p) = some p) ∧
  (∀ t : List GateEntry, t.length = 21 → (∀ e ∈ t, e.level ≤ 3) →
    readGates ((gatesBytes t).take 63) = some t)

/-! ## Measurement and elements (Chapters 1 and 2) -/

/-- R16: the magnitude is the largest whole number whose square does not exceed the mean square, and
full scale while a saturated sample is in the window. -/
def Obligations.MagnitudeIsTheFloorRoot : Prop :=
  ∀ w : Window,
    (0 < w.satCount → windowMag w = 32768) ∧
    (w.satCount = 0 → w.sum / 32 < 4294967296 →
      windowMag w * windowMag w ≤ w.sum / 32 ∧
      w.sum / 32 < (windowMag w + 1) * (windowMag w + 1))

/-- R25 to R31: one E-step of an enabled timed element. Picked up, it takes the row with the largest
breakpoint not above its multiple of pickup, advances by the effective rate and counts; otherwise it
resets as its curve says and cannot operate. The curve is a stored one (R46) or the built-in one (R61). -/
def Obligations.TimedElementStep : Prop :=
  ∀ (c : Curve) (pickup dial minResp mag : Nat) (e : Timed),
    curveOk c = true ∨ c = builtinCurve → 5 ≤ pickup → 16 ≤ dial → e.acc ≤ 1048576 →
    let u := timedStep (some c) pickup dial minResp mag e
    let m := min (mag * 16 / pickup) 640
    (pickup ≤ mag → ∃ row ∈ c.rows, row.bp ≤ m ∧ (∀ r ∈ c.rows, r.bp ≤ m → r.bp ≤ row.bp) ∧
      u.acc = min (e.acc + max 1 (min (row.rate * 64 / dial) 1048576)) 1048576 ∧
      u.count = min (e.count + 1) 65535 ∧ u.pickup = true ∧
      u.operate = (e.operate || decide (u.acc = 1048576 ∧ minResp ≤ u.count))) ∧
    (mag < pickup → u.pickup = false ∧ u.operate = e.operate ∧
      (c.decay = none → u.acc = 0 ∧ u.count = 0) ∧
      (∀ d, c.decay = some d →
        u.acc = e.acc - d ∧ u.count = if e.acc ≤ d then 0 else e.count))

/-- R28, R31 (Note), R33: from rest, under a current that stays at or above pickup, a timed element
operates at exactly the E-step number max(ceil(1,048,576 / re), minimum response), on a stored curve
and on the built-in one (R61), and an enabled high-set element with delay n at the (n + 1)th. -/
def Obligations.ElementsOperateOnTime : Prop :=
  (∀ (c : Curve) (pickup dial minResp mag n : Nat),
    curveOk c = true ∨ c = builtinCurve → 5 ≤ pickup → 16 ≤ dial → minResp ≤ 400 → pickup ≤ mag →
    let re := effectiveRate (curveRate c.rows (m16 mag pickup)) dial
    ((timedStep (some c) pickup dial minResp mag)^[n] ⟨0, 0, false, false⟩).operate =
      decide (max ((1048576 + re - 1) / re) minResp ≤ n)) ∧
  (∀ pickup delay mag n : Nat, delay ≤ 80 → pickup ≤ mag →
    ((highSetStep true pickup delay mag)^[n] ⟨0, false, false⟩).operate = decide (delay + 1 ≤ n)) ∧
  (∀ (pickup delay mag : Nat) (h : HighSet), mag < pickup →
    (highSetStep true pickup delay mag h).count = 0 ∧
    (highSetStep true pickup delay mag h).operate = h.operate)

/-! ## Battery arithmetic (Chapter 7) -/

/-- R129: a setpoint lies within floor..ceiling, never rises with the temperature, and the correction
is rounded to the nearest 10 mV, halves away from zero. -/
def Obligations.SetpointsFollowTheTemperature : Prop :=
  (∀ c : Int, 100 * (roundHundredth c).natAbs ≤ c.natAbs + 50 ∧
    c.natAbs + 50 < 100 * (roundHundredth c).natAbs + 100 ∧
    (0 ≤ c → 0 ≤ roundHundredth c) ∧ (c ≤ 0 → roundHundredth c ≤ 0)) ∧
  (∀ (b : BatteryRec) (v : Nat) (t u : Int), batteryOk b = true → t ≤ u →
    (b.floor : Int) ≤ setpoint b v t ∧ setpoint b v t ≤ b.ceiling ∧
    setpoint b v u ≤ setpoint b v t) ∧
  (∀ view : Option Int, setpointTemp false view = 250 ∧ setpointTemp true none = 250) ∧
  (∀ t : Int, setpointTemp true (some t) = max (-300) (min t 500))

/-- R132: an evaluation raises the level to the lowest one whose next threshold SoC has not
undercut, or, where nothing rises, lowers it past every threshold that SoC has cleared by 5. -/
def Obligations.ShedLevelEvaluation : Prop :=
  ∀ (b : BatteryRec) (soc old : Nat), batteryOk b = true → old ≤ 3 →
    let new := shedLevel b soc old
    (old < 3 ∧ soc < shedThreshold b (old + 1) →
      old < new ∧ new ≤ 3 ∧ (∀ j, old < j → j ≤ new → soc < shedThreshold b j) ∧
      (new < 3 → shedThreshold b (new + 1) ≤ soc)) ∧
    (¬ (old < 3 ∧ soc < shedThreshold b (old + 1)) →
      new ≤ old ∧ (∀ j, new < j → j ≤ old → shedThreshold b j + 5 ≤ soc) ∧
      (0 < new → soc < shedThreshold b new + 5))

/-! ## Invariants -/

/-- R15, R28, R32: every step keeps the windows in agreement with the fill count and the elements in
their ranges. -/
def Obligations.MeasurementKept : Prop := Kept MeasureLaw

/-- R90, Table 5-1: every step keeps at most one coil energised, the one of the drive state. -/
def Obligations.CoilsKept : Prop := Kept CoilsLaw

/-- R64, R77, R83: every step keeps what SEQ holds in accord with its state, and FAILED with a halted
drive. -/
def Obligations.SequenceKept : Prop := Kept SequenceLaw

/-- R22, R56, R66: every step keeps the shot counter within N, below N wherever a trip may follow, and
equal to ELE's copy, and SET's view of whether SEQ is settled right. (That the view is right after every
step is the model's choice: SEQ's notice reaches SET within its own arrival, before any selection request
that R56 lets come first, log entry 48.) -/
def Obligations.ShotCounterKept : Prop := Kept (fun s => SequenceLaw s ∧ ShotLaw s)

/-- R65, R108 to R114: every step keeps at most eight tags, one for each crew, the stored table equal to
the table in force, and SEQ's views of tags and of NO_CLOSE tags those of the table in force. -/
def Obligations.TagTableKept : Prop := Kept TagLaw

/-- R20, R153, R180, R182, R183, R186: every step keeps the limits of the queues and records, the
reservation of the outstanding local response, and the receivers within one frame; and no command whose
conditions hold is left waiting at the head of the intake queue (FCU looks after every row, log entry
29; a receiver's byte gap is counted in ticks of 100 µs, log entry 19). -/
def Obligations.QueuesKept : Prop := Kept QueueLaw

/-- R157, R159, R164: every step keeps each area within its depth and the numbers of the URGENT
reports distinct. -/
def Obligations.PacketMemoryKept : Prop := Kept AreasLaw

/-- Tables 7-4, 7-7, 7-8, 10-1, R150: every step keeps the outputs in accord with the states. -/
def Obligations.OutputsKept : Prop := Kept OutputsLaw

/-- R145, R149, R173, R135: every step keeps at most one requester in HOLDING while the supply is
absent, and keys the radio or loads the battery only under a grant. A step that begins and ends with
the supply view ABSENT brings a requester to HOLDING only where no other is left holding the grant, in
HOLDING or in RELEASING (R145, Table 8-2). -/
def Obligations.GrantsKept : Prop :=
  Kept GrantLaw ∧
  ∀ s t, GrantLaw s → step s = .next t → s.sup.supply = false → t.sup.supply = false →
    (s.sup.cap ≠ .holding → t.sup.cap = .holding →
      t.sup.radio.holds = false ∧ t.sup.load.holds = false) ∧
    (s.sup.radio ≠ .holding → t.sup.radio = .holding →
      t.sup.cap.holds = false ∧ t.sup.load.holds = false) ∧
    (s.sup.load ≠ .holding → t.sup.load = .holding →
      t.sup.cap.holds = false ∧ t.sup.radio.holds = false)

/-- R12, R24, R65, R89, R117, R38: every step keeps each block's view equal to SLR's accepted values
and the elements at rest behind open contacts. -/
def Obligations.ViewsKept : Prop := Kept ViewsLaw

/-- R123, R124, R126, R130, R132, R133: every step keeps the charge, the state of charge and the shed
level in their ranges and the views of them right, and no state of the charger but OFF and TEST without
the supply. -/
def Obligations.BatteryKept : Prop := Kept BatteryLaw

/-- The reset state meets every law. -/
def Obligations.ResetMeetsTheLaws : Prop :=
  MeasureLaw State.reset ∧ CoilsLaw State.reset ∧ SequenceLaw State.reset ∧ ShotLaw State.reset ∧
  TagLaw State.reset ∧ QueueLaw State.reset ∧ AreasLaw State.reset ∧ OutputsLaw State.reset ∧
  GrantLaw State.reset ∧ ViewsLaw State.reset ∧ BatteryLaw State.reset

/-! ## The sensor link (Chapter 1) -/

/-- R1, R2, R5, R7, R10, R11, R12, R15: a good frame takes its slot: the sequence accounting, the link,
the previous readings, the accepted values and the windows; a frame that reveals a gap has first taken
the slots of the missing frames (R2, R4 to R7). With the frame come its auxiliary value (R18, R125) and
the forwarding (R20), and what the delivery and the E-step of its slot do to the other blocks: a trip
and a close are confirmed (R93, R98), SEQ leaves UNKNOWN (R67), meets an unexpected position (R82) or a
pulled handle (R79, R100, R117), and a protection trip follows an operate flag (R34, R69). (That a value
handed with the link not UP is not kept as the most recent of its kind is the model's reading of R18
beside R125, log entry 44; that a frame which both brings the link to UP and completes an acceptance
makes one delivery, which carries the accepted values, is its reading of R12, log entry 10. That DRV
takes the capacitor reading of a frame before its delivery, so that the recharge asked for at the end of
an operation stands, is the model's choice, log entry 11; that an unexpected CLOSED in CLOSE_WAIT begins
the manual reclaim before the close conditions are checked is another, log entry 46.) -/
def Obligations.GoodFrameTakesItsSlot : Prop :=
  ∀ (bytes : List Byte) (s : State), s.part.run = .running → sampleFrameOk bytes = true →
    (decodeSample bytes).headFault = false →
    let f := decodeSample bytes
    let n := gapFrames s.slr f.seqNo
    ∃ t, exec (.sampleFrameReceived bytes) s = .next t.serve ∧
      t.slr.lastSeq = some f.seqNo ∧ t.slr.gapCount = 0 ∧ t.slr.silenceLeft = 7 ∧
      t.slr.consecMissing = 0 ∧ t.slr.totalMissing = min 65535 (s.slr.totalMissing + n) ∧
      t.slr.lastGood = some f.samples ∧ t.slr.runPos = some f.pos ∧
      t.slr.prevPosition = some (readPosition f) ∧ t.slr.prevHandle = some (readHandle f) ∧
      t.slr.prevReady = some (readReady f) ∧
      AllBut [.slr, .meu, .ele, .store, .sets, .seq, .drv, .lku, .bat, .sup, .rpb, .pkm, .rpc, .fcu]
        s t ∧
      -- the link, the accepted values and the windows
      (n = 0 →
        t.slr.link =
          (match s.slr.link with
           | .up => .up
           | .holding => .up
           | .lost => .refilling
           | .refilling => if 31 ≤ s.meu.fill then .up else .refilling) ∧
        t.slr.position =
          (if t.slr.link = .up ∧ s.slr.prevPosition = some (readPosition f) then readPosition f
           else s.slr.position) ∧
        t.slr.handle =
          (if t.slr.link = .up ∧ s.slr.prevHandle = some (readHandle f) then readHandle f
           else s.slr.handle) ∧
        t.slr.ready =
          (if t.slr.link = .up ∧ s.slr.prevReady = some (readReady f) then readReady f
           else s.slr.ready) ∧
        sameWindows t.meu (pushSamples s.meu f.samples)) ∧
      (n ≠ 0 → sameAccepted s t ∧
        (s.slr.link = .refilling ∨ 8 ≤ s.slr.consecMissing + n →
          t.slr.link = .refilling ∧
          sameWindows t.meu (pushSamples (clearWindows s.meu) f.samples)) ∧
        (s.slr.link ≠ .refilling → s.slr.consecMissing + n < 8 →
          t.slr.link = .up ∧
          ∀ x, s.slr.lastGood = some x →
            sameWindows t.meu (pushSamples ((fun m => pushSamples m x)^[n] s.meu) f.samples))) ∧
      -- the auxiliary value (R18)
      (t.slr.link ≠ .up →
        t.bat.voltNow = s.bat.voltNow ∧ t.bat.ampNow = s.bat.ampNow ∧
        t.bat.tempView = s.bat.tempView ∧ t.bat.cabView = s.bat.cabView) ∧
      (t.slr.link = .up →
        t.bat.voltNow = (if f.pos % 4 = 0 then some (f.aux : Int) else s.bat.voltNow) ∧
        t.bat.ampNow = (if f.pos % 4 = 1 then some (signed16 f.aux) else s.bat.ampNow) ∧
        t.bat.tempView = (if f.pos % 4 = 2 then some (signed16 f.aux) else s.bat.tempView) ∧
        t.bat.cabView = (if f.pos % 4 = 3 then some (signed16 f.aux) else s.bat.cabView)) ∧
      -- forwarding (R19, R20)
      (s.slr.decimation = 0 → t.slr.takeCount = s.slr.takeCount ∧ t.slr.batch = s.slr.batch) ∧
      (s.slr.decimation ≠ 0 →
        (s.slr.takeCount + 1 < s.slr.decimation →
          t.slr.takeCount = s.slr.takeCount + 1 ∧ t.slr.batch = s.slr.batch) ∧
        (s.slr.decimation ≤ s.slr.takeCount + 1 → t.slr.takeCount = 0 ∧
          (s.slr.batch.length < 7 → t.slr.batch = s.slr.batch ++ [f]) ∧
          (7 ≤ s.slr.batch.length → t.slr.batch = [] ∧
            (n = 0 → s.slr.link = .up → sameAccepted s t → PlainSlot s f → f.pos % 4 ≠ 2 →
              s.sup.supply = true → s.seq.state ≠ .closeWait →
              (s.fcu.localQ.length < 8 →
                t.slr.droppedCount = 0 ∧
                t.fcu = { s.fcu with localQ := s.fcu.localQ ++
                  [.frame .sample (sampleFrame s (s.slr.batch ++ [f])) s.slr.droppedCount] }) ∧
              (8 ≤ s.fcu.localQ.length →
                t.slr.droppedCount = min 65535 (s.slr.droppedCount + 8) ∧ t.fcu = s.fcu))))) ∧
      -- a trip and a close are confirmed (R93, R98)
      (n = 0 → AcceptsPosition s f .opened → HandleStays s f → s.drv.position ≠ .opened →
        s.seq.state = .tripping → s.sets.settledView = false →
        s.drv.state = .tripMain ∨ s.drv.state = .tripBackup →
        ∀ o, s.drv.op = some o →
          DriveRests t.drv ∧ t.drv.degraded = (s.drv.degraded || s.drv.state == .tripBackup) ∧
          t.drv.summary.map (fun m => (m.kind, m.outcome, m.coil)) =
            some (o.kind, .completed, if s.drv.state = .tripBackup then .backup else .main) ∧
          t.seq.state = s.seqTripDone.seq.state ∧ t.seq.lockReason = s.seqTripDone.seq.lockReason) ∧
      (n = 0 → AcceptsPosition s f .closed → HandleStays s f → PlainSlot s f →
        awaitsSeq s.bat = false → s.seq.state = .closing → s.drv.state = .closeActive →
        ∀ o, s.drv.op = some o →
          DriveRests t.drv ∧
          t.drv.summary.map (fun m => (m.kind, m.outcome, m.coil)) =
            some (o.kind, .completed, .closeCoil) ∧
          t.seq.state = .reclaim ∧ t.seq.closeCause = none ∧ t.seq.shot = s.seq.shot ∧
          t.seq.timer = some ⟨.reclaim, s.sets.live.grp.reclaim, s.seq.lastPickup.any⟩) ∧
      -- SEQ leaves UNKNOWN at a fresh delivery (R67)
      (n = 0 → s.seq.state = .unknown → t.slr.link = .up →
        s.slr.link ≠ .up ∨ ¬ sameAccepted s t → PlainSlot s f → awaitsSeq s.bat = false →
        (t.slr.handle = .pulled → t.seq.state = .lockout ∧ t.seq.lockReason = some .handle) ∧
        (t.slr.handle = .returned → t.slr.position = .opened →
          t.seq.state = .lockout ∧ t.seq.lockReason = some (restartReason s.seq.restartMark)) ∧
        (t.slr.handle = .returned → t.slr.position = .closed →
          (s.seq.restartMark = none → t.seq.state = .ready ∧ t.seq.shot = 0) ∧
          (∀ m, s.seq.restartMark = some m →
            t.seq.state = .tripping ∧ t.seq.tripCause = some (markCause m))) ∧
        (t.slr.handle = .returned → t.slr.position = .indeterminate →
          t.seq.state = .unknown ∧ t.seq.restartMark = s.seq.restartMark)) ∧
      -- an unexpected position (R82, R76)
      (n = 0 → AcceptsPosition s f .opened → HandleStays s f → PlainSlot s f →
        s.seq.position ≠ .opened → s.seq.state = .ready ∨ s.seq.state = .reclaim →
        t.seq.state = .lockout ∧ t.seq.lockReason = some .unexpectedOpen) ∧
      (n = 0 → AcceptsPosition s f .closed → HandleStays s f → PlainSlot s f →
        awaitsSeq s.bat = false → s.seq.position ≠ .closed →
        s.seq.state = .lockout ∨ s.seq.state = .openInterval ∨
          s.seq.state = .closeWait ∧ f.cap = s.seq.cap ∧ s.seq.capStale = false →
        t.seq.state = .reclaim ∧ t.seq.manualReclaim = true ∧
        t.seq.shot = s.sets.live.grp.shots - 1 ∧
        t.seq.timer = some ⟨.reclaim, s.sets.live.grp.reclaim, s.seq.lastPickup.any⟩) ∧
      -- a pulled handle (R79, R100, R117)
      (n = 0 → s.slr.link = .up → s.slr.prevHandle = some .pulled → readHandle f = .pulled →
        s.slr.handle = .returned → t.slr.position = s.slr.position →
        s.seq.position = s.slr.position → s.seq.handle = .returned → PlainSlot s f →
        s.seq.state ≠ .unknown → s.seq.state ≠ .failed →
        t.seq.state = .lockout ∧ t.seq.lockReason = some .handle ∧ t.lku.handle = .pulled ∧
        t.lku.handleStale = false ∧
        (s.drv.state = .closeActive → ∀ o, s.drv.op = some o →
          DriveRests t.drv ∧
          t.drv.summary.map (fun m => (m.kind, m.outcome)) = some (o.kind, .abandoned))) ∧
      -- an E-step (R16, R34, R69, R152)
      (n = 0 → s.slr.link = .up → sameAccepted s t → endsQuarter s.slr.runPos f.pos = true →
        s.sets.settledView = seqSettled s →
        let m := measure s.sets.live.grp (pushSamples s.meu f.samples)
        let e := eleStep s.sets.live m.mags s.ele
        let r := stepResult s.ele e
        t.meu = m ∧ t.rpb.profSum = s.rpb.profSum + maxPhase m.mags ∧
        t.rpb.profCount = min 16777215 (s.rpb.profCount + 1) ∧
        (s.seq.state = .lockout →
          t.ele = e ∧ t.seq.lastPickup = r.pickup ∧ t.seq.lastOperate = r.operate ∧
          t.seq.state = .lockout) ∧
        (s.seq.state = .ready → r.operate.any = true → tripAnswer s.drv = .accepted →
          t.ele = { e with shotCopy := s.seq.shot + 1 } ∧ t.seq.state = .tripping ∧
          t.seq.tripCause = some .protection ∧ t.seq.shot = s.seq.shot + 1 ∧
          t.drv.state = .tripMain ∧ t.drv.coilMain = true))

/-- R1 to R7, R10: a reception that is no good sample frame, and an expiry of the silence timer, each
declare a missing frame, and a CRC-valid frame with its head fault set first declares those of the gap
that it reveals: each is counted, the previous readings go, an UP link holds and an eighth missing
frame in a row loses it; a held slot repeats the last good samples. -/
def Obligations.MissingFrameTakesItsSlot : Prop :=
  ∀ (c : Instr) (s : State) (m : Nat), s.part.run = .running →
    (c = .silenceTimerExpiry ∧ m = 1 ∨
      ∃ bytes, c = .sampleFrameReceived bytes ∧
        (sampleFrameOk bytes = false ∧ m = 1 ∨
          sampleFrameOk bytes = true ∧ (decodeSample bytes).headFault = true ∧
            m = gapFrames s.slr (decodeSample bytes).seqNo + 1)) →
    ∃ t, exec c s = .next t.serve ∧
      t.slr.silenceLeft = 7 ∧
      (∀ bytes, c = .sampleFrameReceived bytes → sampleFrameOk bytes = true →
        t.slr.gapCount = 0 ∧ t.slr.lastSeq = some (decodeSample bytes).seqNo) ∧
      ((∀ bytes, c = .sampleFrameReceived bytes → sampleFrameOk bytes = false) →
        t.slr.gapCount = s.slr.gapCount + 1 ∧ t.slr.lastSeq = s.slr.lastSeq) ∧
      t.slr.consecMissing = min 8 (s.slr.consecMissing + m) ∧
      t.slr.totalMissing = min 65535 (s.slr.totalMissing + m) ∧
      t.slr.prevPosition = none ∧ t.slr.prevHandle = none ∧ t.slr.prevReady = none ∧
      t.slr.position = s.slr.position ∧ t.slr.handle = s.slr.handle ∧
      t.slr.ready = s.slr.ready ∧
      (match s.slr.link with
       | .up | .holding =>
         if 8 ≤ s.slr.consecMissing + m then
           t.slr.link = .lost ∧ t.slr.lastGood = none ∧
           sameWindows t.meu (clearWindows s.meu) ∧ t.meu.valid = false ∧ t.ele.frozen = true
         else
           t.slr.link = .holding ∧ t.slr.lastGood = s.slr.lastGood ∧
           t.slr.runPos = s.slr.runPos.map (fun p => (p + m) % 32) ∧
           (∀ x, s.slr.lastGood = some x →
             sameWindows t.meu ((fun w => pushSamples w x)^[m] s.meu))
       | .lost => t.slr.link = .lost ∧ t.meu = s.meu ∧ AllBut [.slr] s t
       | .refilling =>
         t.slr.link = .lost ∧ sameWindows t.meu (clearWindows s.meu) ∧ AllBut [.slr, .meu] s t) ∧
      AllBut [.slr, .meu, .ele, .store, .sets, .seq, .drv, .lku, .bat, .sup, .rpb, .pkm, .rpc, .fcu]
        s t

/-! ## The reclose sequence (Chapter 4) -/

/-- R69, R80, R84, R92, R99: a trip request placed in READY, RECLAIM or CLOSING on a drive that accepts
it, in IDLE or, as a trip-free trip, in CLOSE_ACTIVE: SEQ is TRIPPING with the cause, the main coil is
energised for the trip travel limit, and the shot counter is raised by a protection trip alone. -/
def Obligations.TripIsPlaced : Prop :=
  ∀ s : State, tripAnswer s.drv = .accepted →
    (∀ (c : TripCause) (announce : Option Flags4),
      let t := s.placeTrip c announce
      t.seq.state = .tripping ∧ t.seq.tripCause = some c ∧ t.seq.shot = s.seq.shot ∧
      t.seq.timer = none ∧ t.drv.state = .tripMain ∧
      t.drv.coilMain = true ∧ t.drv.coilBackup = false ∧ t.drv.coilClose = false ∧
      t.drv.monitor = some s.store.device.tripLimit ∧
      t.drv.op.map (fun o => (o.kind, o.limit, o.extended)) =
        some (.trip c, s.store.device.tripLimit, false) ∧
      AllBut (eventBlocks ++ [.seq, .drv, .bat, .sup]) s t ∧
      (s.drv.state = .idle → AllBut (eventBlocks ++ [.seq, .drv]) s t)) ∧
    (let t := s.seqProtect
     t.seq.state = .tripping ∧ t.seq.tripCause = some .protection ∧
     t.seq.shot = s.seq.shot + 1 ∧ t.ele = { s.ele with shotCopy := s.seq.shot + 1 } ∧
     t.drv.state = .tripMain ∧ AllBut (eventBlocks ++ [.ele, .seq, .drv, .bat, .sup]) s t)

/-- R70, R71: the end of a trip. A command, a low battery, a tag, the last shot and a manual reclaim
each lead to LOCKOUT with its reason, in this order; any other trip leads to OPEN_INTERVAL with the
interval of the trip. Outside TRIPPING the report is ignored. -/
def Obligations.TripEndDecides : Prop :=
  ∀ s : State,
    (s.seq.state ≠ .tripping → s.seqTripDone = s) ∧
    (s.seq.state = .tripping →
      let n := s.sets.live.grp.shots
      let reason : Option LockReason :=
        if s.seq.tripCause = some .command then some .commandTrip
        else if s.seq.tripCause = some .lowBattery then some .lowBattery
        else if s.seq.tagPresent then some .tag
        else if s.seq.shot = n ∨ s.seq.manualReclaim = true then some .shotsExhausted
        else none
      let t := s.seqTripDone
      t.seq.shot = s.seq.shot ∧ t.seq.tripCause = none ∧ t.seq.manualReclaim = false ∧
      AllBut (eventBlocks ++ [.seq, .bat]) s t ∧
      (∀ r, reason = some r → t.seq.state = .lockout ∧ t.seq.lockReason = some r ∧
        t.seq.timer = none ∧ Emitted s (.lockout r s.seq.shot) t) ∧
      (reason = none → t.seq.state = .openInterval ∧ t.seq.lockReason = none ∧
        t.seq.timer =
          some ⟨.openInterval, s.sets.live.grp.intervals.getD (s.seq.shot - 1) 0, false⟩ ∧
        t.rpb = s.rpb))

/-- R71, R72, R97: the open interval ends. SEQ waits for the close conditions with the close wait
timer running; with all of them met and DRV accepting, it is CLOSING with cause AUTO and the close
coil is energised for the close travel limit. A close on closed contacts completes at once, and leaves
the drive's last operation summary as it was (the model's choice, log entry 13). -/
def Obligations.OpenIntervalExpires : Prop :=
  ∀ s : State, s.part.run = .running → timerRuns s.seq .openInterval = true →
    ∃ t, exec .openIntervalExpiry s = .next t.serve ∧
      AllBut (eventBlocks ++ [.ele, .store, .sets, .seq, .drv, .bat]) s t ∧
      (closeConditionsMet s = false ∨ closeAnswer s = .refusedState ∨
          closeAnswer s = .refusedEnergy →
        t.seq = { s.seq with
          state := .closeWait, lockReason := none, tripCause := none, closeCause := none
          timer := some ⟨.closeWait, s.store.device.closeWait * 1000, false⟩
          restartMark := none, episode := none } ∧
        t.sets = { s.sets with settledView := false } ∧ AllBut [.seq, .sets] s t) ∧
      (closeConditionsMet s = true ∧ closeAnswer s = .accepted →
        t.seq.state = .closing ∧ t.seq.closeCause = some .auto ∧ t.seq.timer = none ∧
        t.seq.shot = s.seq.shot ∧ t.drv.state = .closeActive ∧ t.drv.coilClose = true ∧
        t.drv.coilMain = false ∧ t.drv.coilBackup = false ∧
        t.drv.monitor = some s.store.device.closeLimit ∧
        t.drv.op.map (fun o => o.kind) = some (.close .auto) ∧
        AllBut [.seq, .sets, .drv] s t) ∧
      (closeConditionsMet s = true ∧ closeAnswer s = .completed ∧ awaitsSeq s.bat = false →
        t.seq.state = .reclaim ∧ t.seq.shot = s.seq.shot ∧
        t.seq.timer = some ⟨.reclaim, s.sets.live.grp.reclaim, s.seq.lastPickup.any⟩ ∧
        Emitted s (.reclose .auto s.seq.shot) t ∧
        AllBut (eventBlocks ++ [.seq, .sets]) s t)

/-- R73, R75, R86: the close wait and the reclaim time end. After the close wait SEQ is in
LOCKOUT(CLOSE_WAIT_EXPIRED) and a disconnect that waits for the lockout (R140) is carried out; after the
reclaim time SEQUENCE_RESET carries the shot counter, which becomes 0, and SEQ is READY. -/
def Obligations.WaitAndReclaimExpire : Prop :=
  ∀ s : State, s.part.run = .running →
    (timerRuns s.seq .closeWait = true → ∃ t, exec .closeWaitExpiry s = .next t.serve ∧
      t.seq.state = .lockout ∧ t.seq.lockReason = some .closeWaitExpired ∧ t.seq.timer = none ∧
      AllBut (eventBlocks ++ [.ele, .store, .sets, .seq, .bat]) s t ∧
      (s.sets.pendingSel = none →
        t.seq.shot = s.seq.shot ∧ Emitted s (.lockout .closeWaitExpired s.seq.shot) t ∧
        t.sets = { s.sets with settledView := true } ∧
        t.bat = (if awaitsSeq s.bat then { s.bat with disc := .disconnected, lvdOut := true }
                 else s.bat) ∧
        AllBut (eventBlocks ++ [.seq, .sets, .bat]) s t)) ∧
    (timerRuns s.seq .reclaim = true → awaitsSeq s.bat = false →
      ∃ t, exec .reclaimExpiry s = .next t.serve ∧
      t.seq.state = .ready ∧ t.seq.shot = 0 ∧ t.ele.shotCopy = 0 ∧ t.seq.manualReclaim = false ∧
      t.seq.timer = none ∧ AllBut (eventBlocks ++ [.ele, .store, .sets, .seq]) s t ∧
      (s.sets.pendingSel = none →
        Emitted s (.sequenceReset s.seq.shot) t ∧
        t.sets = { s.sets with settledView := !s.seq.lastPickup.any } ∧
        t.ele = { s.ele with shotCopy := 0 } ∧
        AllBut (eventBlocks ++ [.ele, .seq, .sets]) s t))

/-! ## The mechanism drive (Chapter 5) -/

/-- R94, R95, R105: a trip monitor period ends. The first period changes to the backup coil on fresh
values and is extended on stale ones, with TRIP_COIL_FAIL and a MAIN_COIL_FAIL snapshot sent to the
store; the backup and the extended period halt the drive, which brings SEQ to FAILED. -/
def Obligations.TripMonitorExpires : Prop :=
  ∀ (s : State) (o : DriveOp), s.part.run = .running → s.drv.monitor.isSome = true →
    s.drv.op = some o →
    (s.drv.state = .tripMain ∧ o.extended = false → ∃ t, exec .tripMonitorExpiry s = .next t.serve ∧
      t.drv.snapshot = failure s .mainCoilFail ∧ t.drv.monitor = some o.limit ∧
      AllBut (eventBlocks ++ [.store, .drv, .bat, .sup]) s t ∧
      Requested s t .lastFailure (.lastFailure (failure s .mainCoilFail)) ∧
      (s.drv.stale = true →
        t.drv = { s.drv with
          snapshot := failure s .mainCoilFail, op := some { o with extended := true }
          monitor := some o.limit } ∧
        Emitted s (.tripCoilFail s.drv.position true .extended o.lowEnergy) t ∧
        AllBut (eventBlocks ++ [.drv, .store]) s t) ∧
      (s.drv.stale = false →
        t.drv.state = .tripBackup ∧ t.drv.coilMain = false ∧ t.drv.coilBackup = true ∧
        t.drv.coilClose = false ∧ t.drv.op = some o ∧ t.drv.recharge = true ∧
        (s.drv.recharge = true →
          Emitted s (.tripCoilFail s.drv.position false .backup o.lowEnergy) t ∧
          AllBut (eventBlocks ++ [.drv, .store]) s t))) ∧
    (s.drv.state = .tripBackup ∨ s.drv.state = .tripMain ∧ o.extended = true →
      ∃ t, exec .tripMonitorExpiry s = .next t.serve ∧
      t.drv.state = .halted ∧ t.drv.coilMain = false ∧ t.drv.coilBackup = false ∧
      t.drv.coilClose = false ∧ t.drv.op = none ∧ t.drv.monitor = none ∧
      t.drv.snapshot = failure s .halted ∧ t.drv.recharge = true ∧
      t.drv.summary.map (fun m => (m.kind, m.outcome)) = some (o.kind, .halted) ∧
      t.seq.state = .failed ∧ t.seq.timer = none ∧
      AllBut (eventBlocks ++ [.ele, .store, .sets, .seq, .drv, .bat, .sup]) s t)

/-- R98, R74, R105: the close monitor ends. The close coil is dropped, CLOSE_FAIL is recorded, and SEQ
leaves CLOSING for LOCKOUT(CLOSE_FAILED). -/
def Obligations.CloseMonitorExpires : Prop :=
  ∀ (s : State) (o : DriveOp), s.part.run = .running → s.drv.monitor.isSome = true →
    s.drv.op = some o → s.drv.state = .closeActive →
    ∃ t, exec .closeMonitorExpiry s = .next t.serve ∧
      t.drv.state = .idle ∧ t.drv.coilMain = false ∧ t.drv.coilBackup = false ∧
      t.drv.coilClose = false ∧ t.drv.op = none ∧ t.drv.monitor = none ∧
      t.drv.snapshot = failure s .closeFail ∧ t.drv.recharge = true ∧
      t.drv.summary.map (fun m => (m.kind, m.outcome)) = some (o.kind, .closeFail) ∧
      (s.seq.state = .closing →
        t.seq.state = .lockout ∧ t.seq.lockReason = some .closeFailed ∧ t.seq.closeCause = none) ∧
      AllBut (eventBlocks ++ [.ele, .store, .sets, .seq, .drv, .bat, .sup]) s t

/-! ## The durable store and the tags (Chapters 3 and 6) -/

/-- R51, R52, R50, R123, R164, R176: a store operation of a settings table completes. That table alone
has the new contents, the next waiting request starts, the response DONE is sent on either port, and
SETTINGS_WRITTEN joins the open record as its last entry (index 0 for a table without an index is the
model's choice, log entry 40; so is its place after the SHED_CHANGED that a new capacity may bring, log
entries 37 and 30). A cleared group drops its pending selection, a battery record works out the setpoints and
limits the charge by a new capacity, a radio record without unsolicited sending ends a holdoff, and a
partition empties the four areas and adds the URGENT reports to the lost count. -/
def Obligations.StoreOperationCompletes : Prop :=
  ∀ (s : State) (op : StoreOp), s.part.run = .running → s.store.inFlight = some op →
    (∀ ts cs, op.body ≠ .tags ts cs) →
    ∃ t, exec .storeOperationComplete s = .next t.serve ∧
      sameTables t.store (op.body.into s.store) ∧
      t.store.waitList = s.store.waitList.tail ∧
      t.store.inFlight.isSome = !s.store.waitList.isEmpty ∧
      AllBut (eventBlocks ++ [.store, .sets, .lku, .bat, .sup]) s t ∧
      t.sets.live = s.sets.live ∧ t.lku.inForce = s.lku.inForce ∧
      (∀ slot, op.body = .group slot none → s.sets.pendingSel.map Prod.fst = some (some slot) →
        t.sets.pendingSel = none) ∧
      -- the response (R52, R184)
      (∀ r, op.reply = some r → r.port = .radio → responseRoom s = true →
        (∀ f, op.body ≠ .lastFailure f) → (∀ p, op.body = .areas p → 62 ≤ p.response.depth) →
        t.pkm.response.getLast?.map (fun x => x.frame) = some (responseFrame r .done []) ∧
        t.fcu.outRadio = false) ∧
      (∀ r, op.reply = some r → r.port = .localPort → .reservation ∈ s.fcu.localQ →
        (∀ f, op.body ≠ .lastFailure f) →
        LocalItem.frame .response (responseFrame r .done []) 0 ∈ t.fcu.localQ ∧
        t.fcu.outLocal = false) ∧
      -- SETTINGS_WRITTEN (R52)
      (∀ table index, op.body.names = some (table, index) →
        (∀ g ∈ s.rpb.routine, g.entries.length < 10) → s.bat.test = .idle →
        (t.rpb.routine.bind (fun g => g.entries.getLast?)).map (fun e => e.ev) =
          some (.settingsWritten table index)) ∧
      -- a group (R49, R50)
      (∀ slot g, op.body = .group slot g →
        t.sets = (if g = none ∧ s.sets.pendingSel.map Prod.fst = some (some slot) then
          { s.sets with pendingSel := none } else s.sets) ∧
        AllBut (eventBlocks ++ [.store, .sets, .lku]) s t) ∧
      -- a battery record (R123, R129)
      (∀ b, op.body = .battery b →
        let temp := setpointTemp (s.slr.link == .up) s.bat.tempView
        t.bat.absorbSet = setpoint b b.absorbV temp ∧ t.bat.floatSet = setpoint b b.floatV temp ∧
        t.bat.intervalLeft = (if s.store.battery.testHours = b.testHours then s.bat.intervalLeft
          else b.testHours * 3600000) ∧
        (s.store.battery.capacity = b.capacity →
          t.bat.q = s.bat.q ∧ t.bat.soc = s.bat.soc ∧ t.bat.estimated = s.bat.estimated) ∧
        (s.store.battery.capacity ≠ b.capacity →
          t.bat.estimated = true ∧ t.bat.q = min s.bat.q (b.capacity * 360000) ∧
          t.bat.soc = t.bat.q * 100 / (b.capacity * 360000)) ∧
        t.rpb.profLow = s.rpb.profLow ∧ t.sets = s.sets) ∧
      -- a radio record (R175, R176)
      (∀ r, op.body = .radio r → r.unsolicited = false → s.rpc.state = .holdoff →
        t.rpc.state = .listen ∧ t.rpc.holdoff = none ∧ t.sets = s.sets) ∧
      -- a partition (R164)
      (∀ p, op.body = .areas p → (∀ g ∈ s.rpb.routine, g.entries.length < 11) →
        t.pkm.urgent = [] ∧ t.pkm.routine = [] ∧ t.pkm.forward = [] ∧ t.pkm.response.length ≤ 1 ∧
        (op.reply.all (fun r => r.port != .radio) = true → t.pkm.response = []) ∧
        t.rpb.lostUrgent = min 255 (s.rpb.lostUrgent + s.pkm.urgent.length) ∧
        AllBut (eventBlocks ++ [.store, .lku]) s t)

/-- R109 to R116, R59, R60, R78: a tag table write completes. Its changes take effect in order in the
table in force and in the stored table, and a placed tag takes the part time of that moment. SEQ takes
its notice: a NO_CLOSE tag ends an open interval, a close wait and a close, any other first tag ends an
open interval and a close wait and makes a close manual. SET takes its own: with a tag group, the first
tag switches to it and records the return group, and the end of the last tag returns; while SEQ is not
settled the selection waits. A change is recorded as its event and answered DONE. -/
def Obligations.TagWriteTakesEffect : Prop :=
  ∀ (s : State) (op : StoreOp) (ts : List Tag) (cs : List TagChange), s.part.run = .running →
    s.store.inFlight = some op → op.body = .tags ts cs →
    s.seq.tagPresent = anyTag s.lku.inForce → s.seq.noClosePresent = anyNoClose s.lku.inForce →
    ∃ t, exec .storeOperationComplete s = .next t.serve ∧
      t.lku.inForce =
        cs.foldl (fun table c => (placedNow s.fcu.time c).apply table) s.lku.inForce ∧
      t.store.tags = (if cs = [] then s.store.tags else t.lku.inForce) ∧
      t.lku.countdowns = cs.foldl (fun l c => countdownsAfter c l) s.lku.countdowns ∧
      t.seq.tagPresent = anyTag t.lku.inForce ∧ t.seq.noClosePresent = anyNoClose t.lku.inForce ∧
      t.lku.handle = s.lku.handle ∧
      AllBut (eventBlocks ++ [.ele, .store, .sets, .seq, .drv, .lku, .bat, .sup]) s t ∧
      -- the event and the response of a change (R116, R109, R184)
      (∀ c, cs = [c] →
        (s.seq.tagPresent = t.seq.tagPresent → s.seq.noClosePresent = t.seq.noClosePresent →
          (∀ tag r, c = .place tag r → t.rpb = (s.emit
            (.tagPlaced tag.crew tag.kind tag.port tag.level (tag.expiry.getD 0))).rpb) ∧
          (∀ crew tag, tagOf s.lku.inForce crew = some tag →
            (∀ p l r, c = .escalate crew p l r →
              t.rpb = (s.emit (.tagEscalated crew tag.port tag.level p l)).rpb) ∧
            (∀ p l r, c = .remove crew p l r →
              t.rpb = (s.emit (.tagRemoved crew tag.kind p l)).rpb) ∧
            (c = .expire crew →
              t.rpb = (s.emit (.tagExpired crew tag.kind (tag.expiry.getD 0))).rpb))) ∧
        (∀ r, c.reply = some r → r.port = .radio → responseRoom s = true →
          t.pkm.response.getLast?.map (fun x => x.frame) = some (responseFrame r .done []) ∧
          t.fcu.outRadio = false) ∧
        (∀ r, c.reply = some r → r.port = .localPort → .reservation ∈ s.fcu.localQ →
          LocalItem.frame .response (responseFrame r .done []) 0 ∈ t.fcu.localQ ∧
          t.fcu.outLocal = false)) ∧
      (s.sets.settledView = seqSettled s →
        -- SEQ (R78)
        (s.seq.noClosePresent = false → t.seq.noClosePresent = true →
          (s.seq.state = .openInterval ∨ s.seq.state = .closeWait →
            t.seq.state = .lockout ∧ t.seq.lockReason = some .tag ∧ t.seq.timer = none) ∧
          (∀ o, s.drv.op = some o → s.seq.state = .closing → s.drv.state = .closeActive →
            t.seq.state = .lockout ∧ t.seq.lockReason = some .tag ∧ DriveRests t.drv ∧
            t.drv.summary.map (fun m => (m.kind, m.outcome)) = some (o.kind, .abandoned))) ∧
        (s.seq.tagPresent = false → t.seq.tagPresent = true → t.seq.noClosePresent = false →
          (s.seq.state = .openInterval ∨ s.seq.state = .closeWait →
            t.seq.state = .lockout ∧ t.seq.lockReason = some .tag ∧ t.seq.timer = none) ∧
          (s.seq.state = .closing →
            t.seq.state = .closing ∧ t.seq.manualReclaim = true ∧ t.drv = s.drv)) ∧
        (s.seq.state = .ready ∨ s.seq.state = .reclaim ∨ s.seq.state = .tripping ∨
            s.seq.state = .lockout →
          t.seq.state = s.seq.state ∧ t.seq.lockReason = s.seq.lockReason ∧ t.drv = s.drv) ∧
        -- the tag group (R59)
        (s.seq.tagPresent = false → t.seq.tagPresent = true →
          (∀ g k, s.store.device.tagGroup = some g → s.store.groups[g]?.join = some k →
            (s.seq.state = .lockout →
              t.sets.active = some g ∧ t.sets.pendingSel = none ∧
              t.sets.ret = some (s.sets.ret.getD s.sets.active) ∧
              (s.sets.active ≠ some g → t.sets.live.source = some g ∧ t.sets.live.grp = k)) ∧
            (s.seq.state = .tripping →
              t.sets = { s.sets with
                pendingSel := some (some g, .tag), ret := some (s.sets.ret.getD s.sets.active) })) ∧
          (s.store.device.tagGroup.all (fun g => s.store.groups[g]?.join == none) = true →
            s.seq.state = .lockout ∨ s.seq.state = .tripping → t.sets = s.sets)) ∧
        -- the return (R60)
        (s.seq.tagPresent = true → t.seq.tagPresent = false →
          (∀ g, s.sets.ret = some g →
            (s.seq.state = .lockout →
              t.sets.pendingSel = none ∧ t.sets.ret = none ∧
              ((∀ n, g = some n → s.store.groups[n]?.join ≠ none) → t.sets.active = g)) ∧
            (s.seq.state = .tripping →
              t.sets = (if g = s.sets.active then { s.sets with pendingSel := none, ret := none }
                else { s.sets with pendingSel := some (g, .ret) }))) ∧
          (s.sets.ret = none → s.seq.state = .lockout ∨ s.seq.state = .tripping →
            t.sets = s.sets)))

/-- R113: a countdown ends. The removal of its tag is staged and the tag table is written, at once or
after the operation in flight; the tag stays in force. With a removal already staged nothing is
asked. (That the countdown stands at 0 from then on is the model's choice, log entry 54.) -/
def Obligations.CountdownEnds : Prop :=
  ∀ (s : State) (crew : Nat), s.part.run = .running →
    (s.lku.countdowns.lookup crew).isSome = true →
    ∃ t, exec (.tagExpiryCountdownEnd crew) s = .next t.serve ∧
      t.lku.inForce = s.lku.inForce ∧ t.lku.handle = s.lku.handle ∧
      t.lku.countdowns = s.lku.countdowns.map (fun p => if p.1 = crew then (p.1, 0) else p) ∧
      AllBut [.lku, .store] s t ∧
      (removalStaged s crew = true → t.store = s.store ∧ t.lku.staged = s.lku.staged ∧
        t.lku.changes = s.lku.changes) ∧
      (removalStaged s crew = false →
        t.lku.staged = dropTag s.lku.staged crew ∧ sameTables t.store s.store ∧
        (s.store.inFlight = none →
          t.store.inFlight = some
            ⟨.tags (dropTag s.lku.staged crew) (s.lku.changes ++ [.expire crew]), none, 50⟩ ∧
          t.lku.changes = []) ∧
        (s.store.inFlight ≠ none →
          t.store.inFlight = s.store.inFlight ∧ InternalTable.tags ∈ t.store.waitList ∧
          t.lku.changes = s.lku.changes ++ [.expire crew]))

/-! ## Battery care (Chapter 7) -/

/-- R124, R133, R139, R149: an edge of SUPPLY_PRESENT starts the qualification of a new level, or
ends it; a level that has held is taken: BAT, SUP and RPC see it, the charger stops or starts, and
the return of the supply ends every shed level and disconnect. -/
def Obligations.SupplyIsTaken : Prop :=
  ∀ s : State, s.part.run = .running →
    (∀ level, s.lines.supplyPresent ≠ level → ∃ t, exec (.supplyPresentEdge level) s = .next t.serve ∧
      t.lines = { s.lines with supplyPresent := level } ∧
      t.bat = { s.bat with qualLeft := if s.bat.supply = level then none else some 200 } ∧
      AllBut [.lines, .bat] s t) ∧
    (s.bat.qualLeft.isSome = true → ∃ t, exec .supplyChangeTaken s = .next t.serve ∧
      t.bat.supply = s.lines.supplyPresent ∧ t.sup.supply = s.lines.supplyPresent ∧
      t.rpc.supply = s.lines.supplyPresent ∧ t.bat.qualLeft = none ∧
      AllBut (eventBlocks ++ [.bat, .sup]) s t ∧
      (s.lines.supplyPresent = true →
        t.bat.shed = 0 ∧ t.bat.disc = .normal ∧ t.bat.lvdOut = false ∧ t.bat.qualCount = 0 ∧
        t.bat.absentSince = none ∧
        (s.bat.charger = .off ∧ faultCause { s.bat with supply := true } = none ∧
          s.bat.due = none ∧ s.bat.test = .idle → t.bat.charger = .bulk ∧ t.bat.chgEn = true)) ∧
      (s.lines.supplyPresent = false →
        t.bat.absentSince = some s.fcu.running ∧
        (s.bat.charger ≠ .test ∧ s.bat.test = .idle ∧ s.bat.due = none →
          t.bat.charger = .off ∧ t.bat.chgEn = false ∧ t.bat.chgIlim = 0)))

/-- R125, R126, R127, R130, R131, R139, R140, R84: a battery second ends. The means are taken, the charge moves by
the mean current, a fault condition brings the charger to FAULT, one in BULK whose mean voltage has
reached the absorb setpoint enters ABSORB with its timer started, the tail current brings ABSORB to
FLOAT and a full charge (R131), the rebulk count brings FLOAT to BULK, and a disconnect qualifies at the
sixtieth second: with action HOLD it is made at once, and with OPEN_FIRST SEQ takes the low-battery trip
request by its state (R84). In TRIPPING LVD_PENDING is recorded, where the second brings no mean current
and the charger stands in OFF or TEST, as it does without the supply (Table 7-3, BatteryLaw). (That the
charge moves in a second that ends with the link not UP but holds values of it, and that the fault
condition is evaluated before the other transitions, are the model's choices, log entries 39 and 17.) -/
def Obligations.BatterySecondEnds : Prop :=
  ∀ s : State, s.part.run = .running →
    let v := meanOf s.bat.voltSum s.bat.voltCount
    let i := meanOf s.bat.ampSum s.bat.ampCount
    let lastV := v.orElse (fun _ => s.bat.lastV)
    ∃ t, exec .batterySecondEnd s = .next t.serve ∧
      t.bat.secondLeft = 1000 ∧ t.bat.voltSum = 0 ∧ t.bat.voltCount = 0 ∧ t.bat.ampSum = 0 ∧
      t.bat.ampCount = 0 ∧ t.bat.lastV = lastV ∧
      t.bat.lastI = i.orElse (fun _ => s.bat.lastI) ∧
      -- the charge (R130)
      (s.bat.charger ≠ .absorb ∨ s.slr.link ≠ .up →
        t.bat.q = (match i with
          | some i => (clampInt 0 (qFull s.store.battery)
              (s.bat.q + if 0 < i then i * 15 / 16 else i)).toNat
          | none => s.bat.q) ∧
        (i.isSome = true → t.bat.soc = t.bat.q * 100 / qFull s.store.battery)) ∧
      -- the charger (R126, R127, R131)
      (∀ x, v = some x → s.bat.supply = true → s.bat.due = none →
        (∀ c, faultCause { s.bat with lastV := lastV } = some c →
          s.bat.charger = .bulk ∨ s.bat.charger = .absorb ∨ s.bat.charger = .float →
          t.bat.charger = .fault ∧ t.bat.fault = some c ∧ t.bat.absorbMs = none ∧
          t.bat.recoveryLeft = none ∧ t.bat.chgEn = false ∧ t.bat.chgIlim = 0) ∧
        (faultCause { s.bat with lastV := lastV } = none → s.bat.charger = .bulk →
          t.bat.fault = none ∧
          (s.bat.absorbSet ≤ x →
            t.bat.charger = .absorb ∧ t.bat.absorbMs = some 0 ∧ t.bat.chgEn = true ∧
            t.bat.chgVset = s.bat.absorbSet ∧ t.bat.chgIlim = s.store.battery.bulkLimit) ∧
          (x < s.bat.absorbSet →
            t.bat.charger = .bulk ∧ t.bat.absorbMs = s.bat.absorbMs))) ∧
      (v = none → s.bat.supply = true → s.bat.charger = .bulk → t.bat.charger = .bulk) ∧
      (s.bat.supply = true → s.bat.due = none →
        (v.isSome = true → faultCause { s.bat with lastV := lastV } = none) →
        (s.bat.charger = .absorb →
          (i.any (fun x : Int => decide (x < s.store.battery.tail)) = true →
            t.bat.charger = .float ∧ t.bat.absorbMs = none ∧ t.bat.rebulk = 0 ∧ t.bat.chgEn = true ∧
            t.bat.chgVset = s.bat.floatSet ∧ t.bat.chgIlim = s.store.battery.bulkLimit ∧
            (s.slr.link = .up →
              t.bat.q = qFull s.store.battery ∧ t.bat.estimated = false ∧
              t.bat.soc = socOf s.store.battery (qFull s.store.battery)) ∧
            (s.slr.link ≠ .up → t.bat.estimated = s.bat.estimated)) ∧
          (i.any (fun x : Int => decide (x < s.store.battery.tail)) = false →
            s.bat.absorbMs.any (fun m => decide (absorbLimit s.store.battery ≤ m)) = false →
            t.bat.charger = .absorb ∧ t.bat.absorbMs = s.bat.absorbMs)) ∧
        (s.bat.charger = .float →
          let n := (match v with
            | some x => if x < s.bat.floatSet - s.store.battery.rebulkMargin then s.bat.rebulk + 1
                        else 0
            | none => s.bat.rebulk)
          (60 ≤ n →
            t.bat.charger = .bulk ∧ t.bat.absorbMs = none ∧ t.bat.rebulk = 0 ∧ t.bat.chgEn = true ∧
            t.bat.chgVset = s.bat.absorbSet ∧ t.bat.chgIlim = s.store.battery.bulkLimit) ∧
          (n < 60 → t.bat.charger = .float ∧ t.bat.rebulk = n))) ∧
      -- the disconnect (R139, R140, R84)
      (s.bat.supply = false ∧ s.bat.disc = .normal ∧ s.store.battery.action = .hold →
        (59 ≤ s.bat.qualCount → v.any (fun x : Int => decide (x < s.store.battery.discV)) = true →
          t.bat.disc = .disconnected ∧ t.bat.lvdOut = true) ∧
        (s.bat.qualCount < 59 → v.isSome = true →
          t.bat.disc = .normal ∧
          t.bat.qualCount = (if v.any (fun x : Int => decide (x < s.store.battery.discV)) = true
            then s.bat.qualCount + 1 else 0))) ∧
      (s.bat.supply = false ∧ s.bat.disc = .normal ∧ s.store.battery.action = .openFirst →
        (59 ≤ s.bat.qualCount → v.any (fun x : Int => decide (x < s.store.battery.discV)) = true →
          t.bat.discAction = some .openFirst ∧ t.bat.qualCount = 60 ∧
          (s.seq.state = .lockout ∨ s.seq.state = .failed →
            t.bat.disc = .disconnected ∧ t.bat.lvdOut = true ∧ t.seq.state = s.seq.state ∧
            t.seq.lockReason = s.seq.lockReason ∧ t.drv = s.drv) ∧
          (s.seq.state = .openInterval ∨ s.seq.state = .closeWait →
            t.bat.disc = .disconnected ∧ t.bat.lvdOut = true ∧ t.seq.state = .lockout ∧
            t.seq.lockReason = some .lowBattery ∧ t.seq.timer = none ∧ t.drv = s.drv) ∧
          (s.seq.state = .tripping →
            t.bat.disc = .isPending ∧ t.bat.lvdOut = s.bat.lvdOut ∧
            t.seq = { s.seq with tripCause := some .lowBattery } ∧ t.drv = s.drv ∧
            (i = none → s.bat.charger = .off ∨ s.bat.charger = .test →
              Emitted s (.lvdPending lastV s.bat.soc .openFirst) t)) ∧
          (tripAnswer s.drv = .accepted →
            (s.seq.state = .ready ∨ s.seq.state = .reclaim ∨ s.seq.state = .closing →
              t.bat.disc = .isPending ∧ t.bat.lvdOut = s.bat.lvdOut ∧ t.seq.state = .tripping ∧
              t.seq.tripCause = some .lowBattery ∧ t.seq.shot = s.seq.shot ∧ t.seq.timer = none ∧
              t.drv.state = .tripMain ∧ t.drv.coilMain = true) ∧
            (s.seq.state = .unknown →
              t.bat.disc = .isPending ∧ t.bat.lvdOut = s.bat.lvdOut ∧ t.seq.state = .unknown ∧
              t.seq.restartMark = some .lowBattery ∧ t.drv.state = .tripMain ∧
              t.drv.coilMain = true))) ∧
        (s.bat.qualCount < 59 → v.isSome = true →
          t.bat.disc = .normal ∧ t.seq = s.seq ∧
          t.bat.qualCount = (if v.any (fun x : Int => decide (x < s.store.battery.discV)) = true
            then s.bat.qualCount + 1 else 0))) ∧
      (s.bat.supply = true → t.bat.disc = s.bat.disc) ∧
      (s.bat.supply = true ∨ s.bat.disc ≠ .normal ∨ s.bat.qualCount < 59 →
        AllBut (eventBlocks ++ [.bat, .sup]) s t) ∧
      AllBut (eventBlocks ++ [.ele, .store, .sets, .seq, .drv, .bat, .sup]) s t

/-- R126, R127, R131: the absorb limit brings ABSORB to FLOAT, and with the link UP the charge to
full; a fault condition that has stayed away for 60 s brings FAULT to BULK. (ABSORB stands with the
supply present, BatteryLaw. In a state that no run reaches, ABSORB without the supply, the full charge
can end a shed level, and so a load test, which moves the charger on.) -/
def Obligations.ChargerTimersExpire : Prop :=
  ∀ s : State, s.part.run = .running → s.bat.due = none →
    (s.bat.charger = .absorb → ∃ t, exec .absorbTimeLimitReached s = .next t.serve ∧
      (s.bat.supply = true ∨ s.slr.link ≠ .up →
        t.bat.charger = .float ∧ t.bat.absorbMs = none ∧ t.bat.rebulk = 0 ∧ t.bat.chgEn = true ∧
        t.bat.chgVset = s.bat.floatSet ∧ t.bat.chgIlim = s.store.battery.bulkLimit) ∧
      AllBut (eventBlocks ++ [.bat, .sup]) s t ∧
      (s.slr.link = .up →
        t.bat.q = qFull s.store.battery ∧ t.bat.estimated = false ∧
        t.bat.soc = socOf s.store.battery (qFull s.store.battery)) ∧
      (s.slr.link ≠ .up → t.bat.q = s.bat.q ∧ t.bat.estimated = s.bat.estimated ∧
        AllBut [.bat] s t)) ∧
    (s.bat.charger = .fault ∧ s.bat.recoveryLeft.isSome = true →
      ∃ t, exec .faultRecoveryExpiry s = .next t.serve ∧
      t.bat.charger = .bulk ∧ t.bat.recoveryLeft = none ∧ t.bat.chgEn = true ∧
      t.bat.chgVset = s.bat.absorbSet ∧ t.bat.chgIlim = s.store.battery.bulkLimit ∧
      AllBut [.bat] s t)

/-- R134, R144: the interval and the retry timer set the due mark, and the test starts as soon as it
may: with the supply present it has the grant at once and settles. -/
def Obligations.TestTimersExpire : Prop :=
  ∀ s : State, s.part.run = .running →
    (∃ t, exec .testIntervalElapse s = .next t.serve ∧
      t.bat.intervalLeft = s.store.battery.testHours * 3600000 ∧ t.bat.abortCount = 0 ∧
      AllBut [.bat, .sup, .rpc] s t ∧
      (s.bat.test ≠ .idle → t.bat.test = s.bat.test ∧ t.bat.due = s.bat.due ∧ AllBut [.bat] s t) ∧
      (s.bat.test = .idle ∧ mayStartTest s = false →
        t.bat.test = .idle ∧ t.bat.due = some .interval ∧ AllBut [.bat] s t) ∧
      (mayStartTest s = true ∧ s.sup.supply = true ∧ s.sup.load = .idle →
        t.bat.test = .settle ∧ t.bat.startCause = some .interval ∧ t.bat.due = none ∧
        t.bat.settleLeft = some 30000 ∧ t.bat.charger = .test ∧ t.bat.chgEn = false ∧
        t.sup.load = .holding ∧ AllBut [.bat, .sup] s t)) ∧
    (s.bat.retryLeft.isSome = true → ∃ t, exec .testRetryExpiry s = .next t.serve ∧
      t.bat.retryLeft = none ∧ AllBut [.bat, .sup, .rpc] s t ∧
      (mayStartTest s = false → t.bat.test = s.bat.test ∧ t.bat.due = some .retry ∧
        AllBut [.bat] s t) ∧
      (mayStartTest s = true ∧ s.sup.supply = true ∧ s.sup.load = .idle →
        t.bat.test = .settle ∧ t.bat.startCause = some .retry ∧ t.bat.due = none ∧
        t.bat.settleLeft = some 30000 ∧ t.bat.charger = .test ∧ t.sup.load = .holding ∧
        AllBut [.bat, .sup] s t))

/-- R135, R136, R137: SETTLE ends in LOAD on present means and in an abort otherwise; LOAD ends in
the verdict of the drop under load, with the load off and the result recorded, and in an abort where a
value is absent. Below the third abort in a row the retry timer starts. (That LOAD starts with no value
measured yet, and the baseline current in the result record, are the model's choices, log entries 16
and 23.) -/
def Obligations.LoadTestPhasesEnd : Prop :=
  ∀ s : State, s.part.run = .running →
    let aborted (t : State) : Prop :=
      t.bat.test = .idle ∧ t.bat.testLoad = false ∧ t.bat.startCause = none ∧
      t.bat.settleLeft = none ∧ t.bat.loadLeft = none ∧
      t.bat.result = some
        ⟨s.fcu.time, s.bat.startCause, s.bat.v0, s.bat.i0, none, none, none, .aborted⟩ ∧
      t.bat.abortCount = s.bat.abortCount + 1 ∧ t.bat.badCount = s.bat.badCount ∧
      t.bat.retryLeft = (if s.bat.abortCount + 1 < 3 then some 900000 else s.bat.retryLeft) ∧
      AllBut (eventBlocks ++ [.bat, .sup]) s t
    (∀ v i, s.bat.test = .settle → recentMean s.fcu.running s.bat.recentV = some v →
      recentMean s.fcu.running s.bat.recentI = some i →
      ∃ t, exec .settleEnd s = .next t.serve ∧
        t.bat = { s.bat with
          test := .load, settleLeft := none, loadLeft := some 10000, v0 := some v, i0 := some i
          recentV := [], recentI := [], testLoad := true } ∧ AllBut [.bat] s t) ∧
    (s.bat.test = .settle →
      recentMean s.fcu.running s.bat.recentV = none ∨
        recentMean s.fcu.running s.bat.recentI = none → s.bat.due = none →
      ∃ t, exec .settleEnd s = .next t.serve ∧ aborted t) ∧
    (∀ v1 i1 v0 i0, s.bat.test = .load → recentMean s.fcu.running s.bat.recentV = some v1 →
      recentMean s.fcu.running s.bat.recentI = some i1 → s.bat.v0 = some v0 → s.bat.i0 = some i0 →
      s.bat.due = none →
      ∃ t, exec .loadEnd s = .next t.serve ∧
        t.bat.test = .idle ∧ t.bat.testLoad = false ∧ t.bat.startCause = none ∧
        t.bat.abortCount = (if (verdictOf s.store.battery v1 (v0 - v1) (i0 - i1)).1 = .pass
          then 0 else s.bat.abortCount) ∧
        t.bat.result = some
          { time := s.fcu.time, cause := s.bat.startCause, v0 := some v0, i0 := some i0
            v1 := some v1, dI := some (i0 - i1)
            r := (verdictOf s.store.battery v1 (v0 - v1) (i0 - i1)).2
            verdict := (verdictOf s.store.battery v1 (v0 - v1) (i0 - i1)).1 } ∧
        AllBut (eventBlocks ++ [.bat, .sup]) s t) ∧
    (s.bat.test = .load →
      recentMean s.fcu.running s.bat.recentV = none ∨
        recentMean s.fcu.running s.bat.recentI = none ∨ s.bat.v0 = none ∨ s.bat.i0 = none →
      s.bat.due = none →
      ∃ t, exec .loadEnd s = .next t.serve ∧ aborted t)

/-! ## Events and reports (Chapter 9) -/

/-- R151, R153, R154: an event joins the record of its class, or opens one with the part time and the
gather window of its class. Below the limit it changes nothing else. A closing event and a twelfth entry
seal the record at once, with the event as its last entry: an URGENT record becomes the newest report of
its area (R159), and a ROUTINE record is stored where there is room and counted as lost where there is
none (R160). -/
def Obligations.EventJoinsItsRecord : Prop :=
  ∀ (s : State) (e : Event) (g : Gather),
    (∀ r, s.rpb.gather (eventClass e) = some r →
      g = { r with entries := r.entries ++ [⟨e, min 3600000 (s.fcu.running - r.opening)⟩] }) →
    (s.rpb.gather (eventClass e) = none →
      g = ⟨s.fcu.time, s.fcu.running, gatherWindow s.store.radio (eventClass e), [⟨e, 0⟩]⟩) →
    let t := s.emit e
    let next := if 65535 ≤ s.rpb.nextNumber then 1 else s.rpb.nextNumber + 1
    (isClosing e = false → g.entries.length < 12 →
      AllBut [.rpb] s t ∧ t.rpb = s.rpb.setGather (eventClass e) (some g)) ∧
    (isClosing e = true → eventClass e = .urgent) ∧
    (isClosing e = true ∨ 12 ≤ g.entries.length → eventClass e = .urgent →
      reportWords g.entries.length ≤ s.store.areas.urgent.depth →
      let kept := makeRoom s.store.areas.urgent.depth (reportWords g.entries.length)
        (s.pkm.urgent.filter (fun r => r.number != s.rpb.nextNumber))
      t.pkm.urgent = kept ++
        [⟨s.pkm.nextId, s.rpb.nextNumber,
          min 255 (s.rpb.lostUrgent + (s.pkm.urgent.length - kept.length)), .urgent, g.base,
          g.entries, 0, false⟩] ∧
      t.rpb = { s.rpb with urgent := none, lostUrgent := 0, nextNumber := next } ∧
      t.pkm.response = s.pkm.response ∧ t.pkm.routine = s.pkm.routine ∧
      t.pkm.forward = s.pkm.forward ∧ AllBut eventBlocks s t) ∧
    (12 ≤ g.entries.length → eventClass e = .routine →
      t.pkm.response = s.pkm.response ∧ t.pkm.urgent = s.pkm.urgent ∧
      t.pkm.forward = s.pkm.forward ∧ AllBut [.slr, .rpb, .pkm, .fcu] s t ∧
      (hasRoom s .routine (reportWords g.entries.length) = true →
        t.pkm.routine = s.pkm.routine ++
          [⟨s.pkm.nextId, s.rpb.nextNumber, s.rpb.lostRoutine, .routine, g.base, g.entries, 0,
            false⟩] ∧
        t.rpb = { s.rpb with routine := none, lostRoutine := 0, nextNumber := next }) ∧
      (hasRoom s .routine (reportWords g.entries.length) = false →
        t.pkm = s.pkm ∧
        t.rpb = { s.rpb with routine := none, lostRoutine := min 255 (s.rpb.lostRoutine + 1) }))

/-- R152, R154, R156, R159, R160: a gather window ends. An URGENT record becomes the newest report of its
area, with the next number, the lost count and room made by discarding the oldest; a ROUTINE record
is stored where there is room and counted as lost where there is none. The profile hour ends with
LOAD_PROFILE: the mean, the number of E-steps and the lowest state of charge. -/
def Obligations.ReportTimersExpire : Prop :=
  ∀ s : State, s.part.run = .running →
    (∀ g, s.rpb.urgent = some g →
      reportWords g.entries.length ≤ s.store.areas.urgent.depth →
      ∃ t, exec (.gatherWindowExpiry .urgent) s = .next t.serve ∧
        let kept := makeRoom s.store.areas.urgent.depth (reportWords g.entries.length)
          (s.pkm.urgent.filter (fun r => r.number != s.rpb.nextNumber))
        kept <:+ s.pkm.urgent.filter (fun r => r.number != s.rpb.nextNumber) ∧
        t.pkm.urgent = kept ++
          [⟨s.pkm.nextId, s.rpb.nextNumber,
            min 255 (s.rpb.lostUrgent + (s.pkm.urgent.length - kept.length)), .urgent, g.base,
            g.entries, 0, false⟩] ∧
        t.rpb = { s.rpb with
          urgent := none, lostUrgent := 0
          nextNumber := if 65535 ≤ s.rpb.nextNumber then 1 else s.rpb.nextNumber + 1 } ∧
        t.pkm.response = s.pkm.response ∧ t.pkm.routine = s.pkm.routine ∧
        t.pkm.forward = s.pkm.forward ∧ AllBut eventBlocks s t) ∧
    (∀ g, s.rpb.routine = some g →
      ∃ t, exec (.gatherWindowExpiry .routine) s = .next t.serve ∧
        t.pkm.response = s.pkm.response ∧ t.pkm.urgent = s.pkm.urgent ∧
        t.pkm.forward = s.pkm.forward ∧ AllBut [.slr, .rpb, .pkm, .fcu] s t ∧
        (hasRoom s .routine (reportWords g.entries.length) = true →
          t.pkm.routine = s.pkm.routine ++
            [⟨s.pkm.nextId, s.rpb.nextNumber, s.rpb.lostRoutine, .routine, g.base, g.entries, 0,
              false⟩] ∧
          t.rpb = { s.rpb with
            routine := none, lostRoutine := 0
            nextNumber := if 65535 ≤ s.rpb.nextNumber then 1 else s.rpb.nextNumber + 1 }) ∧
        (hasRoom s .routine (reportWords g.entries.length) = false →
          t.pkm = s.pkm ∧
          t.rpb = { s.rpb with
            routine := none, lostRoutine := min 255 (s.rpb.lostRoutine + 1) })) ∧
    (∃ t, exec .profileHourEnd s = .next t.serve ∧
      (let e := Event.loadProfile
        (if s.rpb.profCount = 0 then none else some (s.rpb.profSum / s.rpb.profCount))
        s.rpb.profCount s.rpb.profLow
       t.rpb = { (s.emit e).rpb with
         profSum := 0, profCount := 0, profLow := none, hourLeft := 3600000 } ∧
       t.pkm = (s.emit e).pkm) ∧
      AllBut eventBlocks s t)

/-- R162: an acknowledgement removes the URGENT report with its number, wherever it stands, and leaves
the order of the others; one that no report has is ignored. Nothing else in packet memory and no
lost count is touched. -/
def Obligations.AcknowledgementRemovesItsReport : Prop :=
  ∀ (n : Nat) (s : State), 1 ≤ n → n ≤ 65535 →
    let t := s.acknowledge n
    t.pkm.urgent = s.pkm.urgent.filter (fun r => r.number != n) ∧
    t.pkm.response = s.pkm.response ∧ t.pkm.routine = s.pkm.routine ∧
    t.pkm.forward = s.pkm.forward ∧ t.rpb = s.rpb ∧
    ((∀ r ∈ s.pkm.urgent, r.number ≠ n) → t = s) ∧
    ((s.pkm.urgent.map (fun r => r.number)).Nodup → (∃ r ∈ s.pkm.urgent, r.number = n) →
      t.pkm.urgent.length + 1 = s.pkm.urgent.length) ∧
    AllBut [.pkm, .rpc] s t

/-! ## Frames and the radio (Chapters 10 and 11) -/

/-- R180, R170, R181, R118, R182, R186: the byte streams of the two ports. A row may carry any part of
a stream: cut in two, it does what the two rows do. Bytes in which no frame ends move the receiver
alone. A frame that is dropped, for its length field, its CRC or its kind, like one whose bytes have
stopped coming, is counted on its port, and the receiver hunts again; a gap without a frame begun
counts nothing. A byte that comes after more than 10 ms finds its frame abandoned and counted, and is
itself hunted (that rows may be cut, and what the two reception rows do to a receiver, are the
model's choice, log entry 19). RPC discards a good frame in OFF and WAKING, queues a PASS for the local
port, takes a POLL from the master and hands FCU the master's commands; a good frame on the local port
for another station is forwarded or counted. The head of the local transmit queue leaves with its last
byte. -/
def Obligations.FramesAreSorted : Prop :=
  ∀ s : State, s.part.run = .running →
    (∀ (p : Port) (a b : List Byte) (t : State), s.serve = s →
      exec (.stationFrameReceived p a) s = .next t →
      exec (.stationFrameReceived p (a ++ b)) s = exec (.stationFrameReceived p b) t) ∧
    (∀ (p : Port) (bytes : List Byte) (r : Receiver), (s.fcu.rx p).run bytes = (r, []) →
      exec (.stationFrameReceived p bytes) s = .next (s.setRx p r).serve) ∧
    (∀ (p : Port) (bytes : List Byte), EndsFrame (s.fcu.rx p) bytes .dropped →
      exec (.stationFrameReceived p bytes) s =
        .next ((s.badFrame p).setRx p ((s.fcu.rx p).run bytes).1).serve ∧
      ((s.fcu.rx p).gapOver = false →
        exec (.stationFrameReceived p bytes) s = exec (.frameLengthExceeded p) s)) ∧
    (∀ (p : Port) (bs bytes : List Byte), s.serve = s → s.fcu.rx p = .collect bs 0 → bytes ≠ [] →
      exec (.stationFrameReceived p bytes) s = exec (.stationFrameReceived p bytes) (s.byteGap p)) ∧
    (∀ (p : Port) (half : Bool), s.fcu.rx p = .hunt half →
      exec (.frameByteGapTimeout p) s = .next s.serve) ∧
    (∀ (p : Port) (bs : List Byte) (left : Nat), s.fcu.rx p = .collect bs left →
      exec (.frameByteGapTimeout p) s = exec (.frameLengthExceeded p) s) ∧
    exec (.frameLengthExceeded .radio) s = .next (State.serve { s with fcu :=
      { s.fcu with rxRadio := .idle, badRadio := min 65535 (s.fcu.badRadio + 1) } }) ∧
    exec (.frameLengthExceeded .localPort) s = .next (State.serve { s with fcu :=
      { s.fcu with rxLocal := .idle, badLocal := min 65535 (s.fcu.badLocal + 1) } }) ∧
    (∀ kind f n rest, s.fcu.localQ = .frame kind f n :: rest →
      ∃ t, exec .localFrameSent s = .next t.serve ∧ AllBut [.fcu] s t ∧
        t.fcu = { s.fcu with localQ := rest }) ∧
    (∀ bytes f, EndsFrame s.fcu.rxRadio bytes (.good f) →
      let u : State := { s with fcu := { s.fcu with rxRadio := .idle } }
      let entry : IntakeEntry :=
        ⟨.radio, max s.store.device.radioCeiling (f.control.toNat % 4), f.control.toNat.testBit 2,
          f.source, f.payload⟩
      ∃ t, exec (.stationFrameReceived .radio bytes) s = .next t.serve ∧
        if s.rpc.state = .off ∨ s.rpc.state = .waking ∨ f.dest ≠ s.store.device.station then t = u
        else if f.kind = 0x06#8 then
          AllBut [.slr, .fcu] u t ∧
          (u.fcu.localQ.length < 8 →
            t.slr = u.slr ∧ t.fcu = { u.fcu with localQ := u.fcu.localQ ++ [.frame .pass f 0] })
        else if f.source ≠ s.store.device.master then t = u
        else if f.kind = 0x01#8 then
          AllBut [.fcu] u t ∧
          t.fcu = (if u.fcu.intake.length < 4 then { u.fcu with intake := u.fcu.intake ++ [entry] }
            else { u.fcu with dropRadio := min 65535 (u.fcu.dropRadio + 1) })
        else if f.kind = 0x04#8 then exec (.poll f.payload) u = .next t.serve
        else t = u) ∧
    (∀ bytes f, EndsFrame s.fcu.rxLocal bytes (.good f) →
      let u : State := { s with fcu := { s.fcu with rxLocal := .idle } }
      let entry : IntakeEntry :=
        ⟨.localPort, max s.store.device.localCeiling (f.control.toNat % 4),
          f.control.toNat.testBit 2, f.source, f.payload⟩
      ∃ t, exec (.stationFrameReceived .localPort bytes) s = .next t.serve ∧
        if f.dest = s.store.device.station then
          if f.kind = 0x01#8 then
            AllBut [.fcu] u t ∧
            t.fcu = (if u.fcu.intake.length < 4 then
                { u.fcu with intake := u.fcu.intake ++ [entry] }
              else { u.fcu with dropLocal := min 65535 (u.fcu.dropLocal + 1) })
          else t = u
        else if 2 + (f.payload.length + 3) / 4 ≤ freeWords u .forward then
          AllBut [.pkm] u t ∧
          t.pkm = { u.pkm with
            forward := u.pkm.forward ++ [⟨u.pkm.nextId, f⟩], nextId := u.pkm.nextId + 1 }
        else
          AllBut [.fcu] u t ∧
          t.fcu = { u.fcu with fwdDropped := min 65535 (u.fcu.fwdDropped + 1) })

/-- R170 to R173, R144 to R147, R137: a POLL is counted and its acknowledgement taken in every state but
OFF and WAKING, and answered in LISTEN and HOLDOFF alone, by the first record in the order RESPONSE,
URGENT, FORWARD at shed level 0 or 1, ROUTINE at 0, or by a NULL frame. RPC keys with the supply present,
and on a battery that nobody else draws on; behind CAP_RECHARGE it waits for the grant. A load test on
the battery gives way: in SETTLE it is suspended, and in LOAD it ends ABORTED, which is the one case in
which packet memory is not what the acknowledgement left: TEST_RESULT joins the ROUTINE record and may
seal it into the ROUTINE area (R153, R160). -/
def Obligations.PollIsAnswered : Prop :=
  ∀ (payload : List Byte) (s : State), s.part.run = .running →
    (s.rpc.state = .off ∨ s.rpc.state = .waking → exec (.poll payload) s = .next s.serve) ∧
    (s.rpc.state = .grantWait ∨ s.rpc.state = .keying ∨ s.rpc.state = .sending →
      ∃ t, exec (.poll payload) s = .next t.serve ∧ t.pkm = (s.acknowledge (pollAck payload)).pkm ∧
        t.rpc.polls = min 65535 (s.rpc.polls + 1) ∧ t.rpc.state = s.rpc.state ∧
        t.rpc.answer = s.rpc.answer ∧ t.rpc.windowLeft = s.rpc.windowLeft ∧
        t.rpc.keyLeft = s.rpc.keyLeft ∧ AllBut [.pkm, .rpc] s t) ∧
    (s.rpc.state = .listen ∨ s.rpc.state = .holdoff → s.sup.radio = .idle →
      ∃ t, exec (.poll payload) s = .next t.serve ∧
        let k := (s.acknowledge (pollAck payload)).pkm
        let report (r : Report) : Frame :=
          ⟨s.store.device.master, s.store.device.station, 0x03#8, 0#8, reportPayload r⟩
        let keyed : Prop :=
          t.rpc.radioKey = true ∧ t.rpc.windowLeft = none ∧
          (s.store.radio.keyMs = 0 → t.rpc.state = .sending) ∧
          (s.store.radio.keyMs ≠ 0 →
            t.rpc.state = .keying ∧ t.rpc.keyLeft = some s.store.radio.keyMs)
        AllBut (eventBlocks ++ [.bat, .sup]) s t ∧
        t.rpc.polls = min 65535 (s.rpc.polls + 1) ∧ t.rpc.holdoff = none ∧
        -- packet memory (R162, R137)
        (s.sup.supply = true ∨ s.sup.load ≠ .holding ∨ s.bat.test ≠ .load → t.pkm = k) ∧
        (s.bat.supply = s.sup.supply →
          t.pkm.response = k.response ∧ t.pkm.urgent = k.urgent ∧ t.pkm.forward = k.forward) ∧
        -- the answer (R172)
        t.rpc.answer.map (fun a => a.purpose) = some .poll ∧
        (∀ r, k.response.head? = some r →
          t.rpc.answer = some ⟨.poll, some (.response, r.id), r.frame⟩) ∧
        (∀ r, k.response = [] → k.urgent.head? = some r →
          t.rpc.answer = some ⟨.poll, some (.urgent, r.id), report r⟩) ∧
        (∀ r, k.response = [] → k.urgent = [] → s.rpc.shed ≤ 1 → k.forward.head? = some r →
          t.rpc.answer = some ⟨.poll, some (.forward, r.id), r.frame⟩) ∧
        (∀ r, k.response = [] → k.urgent = [] → k.forward = [] → s.rpc.shed = 0 →
          k.routine.head? = some r →
          t.rpc.answer = some ⟨.poll, some (.routine, r.id), report r⟩) ∧
        (k.response = [] → k.urgent = [] → (1 < s.rpc.shed ∨ k.forward = []) →
          (0 < s.rpc.shed ∨ k.routine = []) →
          t.rpc.answer = some ⟨.poll, none, nullFrame { s with pkm := k }⟩) ∧
        -- the grant at once (R144, R145, R173)
        (s.sup.shed ≠ 3 →
          s.sup.supply = true ∨ s.sup.cap = .idle ∧ (s.sup.load = .idle ∨ s.sup.load = .requesting) →
          keyed ∧ t.sup = { s.sup with radio := .holding } ∧ AllBut [.pkm, .rpc, .sup] s t) ∧
        -- behind the recharge (R145, R146)
        (s.sup.supply = false → s.sup.cap = .holding → s.sup.load ≠ .holding →
          t.sup = { s.sup with radio := .requesting } ∧ t.rpc.radioKey = false ∧
          t.rpc.state = .grantWait ∧ t.rpc.windowLeft = some s.store.radio.windowMs ∧
          AllBut [.pkm, .rpc, .sup] s t) ∧
        -- before a load test (R146, R137)
        (s.sup.supply = false → s.sup.shed ≠ 3 → s.sup.cap = .idle → s.sup.load = .holding →
          s.sup.loadAgain = false →
          (s.bat.test = .settle →
            keyed ∧ t.sup = { s.sup with radio := .holding, load := .requesting } ∧
            t.bat = { s.bat with settleLeft := none, test := .suspended } ∧
            AllBut [.pkm, .rpc, .bat, .sup] s t) ∧
          (s.bat.test = .load → s.bat.supply = false → s.bat.due = none →
            keyed ∧ t.sup = { s.sup with radio := .holding, load := .idle } ∧
            t.bat.test = .idle ∧ t.bat.testLoad = false ∧
            t.bat.result.map (fun r => r.verdict) = some .aborted ∧
            t.bat.abortCount = s.bat.abortCount + 1 ∧
            Emitted (s.acknowledge (pollAck payload)) (.testResult .aborted none none none) t)))

/-- R173, R177, R147: the phases of an answer end. The response window gives it up and counts a poll
answer; the key-up delay leads to SENDING; the end of the frame drops the key and the grant, removes
the record it came from, or marks an unsolicited report, and counts the frame. -/
def Obligations.AnswerPhasesEnd : Prop :=
  ∀ (s : State) (a : Answer), s.part.run = .running → s.rpc.answer = some a →
    (s.rpc.state = .grantWait → s.rpc.windowLeft.isSome = true → s.sup.radio = .requesting →
      ∃ t, exec .responseWindowExpiry s = .next t.serve ∧
        t.rpc.answer = none ∧ t.rpc.windowLeft = none ∧ t.rpc.radioKey = false ∧
        t.sup = { s.sup with radio := .idle } ∧
        t.rpc.abandoned =
          (if a.purpose = .poll then min 65535 (s.rpc.abandoned + 1) else s.rpc.abandoned) ∧
        (s.store.radio.unsolicited = false → t.rpc.state = .listen) ∧ AllBut [.rpc, .sup] s t) ∧
    (s.rpc.state = .keying → s.rpc.keyLeft.isSome = true →
      ∃ t, exec .keyUpDelayExpiry s = .next t.serve ∧ AllBut [.rpc] s t ∧
        t.rpc = { s.rpc with
          state := .sending, radioPwr := true, radioKey := true, windowLeft := none
          keyLeft := none, holdoff := none }) ∧
    (s.rpc.state = .sending → s.sup.supply = true → s.sup.radio = .holding →
      s.sup.radioAgain = false →
      ∃ t, exec .radioFrameSent s = .next t.serve ∧
        t.rpc.radioKey = false ∧ t.rpc.answer = none ∧ t.sup = { s.sup with radio := .idle } ∧
        t.rpc.answered =
          (if a.purpose = .poll then min 65535 (s.rpc.answered + 1) else s.rpc.answered) ∧
        t.rpc.unsolicited =
          (if a.purpose = .poll then s.rpc.unsolicited else min 65535 (s.rpc.unsolicited + 1)) ∧
        (s.rpc.powerDown = true →
          t.rpc.state = .off ∧ t.rpc.radioPwr = false ∧ t.rpc.powerDown = false) ∧
        (s.rpc.powerDown = false → s.store.radio.unsolicited = false → t.rpc.state = .listen) ∧
        (∀ id, a.record = some (.response, id) →
          t.pkm = { s.pkm with response := s.pkm.response.filter (fun r => r.id != id) }) ∧
        (∀ id, a.record = some (.forward, id) →
          t.pkm = { s.pkm with forward := s.pkm.forward.filter (fun r => r.id != id) }) ∧
        (∀ id, a.record = some (.routine, id) →
          t.pkm = { s.pkm with routine := s.pkm.routine.filter (fun r => r.id != id) }) ∧
        (a.record = none → t.pkm = s.pkm) ∧
        (∀ id, a.record = some (.urgent, id) → a.purpose = .poll → t.pkm = s.pkm) ∧
        (∀ id, a.record = some (.urgent, id) → a.purpose = .unsolicited →
          (∃ r ∈ s.pkm.urgent, r.id = id) →
          t.pkm = { s.pkm with urgent := s.pkm.urgent.map (fun r =>
            if r.id = id then { r with attempts := min 8 (r.attempts + 1), awaiting := true }
            else r) } ∧
          t.rpc.confirmLeft = some (s.store.radio.confirmS * 1000)) ∧
        AllBut [.rpc, .sup, .pkm] s t)

/-- R168, R169, R175, R176, R177: the waits of the radio end. The holdoff takes the oldest report
with fewer than eight attempts, or returns to LISTEN; the confirm timer ends the wait for an
acknowledgement; MODEM_READY opens and ends LISTEN; in GRANT_WAIT, KEYING and SENDING its fall gives up the
answer; the carrier stops the holdoff, and its fall starts it again; and a second of part time outside
the listen window turns the radio off at shed level 2 (the row lets the time to the next second pass
unless it has already, the model's choice, log entries 15 and 24). -/
def Obligations.RadioWaitsEnd : Prop :=
  ∀ s : State, s.part.run = .running →
    (s.rpc.state = .holdoff → (s.rpc.holdoff.bind (fun h => h.left)).isSome = true →
      s.sup.radio = .idle → s.sup.supply = true → s.sup.shed ≠ 3 → 0 < s.store.radio.keyMs →
      ∃ t, exec .holdoffExpiry s = .next t.serve ∧ AllBut [.rpc, .sup] s t ∧
        t.rpc.holdoff = none ∧
        (∀ (old new : List Report) (r : Report), s.pkm.urgent = old ++ r :: new →
          (∀ o ∈ old, 8 ≤ o.attempts) → r.attempts < 8 →
          t.rpc.answer = some ⟨.unsolicited, some (.urgent, r.id),
            ⟨s.store.device.master, s.store.device.station, 0x03#8, 0#8, reportPayload r⟩⟩ ∧
          t.rpc.state = .keying ∧ t.rpc.radioKey = true ∧
          t.rpc.keyLeft = some s.store.radio.keyMs ∧ t.sup = { s.sup with radio := .holding }) ∧
        ((∀ r ∈ s.pkm.urgent, 8 ≤ r.attempts) →
          t.rpc.state = .listen ∧ t.rpc.radioKey = false ∧ t.sup = s.sup)) ∧
    (s.rpc.confirmLeft.isSome = true →
      ∃ t, exec .confirmTimeout s = .next t.serve ∧ AllBut [.rpc, .pkm] s t ∧
        t.rpc.confirmLeft = none ∧
        t.pkm = { s.pkm with urgent := s.pkm.urgent.map (fun r => { r with awaiting := false }) } ∧
        (s.rpc.state ≠ .listen → t.rpc = { s.rpc with confirmLeft := none })) ∧
    (∀ level, s.lines.modemReady ≠ level →
      ∃ t, exec (.modemReadyChange level) s = .next t.serve ∧
        t.lines = { s.lines with modemReady := level } ∧ AllBut [.lines, .rpc, .sup, .bat] s t ∧
        (s.rpc.state = .waking → level = true → s.store.radio.unsolicited = false →
          t.rpc.state = .listen ∧ t.rpc.radioPwr = true ∧ AllBut [.lines, .rpc] s t) ∧
        (s.rpc.state = .listen ∨ s.rpc.state = .holdoff → level = false →
          t.rpc.state = .waking ∧ t.rpc.holdoff = none ∧ t.rpc.radioPwr = true ∧
          AllBut [.lines, .rpc] s t) ∧
        (∀ a, s.rpc.answer = some a → level = false → s.sup.supply = true →
          s.rpc.state = .grantWait ∧ s.sup.radio = .requesting ∨
            (s.rpc.state = .keying ∨ s.rpc.state = .sending) ∧ s.sup.radio = .holding ∧
              s.sup.radioAgain = false →
          t.rpc.answer = none ∧ t.rpc.radioKey = false ∧ t.rpc.windowLeft = none ∧
          t.rpc.keyLeft = none ∧ t.sup = { s.sup with radio := .idle } ∧
          t.rpc.abandoned =
            (if a.purpose = .poll then min 65535 (s.rpc.abandoned + 1) else s.rpc.abandoned) ∧
          (s.rpc.state = .grantWait ∨ s.rpc.powerDown = false →
            t.rpc.state = .waking ∧ t.rpc.radioPwr = true) ∧
          (s.rpc.state ≠ .grantWait → s.rpc.powerDown = true →
            t.rpc.state = .off ∧ t.rpc.radioPwr = false ∧ t.rpc.powerDown = false) ∧
          AllBut [.lines, .rpc, .sup] s t)) ∧
    (∀ level, s.lines.carrierDet ≠ level →
      ∃ t, exec (.carrierDetChange level) s = .next t.serve ∧ AllBut [.lines, .rpc] s t ∧
        t.lines = { s.lines with carrierDet := level } ∧
        t.rpc = { s.rpc with holdoff := s.rpc.holdoff.map (fun h =>
          ⟨h.length, if level = true then none else some h.length⟩) }) ∧
    (s.fcu.secondTick = true →
      ∃ t, exec .partTimeSecond s = .next t.serve ∧ t.fcu = { s.fcu with secondTick := false } ∧
        AllBut [.fcu, .rpc, .sup, .bat] s t ∧
        (s.rpc.shed = 2 → s.fcu.time.secs % 60 ≤ 4 → s.rpc.state = .off →
          s.lines.modemReady = false →
          t.rpc.state = .waking ∧ t.rpc.radioPwr = true ∧ AllBut [.fcu, .rpc] s t) ∧
        (s.rpc.shed = 2 → 4 < s.fcu.time.secs % 60 → s.rpc.state = .listen →
          t.rpc.state = .off ∧ t.rpc.radioPwr = false ∧ AllBut [.fcu, .rpc] s t)) ∧
    (s.fcu.secondTick = false → s.fcu.time.ms < 1000 →
      let passed := 1000 - s.fcu.time.ms
      let secs := (s.fcu.time.secs + 1) % 4294967296
      ∃ t, exec .partTimeSecond s = .next t.serve ∧
        t.fcu.time = ⟨secs, 0, s.fcu.time.isSet⟩ ∧ t.fcu.running = s.fcu.running + passed ∧
        t.fcu.secondTick = false ∧ t.slr.silenceLeft = s.slr.silenceLeft - 10 * passed ∧
        t.bat.secondLeft = s.bat.secondLeft - passed ∧
        AllBut [.slr, .store, .seq, .drv, .lku, .bat, .sup, .rpb, .rpc, .fcu, .part] s t ∧
        (s.rpc.shed = 2 → secs % 60 ≤ 4 → s.rpc.state = .off → s.lines.modemReady = false →
          t.rpc.state = .waking ∧ t.rpc.radioPwr = true) ∧
        (s.rpc.shed = 2 → 4 < secs % 60 → s.rpc.state = .listen →
          t.rpc.state = .off ∧ t.rpc.radioPwr = false))

/-! ## The commands of Table 11-3: intake, gate and outcome (Chapters 6 and 11) -/

/-- R182, R183, R118: a command row is the arrival of its entry, which is appended with its effective
level while fewer than four wait, and dropped and counted otherwise (the row stands for its frame's
arrival, the model's choice, log entry 2). FCU then looks at the head of the queue. While a condition
of R183 does not hold, the head waits; once all hold, it leaves the queue with its response
outstanding, the gate's refusal is its answer, or the owner of its kind takes it, and the next head is
looked at (that FCU looks after every row is the model's reading of "once", log entry 29). -/
def Obligations.CommandsWaitTheirTurn : Prop :=
  ∀ s : State, s.part.run = .running →
    (∀ (c : Instr) (e : IntakeEntry), entryOfRow c = some e →
      ∃ t, exec c s = .next t.serve ∧ AllBut [.fcu] s t ∧
        (s.fcu.intake.length < 4 → t.fcu = { s.fcu with
          intake := s.fcu.intake ++ [⟨e.port,
            max (portCeiling s.store.device e.port) e.level, e.wantsReply, e.source, e.payload⟩] }) ∧
        (4 ≤ s.fcu.intake.length → e.port = .radio →
          t.fcu = { s.fcu with dropRadio := min 65535 (s.fcu.dropRadio + 1) }) ∧
        (4 ≤ s.fcu.intake.length → e.port = .localPort →
          t.fcu = { s.fcu with dropLocal := min 65535 (s.fcu.dropLocal + 1) })) ∧
    (s.fcu.intake = [] → s.serve = s) ∧
    (∀ head rest, s.fcu.intake = head :: rest →
      let responseFits : Prop :=
        head.wantsReply = true →
          match head.port with
          | .radio => s.fcu.outRadio = false ∧ 62 ≤ freeWords s .response
          | .localPort => s.fcu.outLocal = false ∧
            (s.fcu.localQ.length < 8 ∨ ∃ i ∈ s.fcu.localQ.tail, i.isSample = true)
      let storeFits : Prop :=
        entryKind head ∈ [some .selectGroup, some .placeTag, some .removeTag, some .writeCurve,
          some .clearCurve, some .writeGroup, some .writeDevice, some .writeBattery,
          some .writeRadio, some .writeAreas, some .writeGates] →
        s.store.inFlight = none ∧ s.store.waitList = []
      (¬ (responseFits ∧ storeFits) → s.serve = s) ∧
      (responseFits ∧ storeFits →
        (s.begun head).fcu.intake = rest ∧
        (head.wantsReply = true → head.port = .radio → (s.begun head).fcu.outRadio = true) ∧
        (head.wantsReply = true → head.port = .localPort →
          (s.begun head).fcu.outLocal = true ∧
          (s.begun head).fcu.localQ.getLast? = some .reservation) ∧
        AllBut [.slr, .fcu] s (s.begun head) ∧
        s.serve =
          (match gateCheck s.store.gates (entryKind head) head.port head.level with
           | some o => (s.begun head).answer (replyOf s head) o
           | none => bodyOf (entryKind head) head (replyOf s head) (s.begun head)).serve))

/-- R120, R121, R183, R194: at the head of the queue the gate comes first. A kind that is unknown or
not present is INVALID, a port that is not allowed PORT, a level above the required one AUTHORITY, and
WRITE_GATES needs the local port at level 0; a refused command is answered and does nothing else. -/
def Obligations.GateRefuses : Prop :=
  ∀ (c : Instr) (e e' : IntakeEntry) (s : State), entryOfRow c = some e → Taken s e e' →
    let gate : Option CmdOutcome :=
      match e'.payload with
      | [] => some .invalid
      | k :: _ =>
        if k = 0x16#8 then
          if e'.port = .radio then some .port else if e'.level ≠ 0 then some .authority else none
        else if k.toNat = 0 ∨ 22 < k.toNat then some .invalid
        else
          match s.store.gates[k.toNat - 1]? with
          | none => some .invalid
          | some g =>
            if g.isPresent = false then some .invalid
            else if g.ports.allows e'.port = false then some .port
            else if g.level < e'.level then some .authority
            else none
    (gate = none ↔ Executes s e e') ∧
    (∀ o, gate = some o →
      ∃ t, exec c s = .next t ∧ t.fcu.intake = s.fcu.intake.tail ∧ Answered s e' o [] t ∧
        AllBut [.slr, .pkm, .fcu] s t) ∧
    (∀ h p, c = .unknownCommand h p → c.wf = true →
      ∃ t, exec c s = .next t ∧ t.fcu.intake = s.fcu.intake.tail ∧
        Answered s e' .invalid [] t ∧ AllBut [.slr, .pkm, .fcu] s t)

/-- R63, R185, R187, R19, R168: READ_STATUS and READ_TABLE are answered with the section or table
named, SET_TIME sets the part time and marks it set, and SAMPLE_FORWARD takes a new decimation with an
empty batch; anything else they carry is INVALID, a table's index out of range among it (that a table
without an index has the index 0 alone is the model's reading of R185, log entry 27; so is that section
10 of READ_STATUS shows the response that carries it as outstanding, and a local one's place as
reserved, log entry 49). -/
def Obligations.ReadsTimeAndSampling : Prop :=
  ∀ (h : CmdHead) (p : List Byte) (s : State) (e' : IntakeEntry),
    (Executes s (rowEntry h .readStatus p) e' → ∃ t, exec (.readStatus h p) s = .next t ∧
      AllBut [.slr, .pkm, .fcu] s t ∧
      (∀ n data, p = [n] → statusSection (s.begun e') n.toNat = some data → data.length ≤ 238 →
        Answered s e' .done data t) ∧
      (∀ n, p = [n] → 10 < n.toNat → Answered s e' .invalid [] t) ∧
      (p.length ≠ 1 → Answered s e' .invalid [] t)) ∧
    (Executes s (rowEntry h .readTable p) e' → ∃ t, exec (.readTable h p) s = .next t ∧
      AllBut [.slr, .pkm, .fcu] s t ∧
      (∀ k i data, p = [k, i] → tableBytes s k.toNat i.toNat = some data → data.length ≤ 238 →
        Answered s e' .done data t) ∧
      (∀ k i, p = [k, i] →
        9 < k.toNat ∨ k.toNat = 0 ∧ s.store.curves.length ≤ i.toNat ∨
          k.toNat = 1 ∧ s.store.groups.length ≤ i.toNat ∨ 2 ≤ k.toNat ∧ i.toNat ≠ 0 →
        Answered s e' .invalid [] t) ∧
      (p.length ≠ 2 → Answered s e' .invalid [] t)) ∧
    (Executes s (rowEntry h .setTime p) e' → ∃ t, exec (.setTime h p) s = .next t ∧
      (∀ secs ms, secs < 4294967296 → ms ≤ 999 → p = beBytes 4 secs ++ beBytes 2 ms →
        Answered s e' .done [] t ∧ t.fcu.time = ⟨secs, ms, true⟩ ∧
        t.fcu.running = s.fcu.running ∧ AllBut [.slr, .bat, .sup, .pkm, .rpc, .fcu] s t ∧
        (s.rpc.shed ≤ 1 → s.rpc.state ≠ .off →
          t.rpc = { s.rpc with powerDown := false } ∧ AllBut [.slr, .pkm, .rpc, .fcu] s t) ∧
        (s.rpc.shed = 2 → 4 < secs % 60 → s.rpc.state = .listen →
          t.rpc.state = .off ∧ t.rpc.radioPwr = false ∧ AllBut [.slr, .pkm, .rpc, .fcu] s t)) ∧
      (∀ secs ms, secs < 4294967296 → ms < 65536 → 999 < ms →
        p = beBytes 4 secs ++ beBytes 2 ms →
        Answered s e' .invalid [] t ∧ AllBut [.slr, .pkm, .fcu] s t ∧ t.fcu.time = s.fcu.time) ∧
      (p.length ≠ 6 →
        Answered s e' .invalid [] t ∧ AllBut [.slr, .pkm, .fcu] s t ∧ t.fcu.time = s.fcu.time)) ∧
    (Executes s (rowEntry h .sampleForward p) e' →
      ∃ t, exec (.sampleForward h p) s = .next t ∧ AllBut [.slr, .pkm, .fcu] s t ∧
      (∀ d, p = [d] → d.toNat ∈ [0, 1, 2, 4, 8] →
        Answered s e' .done [] t ∧ t.slr.decimation = d.toNat ∧ t.slr.takeCount = 0 ∧
        t.slr.batch = [] ∧
        t.slr.droppedCount = (if d.toNat = 0 then 0 else
          min 65535 ((s.begun e').slr.droppedCount + s.slr.batch.length))) ∧
      (¬ (∃ d, p = [d] ∧ d.toNat ∈ [0, 1, 2, 4, 8]) →
        Answered s e' .invalid [] t ∧ t.slr.decimation = s.slr.decimation ∧
        t.slr.batch = s.slr.batch))

/-- R163: FLUSH_CLASS empties the area it names and frees all its words. The reports removed from the
URGENT area join its lost count, saturating at 255; the other areas, the gathering records and the
report number counter are not touched, and a name that is none of the four is INVALID. -/
def Obligations.FlushEmptiesAnArea : Prop :=
  ∀ (h : CmdHead) (p : List Byte) (s : State) (e' : IntakeEntry),
    Executes s (rowEntry h .flushClass p) e' →
    ∃ t, exec (.flushClass h p) s = .next t ∧
      (∀ n : Byte, p = [n] → n.toNat ≤ 3 →
        Answered s e' .done [] t ∧
        t.rpb = { s.rpb with
          lostUrgent := if n.toNat = 1 then min 255 (s.rpb.lostUrgent + s.pkm.urgent.length)
                        else s.rpb.lostUrgent } ∧
        t.pkm.urgent = (if n.toNat = 1 then [] else s.pkm.urgent) ∧
        t.pkm.routine = (if n.toNat = 2 then [] else s.pkm.routine) ∧
        t.pkm.forward = (if n.toNat = 3 then [] else s.pkm.forward) ∧
        (n.toNat = 0 → t.pkm.response.length ≤ 1 ∧
          ((∀ r ∈ replyOf s e', r.port ≠ .radio) → t.pkm.response = [])) ∧
        (n.toNat ≠ 0 → s.pkm.response <+: t.pkm.response) ∧
        (∀ area, codeArea area = n → area ≠ .response →
          freeWords t area = (areaSpec t.store.areas area).depth) ∧
        AllBut [.slr, .rpb, .pkm, .rpc, .fcu] s t) ∧
      (¬ (∃ n : Byte, p = [n] ∧ n.toNat ≤ 3) →
        Answered s e' .invalid [] t ∧ AllBut [.slr, .pkm, .fcu] s t)

/-- R51, R46 to R50, R54, R123, R178, R164, R121: a write command whose contents pass the checks of its
table starts the store operation that holds them, with the response to come at its completion, and
changes nothing else yet; any other is refused with the outcome of its rule, and starts nothing (that
a malformed payload is refused before every other check is the model's choice, log entry 28). -/
def Obligations.WritesAreChecked : Prop :=
  ∀ (h : CmdHead) (p : List Byte) (s : State) (e' : IntakeEntry),
    let starts (c : Instr) (b : StoreBody) : Prop :=
      ∃ t, exec c s = .next t ∧ Started (s.begun e') b (replyOf s e') t
    let refused (c : Instr) (o : CmdOutcome) : Prop :=
      ∃ t, exec c s = .next t ∧ Answered s e' o [] t ∧ AllBut [.slr, .pkm, .fcu] s t
    let clears (c : Instr) (slot : Nat) : Prop :=
      if 3 < slot then refused c .invalid
      else if s.store.groups[slot]?.join = none then refused c .notFound
      else if s.sets.active = some slot ∨ s.sets.ret = some (some slot) then refused c .inUse
      else starts c (.group slot none)
    (Executes s (rowEntry h .writeCurve p) e' →
      match readCurve p with
      | some (slot, k) => starts (.writeCurve h p) (.curve slot (some k))
      | none => refused (.writeCurve h p) .invalid) ∧
    (Executes s (rowEntry h .clearCurve p) e' →
      (p.length ≠ 1 → refused (.clearCurve h p) .invalid) ∧
      (∀ n : Byte, p = [n] →
        if 15 < n.toNat then refused (.clearCurve h p) .invalid
        else if s.store.curves[n.toNat]?.join = none then refused (.clearCurve h p) .notFound
        else
          let named := ∃ g, some g ∈ s.store.groups ∧
            ∃ r ∈ g.rows, r.ptCurve = n.toNat ∨ r.gtCurve = n.toNat
          (named → refused (.clearCurve h p) .inUse) ∧
          (¬ named → starts (.clearCurve h p) (.curve n.toNat none)))) ∧
    (Executes s (rowEntry h .writeGroup p) e' →
      match readGroup p with
      | some (.contents slot g) =>
        if ∀ r ∈ g.rows, s.store.curves[r.ptCurve]?.join.isSome = true ∧
            s.store.curves[r.gtCurve]?.join.isSome = true then
          starts (.writeGroup h p) (.group slot (some g))
        else refused (.writeGroup h p) .invalid
      | some (.clear slot) => clears (.writeGroup h p) slot
      | none => refused (.writeGroup h p) .invalid) ∧
    (∀ slot : Byte, Executes s (rowEntry h .writeGroup [slot, 0xFF#8]) e' →
      clears (.writeGroupClear h slot) slot.toNat) ∧
    (Executes s (rowEntry h .writeDevice p) e' →
      match readDevice p with
      | some d => starts (.writeDevice h p) (.device d)
      | none => refused (.writeDevice h p) .invalid) ∧
    (Executes s (rowEntry h .writeBattery p) e' →
      match readBattery p with
      | some b =>
        if s.bat.test ≠ .idle then refused (.writeBattery h p) .busy
        else if batteryOk b = true then starts (.writeBattery h p) (.battery b)
        else refused (.writeBattery h p) .invalid
      | none => refused (.writeBattery h p) .invalid) ∧
    (Executes s (rowEntry h .writeRadio p) e' →
      match readRadio p with
      | some r => starts (.writeRadio h p) (.radio r)
      | none => refused (.writeRadio h p) .invalid) ∧
    (Executes s (rowEntry h .writeAreas p) e' →
      match readAreas p with
      | some a => starts (.writeAreas h p) (.areas a)
      | none => refused (.writeAreas h p) .invalid) ∧
    (Executes s (rowEntry h .writeGates p) e' →
      match readGates p with
      | some g => starts (.writeGates h p) (.gates g)
      | none => refused (.writeGates h p) .invalid)

/-- R57, R55, R85: SELECT_GROUP, in its order. Applied, the stored group and its curves are the live
set, the elements are at rest, the shot counter is lowered to the new N and the selection record is
being written; while SEQ is not settled the selection waits. -/
def Obligations.SelectionIsDecided : Prop :=
  ∀ (h : CmdHead) (p : List Byte) (s : State) (e' : IntakeEntry),
    Executes s (rowEntry h .selectGroup p) e' →
    let refused (o : CmdOutcome) : Prop :=
      ∃ t, exec (.selectGroup h p) s = .next t ∧ Answered s e' o [] t ∧
        AllBut [.slr, .pkm, .fcu] s t
    (p.length ≠ 1 → refused .invalid) ∧
    (∀ n : Byte, p = [n] →
      if 3 < n.toNat then refused .invalid
      else if s.lku.inForce ≠ [] then refused .tag
      else
        match s.store.groups[n.toNat]?.join with
        | none => refused .invalid
        | some g =>
          if s.sets.settledView then
            ∃ t, exec (.selectGroup h p) s = .next t ∧
              t.sets.live.source = some n.toNat ∧ t.sets.live.grp = g ∧
              (∀ c k, (c, k) ∈ t.sets.live.curves ↔
                s.store.curves[c]?.join = some k ∧ ∃ r ∈ g.rows, r.ptCurve = c ∨ r.gtCurve = c) ∧
              t.sets.active = some n.toNat ∧ t.sets.pendingSel = none ∧
              t.sets.ret = s.sets.ret ∧ sameTables t.store s.store ∧
              t.store.inFlight =
                some ⟨.selection ⟨some n.toNat, s.sets.ret⟩, replyOf s e', 50⟩ ∧
              t.ele.pt = ⟨0, 0, false, false⟩ ∧ t.ele.gt = ⟨0, 0, false, false⟩ ∧
              t.ele.ph = ⟨0, false, false⟩ ∧ t.ele.gh = ⟨0, false, false⟩ ∧
              t.seq.shot = min s.seq.shot g.shots ∧ t.seq.state = s.seq.state ∧
              t.seq.lastPickup.any = false ∧
              t.rpb = ((s.begun e').emit (.groupChanged s.sets.active (some n.toNat) .command)).rpb ∧
              AllBut (eventBlocks ++ [.ele, .store, .sets, .seq]) s t
          else
            ∃ t, exec (.selectGroup h p) s = .next t ∧ Answered s e' .pending [] t ∧
              t.sets.pendingSel = some (some n.toNat, .command) ∧ t.sets.live = s.sets.live ∧
              t.sets.active = s.sets.active ∧
              (s.sets.pendingSel.map Prod.snd ≠ some .ret →
                t.sets.ret = s.sets.ret ∧ AllBut [.slr, .sets, .pkm, .fcu] s t) ∧
              (s.sets.pendingSel.map Prod.snd = some .ret →
                t.sets.ret = none ∧
                t.store.inFlight = some ⟨.selection ⟨s.sets.active, none⟩, none, 50⟩ ∧
                AllBut [.slr, .store, .sets, .pkm, .fcu] s t))

/-- R80, R91, R92, R99: TRIP by the state of SEQ, while SET's view of SEQ is right. In READY, RECLAIM and
CLOSING the drive takes the trip and SEQ is TRIPPING, also on a drive with a trip in flight, which goes
on; a trip on contacts known to be open is completed at once and SEQ locks out; in OPEN_INTERVAL and
CLOSE_WAIT SEQ locks out; in UNKNOWN an accepted trip leaves the restart trip mark; elsewhere the
outcome is STATE and nothing happens (that a payload that is not empty is INVALID before R80's STATE
is the model's choice beside R194, log entry 28; the flags of a trip completed at once, log entry
31). -/
def Obligations.TripCommandActs : Prop :=
  ∀ (h : CmdHead) (p : List Byte) (s : State) (e' : IntakeEntry),
    Executes s (rowEntry h .trip p) e' → s.sets.settledView = seqSettled s →
    ∃ t, exec (.trip h p) s = .next t ∧
      (p ≠ [] → Answered s e' .invalid [] t ∧ AllBut [.slr, .pkm, .fcu] s t) ∧
      (p = [] → (s.seq.state = .ready ∨ s.seq.state = .reclaim) → s.drv.state = .idle →
        (s.drv.position ≠ .opened ∨ s.drv.stale = true) →
        Answered s e' .done [] t ∧ t.seq.state = .tripping ∧ t.seq.tripCause = some .command ∧
        t.seq.shot = s.seq.shot ∧ t.drv.state = .tripMain ∧ t.drv.coilMain = true ∧
        t.drv.monitor = some s.store.device.tripLimit ∧
        t.rpb = ((s.begun e').emit (.trip .command s.seq.shot noFlags)).rpb ∧
        AllBut (eventBlocks ++ [.sets, .seq, .drv]) s t) ∧
      (p = [] → s.seq.state = .ready ∨ s.seq.state = .reclaim →
        s.drv.state = .tripMain ∨ s.drv.state = .tripBackup →
        Answered s e' .done [] t ∧ t.seq.state = .tripping ∧ t.seq.tripCause = some .command ∧
        t.seq.shot = s.seq.shot ∧ t.seq.timer = none ∧
        t.rpb = ((s.begun e').emit (.trip .command s.seq.shot noFlags)).rpb ∧
        AllBut (eventBlocks ++ [.sets, .seq]) s t) ∧
      (p = [] → s.seq.state = .ready ∨ s.seq.state = .reclaim → s.drv.state = .idle →
        s.drv.position = .opened → s.drv.stale = false →
        Answered s e' .done [] t ∧ t.seq.state = .lockout ∧
        t.seq.lockReason = some .commandTrip ∧ t.seq.tripCause = none ∧ t.seq.timer = none ∧
        t.drv = { s.drv with
          summary := some ⟨.trip .command, .completed, .noCoil, some false, 0⟩ } ∧
        AllBut (eventBlocks ++ [.ele, .store, .sets, .seq, .drv, .bat]) s t) ∧
      (p = [] → s.seq.state = .closing → s.drv.state = .closeActive →
        Answered s e' .done [] t ∧ t.seq.state = .tripping ∧ t.seq.tripCause = some .command ∧
        t.drv.state = .tripMain ∧ t.drv.coilClose = false ∧ t.drv.coilMain = true ∧
        t.drv.summary.map (fun m => m.outcome) = s.drv.op.elim (s.drv.summary.map
          (fun m => m.outcome)) (fun _ => some .abandoned) ∧
        AllBut (eventBlocks ++ [.sets, .seq, .drv, .bat, .sup]) s t) ∧
      (p = [] → (s.seq.state = .openInterval ∨ s.seq.state = .closeWait) →
        Answered s e' .done [] t ∧ t.seq.state = .lockout ∧
        t.seq.lockReason = some .commandTrip ∧ t.seq.timer = none ∧
        AllBut (eventBlocks ++ [.ele, .store, .sets, .seq, .bat]) s t) ∧
      (p = [] → s.seq.state = .unknown → s.drv.state = .idle →
        (s.drv.position ≠ .opened ∨ s.drv.stale = true) →
        Answered s e' .done [] t ∧ t.seq = { s.seq with restartMark := some .command } ∧
        t.drv.state = .tripMain ∧ t.drv.coilMain = true ∧
        AllBut [.slr, .seq, .drv, .pkm, .fcu] s t) ∧
      (p = [] → s.seq.state = .unknown → s.drv.state = .idle → s.drv.position = .opened →
        s.drv.stale = false →
        Answered s e' .done [] t ∧ t.seq = { s.seq with restartMark := some .command } ∧
        t.drv = { s.drv with
          summary := some ⟨.trip .command, .completed, .noCoil, some false, 0⟩ } ∧
        AllBut [.slr, .seq, .drv, .pkm, .fcu] s t) ∧
      (p = [] → (s.seq.state = .tripping ∨ s.seq.state = .lockout ∨ s.seq.state = .failed ∨
          s.seq.state = .unknown ∧ (s.drv.state = .tripMain ∨ s.drv.state = .tripBackup)) →
        Answered s e' .state [] t ∧ AllBut [.slr, .pkm, .fcu] s t)

/-- R81, R97, R76: CLOSE, its refusals in order, while SET's view of SEQ is right. An accepted close
sets the shot counter to N - 1 for a manual reclaim and energises the close coil; on closed contacts it
completes at once. (That a payload that is not empty is INVALID ahead of R81's first check, and that a
close completed at once leaves the drive's last operation summary as it was, are the model's choices,
log entries 28 and 13.) -/
def Obligations.CloseCommandActs : Prop :=
  ∀ (h : CmdHead) (p : List Byte) (s : State) (e' : IntakeEntry),
    Executes s (rowEntry h .close p) e' → s.sets.settledView = seqSettled s →
    let reserve := s.store.device.capReserve
    let n := s.sets.live.grp.shots
    let outcome : CmdOutcome :=
      if p ≠ [] then .invalid
      else if s.seq.state ≠ .lockout then .state
      else if s.seq.noClosePresent = true ∨ s.seq.handle = .pulled then .tag
      else if s.seq.cap < reserve then .energy
      else if s.seq.ready = .notReady ∨ s.seq.linkUp = false ∨ s.drv.state ≠ .idle then .state
      else if s.drv.cap < reserve ∨ s.drv.capStale = true then .energy
      else if s.drv.ready = .notReady ∨ s.drv.handle = .pulled ∨ s.drv.stale = true then .state
      else .done
    ∃ t, exec (.close h p) s = .next t ∧ Answered s e' outcome [] t ∧
      (outcome ≠ .done → AllBut [.slr, .pkm, .fcu] s t) ∧
      (outcome = .done → s.drv.position ≠ .closed →
        t.seq.state = .closing ∧ t.seq.closeCause = some .command ∧ t.seq.shot = n - 1 ∧
        t.ele = { s.ele with shotCopy := n - 1 } ∧ t.seq.manualReclaim = true ∧
        t.drv.state = .closeActive ∧ t.drv.coilClose = true ∧ t.drv.coilMain = false ∧
        t.drv.coilBackup = false ∧ t.drv.monitor = some s.store.device.closeLimit ∧
        t.drv.op.map (fun o => o.kind) = some (.close .command) ∧
        AllBut [.slr, .ele, .sets, .seq, .drv, .pkm, .fcu] s t) ∧
      (outcome = .done → s.drv.position = .closed → awaitsSeq s.bat = false →
        t.seq.state = .reclaim ∧ t.seq.shot = n - 1 ∧ t.seq.manualReclaim = true ∧
        t.seq.timer = some ⟨.reclaim, s.sets.live.grp.reclaim, s.seq.lastPickup.any⟩ ∧
        t.drv = s.drv ∧ t.rpb = ((s.begun e').emit (.reclose .command (n - 1))).rpb ∧
        AllBut (eventBlocks ++ [.ele, .sets, .seq]) s t)

/-- R109 to R112: PLACE_TAG and REMOVE_TAG, in their order. A change that is decided is staged and its
table write started, the table in force and the response waiting for the completion; any other command
is refused with its outcome. -/
def Obligations.TagCommandsAreDecided : Prop :=
  ∀ (h : CmdHead) (p : List Byte) (s : State) (e' : IntakeEntry),
    let refused (c : Instr) (o : CmdOutcome) : Prop :=
      ∃ t, exec c s = .next t ∧ Answered s e' o [] t ∧ AllBut [.slr, .pkm, .fcu] s t
    let staged (c : Instr) (change : TagChange) (table : List Tag) : Prop :=
      ∃ t, exec c s = .next t ∧
        t.lku = { s.lku with staged := table, changes := [] } ∧
        t.store = { s.store with
          inFlight := some ⟨.tags table (s.lku.changes ++ [change]), none, 50⟩ } ∧
        t.fcu = (s.begun e').fcu ∧ AllBut [.slr, .store, .lku, .fcu] s t
    (Executes s (rowEntry h .placeTag p) e' →
      (∀ crew minutes kind, 1 ≤ crew → crew ≤ 65535 → minutes ≤ 1440 →
        p = beBytes 2 crew ++ [codeTagKind kind] ++ beBytes 2 minutes →
        match s.lku.inForce.find? (fun t => t.crew == crew) with
        | some tag =>
          if tag.kind = kind then refused (.placeTag h p) .duplicate
          else if kind = .noReclose then refused (.placeTag h p) .state
          else if tag.level < e'.level then refused (.placeTag h p) .authority
          else staged (.placeTag h p) (.escalate crew e'.port e'.level (replyOf s e'))
            (s.lku.staged.map (fun t => if t.crew = crew then { t with kind := .noClose } else t))
        | none =>
          if 8 ≤ s.lku.inForce.length then refused (.placeTag h p) .full
          else
            let tag : Tag := ⟨crew, kind, e'.port, e'.level, s.fcu.time,
              if minutes = 0 then none else some minutes⟩
            staged (.placeTag h p) (.place tag (replyOf s e')) (s.lku.staged ++ [tag])) ∧
      (p.length ≠ 5 ∨ p.take 2 = [0#8, 0#8] ∨ 1 < (p.getD 2 0#8).toNat ∨
          1440 < (p.getD 3 0#8).toNat * 256 + (p.getD 4 0#8).toNat →
        refused (.placeTag h p) .invalid)) ∧
    (Executes s (rowEntry h .removeTag p) e' →
      (∀ crew, 1 ≤ crew → crew ≤ 65535 → p = beBytes 2 crew →
        match s.lku.inForce.find? (fun t => t.crew == crew) with
        | none => refused (.removeTag h p) .notFound
        | some tag =>
          if e'.port = tag.port ∧ e'.level ≤ tag.level ∨ e'.level = 0 then
            staged (.removeTag h p) (.remove crew e'.port e'.level (replyOf s e'))
              (s.lku.staged.filter (fun t => t.crew != crew))
          else refused (.removeTag h p) .authority) ∧
      (p.length ≠ 2 ∨ p = [0#8, 0#8] → refused (.removeTag h p) .invalid))

/-- R138, R134, R135: TEST_START is BUSY while a test runs, DONE where a test may start and STATE
elsewhere; with the supply present, or on a battery that nobody else uses, the test settles at once,
and behind another holder it waits. TEST_CANCEL ends a test with verdict CANCELLED and the load off, and
the charger leaves TEST. (That a payload that is not empty is INVALID before BUSY and STATE, and the
baseline current in the result record, are the model's choices, log entries 28 and 23.) -/
def Obligations.TestCommandsAct : Prop :=
  ∀ (h : CmdHead) (p : List Byte) (s : State) (e' : IntakeEntry),
    (Executes s (rowEntry h .testStart p) e' →
      let may := s.bat.shed ≤ 1 ∧ s.bat.charger ≠ .fault ∧ s.bat.disc = .normal
      ∃ t, exec (.testStart h p) s = .next t ∧
        (p ≠ [] → Answered s e' .invalid [] t ∧ AllBut [.slr, .pkm, .fcu] s t) ∧
        (p = [] → s.bat.test ≠ .idle →
          Answered s e' .busy [] t ∧ AllBut [.slr, .pkm, .fcu] s t) ∧
        (p = [] → s.bat.test = .idle → ¬ may →
          Answered s e' .state [] t ∧ AllBut [.slr, .pkm, .fcu] s t) ∧
        (p = [] → s.bat.test = .idle → may →
          Answered s e' .done [] t ∧
          (s.sup.supply = true → s.sup.load = .idle →
            t.bat.test = .settle ∧ t.bat.startCause = some .command ∧ t.bat.due = none ∧
            t.bat.retryLeft = none ∧ t.bat.settleLeft = some 30000 ∧ t.bat.charger = .test ∧
            t.bat.chgEn = false ∧ t.sup = { s.sup with load := .holding } ∧
            AllBut [.slr, .bat, .sup, .pkm, .fcu] s t) ∧
          (s.sup.supply = false → s.sup.load = .idle → s.sup.cap = .idle → s.sup.radio = .idle →
            t.bat.test = .settle ∧ t.bat.startCause = some .command ∧ t.bat.due = none ∧
            t.bat.retryLeft = none ∧ t.bat.settleLeft = some 30000 ∧ t.bat.charger = .test ∧
            t.bat.chgEn = false ∧ t.sup = { s.sup with load := .holding } ∧
            AllBut [.slr, .bat, .sup, .pkm, .fcu] s t) ∧
          (s.sup.supply = false → s.sup.load = .idle → s.sup.cap = .holding →
            t.bat = { s.bat with
              due := none, retryLeft := none, startCause := some .command, test := .waitGrant } ∧
            t.sup = { s.sup with load := .requesting } ∧
            AllBut [.slr, .bat, .sup, .pkm, .fcu] s t))) ∧
    (Executes s (rowEntry h .testCancel p) e' →
      ∃ t, exec (.testCancel h p) s = .next t ∧
        (p ≠ [] → Answered s e' .invalid [] t ∧ AllBut [.slr, .pkm, .fcu] s t) ∧
        (p = [] → s.bat.test = .idle →
          Answered s e' .state [] t ∧ AllBut [.slr, .pkm, .fcu] s t) ∧
        (p = [] → s.bat.test ≠ .idle → s.bat.due = none →
          Answered s e' .done [] t ∧ t.bat.test = .idle ∧ t.bat.testLoad = false ∧
          t.bat.startCause = none ∧ t.bat.settleLeft = none ∧ t.bat.loadLeft = none ∧
          t.bat.result = some
            ⟨s.fcu.time, s.bat.startCause, s.bat.v0, s.bat.i0, none, none, none, .cancelled⟩ ∧
          t.bat.abortCount = s.bat.abortCount ∧ t.bat.badCount = s.bat.badCount ∧
          (s.bat.charger = .test →
            t.bat.charger = (if s.bat.supply = false then .off
              else if s.bat.fault.isSome then .fault else .bulk)) ∧
          AllBut (eventBlocks ++ [.bat, .sup]) s t))

/-- R102, R83, R188: DRIVE_RESTORE ends a halt, or clears the degraded flag of an idle drive, and is
BUSY elsewhere; SEQ leaves FAILED by the first case that applies, and a disconnect that waits for it is
carried out in LOCKOUT and asks READY for its trip (R140). RESTART resets an idle part whose store is
free, and is BUSY elsewhere. (That a payload that is not empty is INVALID before BUSY is the model's
choice beside R194, log entry 28.) -/
def Obligations.RestoreAndRestartAct : Prop :=
  ∀ (h : CmdHead) (p : List Byte) (s : State) (e' : IntakeEntry),
    (Executes s (rowEntry h .driveRestore p) e' →
      ∃ t, exec (.driveRestore h p) s = .next t ∧
        (p ≠ [] → Answered s e' .invalid [] t ∧ AllBut [.slr, .pkm, .fcu] s t) ∧
        (p = [] → s.drv.state ≠ .idle → s.drv.state ≠ .halted →
          Answered s e' .busy [] t ∧ AllBut [.slr, .pkm, .fcu] s t) ∧
        (p = [] → s.drv.state = .idle →
          Answered s e' .done [] t ∧ t.drv = { s.drv with degraded := false } ∧
          t.rpb = ((s.begun e').emit (.driveRestored .idle s.drv.degraded)).rpb ∧
          AllBut (eventBlocks ++ [.drv]) s t) ∧
        (p = [] → s.drv.state = .halted → s.seq.state = .failed → awaitsSeq s.bat = false →
          s.sets.pendingSel = none ∨ s.sets.settledView = true →
          Answered s e' .done [] t ∧
          t.drv = { s.drv with state := .idle, degraded := false } ∧
          (s.seq.handle = .pulled → t.seq.state = .lockout ∧ t.seq.lockReason = some .handle) ∧
          (s.seq.handle = .returned → s.seq.position = .opened → s.seq.linkUp = true →
            t.seq.state = .lockout ∧ t.seq.lockReason = some .restart) ∧
          (s.seq.handle = .returned → s.seq.position = .closed → s.seq.linkUp = true →
            t.seq.state = .ready ∧ t.seq.shot = 0 ∧ t.ele = { s.ele with shotCopy := 0 } ∧
            t.rpb = ((s.begun e').emit (.driveRestored .halted s.drv.degraded)).rpb) ∧
          (s.seq.handle = .returned → s.seq.position = .indeterminate ∨ s.seq.linkUp = false →
            t.seq.state = .unknown ∧
            t.rpb = ((s.begun e').emit (.driveRestored .halted s.drv.degraded)).rpb) ∧
          AllBut (eventBlocks ++ [.ele, .sets, .seq, .drv]) s t) ∧
        (p = [] → s.drv.state = .halted → s.seq.state = .failed → awaitsSeq s.bat = true →
          s.sets.pendingSel = none ∨ s.sets.settledView = true →
          Answered s e' .done [] t ∧
          (s.seq.handle = .pulled ∨ s.seq.position = .opened ∧ s.seq.linkUp = true →
            t.seq.state = .lockout ∧
            t.seq.lockReason = some (if s.seq.handle = .pulled then .handle else .restart) ∧
            t.bat = { s.bat with disc := .disconnected, lvdOut := true }) ∧
          (s.seq.handle = .returned → s.seq.position = .closed → s.seq.linkUp = true →
            s.drv.position ≠ .opened ∨ s.drv.stale = true →
            t.seq.state = .tripping ∧ t.seq.tripCause = some .lowBattery ∧ t.seq.shot = 0 ∧
            t.drv.state = .tripMain ∧ t.drv.coilMain = true ∧ t.drv.degraded = false ∧
            t.bat = s.bat) ∧
          (s.seq.handle = .returned → s.seq.position = .indeterminate ∨ s.seq.linkUp = false →
            t.seq.state = .unknown ∧ t.bat = s.bat) ∧
          AllBut (eventBlocks ++ [.ele, .sets, .seq, .drv, .bat]) s t)) ∧
    (Executes s (rowEntry h .restart p) e' →
      (p = [] → s.drv.state = .idle → s.store.inFlight = none → s.store.waitList = [] →
        exec (.restart h p) s = .next (s.resetAs .command)) ∧
      (p = [] → s.drv.state ≠ .idle ∨ s.store.inFlight ≠ none ∨ s.store.waitList ≠ [] →
        ∃ t, exec (.restart h p) s = .next t ∧ Answered s e' .busy [] t ∧
          AllBut [.slr, .pkm, .fcu] s t) ∧
      (p ≠ [] → ∃ t, exec (.restart h p) s = .next t ∧ Answered s e' .invalid [] t ∧
        AllBut [.slr, .pkm, .fcu] s t))

/-! ## Resets and power (R188 to R190) -/

/-- R189: the rows of the reset line and of the power. RESET_IN that has held for 20 ms holds the part
with every output low or released; its release, and a rise of the power, start the part. In a part
without power the release is followed on the line and starts nothing. (What an edge
does while a qualification runs or the part does not run, the 20 ms that a line still asserted takes
afresh after a start, and the values that a loss of power leaves are the model's choices, log entry
18.) -/
def Obligations.ResetAndPowerRows : Prop :=
  ∀ s : State,
    let quiet (t : State) : Prop :=
      t.drv.coilMain = false ∧ t.drv.coilBackup = false ∧ t.drv.coilClose = false ∧
      t.sup.capEn = false ∧ t.bat.testLoad = false ∧ t.bat.lvdOut = false ∧
      t.bat.chgEn = false ∧ t.rpc.radioKey = false ∧ t.rpc.radioPwr = false
    (s.part.run = .running → s.lines.resetIn = false →
      ∃ t, exec .resetInAsserted s = .next t ∧ t.lines = { s.lines with resetIn := true } ∧
        t.part = ⟨.running, some 20⟩ ∧ AllBut [.lines, .part] s t) ∧
    (s.part.run = .running → s.part.resetQual.isSome = true →
      ∃ t, exec .resetLine s = .next t ∧ t.part = ⟨.held, none⟩ ∧ quiet t ∧
        sameTables t.store s.store ∧ t.store.inFlight = none ∧ t.store.waitList = [] ∧
        t.lines = s.lines ∧ t.order = s.order ∧ t.pending = s.pending) ∧
    (s.part.run = .running →
      ∃ t, exec .resetInRelease s = .next t ∧ t.lines = { s.lines with resetIn := false } ∧
        t.part = ⟨.running, none⟩ ∧ AllBut [.lines, .part] s t) ∧
    (s.part.run = .held → exec .resetInRelease s =
      .next ({ s with lines := { s.lines with resetIn := false } }.resetAs .resetLine)) ∧
    (s.part.run = .unpowered → exec .resetInRelease s =
      .next { s with lines := { s.lines with resetIn := false }, part := ⟨.unpowered, none⟩ }) ∧
    (exec .powerOn s = .next (s.resetAs .powerOn) ∧
      (s.resetAs .powerOn).part = ⟨.running, if s.lines.resetIn then some 20 else none⟩) ∧
    (∃ t, exec .powerLoss s = .next t ∧ t.part = ⟨.unpowered, none⟩ ∧ quiet t ∧
      sameTables t.store s.store ∧ t.store.inFlight = none ∧
      t.lines = s.lines ∧ t.order = s.order ∧ t.pending = s.pending)

/-- R190 and the reset rules of the blocks (R9, R43, R55, R62, R64, R87, R107, R115, R141, R143, R165,
R167, R187): what every reset leaves. The live set of the stored active group is loaded, or, where the
tag table is empty and the record holds a return group, that of the return group. (The selection record
on its way to the store, which R51 would have idle at a reset, is the model's reading of R55, log entry
9; a line that is still asserted, log entry 18.) -/
def Obligations.ResetLeaves : Prop :=
  ∀ (cause : ResetCause) (s : State), areasOk s.store.areas = true →
    batteryOk s.store.battery = true →
    let t := s.resetAs cause
    sameTables t.store s.store ∧
    t.slr.link = .lost ∧ t.slr.position = .indeterminate ∧ t.slr.totalMissing = 0 ∧
    t.meu.fill = 0 ∧ t.meu.valid = false ∧ t.ele.frozen = true ∧ t.ele.pt = ⟨0, 0, false, false⟩ ∧
    t.seq.state = .unknown ∧ t.seq.shot = 0 ∧ t.seq.timer = none ∧ t.seq.restartMark = none ∧
    t.seq.tagPresent = !s.store.tags.isEmpty ∧
    t.drv.state = .idle ∧ t.drv.coilMain = false ∧ t.drv.coilBackup = false ∧
    t.drv.coilClose = false ∧ t.drv.degraded = false ∧ t.drv.op = none ∧
    t.lku.inForce = s.store.tags ∧
    (∀ tag ∈ s.store.tags, ∀ m, tag.expiry = some m → (tag.crew, m * 60000) ∈ t.lku.countdowns) ∧
    t.sets.pendingSel = none ∧
    (s.store.tags ≠ [] ∨ s.store.selection.ret = none →
      t.sets.live = liveSetOf s.store s.store.selection.active ∧
      t.sets.ret = s.store.selection.ret) ∧
    (∀ g, s.store.tags = [] → s.store.selection.ret = some g →
      t.sets.live = liveSetOf s.store g ∧ t.sets.ret = none) ∧
    t.sets.active = t.sets.live.source ∧
    t.store.inFlight = some ⟨.selection ⟨t.sets.active, t.sets.ret⟩, none, 50⟩ ∧
    t.store.waitList = [] ∧
    t.bat.supply = s.lines.supplyPresent ∧ t.bat.estimated = true ∧
    t.bat.q = s.store.battery.capacity * 360000 / 2 ∧ t.bat.soc = 50 ∧ t.bat.test = .idle ∧
    t.bat.disc = .normal ∧ t.bat.lvdOut = false ∧
    t.bat.charger = (if s.lines.supplyPresent then .bulk else .off) ∧
    t.sup.cap = .idle ∧ t.sup.radio = .idle ∧ t.sup.load = .idle ∧
    t.sup.supply = s.lines.supplyPresent ∧
    t.pkm.response = [] ∧ t.pkm.routine = [] ∧ t.pkm.forward = [] ∧
    t.pkm.urgent = [⟨0, 1, 0, .urgent, ⟨0, 0, false⟩, [⟨.restart cause, 0⟩], 0, false⟩] ∧
    t.rpb.nextNumber = 2 ∧ t.rpb.lostUrgent = 0 ∧ t.rpb.urgent = none ∧
    t.fcu.intake = [] ∧ t.fcu.outRadio = false ∧ t.fcu.outLocal = false ∧
    t.fcu.time = ⟨0, 0, false⟩ ∧ t.fcu.running = 0 ∧
    t.rpc.answer = none ∧ t.rpc.radioKey = false ∧
    (s.lines.supplyPresent = true → s.lines.modemReady = false →
      t.rpc.state = .waking ∧ t.rpc.radioPwr = true) ∧
    t.part = ⟨.running, if s.lines.resetIn then some 20 else none⟩ ∧ t.lines = s.lines ∧ t.order = s.order ∧ t.pending = s.pending

end
end

