-- ==== Sys2Proof/Laws/State.lean ====
section
/-! SUPPORT. What each block update changes and what it leaves: one lemma per field per update. -/

namespace Sys2Proof.Machine

variable (s : State)

@[simp] theorem State.modSlr_slr (f : Slr → Slr) : (s.modSlr f).slr = f s.slr := rfl
@[simp] theorem State.modSlr_meu (f : Slr → Slr) : (s.modSlr f).meu = s.meu := rfl
@[simp] theorem State.modSlr_ele (f : Slr → Slr) : (s.modSlr f).ele = s.ele := rfl
@[simp] theorem State.modSlr_store (f : Slr → Slr) : (s.modSlr f).store = s.store := rfl
@[simp] theorem State.modSlr_sets (f : Slr → Slr) : (s.modSlr f).sets = s.sets := rfl
@[simp] theorem State.modSlr_seq (f : Slr → Slr) : (s.modSlr f).seq = s.seq := rfl
@[simp] theorem State.modSlr_drv (f : Slr → Slr) : (s.modSlr f).drv = s.drv := rfl
@[simp] theorem State.modSlr_lku (f : Slr → Slr) : (s.modSlr f).lku = s.lku := rfl
@[simp] theorem State.modSlr_bat (f : Slr → Slr) : (s.modSlr f).bat = s.bat := rfl
@[simp] theorem State.modSlr_sup (f : Slr → Slr) : (s.modSlr f).sup = s.sup := rfl
@[simp] theorem State.modSlr_rpb (f : Slr → Slr) : (s.modSlr f).rpb = s.rpb := rfl
@[simp] theorem State.modSlr_pkm (f : Slr → Slr) : (s.modSlr f).pkm = s.pkm := rfl
@[simp] theorem State.modSlr_rpc (f : Slr → Slr) : (s.modSlr f).rpc = s.rpc := rfl
@[simp] theorem State.modSlr_fcu (f : Slr → Slr) : (s.modSlr f).fcu = s.fcu := rfl
@[simp] theorem State.modSlr_lines (f : Slr → Slr) : (s.modSlr f).lines = s.lines := rfl
@[simp] theorem State.modSlr_part (f : Slr → Slr) : (s.modSlr f).part = s.part := rfl
@[simp] theorem State.modSlr_order (f : Slr → Slr) : (s.modSlr f).order = s.order := rfl
@[simp] theorem State.modSlr_pending (f : Slr → Slr) : (s.modSlr f).pending = s.pending := rfl

@[simp] theorem State.modMeu_slr (f : Meu → Meu) : (s.modMeu f).slr = s.slr := rfl
@[simp] theorem State.modMeu_meu (f : Meu → Meu) : (s.modMeu f).meu = f s.meu := rfl
@[simp] theorem State.modMeu_ele (f : Meu → Meu) : (s.modMeu f).ele = s.ele := rfl
@[simp] theorem State.modMeu_store (f : Meu → Meu) : (s.modMeu f).store = s.store := rfl
@[simp] theorem State.modMeu_sets (f : Meu → Meu) : (s.modMeu f).sets = s.sets := rfl
@[simp] theorem State.modMeu_seq (f : Meu → Meu) : (s.modMeu f).seq = s.seq := rfl
@[simp] theorem State.modMeu_drv (f : Meu → Meu) : (s.modMeu f).drv = s.drv := rfl
@[simp] theorem State.modMeu_lku (f : Meu → Meu) : (s.modMeu f).lku = s.lku := rfl
@[simp] theorem State.modMeu_bat (f : Meu → Meu) : (s.modMeu f).bat = s.bat := rfl
@[simp] theorem State.modMeu_sup (f : Meu → Meu) : (s.modMeu f).sup = s.sup := rfl
@[simp] theorem State.modMeu_rpb (f : Meu → Meu) : (s.modMeu f).rpb = s.rpb := rfl
@[simp] theorem State.modMeu_pkm (f : Meu → Meu) : (s.modMeu f).pkm = s.pkm := rfl
@[simp] theorem State.modMeu_rpc (f : Meu → Meu) : (s.modMeu f).rpc = s.rpc := rfl
@[simp] theorem State.modMeu_fcu (f : Meu → Meu) : (s.modMeu f).fcu = s.fcu := rfl
@[simp] theorem State.modMeu_lines (f : Meu → Meu) : (s.modMeu f).lines = s.lines := rfl
@[simp] theorem State.modMeu_part (f : Meu → Meu) : (s.modMeu f).part = s.part := rfl
@[simp] theorem State.modMeu_order (f : Meu → Meu) : (s.modMeu f).order = s.order := rfl
@[simp] theorem State.modMeu_pending (f : Meu → Meu) : (s.modMeu f).pending = s.pending := rfl

@[simp] theorem State.modEle_slr (f : Ele → Ele) : (s.modEle f).slr = s.slr := rfl
@[simp] theorem State.modEle_meu (f : Ele → Ele) : (s.modEle f).meu = s.meu := rfl
@[simp] theorem State.modEle_ele (f : Ele → Ele) : (s.modEle f).ele = f s.ele := rfl
@[simp] theorem State.modEle_store (f : Ele → Ele) : (s.modEle f).store = s.store := rfl
@[simp] theorem State.modEle_sets (f : Ele → Ele) : (s.modEle f).sets = s.sets := rfl
@[simp] theorem State.modEle_seq (f : Ele → Ele) : (s.modEle f).seq = s.seq := rfl
@[simp] theorem State.modEle_drv (f : Ele → Ele) : (s.modEle f).drv = s.drv := rfl
@[simp] theorem State.modEle_lku (f : Ele → Ele) : (s.modEle f).lku = s.lku := rfl
@[simp] theorem State.modEle_bat (f : Ele → Ele) : (s.modEle f).bat = s.bat := rfl
@[simp] theorem State.modEle_sup (f : Ele → Ele) : (s.modEle f).sup = s.sup := rfl
@[simp] theorem State.modEle_rpb (f : Ele → Ele) : (s.modEle f).rpb = s.rpb := rfl
@[simp] theorem State.modEle_pkm (f : Ele → Ele) : (s.modEle f).pkm = s.pkm := rfl
@[simp] theorem State.modEle_rpc (f : Ele → Ele) : (s.modEle f).rpc = s.rpc := rfl
@[simp] theorem State.modEle_fcu (f : Ele → Ele) : (s.modEle f).fcu = s.fcu := rfl
@[simp] theorem State.modEle_lines (f : Ele → Ele) : (s.modEle f).lines = s.lines := rfl
@[simp] theorem State.modEle_part (f : Ele → Ele) : (s.modEle f).part = s.part := rfl
@[simp] theorem State.modEle_order (f : Ele → Ele) : (s.modEle f).order = s.order := rfl
@[simp] theorem State.modEle_pending (f : Ele → Ele) : (s.modEle f).pending = s.pending := rfl

@[simp] theorem State.modStore_slr (f : Store → Store) : (s.modStore f).slr = s.slr := rfl
@[simp] theorem State.modStore_meu (f : Store → Store) : (s.modStore f).meu = s.meu := rfl
@[simp] theorem State.modStore_ele (f : Store → Store) : (s.modStore f).ele = s.ele := rfl
@[simp] theorem State.modStore_store (f : Store → Store) : (s.modStore f).store = f s.store := rfl
@[simp] theorem State.modStore_sets (f : Store → Store) : (s.modStore f).sets = s.sets := rfl
@[simp] theorem State.modStore_seq (f : Store → Store) : (s.modStore f).seq = s.seq := rfl
@[simp] theorem State.modStore_drv (f : Store → Store) : (s.modStore f).drv = s.drv := rfl
@[simp] theorem State.modStore_lku (f : Store → Store) : (s.modStore f).lku = s.lku := rfl
@[simp] theorem State.modStore_bat (f : Store → Store) : (s.modStore f).bat = s.bat := rfl
@[simp] theorem State.modStore_sup (f : Store → Store) : (s.modStore f).sup = s.sup := rfl
@[simp] theorem State.modStore_rpb (f : Store → Store) : (s.modStore f).rpb = s.rpb := rfl
@[simp] theorem State.modStore_pkm (f : Store → Store) : (s.modStore f).pkm = s.pkm := rfl
@[simp] theorem State.modStore_rpc (f : Store → Store) : (s.modStore f).rpc = s.rpc := rfl
@[simp] theorem State.modStore_fcu (f : Store → Store) : (s.modStore f).fcu = s.fcu := rfl
@[simp] theorem State.modStore_lines (f : Store → Store) : (s.modStore f).lines = s.lines := rfl
@[simp] theorem State.modStore_part (f : Store → Store) : (s.modStore f).part = s.part := rfl
@[simp] theorem State.modStore_order (f : Store → Store) : (s.modStore f).order = s.order := rfl
@[simp] theorem State.modStore_pending (f : Store → Store) : (s.modStore f).pending = s.pending := rfl

@[simp] theorem State.modSets_slr (f : Sets → Sets) : (s.modSets f).slr = s.slr := rfl
@[simp] theorem State.modSets_meu (f : Sets → Sets) : (s.modSets f).meu = s.meu := rfl
@[simp] theorem State.modSets_ele (f : Sets → Sets) : (s.modSets f).ele = s.ele := rfl
@[simp] theorem State.modSets_store (f : Sets → Sets) : (s.modSets f).store = s.store := rfl
@[simp] theorem State.modSets_sets (f : Sets → Sets) : (s.modSets f).sets = f s.sets := rfl
@[simp] theorem State.modSets_seq (f : Sets → Sets) : (s.modSets f).seq = s.seq := rfl
@[simp] theorem State.modSets_drv (f : Sets → Sets) : (s.modSets f).drv = s.drv := rfl
@[simp] theorem State.modSets_lku (f : Sets → Sets) : (s.modSets f).lku = s.lku := rfl
@[simp] theorem State.modSets_bat (f : Sets → Sets) : (s.modSets f).bat = s.bat := rfl
@[simp] theorem State.modSets_sup (f : Sets → Sets) : (s.modSets f).sup = s.sup := rfl
@[simp] theorem State.modSets_rpb (f : Sets → Sets) : (s.modSets f).rpb = s.rpb := rfl
@[simp] theorem State.modSets_pkm (f : Sets → Sets) : (s.modSets f).pkm = s.pkm := rfl
@[simp] theorem State.modSets_rpc (f : Sets → Sets) : (s.modSets f).rpc = s.rpc := rfl
@[simp] theorem State.modSets_fcu (f : Sets → Sets) : (s.modSets f).fcu = s.fcu := rfl
@[simp] theorem State.modSets_lines (f : Sets → Sets) : (s.modSets f).lines = s.lines := rfl
@[simp] theorem State.modSets_part (f : Sets → Sets) : (s.modSets f).part = s.part := rfl
@[simp] theorem State.modSets_order (f : Sets → Sets) : (s.modSets f).order = s.order := rfl
@[simp] theorem State.modSets_pending (f : Sets → Sets) : (s.modSets f).pending = s.pending := rfl

@[simp] theorem State.modSeq_slr (f : Seq → Seq) : (s.modSeq f).slr = s.slr := rfl
@[simp] theorem State.modSeq_meu (f : Seq → Seq) : (s.modSeq f).meu = s.meu := rfl
@[simp] theorem State.modSeq_ele (f : Seq → Seq) : (s.modSeq f).ele = s.ele := rfl
@[simp] theorem State.modSeq_store (f : Seq → Seq) : (s.modSeq f).store = s.store := rfl
@[simp] theorem State.modSeq_sets (f : Seq → Seq) : (s.modSeq f).sets = s.sets := rfl
@[simp] theorem State.modSeq_seq (f : Seq → Seq) : (s.modSeq f).seq = f s.seq := rfl
@[simp] theorem State.modSeq_drv (f : Seq → Seq) : (s.modSeq f).drv = s.drv := rfl
@[simp] theorem State.modSeq_lku (f : Seq → Seq) : (s.modSeq f).lku = s.lku := rfl
@[simp] theorem State.modSeq_bat (f : Seq → Seq) : (s.modSeq f).bat = s.bat := rfl
@[simp] theorem State.modSeq_sup (f : Seq → Seq) : (s.modSeq f).sup = s.sup := rfl
@[simp] theorem State.modSeq_rpb (f : Seq → Seq) : (s.modSeq f).rpb = s.rpb := rfl
@[simp] theorem State.modSeq_pkm (f : Seq → Seq) : (s.modSeq f).pkm = s.pkm := rfl
@[simp] theorem State.modSeq_rpc (f : Seq → Seq) : (s.modSeq f).rpc = s.rpc := rfl
@[simp] theorem State.modSeq_fcu (f : Seq → Seq) : (s.modSeq f).fcu = s.fcu := rfl
@[simp] theorem State.modSeq_lines (f : Seq → Seq) : (s.modSeq f).lines = s.lines := rfl
@[simp] theorem State.modSeq_part (f : Seq → Seq) : (s.modSeq f).part = s.part := rfl
@[simp] theorem State.modSeq_order (f : Seq → Seq) : (s.modSeq f).order = s.order := rfl
@[simp] theorem State.modSeq_pending (f : Seq → Seq) : (s.modSeq f).pending = s.pending := rfl

@[simp] theorem State.modDrv_slr (f : Drv → Drv) : (s.modDrv f).slr = s.slr := rfl
@[simp] theorem State.modDrv_meu (f : Drv → Drv) : (s.modDrv f).meu = s.meu := rfl
@[simp] theorem State.modDrv_ele (f : Drv → Drv) : (s.modDrv f).ele = s.ele := rfl
@[simp] theorem State.modDrv_store (f : Drv → Drv) : (s.modDrv f).store = s.store := rfl
@[simp] theorem State.modDrv_sets (f : Drv → Drv) : (s.modDrv f).sets = s.sets := rfl
@[simp] theorem State.modDrv_seq (f : Drv → Drv) : (s.modDrv f).seq = s.seq := rfl
@[simp] theorem State.modDrv_drv (f : Drv → Drv) : (s.modDrv f).drv = f s.drv := rfl
@[simp] theorem State.modDrv_lku (f : Drv → Drv) : (s.modDrv f).lku = s.lku := rfl
@[simp] theorem State.modDrv_bat (f : Drv → Drv) : (s.modDrv f).bat = s.bat := rfl
@[simp] theorem State.modDrv_sup (f : Drv → Drv) : (s.modDrv f).sup = s.sup := rfl
@[simp] theorem State.modDrv_rpb (f : Drv → Drv) : (s.modDrv f).rpb = s.rpb := rfl
@[simp] theorem State.modDrv_pkm (f : Drv → Drv) : (s.modDrv f).pkm = s.pkm := rfl
@[simp] theorem State.modDrv_rpc (f : Drv → Drv) : (s.modDrv f).rpc = s.rpc := rfl
@[simp] theorem State.modDrv_fcu (f : Drv → Drv) : (s.modDrv f).fcu = s.fcu := rfl
@[simp] theorem State.modDrv_lines (f : Drv → Drv) : (s.modDrv f).lines = s.lines := rfl
@[simp] theorem State.modDrv_part (f : Drv → Drv) : (s.modDrv f).part = s.part := rfl
@[simp] theorem State.modDrv_order (f : Drv → Drv) : (s.modDrv f).order = s.order := rfl
@[simp] theorem State.modDrv_pending (f : Drv → Drv) : (s.modDrv f).pending = s.pending := rfl

@[simp] theorem State.modLku_slr (f : Lku → Lku) : (s.modLku f).slr = s.slr := rfl
@[simp] theorem State.modLku_meu (f : Lku → Lku) : (s.modLku f).meu = s.meu := rfl
@[simp] theorem State.modLku_ele (f : Lku → Lku) : (s.modLku f).ele = s.ele := rfl
@[simp] theorem State.modLku_store (f : Lku → Lku) : (s.modLku f).store = s.store := rfl
@[simp] theorem State.modLku_sets (f : Lku → Lku) : (s.modLku f).sets = s.sets := rfl
@[simp] theorem State.modLku_seq (f : Lku → Lku) : (s.modLku f).seq = s.seq := rfl
@[simp] theorem State.modLku_drv (f : Lku → Lku) : (s.modLku f).drv = s.drv := rfl
@[simp] theorem State.modLku_lku (f : Lku → Lku) : (s.modLku f).lku = f s.lku := rfl
@[simp] theorem State.modLku_bat (f : Lku → Lku) : (s.modLku f).bat = s.bat := rfl
@[simp] theorem State.modLku_sup (f : Lku → Lku) : (s.modLku f).sup = s.sup := rfl
@[simp] theorem State.modLku_rpb (f : Lku → Lku) : (s.modLku f).rpb = s.rpb := rfl
@[simp] theorem State.modLku_pkm (f : Lku → Lku) : (s.modLku f).pkm = s.pkm := rfl
@[simp] theorem State.modLku_rpc (f : Lku → Lku) : (s.modLku f).rpc = s.rpc := rfl
@[simp] theorem State.modLku_fcu (f : Lku → Lku) : (s.modLku f).fcu = s.fcu := rfl
@[simp] theorem State.modLku_lines (f : Lku → Lku) : (s.modLku f).lines = s.lines := rfl
@[simp] theorem State.modLku_part (f : Lku → Lku) : (s.modLku f).part = s.part := rfl
@[simp] theorem State.modLku_order (f : Lku → Lku) : (s.modLku f).order = s.order := rfl
@[simp] theorem State.modLku_pending (f : Lku → Lku) : (s.modLku f).pending = s.pending := rfl

@[simp] theorem State.modBat_slr (f : Bat → Bat) : (s.modBat f).slr = s.slr := rfl
@[simp] theorem State.modBat_meu (f : Bat → Bat) : (s.modBat f).meu = s.meu := rfl
@[simp] theorem State.modBat_ele (f : Bat → Bat) : (s.modBat f).ele = s.ele := rfl
@[simp] theorem State.modBat_store (f : Bat → Bat) : (s.modBat f).store = s.store := rfl
@[simp] theorem State.modBat_sets (f : Bat → Bat) : (s.modBat f).sets = s.sets := rfl
@[simp] theorem State.modBat_seq (f : Bat → Bat) : (s.modBat f).seq = s.seq := rfl
@[simp] theorem State.modBat_drv (f : Bat → Bat) : (s.modBat f).drv = s.drv := rfl
@[simp] theorem State.modBat_lku (f : Bat → Bat) : (s.modBat f).lku = s.lku := rfl
@[simp] theorem State.modBat_bat (f : Bat → Bat) : (s.modBat f).bat = f s.bat := rfl
@[simp] theorem State.modBat_sup (f : Bat → Bat) : (s.modBat f).sup = s.sup := rfl
@[simp] theorem State.modBat_rpb (f : Bat → Bat) : (s.modBat f).rpb = s.rpb := rfl
@[simp] theorem State.modBat_pkm (f : Bat → Bat) : (s.modBat f).pkm = s.pkm := rfl
@[simp] theorem State.modBat_rpc (f : Bat → Bat) : (s.modBat f).rpc = s.rpc := rfl
@[simp] theorem State.modBat_fcu (f : Bat → Bat) : (s.modBat f).fcu = s.fcu := rfl
@[simp] theorem State.modBat_lines (f : Bat → Bat) : (s.modBat f).lines = s.lines := rfl
@[simp] theorem State.modBat_part (f : Bat → Bat) : (s.modBat f).part = s.part := rfl
@[simp] theorem State.modBat_order (f : Bat → Bat) : (s.modBat f).order = s.order := rfl
@[simp] theorem State.modBat_pending (f : Bat → Bat) : (s.modBat f).pending = s.pending := rfl

@[simp] theorem State.modSup_slr (f : Sup → Sup) : (s.modSup f).slr = s.slr := rfl
@[simp] theorem State.modSup_meu (f : Sup → Sup) : (s.modSup f).meu = s.meu := rfl
@[simp] theorem State.modSup_ele (f : Sup → Sup) : (s.modSup f).ele = s.ele := rfl
@[simp] theorem State.modSup_store (f : Sup → Sup) : (s.modSup f).store = s.store := rfl
@[simp] theorem State.modSup_sets (f : Sup → Sup) : (s.modSup f).sets = s.sets := rfl
@[simp] theorem State.modSup_seq (f : Sup → Sup) : (s.modSup f).seq = s.seq := rfl
@[simp] theorem State.modSup_drv (f : Sup → Sup) : (s.modSup f).drv = s.drv := rfl
@[simp] theorem State.modSup_lku (f : Sup → Sup) : (s.modSup f).lku = s.lku := rfl
@[simp] theorem State.modSup_bat (f : Sup → Sup) : (s.modSup f).bat = s.bat := rfl
@[simp] theorem State.modSup_sup (f : Sup → Sup) : (s.modSup f).sup = f s.sup := rfl
@[simp] theorem State.modSup_rpb (f : Sup → Sup) : (s.modSup f).rpb = s.rpb := rfl
@[simp] theorem State.modSup_pkm (f : Sup → Sup) : (s.modSup f).pkm = s.pkm := rfl
@[simp] theorem State.modSup_rpc (f : Sup → Sup) : (s.modSup f).rpc = s.rpc := rfl
@[simp] theorem State.modSup_fcu (f : Sup → Sup) : (s.modSup f).fcu = s.fcu := rfl
@[simp] theorem State.modSup_lines (f : Sup → Sup) : (s.modSup f).lines = s.lines := rfl
@[simp] theorem State.modSup_part (f : Sup → Sup) : (s.modSup f).part = s.part := rfl
@[simp] theorem State.modSup_order (f : Sup → Sup) : (s.modSup f).order = s.order := rfl
@[simp] theorem State.modSup_pending (f : Sup → Sup) : (s.modSup f).pending = s.pending := rfl

@[simp] theorem State.modRpb_slr (f : Rpb → Rpb) : (s.modRpb f).slr = s.slr := rfl
@[simp] theorem State.modRpb_meu (f : Rpb → Rpb) : (s.modRpb f).meu = s.meu := rfl
@[simp] theorem State.modRpb_ele (f : Rpb → Rpb) : (s.modRpb f).ele = s.ele := rfl
@[simp] theorem State.modRpb_store (f : Rpb → Rpb) : (s.modRpb f).store = s.store := rfl
@[simp] theorem State.modRpb_sets (f : Rpb → Rpb) : (s.modRpb f).sets = s.sets := rfl
@[simp] theorem State.modRpb_seq (f : Rpb → Rpb) : (s.modRpb f).seq = s.seq := rfl
@[simp] theorem State.modRpb_drv (f : Rpb → Rpb) : (s.modRpb f).drv = s.drv := rfl
@[simp] theorem State.modRpb_lku (f : Rpb → Rpb) : (s.modRpb f).lku = s.lku := rfl
@[simp] theorem State.modRpb_bat (f : Rpb → Rpb) : (s.modRpb f).bat = s.bat := rfl
@[simp] theorem State.modRpb_sup (f : Rpb → Rpb) : (s.modRpb f).sup = s.sup := rfl
@[simp] theorem State.modRpb_rpb (f : Rpb → Rpb) : (s.modRpb f).rpb = f s.rpb := rfl
@[simp] theorem State.modRpb_pkm (f : Rpb → Rpb) : (s.modRpb f).pkm = s.pkm := rfl
@[simp] theorem State.modRpb_rpc (f : Rpb → Rpb) : (s.modRpb f).rpc = s.rpc := rfl
@[simp] theorem State.modRpb_fcu (f : Rpb → Rpb) : (s.modRpb f).fcu = s.fcu := rfl
@[simp] theorem State.modRpb_lines (f : Rpb → Rpb) : (s.modRpb f).lines = s.lines := rfl
@[simp] theorem State.modRpb_part (f : Rpb → Rpb) : (s.modRpb f).part = s.part := rfl
@[simp] theorem State.modRpb_order (f : Rpb → Rpb) : (s.modRpb f).order = s.order := rfl
@[simp] theorem State.modRpb_pending (f : Rpb → Rpb) : (s.modRpb f).pending = s.pending := rfl

@[simp] theorem State.modPkm_slr (f : Pkm → Pkm) : (s.modPkm f).slr = s.slr := rfl
@[simp] theorem State.modPkm_meu (f : Pkm → Pkm) : (s.modPkm f).meu = s.meu := rfl
@[simp] theorem State.modPkm_ele (f : Pkm → Pkm) : (s.modPkm f).ele = s.ele := rfl
@[simp] theorem State.modPkm_store (f : Pkm → Pkm) : (s.modPkm f).store = s.store := rfl
@[simp] theorem State.modPkm_sets (f : Pkm → Pkm) : (s.modPkm f).sets = s.sets := rfl
@[simp] theorem State.modPkm_seq (f : Pkm → Pkm) : (s.modPkm f).seq = s.seq := rfl
@[simp] theorem State.modPkm_drv (f : Pkm → Pkm) : (s.modPkm f).drv = s.drv := rfl
@[simp] theorem State.modPkm_lku (f : Pkm → Pkm) : (s.modPkm f).lku = s.lku := rfl
@[simp] theorem State.modPkm_bat (f : Pkm → Pkm) : (s.modPkm f).bat = s.bat := rfl
@[simp] theorem State.modPkm_sup (f : Pkm → Pkm) : (s.modPkm f).sup = s.sup := rfl
@[simp] theorem State.modPkm_rpb (f : Pkm → Pkm) : (s.modPkm f).rpb = s.rpb := rfl
@[simp] theorem State.modPkm_pkm (f : Pkm → Pkm) : (s.modPkm f).pkm = f s.pkm := rfl
@[simp] theorem State.modPkm_rpc (f : Pkm → Pkm) : (s.modPkm f).rpc = s.rpc := rfl
@[simp] theorem State.modPkm_fcu (f : Pkm → Pkm) : (s.modPkm f).fcu = s.fcu := rfl
@[simp] theorem State.modPkm_lines (f : Pkm → Pkm) : (s.modPkm f).lines = s.lines := rfl
@[simp] theorem State.modPkm_part (f : Pkm → Pkm) : (s.modPkm f).part = s.part := rfl
@[simp] theorem State.modPkm_order (f : Pkm → Pkm) : (s.modPkm f).order = s.order := rfl
@[simp] theorem State.modPkm_pending (f : Pkm → Pkm) : (s.modPkm f).pending = s.pending := rfl

@[simp] theorem State.modRpc_slr (f : Rpc → Rpc) : (s.modRpc f).slr = s.slr := rfl
@[simp] theorem State.modRpc_meu (f : Rpc → Rpc) : (s.modRpc f).meu = s.meu := rfl
@[simp] theorem State.modRpc_ele (f : Rpc → Rpc) : (s.modRpc f).ele = s.ele := rfl
@[simp] theorem State.modRpc_store (f : Rpc → Rpc) : (s.modRpc f).store = s.store := rfl
@[simp] theorem State.modRpc_sets (f : Rpc → Rpc) : (s.modRpc f).sets = s.sets := rfl
@[simp] theorem State.modRpc_seq (f : Rpc → Rpc) : (s.modRpc f).seq = s.seq := rfl
@[simp] theorem State.modRpc_drv (f : Rpc → Rpc) : (s.modRpc f).drv = s.drv := rfl
@[simp] theorem State.modRpc_lku (f : Rpc → Rpc) : (s.modRpc f).lku = s.lku := rfl
@[simp] theorem State.modRpc_bat (f : Rpc → Rpc) : (s.modRpc f).bat = s.bat := rfl
@[simp] theorem State.modRpc_sup (f : Rpc → Rpc) : (s.modRpc f).sup = s.sup := rfl
@[simp] theorem State.modRpc_rpb (f : Rpc → Rpc) : (s.modRpc f).rpb = s.rpb := rfl
@[simp] theorem State.modRpc_pkm (f : Rpc → Rpc) : (s.modRpc f).pkm = s.pkm := rfl
@[simp] theorem State.modRpc_rpc (f : Rpc → Rpc) : (s.modRpc f).rpc = f s.rpc := rfl
@[simp] theorem State.modRpc_fcu (f : Rpc → Rpc) : (s.modRpc f).fcu = s.fcu := rfl
@[simp] theorem State.modRpc_lines (f : Rpc → Rpc) : (s.modRpc f).lines = s.lines := rfl
@[simp] theorem State.modRpc_part (f : Rpc → Rpc) : (s.modRpc f).part = s.part := rfl
@[simp] theorem State.modRpc_order (f : Rpc → Rpc) : (s.modRpc f).order = s.order := rfl
@[simp] theorem State.modRpc_pending (f : Rpc → Rpc) : (s.modRpc f).pending = s.pending := rfl

@[simp] theorem State.modFcu_slr (f : Fcu → Fcu) : (s.modFcu f).slr = s.slr := rfl
@[simp] theorem State.modFcu_meu (f : Fcu → Fcu) : (s.modFcu f).meu = s.meu := rfl
@[simp] theorem State.modFcu_ele (f : Fcu → Fcu) : (s.modFcu f).ele = s.ele := rfl
@[simp] theorem State.modFcu_store (f : Fcu → Fcu) : (s.modFcu f).store = s.store := rfl
@[simp] theorem State.modFcu_sets (f : Fcu → Fcu) : (s.modFcu f).sets = s.sets := rfl
@[simp] theorem State.modFcu_seq (f : Fcu → Fcu) : (s.modFcu f).seq = s.seq := rfl
@[simp] theorem State.modFcu_drv (f : Fcu → Fcu) : (s.modFcu f).drv = s.drv := rfl
@[simp] theorem State.modFcu_lku (f : Fcu → Fcu) : (s.modFcu f).lku = s.lku := rfl
@[simp] theorem State.modFcu_bat (f : Fcu → Fcu) : (s.modFcu f).bat = s.bat := rfl
@[simp] theorem State.modFcu_sup (f : Fcu → Fcu) : (s.modFcu f).sup = s.sup := rfl
@[simp] theorem State.modFcu_rpb (f : Fcu → Fcu) : (s.modFcu f).rpb = s.rpb := rfl
@[simp] theorem State.modFcu_pkm (f : Fcu → Fcu) : (s.modFcu f).pkm = s.pkm := rfl
@[simp] theorem State.modFcu_rpc (f : Fcu → Fcu) : (s.modFcu f).rpc = s.rpc := rfl
@[simp] theorem State.modFcu_fcu (f : Fcu → Fcu) : (s.modFcu f).fcu = f s.fcu := rfl
@[simp] theorem State.modFcu_lines (f : Fcu → Fcu) : (s.modFcu f).lines = s.lines := rfl
@[simp] theorem State.modFcu_part (f : Fcu → Fcu) : (s.modFcu f).part = s.part := rfl
@[simp] theorem State.modFcu_order (f : Fcu → Fcu) : (s.modFcu f).order = s.order := rfl
@[simp] theorem State.modFcu_pending (f : Fcu → Fcu) : (s.modFcu f).pending = s.pending := rfl

@[simp] theorem State.modLines_slr (f : Lines → Lines) : (s.modLines f).slr = s.slr := rfl
@[simp] theorem State.modLines_meu (f : Lines → Lines) : (s.modLines f).meu = s.meu := rfl
@[simp] theorem State.modLines_ele (f : Lines → Lines) : (s.modLines f).ele = s.ele := rfl
@[simp] theorem State.modLines_store (f : Lines → Lines) : (s.modLines f).store = s.store := rfl
@[simp] theorem State.modLines_sets (f : Lines → Lines) : (s.modLines f).sets = s.sets := rfl
@[simp] theorem State.modLines_seq (f : Lines → Lines) : (s.modLines f).seq = s.seq := rfl
@[simp] theorem State.modLines_drv (f : Lines → Lines) : (s.modLines f).drv = s.drv := rfl
@[simp] theorem State.modLines_lku (f : Lines → Lines) : (s.modLines f).lku = s.lku := rfl
@[simp] theorem State.modLines_bat (f : Lines → Lines) : (s.modLines f).bat = s.bat := rfl
@[simp] theorem State.modLines_sup (f : Lines → Lines) : (s.modLines f).sup = s.sup := rfl
@[simp] theorem State.modLines_rpb (f : Lines → Lines) : (s.modLines f).rpb = s.rpb := rfl
@[simp] theorem State.modLines_pkm (f : Lines → Lines) : (s.modLines f).pkm = s.pkm := rfl
@[simp] theorem State.modLines_rpc (f : Lines → Lines) : (s.modLines f).rpc = s.rpc := rfl
@[simp] theorem State.modLines_fcu (f : Lines → Lines) : (s.modLines f).fcu = s.fcu := rfl
@[simp] theorem State.modLines_lines (f : Lines → Lines) : (s.modLines f).lines = f s.lines := rfl
@[simp] theorem State.modLines_part (f : Lines → Lines) : (s.modLines f).part = s.part := rfl
@[simp] theorem State.modLines_order (f : Lines → Lines) : (s.modLines f).order = s.order := rfl
@[simp] theorem State.modLines_pending (f : Lines → Lines) : (s.modLines f).pending = s.pending := rfl

@[simp] theorem State.modPart_slr (f : Part → Part) : (s.modPart f).slr = s.slr := rfl
@[simp] theorem State.modPart_meu (f : Part → Part) : (s.modPart f).meu = s.meu := rfl
@[simp] theorem State.modPart_ele (f : Part → Part) : (s.modPart f).ele = s.ele := rfl
@[simp] theorem State.modPart_store (f : Part → Part) : (s.modPart f).store = s.store := rfl
@[simp] theorem State.modPart_sets (f : Part → Part) : (s.modPart f).sets = s.sets := rfl
@[simp] theorem State.modPart_seq (f : Part → Part) : (s.modPart f).seq = s.seq := rfl
@[simp] theorem State.modPart_drv (f : Part → Part) : (s.modPart f).drv = s.drv := rfl
@[simp] theorem State.modPart_lku (f : Part → Part) : (s.modPart f).lku = s.lku := rfl
@[simp] theorem State.modPart_bat (f : Part → Part) : (s.modPart f).bat = s.bat := rfl
@[simp] theorem State.modPart_sup (f : Part → Part) : (s.modPart f).sup = s.sup := rfl
@[simp] theorem State.modPart_rpb (f : Part → Part) : (s.modPart f).rpb = s.rpb := rfl
@[simp] theorem State.modPart_pkm (f : Part → Part) : (s.modPart f).pkm = s.pkm := rfl
@[simp] theorem State.modPart_rpc (f : Part → Part) : (s.modPart f).rpc = s.rpc := rfl
@[simp] theorem State.modPart_fcu (f : Part → Part) : (s.modPart f).fcu = s.fcu := rfl
@[simp] theorem State.modPart_lines (f : Part → Part) : (s.modPart f).lines = s.lines := rfl
@[simp] theorem State.modPart_part (f : Part → Part) : (s.modPart f).part = f s.part := rfl
@[simp] theorem State.modPart_order (f : Part → Part) : (s.modPart f).order = s.order := rfl
@[simp] theorem State.modPart_pending (f : Part → Part) : (s.modPart f).pending = s.pending := rfl

@[simp] theorem State.setPending_slr (q : List Instr) : (s.setPending q).slr = s.slr := rfl
@[simp] theorem State.setPending_meu (q : List Instr) : (s.setPending q).meu = s.meu := rfl
@[simp] theorem State.setPending_ele (q : List Instr) : (s.setPending q).ele = s.ele := rfl
@[simp] theorem State.setPending_store (q : List Instr) : (s.setPending q).store = s.store := rfl
@[simp] theorem State.setPending_sets (q : List Instr) : (s.setPending q).sets = s.sets := rfl
@[simp] theorem State.setPending_seq (q : List Instr) : (s.setPending q).seq = s.seq := rfl
@[simp] theorem State.setPending_drv (q : List Instr) : (s.setPending q).drv = s.drv := rfl
@[simp] theorem State.setPending_lku (q : List Instr) : (s.setPending q).lku = s.lku := rfl
@[simp] theorem State.setPending_bat (q : List Instr) : (s.setPending q).bat = s.bat := rfl
@[simp] theorem State.setPending_sup (q : List Instr) : (s.setPending q).sup = s.sup := rfl
@[simp] theorem State.setPending_rpb (q : List Instr) : (s.setPending q).rpb = s.rpb := rfl
@[simp] theorem State.setPending_pkm (q : List Instr) : (s.setPending q).pkm = s.pkm := rfl
@[simp] theorem State.setPending_rpc (q : List Instr) : (s.setPending q).rpc = s.rpc := rfl
@[simp] theorem State.setPending_fcu (q : List Instr) : (s.setPending q).fcu = s.fcu := rfl
@[simp] theorem State.setPending_lines (q : List Instr) : (s.setPending q).lines = s.lines := rfl
@[simp] theorem State.setPending_part (q : List Instr) : (s.setPending q).part = s.part := rfl
@[simp] theorem State.setPending_order (q : List Instr) : (s.setPending q).order = s.order := rfl
@[simp] theorem State.setPending_pending (q : List Instr) : (s.setPending q).pending = q := rfl

/-! ## A receiver takes a byte (R180) -/

@[simp] theorem Receiver.take_hunt (half : Bool) (b : Byte) :
    (Receiver.hunt half).take b = (huntByte half b, none) := rfl
@[simp] theorem Receiver.take_late (bs : List Byte) (b : Byte) :
    (Receiver.collect bs 0).take b = (huntByte false b, some .dropped) := rfl
@[simp] theorem Receiver.take_collect (bs : List Byte) (left : Nat) (b : Byte) :
    (Receiver.collect bs (left + 1)).take b = collectByte (bs ++ [b]) := rfl

end Sys2Proof.Machine
end

