-- ==== Sys2Proof/Laws/Frames.lean ====
section
/-! SUPPORT. The frame of every operation over State: the blocks it leaves unchanged. Each lemma is
a conjunction that simp takes apart, so that no later proof unfolds an operation to see what it
leaves. -/

namespace Sys2Proof.Machine

/-! ## Operations of Machine/Local.lean -/

@[simp] theorem State.addDropped_frame (n : Nat) (s : State) :
    (s.addDropped n).meu = s.meu ∧ (s.addDropped n).ele = s.ele ∧
    (s.addDropped n).store = s.store ∧ (s.addDropped n).sets = s.sets ∧
    (s.addDropped n).seq = s.seq ∧ (s.addDropped n).drv = s.drv ∧ (s.addDropped n).lku = s.lku ∧
    (s.addDropped n).bat = s.bat ∧ (s.addDropped n).sup = s.sup ∧ (s.addDropped n).rpb = s.rpb ∧
    (s.addDropped n).pkm = s.pkm ∧ (s.addDropped n).rpc = s.rpc ∧ (s.addDropped n).fcu = s.fcu ∧
    (s.addDropped n).lines = s.lines ∧ (s.addDropped n).part = s.part ∧
    (s.addDropped n).order = s.order ∧ (s.addDropped n).pending = s.pending := by
  dsimp only [State.addDropped]
  split_ands <;> simp

@[simp] theorem State.localPut_frame (i : LocalItem) (s : State) :
    (s.localPut i).meu = s.meu ∧ (s.localPut i).ele = s.ele ∧ (s.localPut i).store = s.store ∧
    (s.localPut i).sets = s.sets ∧ (s.localPut i).seq = s.seq ∧ (s.localPut i).drv = s.drv ∧
    (s.localPut i).lku = s.lku ∧ (s.localPut i).bat = s.bat ∧ (s.localPut i).sup = s.sup ∧
    (s.localPut i).rpb = s.rpb ∧ (s.localPut i).pkm = s.pkm ∧ (s.localPut i).rpc = s.rpc ∧
    (s.localPut i).lines = s.lines ∧ (s.localPut i).part = s.part ∧
    (s.localPut i).order = s.order ∧ (s.localPut i).pending = s.pending := by
  dsimp only [State.localPut]
  split_ands <;> (repeat' split) <;> simp

@[simp] theorem State.localReserve_frame (s : State) :
    (s.localReserve).meu = s.meu ∧ (s.localReserve).ele = s.ele ∧
    (s.localReserve).store = s.store ∧ (s.localReserve).sets = s.sets ∧
    (s.localReserve).seq = s.seq ∧ (s.localReserve).drv = s.drv ∧ (s.localReserve).lku = s.lku ∧
    (s.localReserve).bat = s.bat ∧ (s.localReserve).sup = s.sup ∧ (s.localReserve).rpb = s.rpb ∧
    (s.localReserve).pkm = s.pkm ∧ (s.localReserve).rpc = s.rpc ∧
    (s.localReserve).lines = s.lines ∧ (s.localReserve).part = s.part ∧
    (s.localReserve).order = s.order ∧ (s.localReserve).pending = s.pending := by
  dsimp only [State.localReserve]
  split_ands <;> simp

@[simp] theorem State.localSend_frame (k : LocalKind) (f : Frame) (s : State) :
    (s.localSend k f).meu = s.meu ∧ (s.localSend k f).ele = s.ele ∧
    (s.localSend k f).store = s.store ∧ (s.localSend k f).sets = s.sets ∧
    (s.localSend k f).seq = s.seq ∧ (s.localSend k f).drv = s.drv ∧
    (s.localSend k f).lku = s.lku ∧ (s.localSend k f).bat = s.bat ∧
    (s.localSend k f).sup = s.sup ∧ (s.localSend k f).rpb = s.rpb ∧
    (s.localSend k f).pkm = s.pkm ∧ (s.localSend k f).rpc = s.rpc ∧
    (s.localSend k f).lines = s.lines ∧ (s.localSend k f).part = s.part ∧
    (s.localSend k f).order = s.order ∧ (s.localSend k f).pending = s.pending := by
  dsimp only [State.localSend]
  split_ands <;> (repeat' split) <;> simp

@[simp] theorem State.localSample_frame (f : Frame) (s : State) :
    (s.localSample f).meu = s.meu ∧ (s.localSample f).ele = s.ele ∧
    (s.localSample f).store = s.store ∧ (s.localSample f).sets = s.sets ∧
    (s.localSample f).seq = s.seq ∧ (s.localSample f).drv = s.drv ∧
    (s.localSample f).lku = s.lku ∧ (s.localSample f).bat = s.bat ∧
    (s.localSample f).sup = s.sup ∧ (s.localSample f).rpb = s.rpb ∧
    (s.localSample f).pkm = s.pkm ∧ (s.localSample f).rpc = s.rpc ∧
    (s.localSample f).lines = s.lines ∧ (s.localSample f).part = s.part ∧
    (s.localSample f).order = s.order ∧ (s.localSample f).pending = s.pending := by
  dsimp only [State.localSample]
  split_ands <;> (repeat' split) <;> simp

@[simp] theorem State.localSent_frame (s : State) :
    (s.localSent).slr = s.slr ∧ (s.localSent).meu = s.meu ∧ (s.localSent).ele = s.ele ∧
    (s.localSent).store = s.store ∧ (s.localSent).sets = s.sets ∧ (s.localSent).seq = s.seq ∧
    (s.localSent).drv = s.drv ∧ (s.localSent).lku = s.lku ∧ (s.localSent).bat = s.bat ∧
    (s.localSent).sup = s.sup ∧ (s.localSent).rpb = s.rpb ∧ (s.localSent).pkm = s.pkm ∧
    (s.localSent).rpc = s.rpc ∧ (s.localSent).lines = s.lines ∧ (s.localSent).part = s.part ∧
    (s.localSent).order = s.order ∧ (s.localSent).pending = s.pending := by
  dsimp only [State.localSent]
  split_ands <;> (repeat' split) <;> simp

@[simp] theorem State.appendResponse_frame (f : Frame) (s : State) :
    (s.appendResponse f).slr = s.slr ∧ (s.appendResponse f).meu = s.meu ∧
    (s.appendResponse f).ele = s.ele ∧ (s.appendResponse f).store = s.store ∧
    (s.appendResponse f).sets = s.sets ∧ (s.appendResponse f).seq = s.seq ∧
    (s.appendResponse f).drv = s.drv ∧ (s.appendResponse f).lku = s.lku ∧
    (s.appendResponse f).bat = s.bat ∧ (s.appendResponse f).sup = s.sup ∧
    (s.appendResponse f).rpb = s.rpb ∧ (s.appendResponse f).rpc = s.rpc ∧
    (s.appendResponse f).fcu = s.fcu ∧ (s.appendResponse f).lines = s.lines ∧
    (s.appendResponse f).part = s.part ∧ (s.appendResponse f).order = s.order ∧
    (s.appendResponse f).pending = s.pending := by
  dsimp only [State.appendResponse]
  split_ands <;> (repeat' split) <;> simp

@[simp] theorem State.appendForward_frame (f : Frame) (s : State) :
    (s.appendForward f).slr = s.slr ∧ (s.appendForward f).meu = s.meu ∧
    (s.appendForward f).ele = s.ele ∧ (s.appendForward f).store = s.store ∧
    (s.appendForward f).sets = s.sets ∧ (s.appendForward f).seq = s.seq ∧
    (s.appendForward f).drv = s.drv ∧ (s.appendForward f).lku = s.lku ∧
    (s.appendForward f).bat = s.bat ∧ (s.appendForward f).sup = s.sup ∧
    (s.appendForward f).rpb = s.rpb ∧ (s.appendForward f).rpc = s.rpc ∧
    (s.appendForward f).lines = s.lines ∧ (s.appendForward f).part = s.part ∧
    (s.appendForward f).order = s.order ∧ (s.appendForward f).pending = s.pending := by
  dsimp only [State.appendForward]
  split_ands <;> (repeat' split) <;> simp

@[simp] theorem State.answerWith_frame (r : Option Reply) (o : CmdOutcome) (data : List Byte) (s : State) :
    (s.answerWith r o data).slr = s.slr ∧ (s.answerWith r o data).meu = s.meu ∧
    (s.answerWith r o data).ele = s.ele ∧ (s.answerWith r o data).store = s.store ∧
    (s.answerWith r o data).sets = s.sets ∧ (s.answerWith r o data).seq = s.seq ∧
    (s.answerWith r o data).drv = s.drv ∧ (s.answerWith r o data).lku = s.lku ∧
    (s.answerWith r o data).bat = s.bat ∧ (s.answerWith r o data).sup = s.sup ∧
    (s.answerWith r o data).rpb = s.rpb ∧ (s.answerWith r o data).rpc = s.rpc ∧
    (s.answerWith r o data).lines = s.lines ∧ (s.answerWith r o data).part = s.part ∧
    (s.answerWith r o data).order = s.order ∧ (s.answerWith r o data).pending = s.pending := by
  dsimp only [State.answerWith]
  split_ands <;> (repeat' split) <;> simp

@[simp] theorem State.answer_frame (r : Option Reply) (o : CmdOutcome) (s : State) :
    (s.answer r o).slr = s.slr ∧ (s.answer r o).meu = s.meu ∧ (s.answer r o).ele = s.ele ∧
    (s.answer r o).store = s.store ∧ (s.answer r o).sets = s.sets ∧ (s.answer r o).seq = s.seq ∧
    (s.answer r o).drv = s.drv ∧ (s.answer r o).lku = s.lku ∧ (s.answer r o).bat = s.bat ∧
    (s.answer r o).sup = s.sup ∧ (s.answer r o).rpb = s.rpb ∧ (s.answer r o).rpc = s.rpc ∧
    (s.answer r o).lines = s.lines ∧ (s.answer r o).part = s.part ∧
    (s.answer r o).order = s.order ∧ (s.answer r o).pending = s.pending := by
  dsimp only [State.answer]
  split_ands <;> simp

/-! ## Operations of Machine/Channel.lean -/

@[simp] theorem State.rpcGoto_frame (st : RadioState) (s : State) :
    (s.rpcGoto st).slr = s.slr ∧ (s.rpcGoto st).meu = s.meu ∧ (s.rpcGoto st).ele = s.ele ∧
    (s.rpcGoto st).store = s.store ∧ (s.rpcGoto st).sets = s.sets ∧ (s.rpcGoto st).seq = s.seq ∧
    (s.rpcGoto st).drv = s.drv ∧ (s.rpcGoto st).lku = s.lku ∧ (s.rpcGoto st).bat = s.bat ∧
    (s.rpcGoto st).sup = s.sup ∧ (s.rpcGoto st).rpb = s.rpb ∧ (s.rpcGoto st).pkm = s.pkm ∧
    (s.rpcGoto st).fcu = s.fcu ∧ (s.rpcGoto st).lines = s.lines ∧ (s.rpcGoto st).part = s.part ∧
    (s.rpcGoto st).order = s.order ∧ (s.rpcGoto st).pending = s.pending := by
  dsimp only [State.rpcGoto]
  split_ands <;> (repeat' split) <;> simp

@[simp] theorem State.lookCandidate_frame (s : State) :
    (s.lookCandidate).slr = s.slr ∧ (s.lookCandidate).meu = s.meu ∧
    (s.lookCandidate).ele = s.ele ∧ (s.lookCandidate).store = s.store ∧
    (s.lookCandidate).sets = s.sets ∧ (s.lookCandidate).seq = s.seq ∧
    (s.lookCandidate).drv = s.drv ∧ (s.lookCandidate).lku = s.lku ∧
    (s.lookCandidate).bat = s.bat ∧ (s.lookCandidate).sup = s.sup ∧
    (s.lookCandidate).rpb = s.rpb ∧ (s.lookCandidate).pkm = s.pkm ∧
    (s.lookCandidate).fcu = s.fcu ∧ (s.lookCandidate).lines = s.lines ∧
    (s.lookCandidate).part = s.part ∧ (s.lookCandidate).order = s.order ∧
    (s.lookCandidate).pending = s.pending := by
  dsimp only [State.lookCandidate]
  split_ands <;> (repeat' split) <;> simp

@[simp] theorem State.rpcListen_frame (s : State) :
    (s.rpcListen).slr = s.slr ∧ (s.rpcListen).meu = s.meu ∧ (s.rpcListen).ele = s.ele ∧
    (s.rpcListen).store = s.store ∧ (s.rpcListen).sets = s.sets ∧ (s.rpcListen).seq = s.seq ∧
    (s.rpcListen).drv = s.drv ∧ (s.rpcListen).lku = s.lku ∧ (s.rpcListen).bat = s.bat ∧
    (s.rpcListen).sup = s.sup ∧ (s.rpcListen).rpb = s.rpb ∧ (s.rpcListen).pkm = s.pkm ∧
    (s.rpcListen).fcu = s.fcu ∧ (s.rpcListen).lines = s.lines ∧ (s.rpcListen).part = s.part ∧
    (s.rpcListen).order = s.order ∧ (s.rpcListen).pending = s.pending := by
  dsimp only [State.rpcListen]
  split_ands <;> simp

@[simp] theorem State.setUrgent_frame (q : List Report) (s : State) :
    (s.setUrgent q).slr = s.slr ∧ (s.setUrgent q).meu = s.meu ∧ (s.setUrgent q).ele = s.ele ∧
    (s.setUrgent q).store = s.store ∧ (s.setUrgent q).sets = s.sets ∧
    (s.setUrgent q).seq = s.seq ∧ (s.setUrgent q).drv = s.drv ∧ (s.setUrgent q).lku = s.lku ∧
    (s.setUrgent q).bat = s.bat ∧ (s.setUrgent q).sup = s.sup ∧ (s.setUrgent q).rpb = s.rpb ∧
    (s.setUrgent q).fcu = s.fcu ∧ (s.setUrgent q).lines = s.lines ∧
    (s.setUrgent q).part = s.part ∧ (s.setUrgent q).order = s.order ∧
    (s.setUrgent q).pending = s.pending := by
  dsimp only [State.setUrgent]
  split_ands <;> (repeat' split) <;> simp

@[simp] theorem State.acknowledge_frame (n : Nat) (s : State) :
    (s.acknowledge n).slr = s.slr ∧ (s.acknowledge n).meu = s.meu ∧
    (s.acknowledge n).ele = s.ele ∧ (s.acknowledge n).store = s.store ∧
    (s.acknowledge n).sets = s.sets ∧ (s.acknowledge n).seq = s.seq ∧
    (s.acknowledge n).drv = s.drv ∧ (s.acknowledge n).lku = s.lku ∧
    (s.acknowledge n).bat = s.bat ∧ (s.acknowledge n).sup = s.sup ∧
    (s.acknowledge n).rpb = s.rpb ∧ (s.acknowledge n).fcu = s.fcu ∧
    (s.acknowledge n).lines = s.lines ∧ (s.acknowledge n).part = s.part ∧
    (s.acknowledge n).order = s.order ∧ (s.acknowledge n).pending = s.pending := by
  dsimp only [State.acknowledge]
  split_ands <;> (repeat' split) <;> simp

@[simp] theorem State.countAbandon_frame (s : State) :
    (s.countAbandon).slr = s.slr ∧ (s.countAbandon).meu = s.meu ∧ (s.countAbandon).ele = s.ele ∧
    (s.countAbandon).store = s.store ∧ (s.countAbandon).sets = s.sets ∧
    (s.countAbandon).seq = s.seq ∧ (s.countAbandon).drv = s.drv ∧ (s.countAbandon).lku = s.lku ∧
    (s.countAbandon).bat = s.bat ∧ (s.countAbandon).sup = s.sup ∧ (s.countAbandon).rpb = s.rpb ∧
    (s.countAbandon).pkm = s.pkm ∧ (s.countAbandon).fcu = s.fcu ∧
    (s.countAbandon).lines = s.lines ∧ (s.countAbandon).part = s.part ∧
    (s.countAbandon).order = s.order ∧ (s.countAbandon).pending = s.pending := by
  dsimp only [State.countAbandon]
  split_ands <;> (repeat' split) <;> simp

@[simp] theorem State.rpcRest_frame (s : State) :
    (s.rpcRest).slr = s.slr ∧ (s.rpcRest).meu = s.meu ∧ (s.rpcRest).ele = s.ele ∧
    (s.rpcRest).store = s.store ∧ (s.rpcRest).sets = s.sets ∧ (s.rpcRest).seq = s.seq ∧
    (s.rpcRest).drv = s.drv ∧ (s.rpcRest).lku = s.lku ∧ (s.rpcRest).bat = s.bat ∧
    (s.rpcRest).sup = s.sup ∧ (s.rpcRest).rpb = s.rpb ∧ (s.rpcRest).pkm = s.pkm ∧
    (s.rpcRest).fcu = s.fcu ∧ (s.rpcRest).lines = s.lines ∧ (s.rpcRest).part = s.part ∧
    (s.rpcRest).order = s.order ∧ (s.rpcRest).pending = s.pending := by
  dsimp only [State.rpcRest]
  split_ands <;> (repeat' split) <;> simp

/-! ## Operations of Machine/Events.lean -/

@[simp] theorem State.sealUrgent_frame (s : State) :
    (s.sealUrgent).meu = s.meu ∧ (s.sealUrgent).ele = s.ele ∧ (s.sealUrgent).store = s.store ∧
    (s.sealUrgent).sets = s.sets ∧ (s.sealUrgent).seq = s.seq ∧ (s.sealUrgent).drv = s.drv ∧
    (s.sealUrgent).lku = s.lku ∧ (s.sealUrgent).bat = s.bat ∧ (s.sealUrgent).sup = s.sup ∧
    (s.sealUrgent).lines = s.lines ∧ (s.sealUrgent).part = s.part ∧
    (s.sealUrgent).order = s.order ∧ (s.sealUrgent).pending = s.pending := by
  dsimp only [State.sealUrgent]
  split_ands <;> (repeat' split) <;> simp

@[simp] theorem State.sealRoutine_frame (s : State) :
    (s.sealRoutine).meu = s.meu ∧ (s.sealRoutine).ele = s.ele ∧ (s.sealRoutine).store = s.store ∧
    (s.sealRoutine).sets = s.sets ∧ (s.sealRoutine).seq = s.seq ∧ (s.sealRoutine).drv = s.drv ∧
    (s.sealRoutine).lku = s.lku ∧ (s.sealRoutine).bat = s.bat ∧ (s.sealRoutine).sup = s.sup ∧
    (s.sealRoutine).rpc = s.rpc ∧ (s.sealRoutine).lines = s.lines ∧
    (s.sealRoutine).part = s.part ∧ (s.sealRoutine).order = s.order ∧
    (s.sealRoutine).pending = s.pending := by
  dsimp only [State.sealRoutine]
  split_ands <;> (repeat' split) <;> simp

@[simp] theorem State.sealClass_frame (c : ReportClass) (s : State) :
    (s.sealClass c).meu = s.meu ∧ (s.sealClass c).ele = s.ele ∧ (s.sealClass c).store = s.store ∧
    (s.sealClass c).sets = s.sets ∧ (s.sealClass c).seq = s.seq ∧ (s.sealClass c).drv = s.drv ∧
    (s.sealClass c).lku = s.lku ∧ (s.sealClass c).bat = s.bat ∧ (s.sealClass c).sup = s.sup ∧
    (s.sealClass c).lines = s.lines ∧ (s.sealClass c).part = s.part ∧
    (s.sealClass c).order = s.order ∧ (s.sealClass c).pending = s.pending := by
  dsimp only [State.sealClass]
  split_ands <;> (repeat' split) <;> simp

@[simp] theorem State.emit_frame (e : Event) (s : State) :
    (s.emit e).meu = s.meu ∧ (s.emit e).ele = s.ele ∧ (s.emit e).store = s.store ∧
    (s.emit e).sets = s.sets ∧ (s.emit e).seq = s.seq ∧ (s.emit e).drv = s.drv ∧
    (s.emit e).lku = s.lku ∧ (s.emit e).bat = s.bat ∧ (s.emit e).sup = s.sup ∧
    (s.emit e).lines = s.lines ∧ (s.emit e).part = s.part ∧ (s.emit e).order = s.order ∧
    (s.emit e).pending = s.pending := by
  dsimp only [State.emit]
  split_ands <;> (repeat' split) <;> simp

/-! ## Operations of Machine/Supply.lean -/

@[simp] theorem State.chargerPins_frame (s : State) :
    (s.chargerPins).slr = s.slr ∧ (s.chargerPins).meu = s.meu ∧ (s.chargerPins).ele = s.ele ∧
    (s.chargerPins).store = s.store ∧ (s.chargerPins).sets = s.sets ∧
    (s.chargerPins).seq = s.seq ∧ (s.chargerPins).drv = s.drv ∧ (s.chargerPins).lku = s.lku ∧
    (s.chargerPins).sup = s.sup ∧ (s.chargerPins).rpb = s.rpb ∧ (s.chargerPins).pkm = s.pkm ∧
    (s.chargerPins).rpc = s.rpc ∧ (s.chargerPins).fcu = s.fcu ∧ (s.chargerPins).lines = s.lines ∧
    (s.chargerPins).part = s.part ∧ (s.chargerPins).order = s.order ∧
    (s.chargerPins).pending = s.pending := by
  dsimp only [State.chargerPins]
  split_ands <;> simp

@[simp] theorem State.setCharger_frame (st : Charger) (s : State) :
    (s.setCharger st).slr = s.slr ∧ (s.setCharger st).meu = s.meu ∧
    (s.setCharger st).ele = s.ele ∧ (s.setCharger st).store = s.store ∧
    (s.setCharger st).sets = s.sets ∧ (s.setCharger st).seq = s.seq ∧
    (s.setCharger st).drv = s.drv ∧ (s.setCharger st).lku = s.lku ∧
    (s.setCharger st).sup = s.sup ∧ (s.setCharger st).rpb = s.rpb ∧
    (s.setCharger st).pkm = s.pkm ∧ (s.setCharger st).rpc = s.rpc ∧
    (s.setCharger st).fcu = s.fcu ∧ (s.setCharger st).lines = s.lines ∧
    (s.setCharger st).part = s.part ∧ (s.setCharger st).order = s.order ∧
    (s.setCharger st).pending = s.pending := by
  dsimp only [State.setCharger]
  split_ands <;> (repeat' split) <;> simp

@[simp] theorem State.enterFault_frame (s : State) :
    (s.enterFault).meu = s.meu ∧ (s.enterFault).ele = s.ele ∧ (s.enterFault).store = s.store ∧
    (s.enterFault).sets = s.sets ∧ (s.enterFault).seq = s.seq ∧ (s.enterFault).drv = s.drv ∧
    (s.enterFault).lku = s.lku ∧ (s.enterFault).sup = s.sup ∧ (s.enterFault).lines = s.lines ∧
    (s.enterFault).part = s.part ∧ (s.enterFault).order = s.order ∧
    (s.enterFault).pending = s.pending := by
  dsimp only [State.enterFault]
  split_ands <;> simp

@[simp] theorem State.radioGranted_frame (s : State) :
    (s.radioGranted).slr = s.slr ∧ (s.radioGranted).meu = s.meu ∧ (s.radioGranted).ele = s.ele ∧
    (s.radioGranted).store = s.store ∧ (s.radioGranted).sets = s.sets ∧
    (s.radioGranted).seq = s.seq ∧ (s.radioGranted).drv = s.drv ∧ (s.radioGranted).lku = s.lku ∧
    (s.radioGranted).bat = s.bat ∧ (s.radioGranted).sup = s.sup ∧ (s.radioGranted).rpb = s.rpb ∧
    (s.radioGranted).pkm = s.pkm ∧ (s.radioGranted).fcu = s.fcu ∧
    (s.radioGranted).lines = s.lines ∧ (s.radioGranted).part = s.part ∧
    (s.radioGranted).order = s.order ∧ (s.radioGranted).pending = s.pending := by
  dsimp only [State.radioGranted]
  split_ands <;> (repeat' split) <;> simp

@[simp] theorem State.loadGranted_frame (s : State) :
    (s.loadGranted).slr = s.slr ∧ (s.loadGranted).meu = s.meu ∧ (s.loadGranted).ele = s.ele ∧
    (s.loadGranted).store = s.store ∧ (s.loadGranted).sets = s.sets ∧
    (s.loadGranted).seq = s.seq ∧ (s.loadGranted).drv = s.drv ∧ (s.loadGranted).lku = s.lku ∧
    (s.loadGranted).sup = s.sup ∧ (s.loadGranted).rpb = s.rpb ∧ (s.loadGranted).pkm = s.pkm ∧
    (s.loadGranted).rpc = s.rpc ∧ (s.loadGranted).fcu = s.fcu ∧ (s.loadGranted).lines = s.lines ∧
    (s.loadGranted).part = s.part ∧ (s.loadGranted).order = s.order ∧
    (s.loadGranted).pending = s.pending := by
  dsimp only [State.loadGranted]
  split_ands <;> simp

@[simp] theorem State.offer_frame (r : Requester) (s : State) :
    (s.offer r).slr = s.slr ∧ (s.offer r).meu = s.meu ∧ (s.offer r).ele = s.ele ∧
    (s.offer r).store = s.store ∧ (s.offer r).sets = s.sets ∧ (s.offer r).seq = s.seq ∧
    (s.offer r).drv = s.drv ∧ (s.offer r).lku = s.lku ∧ (s.offer r).rpb = s.rpb ∧
    (s.offer r).pkm = s.pkm ∧ (s.offer r).fcu = s.fcu ∧ (s.offer r).lines = s.lines ∧
    (s.offer r).part = s.part ∧ (s.offer r).order = s.order ∧ (s.offer r).pending = s.pending := by
  dsimp only [State.offer]
  split_ands <;> (repeat' split) <;> simp

@[simp] theorem State.grantDecision_frame (n : Nat) (s : State) :
    (s.grantDecision n).slr = s.slr ∧ (s.grantDecision n).meu = s.meu ∧
    (s.grantDecision n).ele = s.ele ∧ (s.grantDecision n).store = s.store ∧
    (s.grantDecision n).sets = s.sets ∧ (s.grantDecision n).seq = s.seq ∧
    (s.grantDecision n).drv = s.drv ∧ (s.grantDecision n).lku = s.lku ∧
    (s.grantDecision n).rpb = s.rpb ∧ (s.grantDecision n).pkm = s.pkm ∧
    (s.grantDecision n).fcu = s.fcu ∧ (s.grantDecision n).lines = s.lines ∧
    (s.grantDecision n).part = s.part ∧ (s.grantDecision n).order = s.order ∧
    (s.grantDecision n).pending = s.pending := by
  induction n generalizing s with
  | zero => simp [State.grantDecision]
  | succ n ih =>
    unfold State.grantDecision
    split_ands <;> (repeat' split) <;> simp [ih]

@[simp] theorem State.decide3_frame (s : State) :
    (s.decide3).slr = s.slr ∧ (s.decide3).meu = s.meu ∧ (s.decide3).ele = s.ele ∧
    (s.decide3).store = s.store ∧ (s.decide3).sets = s.sets ∧ (s.decide3).seq = s.seq ∧
    (s.decide3).drv = s.drv ∧ (s.decide3).lku = s.lku ∧ (s.decide3).rpb = s.rpb ∧
    (s.decide3).pkm = s.pkm ∧ (s.decide3).fcu = s.fcu ∧ (s.decide3).lines = s.lines ∧
    (s.decide3).part = s.part ∧ (s.decide3).order = s.order ∧ (s.decide3).pending = s.pending := by
  dsimp only [State.decide3]
  split_ands <;> simp

@[simp] theorem State.giveBack_frame (r : Requester) (s : State) :
    (s.giveBack r).slr = s.slr ∧ (s.giveBack r).meu = s.meu ∧ (s.giveBack r).ele = s.ele ∧
    (s.giveBack r).store = s.store ∧ (s.giveBack r).sets = s.sets ∧ (s.giveBack r).seq = s.seq ∧
    (s.giveBack r).drv = s.drv ∧ (s.giveBack r).lku = s.lku ∧ (s.giveBack r).rpb = s.rpb ∧
    (s.giveBack r).pkm = s.pkm ∧ (s.giveBack r).fcu = s.fcu ∧ (s.giveBack r).lines = s.lines ∧
    (s.giveBack r).part = s.part ∧ (s.giveBack r).order = s.order ∧
    (s.giveBack r).pending = s.pending := by
  dsimp only [State.giveBack]
  split_ands <;> (repeat' split) <;> simp

@[simp] theorem State.release_frame (r : Requester) (s : State) :
    (s.release r).slr = s.slr ∧ (s.release r).meu = s.meu ∧ (s.release r).ele = s.ele ∧
    (s.release r).store = s.store ∧ (s.release r).sets = s.sets ∧ (s.release r).seq = s.seq ∧
    (s.release r).drv = s.drv ∧ (s.release r).lku = s.lku ∧ (s.release r).rpb = s.rpb ∧
    (s.release r).pkm = s.pkm ∧ (s.release r).fcu = s.fcu ∧ (s.release r).lines = s.lines ∧
    (s.release r).part = s.part ∧ (s.release r).order = s.order ∧
    (s.release r).pending = s.pending := by
  dsimp only [State.release]
  split_ands <;> (repeat' split) <;> simp

@[simp] theorem State.ask_frame (r : Requester) (s : State) :
    (s.ask r).slr = s.slr ∧ (s.ask r).meu = s.meu ∧ (s.ask r).ele = s.ele ∧
    (s.ask r).store = s.store ∧ (s.ask r).sets = s.sets ∧ (s.ask r).seq = s.seq ∧
    (s.ask r).drv = s.drv ∧ (s.ask r).lku = s.lku ∧ (s.ask r).rpb = s.rpb ∧
    (s.ask r).pkm = s.pkm ∧ (s.ask r).fcu = s.fcu ∧ (s.ask r).lines = s.lines ∧
    (s.ask r).part = s.part ∧ (s.ask r).order = s.order ∧ (s.ask r).pending = s.pending := by
  dsimp only [State.ask]
  split_ands <;> (repeat' split) <;> simp

@[simp] theorem State.startTest_frame (c : StartCause) (s : State) :
    (s.startTest c).slr = s.slr ∧ (s.startTest c).meu = s.meu ∧ (s.startTest c).ele = s.ele ∧
    (s.startTest c).store = s.store ∧ (s.startTest c).sets = s.sets ∧
    (s.startTest c).seq = s.seq ∧ (s.startTest c).drv = s.drv ∧ (s.startTest c).lku = s.lku ∧
    (s.startTest c).rpb = s.rpb ∧ (s.startTest c).pkm = s.pkm ∧ (s.startTest c).fcu = s.fcu ∧
    (s.startTest c).lines = s.lines ∧ (s.startTest c).part = s.part ∧
    (s.startTest c).order = s.order ∧ (s.startTest c).pending = s.pending := by
  dsimp only [State.startTest]
  split_ands <;> simp

@[simp] theorem State.dueCheck_frame (s : State) :
    (s.dueCheck).slr = s.slr ∧ (s.dueCheck).meu = s.meu ∧ (s.dueCheck).ele = s.ele ∧
    (s.dueCheck).store = s.store ∧ (s.dueCheck).sets = s.sets ∧ (s.dueCheck).seq = s.seq ∧
    (s.dueCheck).drv = s.drv ∧ (s.dueCheck).lku = s.lku ∧ (s.dueCheck).rpb = s.rpb ∧
    (s.dueCheck).pkm = s.pkm ∧ (s.dueCheck).fcu = s.fcu ∧ (s.dueCheck).lines = s.lines ∧
    (s.dueCheck).part = s.part ∧ (s.dueCheck).order = s.order ∧ (s.dueCheck).pending = s.pending := by
  dsimp only [State.dueCheck]
  split_ands <;> (repeat' split) <;> simp

@[simp] theorem State.chargerTo_frame (st : Charger) (s : State) :
    (s.chargerTo st).slr = s.slr ∧ (s.chargerTo st).meu = s.meu ∧ (s.chargerTo st).ele = s.ele ∧
    (s.chargerTo st).store = s.store ∧ (s.chargerTo st).sets = s.sets ∧
    (s.chargerTo st).seq = s.seq ∧ (s.chargerTo st).drv = s.drv ∧ (s.chargerTo st).lku = s.lku ∧
    (s.chargerTo st).rpb = s.rpb ∧ (s.chargerTo st).pkm = s.pkm ∧ (s.chargerTo st).fcu = s.fcu ∧
    (s.chargerTo st).lines = s.lines ∧ (s.chargerTo st).part = s.part ∧
    (s.chargerTo st).order = s.order ∧ (s.chargerTo st).pending = s.pending := by
  dsimp only [State.chargerTo]
  split_ands <;> simp

@[simp] theorem State.chargerTestEnded_frame (s : State) :
    (s.chargerTestEnded).meu = s.meu ∧ (s.chargerTestEnded).ele = s.ele ∧
    (s.chargerTestEnded).store = s.store ∧ (s.chargerTestEnded).sets = s.sets ∧
    (s.chargerTestEnded).seq = s.seq ∧ (s.chargerTestEnded).drv = s.drv ∧
    (s.chargerTestEnded).lku = s.lku ∧ (s.chargerTestEnded).lines = s.lines ∧
    (s.chargerTestEnded).part = s.part ∧ (s.chargerTestEnded).order = s.order ∧
    (s.chargerTestEnded).pending = s.pending := by
  dsimp only [State.chargerTestEnded]
  split_ands <;> (repeat' split) <;> simp

@[simp] theorem State.countVerdict_frame (v : Verdict) (r : Option Nat) (s : State) :
    (s.countVerdict v r).meu = s.meu ∧ (s.countVerdict v r).ele = s.ele ∧
    (s.countVerdict v r).store = s.store ∧ (s.countVerdict v r).sets = s.sets ∧
    (s.countVerdict v r).seq = s.seq ∧ (s.countVerdict v r).drv = s.drv ∧
    (s.countVerdict v r).lku = s.lku ∧ (s.countVerdict v r).sup = s.sup ∧
    (s.countVerdict v r).lines = s.lines ∧ (s.countVerdict v r).part = s.part ∧
    (s.countVerdict v r).order = s.order ∧ (s.countVerdict v r).pending = s.pending := by
  dsimp only [State.countVerdict]
  split_ands <;> (repeat' split) <;> simp

@[simp] theorem State.endTest_frame (v : Verdict) (v1 dI : Option Int) (r : Option Nat) (s : State) :
    (s.endTest v v1 dI r).meu = s.meu ∧ (s.endTest v v1 dI r).ele = s.ele ∧
    (s.endTest v v1 dI r).store = s.store ∧ (s.endTest v v1 dI r).sets = s.sets ∧
    (s.endTest v v1 dI r).seq = s.seq ∧ (s.endTest v v1 dI r).drv = s.drv ∧
    (s.endTest v v1 dI r).lku = s.lku ∧ (s.endTest v v1 dI r).lines = s.lines ∧
    (s.endTest v v1 dI r).part = s.part ∧ (s.endTest v v1 dI r).order = s.order ∧
    (s.endTest v v1 dI r).pending = s.pending := by
  dsimp only [State.endTest]
  split_ands <;> simp

@[simp] theorem State.dropLoad_frame (s : State) :
    (s.dropLoad).slr = s.slr ∧ (s.dropLoad).meu = s.meu ∧ (s.dropLoad).ele = s.ele ∧
    (s.dropLoad).store = s.store ∧ (s.dropLoad).sets = s.sets ∧ (s.dropLoad).seq = s.seq ∧
    (s.dropLoad).drv = s.drv ∧ (s.dropLoad).lku = s.lku ∧ (s.dropLoad).rpb = s.rpb ∧
    (s.dropLoad).pkm = s.pkm ∧ (s.dropLoad).fcu = s.fcu ∧ (s.dropLoad).lines = s.lines ∧
    (s.dropLoad).part = s.part ∧ (s.dropLoad).order = s.order ∧ (s.dropLoad).pending = s.pending := by
  dsimp only [State.dropLoad]
  split_ands <;> simp

@[simp] theorem State.abortTest_frame (s : State) :
    (s.abortTest).meu = s.meu ∧ (s.abortTest).ele = s.ele ∧ (s.abortTest).store = s.store ∧
    (s.abortTest).sets = s.sets ∧ (s.abortTest).seq = s.seq ∧ (s.abortTest).drv = s.drv ∧
    (s.abortTest).lku = s.lku ∧ (s.abortTest).lines = s.lines ∧ (s.abortTest).part = s.part ∧
    (s.abortTest).order = s.order ∧ (s.abortTest).pending = s.pending := by
  dsimp only [State.abortTest]
  split_ands <;> (repeat' split) <;> simp

@[simp] theorem State.suspendTest_frame (s : State) :
    (s.suspendTest).slr = s.slr ∧ (s.suspendTest).meu = s.meu ∧ (s.suspendTest).ele = s.ele ∧
    (s.suspendTest).store = s.store ∧ (s.suspendTest).sets = s.sets ∧
    (s.suspendTest).seq = s.seq ∧ (s.suspendTest).drv = s.drv ∧ (s.suspendTest).lku = s.lku ∧
    (s.suspendTest).rpb = s.rpb ∧ (s.suspendTest).pkm = s.pkm ∧ (s.suspendTest).fcu = s.fcu ∧
    (s.suspendTest).lines = s.lines ∧ (s.suspendTest).part = s.part ∧
    (s.suspendTest).order = s.order ∧ (s.suspendTest).pending = s.pending := by
  dsimp only [State.suspendTest]
  split_ands <;> simp

@[simp] theorem State.batAsked_frame (s : State) :
    (s.batAsked).meu = s.meu ∧ (s.batAsked).ele = s.ele ∧ (s.batAsked).store = s.store ∧
    (s.batAsked).sets = s.sets ∧ (s.batAsked).seq = s.seq ∧ (s.batAsked).drv = s.drv ∧
    (s.batAsked).lku = s.lku ∧ (s.batAsked).lines = s.lines ∧ (s.batAsked).part = s.part ∧
    (s.batAsked).order = s.order ∧ (s.batAsked).pending = s.pending := by
  dsimp only [State.batAsked]
  split_ands <;> (repeat' split) <;> simp

@[simp] theorem State.rpcAsked_frame (s : State) :
    (s.rpcAsked).slr = s.slr ∧ (s.rpcAsked).meu = s.meu ∧ (s.rpcAsked).ele = s.ele ∧
    (s.rpcAsked).store = s.store ∧ (s.rpcAsked).sets = s.sets ∧ (s.rpcAsked).seq = s.seq ∧
    (s.rpcAsked).drv = s.drv ∧ (s.rpcAsked).lku = s.lku ∧ (s.rpcAsked).rpb = s.rpb ∧
    (s.rpcAsked).pkm = s.pkm ∧ (s.rpcAsked).fcu = s.fcu ∧ (s.rpcAsked).lines = s.lines ∧
    (s.rpcAsked).part = s.part ∧ (s.rpcAsked).order = s.order ∧ (s.rpcAsked).pending = s.pending := by
  dsimp only [State.rpcAsked]
  split_ands <;> (repeat' split) <;> simp

@[simp] theorem State.askRelease_frame (r : Requester) (s : State) :
    (s.askRelease r).meu = s.meu ∧ (s.askRelease r).ele = s.ele ∧
    (s.askRelease r).store = s.store ∧ (s.askRelease r).sets = s.sets ∧
    (s.askRelease r).seq = s.seq ∧ (s.askRelease r).drv = s.drv ∧ (s.askRelease r).lku = s.lku ∧
    (s.askRelease r).lines = s.lines ∧ (s.askRelease r).part = s.part ∧
    (s.askRelease r).order = s.order ∧ (s.askRelease r).pending = s.pending := by
  dsimp only [State.askRelease]
  split_ands <;> (repeat' split) <;> simp

@[simp] theorem State.preempt_frame (r : Requester) (s : State) :
    (s.preempt r).meu = s.meu ∧ (s.preempt r).ele = s.ele ∧ (s.preempt r).store = s.store ∧
    (s.preempt r).sets = s.sets ∧ (s.preempt r).seq = s.seq ∧ (s.preempt r).drv = s.drv ∧
    (s.preempt r).lku = s.lku ∧ (s.preempt r).lines = s.lines ∧ (s.preempt r).part = s.part ∧
    (s.preempt r).order = s.order ∧ (s.preempt r).pending = s.pending := by
  dsimp only [State.preempt]
  split_ands <;> (repeat' split) <;> simp

@[simp] theorem State.request_frame (r : Requester) (s : State) :
    (s.request r).meu = s.meu ∧ (s.request r).ele = s.ele ∧ (s.request r).store = s.store ∧
    (s.request r).sets = s.sets ∧ (s.request r).seq = s.seq ∧ (s.request r).drv = s.drv ∧
    (s.request r).lku = s.lku ∧ (s.request r).lines = s.lines ∧ (s.request r).part = s.part ∧
    (s.request r).order = s.order ∧ (s.request r).pending = s.pending := by
  dsimp only [State.request]
  split_ands <;> (repeat' split) <;> simp

@[simp] theorem State.supLost_frame (s : State) :
    (s.supLost).meu = s.meu ∧ (s.supLost).ele = s.ele ∧ (s.supLost).store = s.store ∧
    (s.supLost).sets = s.sets ∧ (s.supLost).seq = s.seq ∧ (s.supLost).drv = s.drv ∧
    (s.supLost).lku = s.lku ∧ (s.supLost).lines = s.lines ∧ (s.supLost).part = s.part ∧
    (s.supLost).order = s.order ∧ (s.supLost).pending = s.pending := by
  dsimp only [State.supLost]
  split_ands <;> (repeat' split) <;> simp

@[simp] theorem State.offerWaiting_frame (r : Requester) (s : State) :
    (s.offerWaiting r).slr = s.slr ∧ (s.offerWaiting r).meu = s.meu ∧
    (s.offerWaiting r).ele = s.ele ∧ (s.offerWaiting r).store = s.store ∧
    (s.offerWaiting r).sets = s.sets ∧ (s.offerWaiting r).seq = s.seq ∧
    (s.offerWaiting r).drv = s.drv ∧ (s.offerWaiting r).lku = s.lku ∧
    (s.offerWaiting r).rpb = s.rpb ∧ (s.offerWaiting r).pkm = s.pkm ∧
    (s.offerWaiting r).fcu = s.fcu ∧ (s.offerWaiting r).lines = s.lines ∧
    (s.offerWaiting r).part = s.part ∧ (s.offerWaiting r).order = s.order ∧
    (s.offerWaiting r).pending = s.pending := by
  dsimp only [State.offerWaiting]
  split_ands <;> (repeat' split) <;> simp

@[simp] theorem State.supBack_frame (s : State) :
    (s.supBack).slr = s.slr ∧ (s.supBack).meu = s.meu ∧ (s.supBack).ele = s.ele ∧
    (s.supBack).store = s.store ∧ (s.supBack).sets = s.sets ∧ (s.supBack).seq = s.seq ∧
    (s.supBack).drv = s.drv ∧ (s.supBack).lku = s.lku ∧ (s.supBack).rpb = s.rpb ∧
    (s.supBack).pkm = s.pkm ∧ (s.supBack).fcu = s.fcu ∧ (s.supBack).lines = s.lines ∧
    (s.supBack).part = s.part ∧ (s.supBack).order = s.order ∧ (s.supBack).pending = s.pending := by
  dsimp only [State.supBack]
  split_ands <;> simp

@[simp] theorem State.supSupply_frame (present : Bool) (s : State) :
    (s.supSupply present).meu = s.meu ∧ (s.supSupply present).ele = s.ele ∧
    (s.supSupply present).store = s.store ∧ (s.supSupply present).sets = s.sets ∧
    (s.supSupply present).seq = s.seq ∧ (s.supSupply present).drv = s.drv ∧
    (s.supSupply present).lku = s.lku ∧ (s.supSupply present).lines = s.lines ∧
    (s.supSupply present).part = s.part ∧ (s.supSupply present).order = s.order ∧
    (s.supSupply present).pending = s.pending := by
  dsimp only [State.supSupply]
  split_ands <;> (repeat' split) <;> simp

@[simp] theorem State.supShed_frame (level : Nat) (s : State) :
    (s.supShed level).meu = s.meu ∧ (s.supShed level).ele = s.ele ∧
    (s.supShed level).store = s.store ∧ (s.supShed level).sets = s.sets ∧
    (s.supShed level).seq = s.seq ∧ (s.supShed level).drv = s.drv ∧
    (s.supShed level).lku = s.lku ∧ (s.supShed level).lines = s.lines ∧
    (s.supShed level).part = s.part ∧ (s.supShed level).order = s.order ∧
    (s.supShed level).pending = s.pending := by
  dsimp only [State.supShed]
  split_ands <;> (repeat' split) <;> simp

/-! ## Operations of Machine/Battery.lean -/

@[simp] theorem State.rpcWithdraw_frame (st : RadioState) (s : State) :
    (s.rpcWithdraw st).slr = s.slr ∧ (s.rpcWithdraw st).meu = s.meu ∧
    (s.rpcWithdraw st).ele = s.ele ∧ (s.rpcWithdraw st).store = s.store ∧
    (s.rpcWithdraw st).sets = s.sets ∧ (s.rpcWithdraw st).seq = s.seq ∧
    (s.rpcWithdraw st).drv = s.drv ∧ (s.rpcWithdraw st).lku = s.lku ∧
    (s.rpcWithdraw st).rpb = s.rpb ∧ (s.rpcWithdraw st).pkm = s.pkm ∧
    (s.rpcWithdraw st).fcu = s.fcu ∧ (s.rpcWithdraw st).lines = s.lines ∧
    (s.rpcWithdraw st).part = s.part ∧ (s.rpcWithdraw st).order = s.order ∧
    (s.rpcWithdraw st).pending = s.pending := by
  dsimp only [State.rpcWithdraw]
  split_ands <;> simp

@[simp] theorem State.rpcWake_frame (s : State) :
    (s.rpcWake).slr = s.slr ∧ (s.rpcWake).meu = s.meu ∧ (s.rpcWake).ele = s.ele ∧
    (s.rpcWake).store = s.store ∧ (s.rpcWake).sets = s.sets ∧ (s.rpcWake).seq = s.seq ∧
    (s.rpcWake).drv = s.drv ∧ (s.rpcWake).lku = s.lku ∧ (s.rpcWake).bat = s.bat ∧
    (s.rpcWake).sup = s.sup ∧ (s.rpcWake).rpb = s.rpb ∧ (s.rpcWake).pkm = s.pkm ∧
    (s.rpcWake).fcu = s.fcu ∧ (s.rpcWake).lines = s.lines ∧ (s.rpcWake).part = s.part ∧
    (s.rpcWake).order = s.order ∧ (s.rpcWake).pending = s.pending := by
  dsimp only [State.rpcWake]
  split_ands <;> (repeat' split) <;> simp

@[simp] theorem State.rpcPower_frame (s : State) :
    (s.rpcPower).slr = s.slr ∧ (s.rpcPower).meu = s.meu ∧ (s.rpcPower).ele = s.ele ∧
    (s.rpcPower).store = s.store ∧ (s.rpcPower).sets = s.sets ∧ (s.rpcPower).seq = s.seq ∧
    (s.rpcPower).drv = s.drv ∧ (s.rpcPower).lku = s.lku ∧ (s.rpcPower).rpb = s.rpb ∧
    (s.rpcPower).pkm = s.pkm ∧ (s.rpcPower).fcu = s.fcu ∧ (s.rpcPower).lines = s.lines ∧
    (s.rpcPower).part = s.part ∧ (s.rpcPower).order = s.order ∧ (s.rpcPower).pending = s.pending := by
  dsimp only [State.rpcPower]
  split_ands <;> (repeat' split) <;> simp

@[simp] theorem State.rpcDropUnsolicited_frame (s : State) :
    (s.rpcDropUnsolicited).slr = s.slr ∧ (s.rpcDropUnsolicited).meu = s.meu ∧
    (s.rpcDropUnsolicited).ele = s.ele ∧ (s.rpcDropUnsolicited).store = s.store ∧
    (s.rpcDropUnsolicited).sets = s.sets ∧ (s.rpcDropUnsolicited).seq = s.seq ∧
    (s.rpcDropUnsolicited).drv = s.drv ∧ (s.rpcDropUnsolicited).lku = s.lku ∧
    (s.rpcDropUnsolicited).rpb = s.rpb ∧ (s.rpcDropUnsolicited).pkm = s.pkm ∧
    (s.rpcDropUnsolicited).fcu = s.fcu ∧ (s.rpcDropUnsolicited).lines = s.lines ∧
    (s.rpcDropUnsolicited).part = s.part ∧ (s.rpcDropUnsolicited).order = s.order ∧
    (s.rpcDropUnsolicited).pending = s.pending := by
  dsimp only [State.rpcDropUnsolicited]
  split_ands <;> (repeat' split) <;> simp

@[simp] theorem State.rpcShed_frame (level : Nat) (s : State) :
    (s.rpcShed level).slr = s.slr ∧ (s.rpcShed level).meu = s.meu ∧
    (s.rpcShed level).ele = s.ele ∧ (s.rpcShed level).store = s.store ∧
    (s.rpcShed level).sets = s.sets ∧ (s.rpcShed level).seq = s.seq ∧
    (s.rpcShed level).drv = s.drv ∧ (s.rpcShed level).lku = s.lku ∧
    (s.rpcShed level).rpb = s.rpb ∧ (s.rpcShed level).pkm = s.pkm ∧
    (s.rpcShed level).fcu = s.fcu ∧ (s.rpcShed level).lines = s.lines ∧
    (s.rpcShed level).part = s.part ∧ (s.rpcShed level).order = s.order ∧
    (s.rpcShed level).pending = s.pending := by
  dsimp only [State.rpcShed]
  split_ands <;> (repeat' split) <;> simp

@[simp] theorem State.modemLost_frame (s : State) :
    (s.modemLost).slr = s.slr ∧ (s.modemLost).meu = s.meu ∧ (s.modemLost).ele = s.ele ∧
    (s.modemLost).store = s.store ∧ (s.modemLost).sets = s.sets ∧ (s.modemLost).seq = s.seq ∧
    (s.modemLost).drv = s.drv ∧ (s.modemLost).lku = s.lku ∧ (s.modemLost).rpb = s.rpb ∧
    (s.modemLost).pkm = s.pkm ∧ (s.modemLost).fcu = s.fcu ∧ (s.modemLost).lines = s.lines ∧
    (s.modemLost).part = s.part ∧ (s.modemLost).order = s.order ∧
    (s.modemLost).pending = s.pending := by
  dsimp only [State.modemLost]
  split_ands <;> (repeat' split) <;> simp

@[simp] theorem State.modemRise_frame (s : State) :
    (s.modemRise).slr = s.slr ∧ (s.modemRise).meu = s.meu ∧ (s.modemRise).ele = s.ele ∧
    (s.modemRise).store = s.store ∧ (s.modemRise).sets = s.sets ∧ (s.modemRise).seq = s.seq ∧
    (s.modemRise).drv = s.drv ∧ (s.modemRise).lku = s.lku ∧ (s.modemRise).bat = s.bat ∧
    (s.modemRise).sup = s.sup ∧ (s.modemRise).rpb = s.rpb ∧ (s.modemRise).pkm = s.pkm ∧
    (s.modemRise).fcu = s.fcu ∧ (s.modemRise).lines = s.lines ∧ (s.modemRise).part = s.part ∧
    (s.modemRise).order = s.order ∧ (s.modemRise).pending = s.pending := by
  dsimp only [State.modemRise]
  split_ands <;> (repeat' split) <;> simp

@[simp] theorem State.modemFall_frame (s : State) :
    (s.modemFall).slr = s.slr ∧ (s.modemFall).meu = s.meu ∧ (s.modemFall).ele = s.ele ∧
    (s.modemFall).store = s.store ∧ (s.modemFall).sets = s.sets ∧ (s.modemFall).seq = s.seq ∧
    (s.modemFall).drv = s.drv ∧ (s.modemFall).lku = s.lku ∧ (s.modemFall).rpb = s.rpb ∧
    (s.modemFall).pkm = s.pkm ∧ (s.modemFall).fcu = s.fcu ∧ (s.modemFall).lines = s.lines ∧
    (s.modemFall).part = s.part ∧ (s.modemFall).order = s.order ∧
    (s.modemFall).pending = s.pending := by
  dsimp only [State.modemFall]
  split_ands <;> (repeat' split) <;> simp

@[simp] theorem State.modemChange_frame (level : Bool) (s : State) :
    (s.modemChange level).slr = s.slr ∧ (s.modemChange level).meu = s.meu ∧
    (s.modemChange level).ele = s.ele ∧ (s.modemChange level).store = s.store ∧
    (s.modemChange level).sets = s.sets ∧ (s.modemChange level).seq = s.seq ∧
    (s.modemChange level).drv = s.drv ∧ (s.modemChange level).lku = s.lku ∧
    (s.modemChange level).rpb = s.rpb ∧ (s.modemChange level).pkm = s.pkm ∧
    (s.modemChange level).fcu = s.fcu ∧ (s.modemChange level).part = s.part ∧
    (s.modemChange level).order = s.order ∧ (s.modemChange level).pending = s.pending := by
  dsimp only [State.modemChange]
  split_ands <;> (repeat' split) <;> simp

@[simp] theorem State.carrierChange_frame (level : Bool) (s : State) :
    (s.carrierChange level).slr = s.slr ∧ (s.carrierChange level).meu = s.meu ∧
    (s.carrierChange level).ele = s.ele ∧ (s.carrierChange level).store = s.store ∧
    (s.carrierChange level).sets = s.sets ∧ (s.carrierChange level).seq = s.seq ∧
    (s.carrierChange level).drv = s.drv ∧ (s.carrierChange level).lku = s.lku ∧
    (s.carrierChange level).bat = s.bat ∧ (s.carrierChange level).sup = s.sup ∧
    (s.carrierChange level).rpb = s.rpb ∧ (s.carrierChange level).pkm = s.pkm ∧
    (s.carrierChange level).fcu = s.fcu ∧ (s.carrierChange level).part = s.part ∧
    (s.carrierChange level).order = s.order ∧ (s.carrierChange level).pending = s.pending := by
  dsimp only [State.carrierChange]
  split_ands <;> (repeat' split) <;> simp

@[simp] theorem State.updateSetpoints_frame (s : State) :
    (s.updateSetpoints).slr = s.slr ∧ (s.updateSetpoints).meu = s.meu ∧
    (s.updateSetpoints).ele = s.ele ∧ (s.updateSetpoints).store = s.store ∧
    (s.updateSetpoints).sets = s.sets ∧ (s.updateSetpoints).seq = s.seq ∧
    (s.updateSetpoints).drv = s.drv ∧ (s.updateSetpoints).lku = s.lku ∧
    (s.updateSetpoints).sup = s.sup ∧ (s.updateSetpoints).rpb = s.rpb ∧
    (s.updateSetpoints).pkm = s.pkm ∧ (s.updateSetpoints).rpc = s.rpc ∧
    (s.updateSetpoints).fcu = s.fcu ∧ (s.updateSetpoints).lines = s.lines ∧
    (s.updateSetpoints).part = s.part ∧ (s.updateSetpoints).order = s.order ∧
    (s.updateSetpoints).pending = s.pending := by
  dsimp only [State.updateSetpoints]
  split_ands <;> simp

@[simp] theorem State.evalFault_frame (s : State) :
    (s.evalFault).meu = s.meu ∧ (s.evalFault).ele = s.ele ∧ (s.evalFault).store = s.store ∧
    (s.evalFault).sets = s.sets ∧ (s.evalFault).seq = s.seq ∧ (s.evalFault).drv = s.drv ∧
    (s.evalFault).lku = s.lku ∧ (s.evalFault).sup = s.sup ∧ (s.evalFault).lines = s.lines ∧
    (s.evalFault).part = s.part ∧ (s.evalFault).order = s.order ∧
    (s.evalFault).pending = s.pending := by
  dsimp only [State.evalFault]
  split_ands <;> (repeat' split) <;> simp

@[simp] theorem State.setShed_frame (level : Nat) (s : State) :
    (s.setShed level).meu = s.meu ∧ (s.setShed level).ele = s.ele ∧
    (s.setShed level).store = s.store ∧ (s.setShed level).sets = s.sets ∧
    (s.setShed level).seq = s.seq ∧ (s.setShed level).drv = s.drv ∧
    (s.setShed level).lku = s.lku ∧ (s.setShed level).lines = s.lines ∧
    (s.setShed level).part = s.part ∧ (s.setShed level).order = s.order ∧
    (s.setShed level).pending = s.pending := by
  dsimp only [State.setShed]
  split_ands <;> (repeat' split) <;> simp

@[simp] theorem State.evalShed_frame (s : State) :
    (s.evalShed).meu = s.meu ∧ (s.evalShed).ele = s.ele ∧ (s.evalShed).store = s.store ∧
    (s.evalShed).sets = s.sets ∧ (s.evalShed).seq = s.seq ∧ (s.evalShed).drv = s.drv ∧
    (s.evalShed).lku = s.lku ∧ (s.evalShed).lines = s.lines ∧ (s.evalShed).part = s.part ∧
    (s.evalShed).order = s.order ∧ (s.evalShed).pending = s.pending := by
  dsimp only [State.evalShed]
  split_ands <;> (repeat' split) <;> simp

@[simp] theorem State.profileSoc_frame (soc : Nat) (s : State) :
    (s.profileSoc soc).slr = s.slr ∧ (s.profileSoc soc).meu = s.meu ∧
    (s.profileSoc soc).ele = s.ele ∧ (s.profileSoc soc).store = s.store ∧
    (s.profileSoc soc).sets = s.sets ∧ (s.profileSoc soc).seq = s.seq ∧
    (s.profileSoc soc).drv = s.drv ∧ (s.profileSoc soc).lku = s.lku ∧
    (s.profileSoc soc).bat = s.bat ∧ (s.profileSoc soc).sup = s.sup ∧
    (s.profileSoc soc).pkm = s.pkm ∧ (s.profileSoc soc).rpc = s.rpc ∧
    (s.profileSoc soc).fcu = s.fcu ∧ (s.profileSoc soc).lines = s.lines ∧
    (s.profileSoc soc).part = s.part ∧ (s.profileSoc soc).order = s.order ∧
    (s.profileSoc soc).pending = s.pending := by
  dsimp only [State.profileSoc]
  split_ands <;> simp

@[simp] theorem State.setQ_frame (q : Nat) (s : State) :
    (s.setQ q).slr = s.slr ∧ (s.setQ q).meu = s.meu ∧ (s.setQ q).ele = s.ele ∧
    (s.setQ q).store = s.store ∧ (s.setQ q).sets = s.sets ∧ (s.setQ q).seq = s.seq ∧
    (s.setQ q).drv = s.drv ∧ (s.setQ q).lku = s.lku ∧ (s.setQ q).sup = s.sup ∧
    (s.setQ q).rpb = s.rpb ∧ (s.setQ q).pkm = s.pkm ∧ (s.setQ q).rpc = s.rpc ∧
    (s.setQ q).fcu = s.fcu ∧ (s.setQ q).lines = s.lines ∧ (s.setQ q).part = s.part ∧
    (s.setQ q).order = s.order ∧ (s.setQ q).pending = s.pending := by
  dsimp only [State.setQ]
  split_ands <;> simp

@[simp] theorem State.updateQ_frame (q : Nat) (s : State) :
    (s.updateQ q).meu = s.meu ∧ (s.updateQ q).ele = s.ele ∧ (s.updateQ q).store = s.store ∧
    (s.updateQ q).sets = s.sets ∧ (s.updateQ q).seq = s.seq ∧ (s.updateQ q).drv = s.drv ∧
    (s.updateQ q).lku = s.lku ∧ (s.updateQ q).lines = s.lines ∧ (s.updateQ q).part = s.part ∧
    (s.updateQ q).order = s.order ∧ (s.updateQ q).pending = s.pending := by
  dsimp only [State.updateQ]
  split_ands <;> simp

@[simp] theorem State.chargeSecond_frame (i : Option Int) (s : State) :
    (s.chargeSecond i).meu = s.meu ∧ (s.chargeSecond i).ele = s.ele ∧
    (s.chargeSecond i).store = s.store ∧ (s.chargeSecond i).sets = s.sets ∧
    (s.chargeSecond i).seq = s.seq ∧ (s.chargeSecond i).drv = s.drv ∧
    (s.chargeSecond i).lku = s.lku ∧ (s.chargeSecond i).lines = s.lines ∧
    (s.chargeSecond i).part = s.part ∧ (s.chargeSecond i).order = s.order ∧
    (s.chargeSecond i).pending = s.pending := by
  dsimp only [State.chargeSecond]
  split_ands <;> (repeat' split) <;> simp

@[simp] theorem State.enterFloat_frame (s : State) :
    (s.enterFloat).meu = s.meu ∧ (s.enterFloat).ele = s.ele ∧ (s.enterFloat).store = s.store ∧
    (s.enterFloat).sets = s.sets ∧ (s.enterFloat).seq = s.seq ∧ (s.enterFloat).drv = s.drv ∧
    (s.enterFloat).lku = s.lku ∧ (s.enterFloat).lines = s.lines ∧ (s.enterFloat).part = s.part ∧
    (s.enterFloat).order = s.order ∧ (s.enterFloat).pending = s.pending := by
  dsimp only [State.enterFloat]
  split_ands <;> (repeat' split) <;> simp

@[simp] theorem State.chargerSecond_frame (v i : Option Int) (s : State) :
    (s.chargerSecond v i).meu = s.meu ∧ (s.chargerSecond v i).ele = s.ele ∧
    (s.chargerSecond v i).store = s.store ∧ (s.chargerSecond v i).sets = s.sets ∧
    (s.chargerSecond v i).seq = s.seq ∧ (s.chargerSecond v i).drv = s.drv ∧
    (s.chargerSecond v i).lku = s.lku ∧ (s.chargerSecond v i).lines = s.lines ∧
    (s.chargerSecond v i).part = s.part ∧ (s.chargerSecond v i).order = s.order ∧
    (s.chargerSecond v i).pending = s.pending := by
  dsimp only [State.chargerSecond]
  split_ands <;> (repeat' split) <;> simp

@[simp] theorem State.secondMeans_frame (v i : Option Int) (s : State) :
    (s.secondMeans v i).meu = s.meu ∧ (s.secondMeans v i).ele = s.ele ∧
    (s.secondMeans v i).store = s.store ∧ (s.secondMeans v i).sets = s.sets ∧
    (s.secondMeans v i).seq = s.seq ∧ (s.secondMeans v i).drv = s.drv ∧
    (s.secondMeans v i).lku = s.lku ∧ (s.secondMeans v i).lines = s.lines ∧
    (s.secondMeans v i).part = s.part ∧ (s.secondMeans v i).order = s.order ∧
    (s.secondMeans v i).pending = s.pending := by
  dsimp only [State.secondMeans]
  split_ands <;> (repeat' split) <;> simp

@[simp] theorem State.absorbDone_frame (s : State) :
    (s.absorbDone).meu = s.meu ∧ (s.absorbDone).ele = s.ele ∧ (s.absorbDone).store = s.store ∧
    (s.absorbDone).sets = s.sets ∧ (s.absorbDone).seq = s.seq ∧ (s.absorbDone).drv = s.drv ∧
    (s.absorbDone).lku = s.lku ∧ (s.absorbDone).lines = s.lines ∧ (s.absorbDone).part = s.part ∧
    (s.absorbDone).order = s.order ∧ (s.absorbDone).pending = s.pending := by
  dsimp only [State.absorbDone]
  split_ands <;> (repeat' split) <;> simp

@[simp] theorem State.recoveryDone_frame (s : State) :
    (s.recoveryDone).slr = s.slr ∧ (s.recoveryDone).meu = s.meu ∧ (s.recoveryDone).ele = s.ele ∧
    (s.recoveryDone).store = s.store ∧ (s.recoveryDone).sets = s.sets ∧
    (s.recoveryDone).seq = s.seq ∧ (s.recoveryDone).drv = s.drv ∧ (s.recoveryDone).lku = s.lku ∧
    (s.recoveryDone).rpb = s.rpb ∧ (s.recoveryDone).pkm = s.pkm ∧ (s.recoveryDone).fcu = s.fcu ∧
    (s.recoveryDone).lines = s.lines ∧ (s.recoveryDone).part = s.part ∧
    (s.recoveryDone).order = s.order ∧ (s.recoveryDone).pending = s.pending := by
  dsimp only [State.recoveryDone]
  split_ands <;> (repeat' split) <;> simp

@[simp] theorem State.intervalElapsed_frame (s : State) :
    (s.intervalElapsed).slr = s.slr ∧ (s.intervalElapsed).meu = s.meu ∧
    (s.intervalElapsed).ele = s.ele ∧ (s.intervalElapsed).store = s.store ∧
    (s.intervalElapsed).sets = s.sets ∧ (s.intervalElapsed).seq = s.seq ∧
    (s.intervalElapsed).drv = s.drv ∧ (s.intervalElapsed).lku = s.lku ∧
    (s.intervalElapsed).rpb = s.rpb ∧ (s.intervalElapsed).pkm = s.pkm ∧
    (s.intervalElapsed).fcu = s.fcu ∧ (s.intervalElapsed).lines = s.lines ∧
    (s.intervalElapsed).part = s.part ∧ (s.intervalElapsed).order = s.order ∧
    (s.intervalElapsed).pending = s.pending := by
  dsimp only [State.intervalElapsed]
  split_ands <;> (repeat' split) <;> simp

@[simp] theorem State.retryElapsed_frame (s : State) :
    (s.retryElapsed).slr = s.slr ∧ (s.retryElapsed).meu = s.meu ∧ (s.retryElapsed).ele = s.ele ∧
    (s.retryElapsed).store = s.store ∧ (s.retryElapsed).sets = s.sets ∧
    (s.retryElapsed).seq = s.seq ∧ (s.retryElapsed).drv = s.drv ∧ (s.retryElapsed).lku = s.lku ∧
    (s.retryElapsed).rpb = s.rpb ∧ (s.retryElapsed).pkm = s.pkm ∧ (s.retryElapsed).fcu = s.fcu ∧
    (s.retryElapsed).lines = s.lines ∧ (s.retryElapsed).part = s.part ∧
    (s.retryElapsed).order = s.order ∧ (s.retryElapsed).pending = s.pending := by
  dsimp only [State.retryElapsed]
  split_ands <;> (repeat' split) <;> simp

@[simp] theorem State.settleDone_frame (s : State) :
    (s.settleDone).meu = s.meu ∧ (s.settleDone).ele = s.ele ∧ (s.settleDone).store = s.store ∧
    (s.settleDone).sets = s.sets ∧ (s.settleDone).seq = s.seq ∧ (s.settleDone).drv = s.drv ∧
    (s.settleDone).lku = s.lku ∧ (s.settleDone).lines = s.lines ∧ (s.settleDone).part = s.part ∧
    (s.settleDone).order = s.order ∧ (s.settleDone).pending = s.pending := by
  dsimp only [State.settleDone]
  split_ands <;> (repeat' split) <;> simp

@[simp] theorem State.loadDone_frame (s : State) :
    (s.loadDone).meu = s.meu ∧ (s.loadDone).ele = s.ele ∧ (s.loadDone).store = s.store ∧
    (s.loadDone).sets = s.sets ∧ (s.loadDone).seq = s.seq ∧ (s.loadDone).drv = s.drv ∧
    (s.loadDone).lku = s.lku ∧ (s.loadDone).lines = s.lines ∧ (s.loadDone).part = s.part ∧
    (s.loadDone).order = s.order ∧ (s.loadDone).pending = s.pending := by
  dsimp only [State.loadDone]
  split_ands <;> (repeat' split) <;> simp

@[simp] theorem State.cancelTest_frame (s : State) :
    (s.cancelTest).meu = s.meu ∧ (s.cancelTest).ele = s.ele ∧ (s.cancelTest).store = s.store ∧
    (s.cancelTest).sets = s.sets ∧ (s.cancelTest).seq = s.seq ∧ (s.cancelTest).drv = s.drv ∧
    (s.cancelTest).lku = s.lku ∧ (s.cancelTest).lines = s.lines ∧ (s.cancelTest).part = s.part ∧
    (s.cancelTest).order = s.order ∧ (s.cancelTest).pending = s.pending := by
  dsimp only [State.cancelTest]
  split_ands <;> simp

@[simp] theorem State.takeAux_frame (pos raw : Nat) (s : State) :
    (s.takeAux pos raw).meu = s.meu ∧ (s.takeAux pos raw).ele = s.ele ∧
    (s.takeAux pos raw).store = s.store ∧ (s.takeAux pos raw).sets = s.sets ∧
    (s.takeAux pos raw).seq = s.seq ∧ (s.takeAux pos raw).drv = s.drv ∧
    (s.takeAux pos raw).lku = s.lku ∧ (s.takeAux pos raw).sup = s.sup ∧
    (s.takeAux pos raw).lines = s.lines ∧ (s.takeAux pos raw).part = s.part ∧
    (s.takeAux pos raw).order = s.order ∧ (s.takeAux pos raw).pending = s.pending := by
  dsimp only [State.takeAux]
  split_ands <;> (repeat' split) <;> simp

@[simp] theorem State.notifySupply_frame (present : Bool) (s : State) :
    (s.notifySupply present).meu = s.meu ∧ (s.notifySupply present).ele = s.ele ∧
    (s.notifySupply present).store = s.store ∧ (s.notifySupply present).sets = s.sets ∧
    (s.notifySupply present).seq = s.seq ∧ (s.notifySupply present).drv = s.drv ∧
    (s.notifySupply present).lku = s.lku ∧ (s.notifySupply present).lines = s.lines ∧
    (s.notifySupply present).part = s.part ∧ (s.notifySupply present).order = s.order ∧
    (s.notifySupply present).pending = s.pending := by
  dsimp only [State.notifySupply]
  split_ands <;> (repeat' split) <;> simp

@[simp] theorem State.takeSupplyAbsent_frame (s : State) :
    (s.takeSupplyAbsent).meu = s.meu ∧ (s.takeSupplyAbsent).ele = s.ele ∧
    (s.takeSupplyAbsent).store = s.store ∧ (s.takeSupplyAbsent).sets = s.sets ∧
    (s.takeSupplyAbsent).seq = s.seq ∧ (s.takeSupplyAbsent).drv = s.drv ∧
    (s.takeSupplyAbsent).lku = s.lku ∧ (s.takeSupplyAbsent).lines = s.lines ∧
    (s.takeSupplyAbsent).part = s.part ∧ (s.takeSupplyAbsent).order = s.order ∧
    (s.takeSupplyAbsent).pending = s.pending := by
  dsimp only [State.takeSupplyAbsent]
  split_ands <;> (repeat' split) <;> simp

@[simp] theorem State.cancelDisconnect_frame (s : State) :
    (s.cancelDisconnect).slr = s.slr ∧ (s.cancelDisconnect).meu = s.meu ∧
    (s.cancelDisconnect).ele = s.ele ∧ (s.cancelDisconnect).store = s.store ∧
    (s.cancelDisconnect).sets = s.sets ∧ (s.cancelDisconnect).seq = s.seq ∧
    (s.cancelDisconnect).drv = s.drv ∧ (s.cancelDisconnect).lku = s.lku ∧
    (s.cancelDisconnect).rpb = s.rpb ∧ (s.cancelDisconnect).pkm = s.pkm ∧
    (s.cancelDisconnect).fcu = s.fcu ∧ (s.cancelDisconnect).lines = s.lines ∧
    (s.cancelDisconnect).part = s.part ∧ (s.cancelDisconnect).order = s.order ∧
    (s.cancelDisconnect).pending = s.pending := by
  dsimp only [State.cancelDisconnect]
  split_ands <;> simp

@[simp] theorem State.takeSupplyPresent_frame (s : State) :
    (s.takeSupplyPresent).meu = s.meu ∧ (s.takeSupplyPresent).ele = s.ele ∧
    (s.takeSupplyPresent).store = s.store ∧ (s.takeSupplyPresent).sets = s.sets ∧
    (s.takeSupplyPresent).seq = s.seq ∧ (s.takeSupplyPresent).drv = s.drv ∧
    (s.takeSupplyPresent).lku = s.lku ∧ (s.takeSupplyPresent).lines = s.lines ∧
    (s.takeSupplyPresent).part = s.part ∧ (s.takeSupplyPresent).order = s.order ∧
    (s.takeSupplyPresent).pending = s.pending := by
  dsimp only [State.takeSupplyPresent]
  split_ands <;> (repeat' split) <;> simp

@[simp] theorem State.takeSupply_frame (s : State) :
    (s.takeSupply).meu = s.meu ∧ (s.takeSupply).ele = s.ele ∧ (s.takeSupply).store = s.store ∧
    (s.takeSupply).sets = s.sets ∧ (s.takeSupply).seq = s.seq ∧ (s.takeSupply).drv = s.drv ∧
    (s.takeSupply).lku = s.lku ∧ (s.takeSupply).lines = s.lines ∧ (s.takeSupply).part = s.part ∧
    (s.takeSupply).order = s.order ∧ (s.takeSupply).pending = s.pending := by
  dsimp only [State.takeSupply]
  split_ands <;> (repeat' split) <;> simp

@[simp] theorem State.supplyEdge_frame (level : Bool) (s : State) :
    (s.supplyEdge level).slr = s.slr ∧ (s.supplyEdge level).meu = s.meu ∧
    (s.supplyEdge level).ele = s.ele ∧ (s.supplyEdge level).store = s.store ∧
    (s.supplyEdge level).sets = s.sets ∧ (s.supplyEdge level).seq = s.seq ∧
    (s.supplyEdge level).drv = s.drv ∧ (s.supplyEdge level).lku = s.lku ∧
    (s.supplyEdge level).sup = s.sup ∧ (s.supplyEdge level).rpb = s.rpb ∧
    (s.supplyEdge level).pkm = s.pkm ∧ (s.supplyEdge level).rpc = s.rpc ∧
    (s.supplyEdge level).fcu = s.fcu ∧ (s.supplyEdge level).part = s.part ∧
    (s.supplyEdge level).order = s.order ∧ (s.supplyEdge level).pending = s.pending := by
  dsimp only [State.supplyEdge]
  split_ands <;> (repeat' split) <;> simp

@[simp] theorem State.assertLvd_frame (s : State) :
    (s.assertLvd).slr = s.slr ∧ (s.assertLvd).meu = s.meu ∧ (s.assertLvd).ele = s.ele ∧
    (s.assertLvd).store = s.store ∧ (s.assertLvd).sets = s.sets ∧ (s.assertLvd).seq = s.seq ∧
    (s.assertLvd).drv = s.drv ∧ (s.assertLvd).lku = s.lku ∧ (s.assertLvd).sup = s.sup ∧
    (s.assertLvd).rpb = s.rpb ∧ (s.assertLvd).pkm = s.pkm ∧ (s.assertLvd).rpc = s.rpc ∧
    (s.assertLvd).fcu = s.fcu ∧ (s.assertLvd).lines = s.lines ∧ (s.assertLvd).part = s.part ∧
    (s.assertLvd).order = s.order ∧ (s.assertLvd).pending = s.pending := by
  dsimp only [State.assertLvd]
  split_ands <;> simp

@[simp] theorem State.enterPending_frame (s : State) :
    (s.enterPending).meu = s.meu ∧ (s.enterPending).ele = s.ele ∧
    (s.enterPending).store = s.store ∧ (s.enterPending).sets = s.sets ∧
    (s.enterPending).seq = s.seq ∧ (s.enterPending).drv = s.drv ∧ (s.enterPending).lku = s.lku ∧
    (s.enterPending).sup = s.sup ∧ (s.enterPending).lines = s.lines ∧
    (s.enterPending).part = s.part ∧ (s.enterPending).order = s.order ∧
    (s.enterPending).pending = s.pending := by
  dsimp only [State.enterPending]
  split_ands <;> (repeat' split) <;> simp

@[simp] theorem State.qualify_frame (v : Option Int) (s : State) :
    (s.qualify v).meu = s.meu ∧ (s.qualify v).ele = s.ele ∧ (s.qualify v).store = s.store ∧
    (s.qualify v).sets = s.sets ∧ (s.qualify v).seq = s.seq ∧ (s.qualify v).drv = s.drv ∧
    (s.qualify v).lku = s.lku ∧ (s.qualify v).sup = s.sup ∧ (s.qualify v).lines = s.lines ∧
    (s.qualify v).part = s.part ∧ (s.qualify v).order = s.order ∧
    (s.qualify v).pending = s.pending := by
  dsimp only [State.qualify]
  split_ands <;> (repeat' split) <;> simp

/-! ## Operations of Machine/Settings.lean -/

@[simp] theorem State.startStore_frame (b : StoreBody) (r : Option Reply) (s : State) :
    (s.startStore b r).slr = s.slr ∧ (s.startStore b r).meu = s.meu ∧
    (s.startStore b r).ele = s.ele ∧ (s.startStore b r).sets = s.sets ∧
    (s.startStore b r).seq = s.seq ∧ (s.startStore b r).drv = s.drv ∧
    (s.startStore b r).lku = s.lku ∧ (s.startStore b r).bat = s.bat ∧
    (s.startStore b r).sup = s.sup ∧ (s.startStore b r).rpb = s.rpb ∧
    (s.startStore b r).pkm = s.pkm ∧ (s.startStore b r).rpc = s.rpc ∧
    (s.startStore b r).fcu = s.fcu ∧ (s.startStore b r).lines = s.lines ∧
    (s.startStore b r).part = s.part ∧ (s.startStore b r).order = s.order ∧
    (s.startStore b r).pending = s.pending := by
  dsimp only [State.startStore]
  split_ands <;> simp

@[simp] theorem State.startInternal_frame (t : InternalTable) (r : Option Reply) (s : State) :
    (s.startInternal t r).slr = s.slr ∧ (s.startInternal t r).meu = s.meu ∧
    (s.startInternal t r).ele = s.ele ∧ (s.startInternal t r).sets = s.sets ∧
    (s.startInternal t r).seq = s.seq ∧ (s.startInternal t r).drv = s.drv ∧
    (s.startInternal t r).bat = s.bat ∧ (s.startInternal t r).sup = s.sup ∧
    (s.startInternal t r).rpb = s.rpb ∧ (s.startInternal t r).pkm = s.pkm ∧
    (s.startInternal t r).rpc = s.rpc ∧ (s.startInternal t r).fcu = s.fcu ∧
    (s.startInternal t r).lines = s.lines ∧ (s.startInternal t r).part = s.part ∧
    (s.startInternal t r).order = s.order ∧ (s.startInternal t r).pending = s.pending := by
  dsimp only [State.startInternal]
  split_ands <;> (repeat' split) <;> simp

@[simp] theorem State.requestStore_frame (t : InternalTable) (r : Option Reply) (s : State) :
    (s.requestStore t r).slr = s.slr ∧ (s.requestStore t r).meu = s.meu ∧
    (s.requestStore t r).ele = s.ele ∧ (s.requestStore t r).sets = s.sets ∧
    (s.requestStore t r).seq = s.seq ∧ (s.requestStore t r).drv = s.drv ∧
    (s.requestStore t r).bat = s.bat ∧ (s.requestStore t r).sup = s.sup ∧
    (s.requestStore t r).rpb = s.rpb ∧ (s.requestStore t r).pkm = s.pkm ∧
    (s.requestStore t r).rpc = s.rpc ∧ (s.requestStore t r).fcu = s.fcu ∧
    (s.requestStore t r).lines = s.lines ∧ (s.requestStore t r).part = s.part ∧
    (s.requestStore t r).order = s.order ∧ (s.requestStore t r).pending = s.pending := by
  dsimp only [State.requestStore]
  split_ands <;> (repeat' split) <;> simp

@[simp] theorem State.storeFree_frame (s : State) :
    (s.storeFree).slr = s.slr ∧ (s.storeFree).meu = s.meu ∧ (s.storeFree).ele = s.ele ∧
    (s.storeFree).sets = s.sets ∧ (s.storeFree).seq = s.seq ∧ (s.storeFree).drv = s.drv ∧
    (s.storeFree).bat = s.bat ∧ (s.storeFree).sup = s.sup ∧ (s.storeFree).rpb = s.rpb ∧
    (s.storeFree).pkm = s.pkm ∧ (s.storeFree).rpc = s.rpc ∧ (s.storeFree).fcu = s.fcu ∧
    (s.storeFree).lines = s.lines ∧ (s.storeFree).part = s.part ∧ (s.storeFree).order = s.order ∧
    (s.storeFree).pending = s.pending := by
  dsimp only [State.storeFree]
  split_ands <;> (repeat' split) <;> simp

/-! ## Operations of Machine/Drive.lean -/

@[simp] theorem State.raiseRecharge_frame (s : State) :
    (s.raiseRecharge).meu = s.meu ∧ (s.raiseRecharge).ele = s.ele ∧
    (s.raiseRecharge).store = s.store ∧ (s.raiseRecharge).sets = s.sets ∧
    (s.raiseRecharge).seq = s.seq ∧ (s.raiseRecharge).lku = s.lku ∧
    (s.raiseRecharge).lines = s.lines ∧ (s.raiseRecharge).part = s.part ∧
    (s.raiseRecharge).order = s.order ∧ (s.raiseRecharge).pending = s.pending := by
  dsimp only [State.raiseRecharge]
  split_ands <;> (repeat' split) <;> simp

@[simp] theorem State.lowerRecharge_frame (s : State) :
    (s.lowerRecharge).slr = s.slr ∧ (s.lowerRecharge).meu = s.meu ∧
    (s.lowerRecharge).ele = s.ele ∧ (s.lowerRecharge).store = s.store ∧
    (s.lowerRecharge).sets = s.sets ∧ (s.lowerRecharge).seq = s.seq ∧
    (s.lowerRecharge).lku = s.lku ∧ (s.lowerRecharge).rpb = s.rpb ∧
    (s.lowerRecharge).pkm = s.pkm ∧ (s.lowerRecharge).fcu = s.fcu ∧
    (s.lowerRecharge).lines = s.lines ∧ (s.lowerRecharge).part = s.part ∧
    (s.lowerRecharge).order = s.order ∧ (s.lowerRecharge).pending = s.pending := by
  dsimp only [State.lowerRecharge]
  split_ands <;> (repeat' split) <;> simp

@[simp] theorem State.drvCap_frame (v : Nat) (stale : Bool) (s : State) :
    (s.drvCap v stale).meu = s.meu ∧ (s.drvCap v stale).ele = s.ele ∧
    (s.drvCap v stale).store = s.store ∧ (s.drvCap v stale).sets = s.sets ∧
    (s.drvCap v stale).seq = s.seq ∧ (s.drvCap v stale).lku = s.lku ∧
    (s.drvCap v stale).lines = s.lines ∧ (s.drvCap v stale).part = s.part ∧
    (s.drvCap v stale).order = s.order ∧ (s.drvCap v stale).pending = s.pending := by
  dsimp only [State.drvCap]
  split_ands <;> (repeat' split) <;> simp

@[simp] theorem State.endOp_frame (st : DriveState) (out : OpOutcome) (c : Coil) (s : State) :
    (s.endOp st out c).slr = s.slr ∧ (s.endOp st out c).meu = s.meu ∧
    (s.endOp st out c).ele = s.ele ∧ (s.endOp st out c).store = s.store ∧
    (s.endOp st out c).sets = s.sets ∧ (s.endOp st out c).seq = s.seq ∧
    (s.endOp st out c).lku = s.lku ∧ (s.endOp st out c).bat = s.bat ∧
    (s.endOp st out c).sup = s.sup ∧ (s.endOp st out c).rpb = s.rpb ∧
    (s.endOp st out c).pkm = s.pkm ∧ (s.endOp st out c).rpc = s.rpc ∧
    (s.endOp st out c).fcu = s.fcu ∧ (s.endOp st out c).lines = s.lines ∧
    (s.endOp st out c).part = s.part ∧ (s.endOp st out c).order = s.order ∧
    (s.endOp st out c).pending = s.pending := by
  dsimp only [State.endOp]
  split_ands <;> simp

@[simp] theorem State.snapFailure_frame (k : FailKind) (s : State) :
    (s.snapFailure k).slr = s.slr ∧ (s.snapFailure k).meu = s.meu ∧
    (s.snapFailure k).ele = s.ele ∧ (s.snapFailure k).store = s.store ∧
    (s.snapFailure k).sets = s.sets ∧ (s.snapFailure k).seq = s.seq ∧
    (s.snapFailure k).lku = s.lku ∧ (s.snapFailure k).bat = s.bat ∧
    (s.snapFailure k).sup = s.sup ∧ (s.snapFailure k).rpb = s.rpb ∧
    (s.snapFailure k).pkm = s.pkm ∧ (s.snapFailure k).rpc = s.rpc ∧
    (s.snapFailure k).fcu = s.fcu ∧ (s.snapFailure k).lines = s.lines ∧
    (s.snapFailure k).part = s.part ∧ (s.snapFailure k).order = s.order ∧
    (s.snapFailure k).pending = s.pending := by
  dsimp only [State.snapFailure]
  split_ands <;> simp

@[simp] theorem State.startTrip_frame (c : TripCause) (s : State) :
    (s.startTrip c).slr = s.slr ∧ (s.startTrip c).meu = s.meu ∧ (s.startTrip c).ele = s.ele ∧
    (s.startTrip c).store = s.store ∧ (s.startTrip c).sets = s.sets ∧
    (s.startTrip c).seq = s.seq ∧ (s.startTrip c).lku = s.lku ∧ (s.startTrip c).bat = s.bat ∧
    (s.startTrip c).sup = s.sup ∧ (s.startTrip c).rpb = s.rpb ∧ (s.startTrip c).pkm = s.pkm ∧
    (s.startTrip c).rpc = s.rpc ∧ (s.startTrip c).fcu = s.fcu ∧ (s.startTrip c).lines = s.lines ∧
    (s.startTrip c).part = s.part ∧ (s.startTrip c).order = s.order ∧
    (s.startTrip c).pending = s.pending := by
  dsimp only [State.startTrip]
  split_ands <;> simp

@[simp] theorem State.abandonClose_frame (c : AbandonCause) (s : State) :
    (s.abandonClose c).meu = s.meu ∧ (s.abandonClose c).ele = s.ele ∧
    (s.abandonClose c).store = s.store ∧ (s.abandonClose c).sets = s.sets ∧
    (s.abandonClose c).seq = s.seq ∧ (s.abandonClose c).lku = s.lku ∧
    (s.abandonClose c).lines = s.lines ∧ (s.abandonClose c).part = s.part ∧
    (s.abandonClose c).order = s.order ∧ (s.abandonClose c).pending = s.pending := by
  dsimp only [State.abandonClose]
  split_ands <;> (repeat' split) <;> simp

@[simp] theorem State.tripAtOnce_frame (c : TripCause) (s : State) :
    (s.tripAtOnce c).slr = s.slr ∧ (s.tripAtOnce c).meu = s.meu ∧ (s.tripAtOnce c).ele = s.ele ∧
    (s.tripAtOnce c).store = s.store ∧ (s.tripAtOnce c).sets = s.sets ∧
    (s.tripAtOnce c).seq = s.seq ∧ (s.tripAtOnce c).lku = s.lku ∧ (s.tripAtOnce c).bat = s.bat ∧
    (s.tripAtOnce c).sup = s.sup ∧ (s.tripAtOnce c).rpb = s.rpb ∧ (s.tripAtOnce c).pkm = s.pkm ∧
    (s.tripAtOnce c).rpc = s.rpc ∧ (s.tripAtOnce c).fcu = s.fcu ∧
    (s.tripAtOnce c).lines = s.lines ∧ (s.tripAtOnce c).part = s.part ∧
    (s.tripAtOnce c).order = s.order ∧ (s.tripAtOnce c).pending = s.pending := by
  dsimp only [State.tripAtOnce]
  split_ands <;> simp

@[simp] theorem State.tripFree_frame (c : TripCause) (s : State) :
    (s.tripFree c).meu = s.meu ∧ (s.tripFree c).ele = s.ele ∧ (s.tripFree c).store = s.store ∧
    (s.tripFree c).sets = s.sets ∧ (s.tripFree c).seq = s.seq ∧ (s.tripFree c).lku = s.lku ∧
    (s.tripFree c).lines = s.lines ∧ (s.tripFree c).part = s.part ∧
    (s.tripFree c).order = s.order ∧ (s.tripFree c).pending = s.pending := by
  dsimp only [State.tripFree]
  split_ands <;> simp

@[simp] theorem State.drvTrip_frame (c : TripCause) (s : State) :
    (s.drvTrip c).meu = s.meu ∧ (s.drvTrip c).ele = s.ele ∧ (s.drvTrip c).store = s.store ∧
    (s.drvTrip c).sets = s.sets ∧ (s.drvTrip c).seq = s.seq ∧ (s.drvTrip c).lku = s.lku ∧
    (s.drvTrip c).lines = s.lines ∧ (s.drvTrip c).part = s.part ∧ (s.drvTrip c).order = s.order ∧
    (s.drvTrip c).pending = s.pending := by
  dsimp only [State.drvTrip]
  split_ands <;> (repeat' split) <;> simp

@[simp] theorem State.drvClose_frame (c : CloseCause) (s : State) :
    (s.drvClose c).slr = s.slr ∧ (s.drvClose c).meu = s.meu ∧ (s.drvClose c).ele = s.ele ∧
    (s.drvClose c).store = s.store ∧ (s.drvClose c).sets = s.sets ∧ (s.drvClose c).seq = s.seq ∧
    (s.drvClose c).lku = s.lku ∧ (s.drvClose c).bat = s.bat ∧ (s.drvClose c).sup = s.sup ∧
    (s.drvClose c).rpb = s.rpb ∧ (s.drvClose c).pkm = s.pkm ∧ (s.drvClose c).rpc = s.rpc ∧
    (s.drvClose c).fcu = s.fcu ∧ (s.drvClose c).lines = s.lines ∧ (s.drvClose c).part = s.part ∧
    (s.drvClose c).order = s.order ∧ (s.drvClose c).pending = s.pending := by
  dsimp only [State.drvClose]
  split_ands <;> (repeat' split) <;> simp

@[simp] theorem State.drvViews_frame (d : Delivery) (s : State) :
    (s.drvViews d).slr = s.slr ∧ (s.drvViews d).meu = s.meu ∧ (s.drvViews d).ele = s.ele ∧
    (s.drvViews d).store = s.store ∧ (s.drvViews d).sets = s.sets ∧ (s.drvViews d).seq = s.seq ∧
    (s.drvViews d).lku = s.lku ∧ (s.drvViews d).bat = s.bat ∧ (s.drvViews d).sup = s.sup ∧
    (s.drvViews d).rpb = s.rpb ∧ (s.drvViews d).pkm = s.pkm ∧ (s.drvViews d).rpc = s.rpc ∧
    (s.drvViews d).fcu = s.fcu ∧ (s.drvViews d).lines = s.lines ∧ (s.drvViews d).part = s.part ∧
    (s.drvViews d).order = s.order ∧ (s.drvViews d).pending = s.pending := by
  dsimp only [State.drvViews]
  split_ands <;> simp

@[simp] theorem State.drvTripDone_frame (s : State) :
    (s.drvTripDone).slr = s.slr ∧ (s.drvTripDone).meu = s.meu ∧ (s.drvTripDone).ele = s.ele ∧
    (s.drvTripDone).store = s.store ∧ (s.drvTripDone).sets = s.sets ∧
    (s.drvTripDone).seq = s.seq ∧ (s.drvTripDone).lku = s.lku ∧ (s.drvTripDone).bat = s.bat ∧
    (s.drvTripDone).sup = s.sup ∧ (s.drvTripDone).rpb = s.rpb ∧ (s.drvTripDone).pkm = s.pkm ∧
    (s.drvTripDone).rpc = s.rpc ∧ (s.drvTripDone).fcu = s.fcu ∧ (s.drvTripDone).lines = s.lines ∧
    (s.drvTripDone).part = s.part ∧ (s.drvTripDone).order = s.order ∧
    (s.drvTripDone).pending = s.pending := by
  dsimp only [State.drvTripDone]
  split_ands <;> (repeat' split) <;> simp

@[simp] theorem State.drvCloseDone_frame (s : State) :
    (s.drvCloseDone).slr = s.slr ∧ (s.drvCloseDone).meu = s.meu ∧ (s.drvCloseDone).ele = s.ele ∧
    (s.drvCloseDone).store = s.store ∧ (s.drvCloseDone).sets = s.sets ∧
    (s.drvCloseDone).seq = s.seq ∧ (s.drvCloseDone).lku = s.lku ∧ (s.drvCloseDone).bat = s.bat ∧
    (s.drvCloseDone).sup = s.sup ∧ (s.drvCloseDone).rpb = s.rpb ∧ (s.drvCloseDone).pkm = s.pkm ∧
    (s.drvCloseDone).rpc = s.rpc ∧ (s.drvCloseDone).fcu = s.fcu ∧
    (s.drvCloseDone).lines = s.lines ∧ (s.drvCloseDone).part = s.part ∧
    (s.drvCloseDone).order = s.order ∧ (s.drvCloseDone).pending = s.pending := by
  dsimp only [State.drvCloseDone]
  split_ands <;> simp

@[simp] theorem State.firstPeriod_frame (s : State) :
    (s.firstPeriod).meu = s.meu ∧ (s.firstPeriod).ele = s.ele ∧ (s.firstPeriod).sets = s.sets ∧
    (s.firstPeriod).seq = s.seq ∧ (s.firstPeriod).lines = s.lines ∧
    (s.firstPeriod).part = s.part ∧ (s.firstPeriod).order = s.order ∧
    (s.firstPeriod).pending = s.pending := by
  dsimp only [State.firstPeriod]
  split_ands <;> (repeat' split) <;> simp

@[simp] theorem State.drvHalt_frame (s : State) :
    (s.drvHalt).meu = s.meu ∧ (s.drvHalt).ele = s.ele ∧ (s.drvHalt).sets = s.sets ∧
    (s.drvHalt).seq = s.seq ∧ (s.drvHalt).bat = s.bat ∧ (s.drvHalt).sup = s.sup ∧
    (s.drvHalt).lines = s.lines ∧ (s.drvHalt).part = s.part ∧ (s.drvHalt).order = s.order ∧
    (s.drvHalt).pending = s.pending := by
  dsimp only [State.drvHalt]
  split_ands <;> simp

@[simp] theorem State.drvCloseFail_frame (s : State) :
    (s.drvCloseFail).meu = s.meu ∧ (s.drvCloseFail).ele = s.ele ∧ (s.drvCloseFail).sets = s.sets ∧
    (s.drvCloseFail).seq = s.seq ∧ (s.drvCloseFail).bat = s.bat ∧ (s.drvCloseFail).sup = s.sup ∧
    (s.drvCloseFail).lines = s.lines ∧ (s.drvCloseFail).part = s.part ∧
    (s.drvCloseFail).order = s.order ∧ (s.drvCloseFail).pending = s.pending := by
  dsimp only [State.drvCloseFail]
  split_ands <;> simp

@[simp] theorem State.drvRestore_frame (s : State) :
    (s.drvRestore).meu = s.meu ∧ (s.drvRestore).ele = s.ele ∧ (s.drvRestore).store = s.store ∧
    (s.drvRestore).sets = s.sets ∧ (s.drvRestore).seq = s.seq ∧ (s.drvRestore).lku = s.lku ∧
    (s.drvRestore).bat = s.bat ∧ (s.drvRestore).sup = s.sup ∧ (s.drvRestore).lines = s.lines ∧
    (s.drvRestore).part = s.part ∧ (s.drvRestore).order = s.order ∧
    (s.drvRestore).pending = s.pending := by
  dsimp only [State.drvRestore]
  split_ands <;> simp

/-! ## Operations of Machine/Sequence.lean -/

@[simp] theorem State.tellBat_frame (s : State) :
    (s.tellBat).slr = s.slr ∧ (s.tellBat).meu = s.meu ∧ (s.tellBat).ele = s.ele ∧
    (s.tellBat).store = s.store ∧ (s.tellBat).sets = s.sets ∧ (s.tellBat).seq = s.seq ∧
    (s.tellBat).drv = s.drv ∧ (s.tellBat).lku = s.lku ∧ (s.tellBat).sup = s.sup ∧
    (s.tellBat).rpb = s.rpb ∧ (s.tellBat).pkm = s.pkm ∧ (s.tellBat).rpc = s.rpc ∧
    (s.tellBat).fcu = s.fcu ∧ (s.tellBat).lines = s.lines ∧ (s.tellBat).part = s.part ∧
    (s.tellBat).order = s.order ∧ (s.tellBat).pending = s.pending := by
  dsimp only [State.tellBat]
  split_ands <;> (repeat' split) <;> simp

@[simp] theorem State.seqGoto_frame (st : SeqState) (s : State) :
    (s.seqGoto st).slr = s.slr ∧ (s.seqGoto st).meu = s.meu ∧ (s.seqGoto st).ele = s.ele ∧
    (s.seqGoto st).store = s.store ∧ (s.seqGoto st).sets = s.sets ∧ (s.seqGoto st).drv = s.drv ∧
    (s.seqGoto st).lku = s.lku ∧ (s.seqGoto st).sup = s.sup ∧ (s.seqGoto st).rpb = s.rpb ∧
    (s.seqGoto st).pkm = s.pkm ∧ (s.seqGoto st).rpc = s.rpc ∧ (s.seqGoto st).fcu = s.fcu ∧
    (s.seqGoto st).lines = s.lines ∧ (s.seqGoto st).part = s.part ∧
    (s.seqGoto st).order = s.order ∧ (s.seqGoto st).pending = s.pending := by
  dsimp only [State.seqGoto]
  split_ands <;> (repeat' split) <;> simp

@[simp] theorem State.setShot_frame (n : Nat) (s : State) :
    (s.setShot n).slr = s.slr ∧ (s.setShot n).meu = s.meu ∧ (s.setShot n).store = s.store ∧
    (s.setShot n).sets = s.sets ∧ (s.setShot n).drv = s.drv ∧ (s.setShot n).lku = s.lku ∧
    (s.setShot n).bat = s.bat ∧ (s.setShot n).sup = s.sup ∧ (s.setShot n).rpb = s.rpb ∧
    (s.setShot n).pkm = s.pkm ∧ (s.setShot n).rpc = s.rpc ∧ (s.setShot n).fcu = s.fcu ∧
    (s.setShot n).lines = s.lines ∧ (s.setShot n).part = s.part ∧ (s.setShot n).order = s.order ∧
    (s.setShot n).pending = s.pending := by
  dsimp only [State.setShot]
  split_ands <;> simp

@[simp] theorem State.seqLockout_frame (r : LockReason) (s : State) :
    (s.seqLockout r).meu = s.meu ∧ (s.seqLockout r).ele = s.ele ∧
    (s.seqLockout r).store = s.store ∧ (s.seqLockout r).sets = s.sets ∧
    (s.seqLockout r).drv = s.drv ∧ (s.seqLockout r).lku = s.lku ∧ (s.seqLockout r).sup = s.sup ∧
    (s.seqLockout r).lines = s.lines ∧ (s.seqLockout r).part = s.part ∧
    (s.seqLockout r).order = s.order ∧ (s.seqLockout r).pending = s.pending := by
  dsimp only [State.seqLockout]
  split_ands <;> simp

@[simp] theorem State.startSeqTimer_frame (k : SeqTimerKind) (ms : Nat) (paused : Bool) (s : State) :
    (s.startSeqTimer k ms paused).slr = s.slr ∧ (s.startSeqTimer k ms paused).meu = s.meu ∧
    (s.startSeqTimer k ms paused).ele = s.ele ∧ (s.startSeqTimer k ms paused).store = s.store ∧
    (s.startSeqTimer k ms paused).sets = s.sets ∧ (s.startSeqTimer k ms paused).drv = s.drv ∧
    (s.startSeqTimer k ms paused).lku = s.lku ∧ (s.startSeqTimer k ms paused).bat = s.bat ∧
    (s.startSeqTimer k ms paused).sup = s.sup ∧ (s.startSeqTimer k ms paused).rpb = s.rpb ∧
    (s.startSeqTimer k ms paused).pkm = s.pkm ∧ (s.startSeqTimer k ms paused).rpc = s.rpc ∧
    (s.startSeqTimer k ms paused).fcu = s.fcu ∧ (s.startSeqTimer k ms paused).lines = s.lines ∧
    (s.startSeqTimer k ms paused).part = s.part ∧ (s.startSeqTimer k ms paused).order = s.order ∧
    (s.startSeqTimer k ms paused).pending = s.pending := by
  dsimp only [State.startSeqTimer]
  split_ands <;> simp

@[simp] theorem State.seqOpenInterval_frame (s : State) :
    (s.seqOpenInterval).slr = s.slr ∧ (s.seqOpenInterval).meu = s.meu ∧
    (s.seqOpenInterval).ele = s.ele ∧ (s.seqOpenInterval).store = s.store ∧
    (s.seqOpenInterval).sets = s.sets ∧ (s.seqOpenInterval).drv = s.drv ∧
    (s.seqOpenInterval).lku = s.lku ∧ (s.seqOpenInterval).sup = s.sup ∧
    (s.seqOpenInterval).rpb = s.rpb ∧ (s.seqOpenInterval).pkm = s.pkm ∧
    (s.seqOpenInterval).rpc = s.rpc ∧ (s.seqOpenInterval).fcu = s.fcu ∧
    (s.seqOpenInterval).lines = s.lines ∧ (s.seqOpenInterval).part = s.part ∧
    (s.seqOpenInterval).order = s.order ∧ (s.seqOpenInterval).pending = s.pending := by
  dsimp only [State.seqOpenInterval]
  split_ands <;> simp

@[simp] theorem State.seqReclaim_frame (s : State) :
    (s.seqReclaim).slr = s.slr ∧ (s.seqReclaim).meu = s.meu ∧ (s.seqReclaim).ele = s.ele ∧
    (s.seqReclaim).store = s.store ∧ (s.seqReclaim).sets = s.sets ∧ (s.seqReclaim).drv = s.drv ∧
    (s.seqReclaim).lku = s.lku ∧ (s.seqReclaim).sup = s.sup ∧ (s.seqReclaim).rpb = s.rpb ∧
    (s.seqReclaim).pkm = s.pkm ∧ (s.seqReclaim).rpc = s.rpc ∧ (s.seqReclaim).fcu = s.fcu ∧
    (s.seqReclaim).lines = s.lines ∧ (s.seqReclaim).part = s.part ∧
    (s.seqReclaim).order = s.order ∧ (s.seqReclaim).pending = s.pending := by
  dsimp only [State.seqReclaim]
  split_ands <;> simp

@[simp] theorem State.seqHandClose_frame (s : State) :
    (s.seqHandClose).slr = s.slr ∧ (s.seqHandClose).meu = s.meu ∧
    (s.seqHandClose).store = s.store ∧ (s.seqHandClose).sets = s.sets ∧
    (s.seqHandClose).drv = s.drv ∧ (s.seqHandClose).lku = s.lku ∧ (s.seqHandClose).sup = s.sup ∧
    (s.seqHandClose).rpb = s.rpb ∧ (s.seqHandClose).pkm = s.pkm ∧ (s.seqHandClose).rpc = s.rpc ∧
    (s.seqHandClose).fcu = s.fcu ∧ (s.seqHandClose).lines = s.lines ∧
    (s.seqHandClose).part = s.part ∧ (s.seqHandClose).order = s.order ∧
    (s.seqHandClose).pending = s.pending := by
  dsimp only [State.seqHandClose]
  split_ands <;> simp

@[simp] theorem State.seqUnexpected_frame (p : Position) (s : State) :
    (s.seqUnexpected p).meu = s.meu ∧ (s.seqUnexpected p).ele = s.ele ∧
    (s.seqUnexpected p).store = s.store ∧ (s.seqUnexpected p).sets = s.sets ∧
    (s.seqUnexpected p).seq = s.seq ∧ (s.seqUnexpected p).drv = s.drv ∧
    (s.seqUnexpected p).lku = s.lku ∧ (s.seqUnexpected p).bat = s.bat ∧
    (s.seqUnexpected p).sup = s.sup ∧ (s.seqUnexpected p).lines = s.lines ∧
    (s.seqUnexpected p).part = s.part ∧ (s.seqUnexpected p).order = s.order ∧
    (s.seqUnexpected p).pending = s.pending := by
  dsimp only [State.seqUnexpected]
  split_ands <;> simp

@[simp] theorem State.seqTripEnd_frame (s : State) :
    (s.seqTripEnd).meu = s.meu ∧ (s.seqTripEnd).ele = s.ele ∧ (s.seqTripEnd).store = s.store ∧
    (s.seqTripEnd).sets = s.sets ∧ (s.seqTripEnd).drv = s.drv ∧ (s.seqTripEnd).lku = s.lku ∧
    (s.seqTripEnd).sup = s.sup ∧ (s.seqTripEnd).lines = s.lines ∧ (s.seqTripEnd).part = s.part ∧
    (s.seqTripEnd).order = s.order ∧ (s.seqTripEnd).pending = s.pending := by
  dsimp only [State.seqTripEnd]
  split_ands <;> (repeat' split) <;> simp

@[simp] theorem State.seqTripDone_frame (s : State) :
    (s.seqTripDone).meu = s.meu ∧ (s.seqTripDone).ele = s.ele ∧ (s.seqTripDone).store = s.store ∧
    (s.seqTripDone).sets = s.sets ∧ (s.seqTripDone).drv = s.drv ∧ (s.seqTripDone).lku = s.lku ∧
    (s.seqTripDone).sup = s.sup ∧ (s.seqTripDone).lines = s.lines ∧
    (s.seqTripDone).part = s.part ∧ (s.seqTripDone).order = s.order ∧
    (s.seqTripDone).pending = s.pending := by
  dsimp only [State.seqTripDone]
  split_ands <;> (repeat' split) <;> simp

@[simp] theorem State.seqCloseDone_frame (s : State) :
    (s.seqCloseDone).meu = s.meu ∧ (s.seqCloseDone).store = s.store ∧
    (s.seqCloseDone).sets = s.sets ∧ (s.seqCloseDone).drv = s.drv ∧ (s.seqCloseDone).lku = s.lku ∧
    (s.seqCloseDone).sup = s.sup ∧ (s.seqCloseDone).lines = s.lines ∧
    (s.seqCloseDone).part = s.part ∧ (s.seqCloseDone).order = s.order ∧
    (s.seqCloseDone).pending = s.pending := by
  dsimp only [State.seqCloseDone]
  split_ands <;> (repeat' split) <;> simp

@[simp] theorem State.seqCloseFailed_frame (s : State) :
    (s.seqCloseFailed).meu = s.meu ∧ (s.seqCloseFailed).ele = s.ele ∧
    (s.seqCloseFailed).store = s.store ∧ (s.seqCloseFailed).sets = s.sets ∧
    (s.seqCloseFailed).drv = s.drv ∧ (s.seqCloseFailed).lku = s.lku ∧
    (s.seqCloseFailed).sup = s.sup ∧ (s.seqCloseFailed).lines = s.lines ∧
    (s.seqCloseFailed).part = s.part ∧ (s.seqCloseFailed).order = s.order ∧
    (s.seqCloseFailed).pending = s.pending := by
  dsimp only [State.seqCloseFailed]
  split_ands <;> (repeat' split) <;> simp

@[simp] theorem State.seqHalted_frame (s : State) :
    (s.seqHalted).slr = s.slr ∧ (s.seqHalted).meu = s.meu ∧ (s.seqHalted).ele = s.ele ∧
    (s.seqHalted).store = s.store ∧ (s.seqHalted).sets = s.sets ∧ (s.seqHalted).drv = s.drv ∧
    (s.seqHalted).lku = s.lku ∧ (s.seqHalted).sup = s.sup ∧ (s.seqHalted).rpb = s.rpb ∧
    (s.seqHalted).pkm = s.pkm ∧ (s.seqHalted).rpc = s.rpc ∧ (s.seqHalted).fcu = s.fcu ∧
    (s.seqHalted).lines = s.lines ∧ (s.seqHalted).part = s.part ∧ (s.seqHalted).order = s.order ∧
    (s.seqHalted).pending = s.pending := by
  dsimp only [State.seqHalted]
  split_ands <;> simp

@[simp] theorem State.seqRestored_frame (s : State) :
    (s.seqRestored).meu = s.meu ∧ (s.seqRestored).store = s.store ∧
    (s.seqRestored).sets = s.sets ∧ (s.seqRestored).drv = s.drv ∧ (s.seqRestored).lku = s.lku ∧
    (s.seqRestored).sup = s.sup ∧ (s.seqRestored).lines = s.lines ∧
    (s.seqRestored).part = s.part ∧ (s.seqRestored).order = s.order ∧
    (s.seqRestored).pending = s.pending := by
  dsimp only [State.seqRestored]
  split_ands <;> (repeat' split) <;> simp

@[simp] theorem State.placeTrip_frame (c : TripCause) (announce : Option Flags4) (s : State) :
    (s.placeTrip c announce).meu = s.meu ∧ (s.placeTrip c announce).ele = s.ele ∧
    (s.placeTrip c announce).store = s.store ∧ (s.placeTrip c announce).sets = s.sets ∧
    (s.placeTrip c announce).lku = s.lku ∧ (s.placeTrip c announce).lines = s.lines ∧
    (s.placeTrip c announce).part = s.part ∧ (s.placeTrip c announce).order = s.order ∧
    (s.placeTrip c announce).pending = s.pending := by
  dsimp only [State.placeTrip]
  split_ands <;> (repeat' split) <;> simp

@[simp] theorem State.seqProtect_frame (s : State) :
    (s.seqProtect).meu = s.meu ∧ (s.seqProtect).store = s.store ∧ (s.seqProtect).sets = s.sets ∧
    (s.seqProtect).lku = s.lku ∧ (s.seqProtect).lines = s.lines ∧ (s.seqProtect).part = s.part ∧
    (s.seqProtect).order = s.order ∧ (s.seqProtect).pending = s.pending := by
  dsimp only [State.seqProtect]
  split_ands <;> (repeat' split) <;> simp

@[simp] theorem State.seqTripUnknown_frame (c : TripCause) (m : RestartMark) (s : State) :
    (s.seqTripUnknown c m).meu = s.meu ∧ (s.seqTripUnknown c m).ele = s.ele ∧
    (s.seqTripUnknown c m).store = s.store ∧ (s.seqTripUnknown c m).sets = s.sets ∧
    (s.seqTripUnknown c m).lku = s.lku ∧ (s.seqTripUnknown c m).lines = s.lines ∧
    (s.seqTripUnknown c m).part = s.part ∧ (s.seqTripUnknown c m).order = s.order ∧
    (s.seqTripUnknown c m).pending = s.pending := by
  dsimp only [State.seqTripUnknown]
  split_ands <;> (repeat' split) <;> simp

@[simp] theorem State.seqTripCommand_frame (s : State) :
    (s.seqTripCommand).meu = s.meu ∧ (s.seqTripCommand).ele = s.ele ∧
    (s.seqTripCommand).store = s.store ∧ (s.seqTripCommand).sets = s.sets ∧
    (s.seqTripCommand).lku = s.lku ∧ (s.seqTripCommand).lines = s.lines ∧
    (s.seqTripCommand).part = s.part ∧ (s.seqTripCommand).order = s.order ∧
    (s.seqTripCommand).pending = s.pending := by
  dsimp only [State.seqTripCommand]
  split_ands <;> (repeat' split) <;> simp

@[simp] theorem State.seqLowBattery_frame (s : State) :
    (s.seqLowBattery).meu = s.meu ∧ (s.seqLowBattery).ele = s.ele ∧
    (s.seqLowBattery).store = s.store ∧ (s.seqLowBattery).sets = s.sets ∧
    (s.seqLowBattery).lku = s.lku ∧ (s.seqLowBattery).lines = s.lines ∧
    (s.seqLowBattery).part = s.part ∧ (s.seqLowBattery).order = s.order ∧
    (s.seqLowBattery).pending = s.pending := by
  dsimp only [State.seqLowBattery]
  split_ands <;> (repeat' split) <;> simp

@[simp] theorem State.lowBatteryRequest_frame (s : State) :
    (s.lowBatteryRequest).meu = s.meu ∧ (s.lowBatteryRequest).ele = s.ele ∧
    (s.lowBatteryRequest).store = s.store ∧ (s.lowBatteryRequest).sets = s.sets ∧
    (s.lowBatteryRequest).lku = s.lku ∧ (s.lowBatteryRequest).lines = s.lines ∧
    (s.lowBatteryRequest).part = s.part ∧ (s.lowBatteryRequest).order = s.order ∧
    (s.lowBatteryRequest).pending = s.pending := by
  dsimp only [State.lowBatteryRequest]
  split_ands <;> simp

@[simp] theorem State.placeClose_frame (c : CloseCause) (ans : CloseAnswer) (s : State) :
    (s.placeClose c ans).meu = s.meu ∧ (s.placeClose c ans).store = s.store ∧
    (s.placeClose c ans).sets = s.sets ∧ (s.placeClose c ans).lku = s.lku ∧
    (s.placeClose c ans).sup = s.sup ∧ (s.placeClose c ans).lines = s.lines ∧
    (s.placeClose c ans).part = s.part ∧ (s.placeClose c ans).order = s.order ∧
    (s.placeClose c ans).pending = s.pending := by
  dsimp only [State.placeClose]
  split_ands <;> (repeat' split) <;> simp

@[simp] theorem State.checkClose_frame (s : State) :
    (s.checkClose).meu = s.meu ∧ (s.checkClose).store = s.store ∧ (s.checkClose).sets = s.sets ∧
    (s.checkClose).lku = s.lku ∧ (s.checkClose).sup = s.sup ∧ (s.checkClose).lines = s.lines ∧
    (s.checkClose).part = s.part ∧ (s.checkClose).order = s.order ∧
    (s.checkClose).pending = s.pending := by
  dsimp only [State.checkClose]
  split_ands <;> (repeat' split) <;> simp

@[simp] theorem State.seqCloseWait_frame (s : State) :
    (s.seqCloseWait).meu = s.meu ∧ (s.seqCloseWait).store = s.store ∧
    (s.seqCloseWait).sets = s.sets ∧ (s.seqCloseWait).lku = s.lku ∧ (s.seqCloseWait).sup = s.sup ∧
    (s.seqCloseWait).lines = s.lines ∧ (s.seqCloseWait).part = s.part ∧
    (s.seqCloseWait).order = s.order ∧ (s.seqCloseWait).pending = s.pending := by
  dsimp only [State.seqCloseWait]
  split_ands <;> simp

@[simp] theorem State.seqCloseCommand_frame (s : State) :
    (s.seqCloseCommand).meu = s.meu ∧ (s.seqCloseCommand).store = s.store ∧
    (s.seqCloseCommand).sets = s.sets ∧ (s.seqCloseCommand).lku = s.lku ∧
    (s.seqCloseCommand).sup = s.sup ∧ (s.seqCloseCommand).lines = s.lines ∧
    (s.seqCloseCommand).part = s.part ∧ (s.seqCloseCommand).order = s.order ∧
    (s.seqCloseCommand).pending = s.pending := by
  dsimp only [State.seqCloseCommand]
  split_ands <;> (repeat' split) <;> simp

@[simp] theorem State.seqAdvance_frame (s : State) :
    (s.seqAdvance).meu = s.meu ∧ (s.seqAdvance).store = s.store ∧ (s.seqAdvance).sets = s.sets ∧
    (s.seqAdvance).drv = s.drv ∧ (s.seqAdvance).lku = s.lku ∧ (s.seqAdvance).sup = s.sup ∧
    (s.seqAdvance).lines = s.lines ∧ (s.seqAdvance).part = s.part ∧
    (s.seqAdvance).order = s.order ∧ (s.seqAdvance).pending = s.pending := by
  dsimp only [State.seqAdvance]
  split_ands <;> simp

@[simp] theorem State.seqEpisode_frame (r : ElemResult) (s : State) :
    (s.seqEpisode r).meu = s.meu ∧ (s.seqEpisode r).store = s.store ∧
    (s.seqEpisode r).sets = s.sets ∧ (s.seqEpisode r).drv = s.drv ∧ (s.seqEpisode r).lku = s.lku ∧
    (s.seqEpisode r).sup = s.sup ∧ (s.seqEpisode r).lines = s.lines ∧
    (s.seqEpisode r).part = s.part ∧ (s.seqEpisode r).order = s.order ∧
    (s.seqEpisode r).pending = s.pending := by
  dsimp only [State.seqEpisode]
  split_ands <;> (repeat' split) <;> simp

@[simp] theorem State.seqResult_frame (r : ElemResult) (s : State) :
    (s.seqResult r).meu = s.meu ∧ (s.seqResult r).store = s.store ∧
    (s.seqResult r).sets = s.sets ∧ (s.seqResult r).lku = s.lku ∧
    (s.seqResult r).lines = s.lines ∧ (s.seqResult r).part = s.part ∧
    (s.seqResult r).order = s.order ∧ (s.seqResult r).pending = s.pending := by
  dsimp only [State.seqResult]
  split_ands <;> (repeat' split) <;> simp

@[simp] theorem State.seqTakeResult_frame (r : ElemResult) (s : State) :
    (s.seqTakeResult r).meu = s.meu ∧ (s.seqTakeResult r).store = s.store ∧
    (s.seqTakeResult r).sets = s.sets ∧ (s.seqTakeResult r).lku = s.lku ∧
    (s.seqTakeResult r).lines = s.lines ∧ (s.seqTakeResult r).part = s.part ∧
    (s.seqTakeResult r).order = s.order ∧ (s.seqTakeResult r).pending = s.pending := by
  dsimp only [State.seqTakeResult]
  split_ands <;> (repeat' split) <;> simp

@[simp] theorem State.elePosition_frame (d : Delivery) (s : State) :
    (s.elePosition d).meu = s.meu ∧ (s.elePosition d).store = s.store ∧
    (s.elePosition d).sets = s.sets ∧ (s.elePosition d).lku = s.lku ∧
    (s.elePosition d).lines = s.lines ∧ (s.elePosition d).part = s.part ∧
    (s.elePosition d).order = s.order ∧ (s.elePosition d).pending = s.pending := by
  dsimp only [State.elePosition]
  split_ands <;> (repeat' split) <;> simp

@[simp] theorem State.seqHandle_frame (before : Handle) (s : State) :
    (s.seqHandle before).meu = s.meu ∧ (s.seqHandle before).ele = s.ele ∧
    (s.seqHandle before).store = s.store ∧ (s.seqHandle before).sets = s.sets ∧
    (s.seqHandle before).drv = s.drv ∧ (s.seqHandle before).lku = s.lku ∧
    (s.seqHandle before).sup = s.sup ∧ (s.seqHandle before).lines = s.lines ∧
    (s.seqHandle before).part = s.part ∧ (s.seqHandle before).order = s.order ∧
    (s.seqHandle before).pending = s.pending := by
  dsimp only [State.seqHandle]
  split_ands <;> (repeat' split) <;> simp

@[simp] theorem State.seqLeaveUnknown_frame (d : Delivery) (s : State) :
    (s.seqLeaveUnknown d).meu = s.meu ∧ (s.seqLeaveUnknown d).store = s.store ∧
    (s.seqLeaveUnknown d).sets = s.sets ∧ (s.seqLeaveUnknown d).drv = s.drv ∧
    (s.seqLeaveUnknown d).lku = s.lku ∧ (s.seqLeaveUnknown d).sup = s.sup ∧
    (s.seqLeaveUnknown d).lines = s.lines ∧ (s.seqLeaveUnknown d).part = s.part ∧
    (s.seqLeaveUnknown d).order = s.order ∧ (s.seqLeaveUnknown d).pending = s.pending := by
  dsimp only [State.seqLeaveUnknown]
  split_ands <;> (repeat' split) <;> simp

@[simp] theorem State.seqOpened_frame (d : Delivery) (changed : Bool) (s : State) :
    (s.seqOpened d changed).meu = s.meu ∧ (s.seqOpened d changed).ele = s.ele ∧
    (s.seqOpened d changed).store = s.store ∧ (s.seqOpened d changed).sets = s.sets ∧
    (s.seqOpened d changed).drv = s.drv ∧ (s.seqOpened d changed).lku = s.lku ∧
    (s.seqOpened d changed).sup = s.sup ∧ (s.seqOpened d changed).lines = s.lines ∧
    (s.seqOpened d changed).part = s.part ∧ (s.seqOpened d changed).order = s.order ∧
    (s.seqOpened d changed).pending = s.pending := by
  dsimp only [State.seqOpened]
  split_ands <;> (repeat' split) <;> simp

@[simp] theorem State.seqClosed_frame (d : Delivery) (changed : Bool) (s : State) :
    (s.seqClosed d changed).meu = s.meu ∧ (s.seqClosed d changed).store = s.store ∧
    (s.seqClosed d changed).sets = s.sets ∧ (s.seqClosed d changed).drv = s.drv ∧
    (s.seqClosed d changed).lku = s.lku ∧ (s.seqClosed d changed).sup = s.sup ∧
    (s.seqClosed d changed).lines = s.lines ∧ (s.seqClosed d changed).part = s.part ∧
    (s.seqClosed d changed).order = s.order ∧ (s.seqClosed d changed).pending = s.pending := by
  dsimp only [State.seqClosed]
  split_ands <;> (repeat' split) <;> simp

@[simp] theorem State.seqPosition_frame (d : Delivery) (changed : Bool) (s : State) :
    (s.seqPosition d changed).meu = s.meu ∧ (s.seqPosition d changed).store = s.store ∧
    (s.seqPosition d changed).sets = s.sets ∧ (s.seqPosition d changed).drv = s.drv ∧
    (s.seqPosition d changed).lku = s.lku ∧ (s.seqPosition d changed).sup = s.sup ∧
    (s.seqPosition d changed).lines = s.lines ∧ (s.seqPosition d changed).part = s.part ∧
    (s.seqPosition d changed).order = s.order ∧ (s.seqPosition d changed).pending = s.pending := by
  dsimp only [State.seqPosition]
  split_ands <;> (repeat' split) <;> simp

@[simp] theorem State.seqView_frame (f : Seq → Seq) (s : State) :
    (s.seqView f).meu = s.meu ∧ (s.seqView f).store = s.store ∧ (s.seqView f).sets = s.sets ∧
    (s.seqView f).lku = s.lku ∧ (s.seqView f).sup = s.sup ∧ (s.seqView f).lines = s.lines ∧
    (s.seqView f).part = s.part ∧ (s.seqView f).order = s.order ∧
    (s.seqView f).pending = s.pending := by
  dsimp only [State.seqView]
  split_ands <;> (repeat' split) <;> simp

@[simp] theorem State.seqDelivery_frame (d : Delivery) (s : State) :
    (s.seqDelivery d).meu = s.meu ∧ (s.seqDelivery d).store = s.store ∧
    (s.seqDelivery d).sets = s.sets ∧ (s.seqDelivery d).lku = s.lku ∧
    (s.seqDelivery d).lines = s.lines ∧ (s.seqDelivery d).part = s.part ∧
    (s.seqDelivery d).order = s.order ∧ (s.seqDelivery d).pending = s.pending := by
  dsimp only [State.seqDelivery]
  split_ands <;> (repeat' split) <;> simp

@[simp] theorem State.seqCap_frame (v : Nat) (stale : Bool) (s : State) :
    (s.seqCap v stale).meu = s.meu ∧ (s.seqCap v stale).store = s.store ∧
    (s.seqCap v stale).sets = s.sets ∧ (s.seqCap v stale).lku = s.lku ∧
    (s.seqCap v stale).sup = s.sup ∧ (s.seqCap v stale).lines = s.lines ∧
    (s.seqCap v stale).part = s.part ∧ (s.seqCap v stale).order = s.order ∧
    (s.seqCap v stale).pending = s.pending := by
  dsimp only [State.seqCap]
  split_ands <;> simp

@[simp] theorem State.seqLinkUp_frame (s : State) :
    (s.seqLinkUp).meu = s.meu ∧ (s.seqLinkUp).store = s.store ∧ (s.seqLinkUp).sets = s.sets ∧
    (s.seqLinkUp).lku = s.lku ∧ (s.seqLinkUp).sup = s.sup ∧ (s.seqLinkUp).lines = s.lines ∧
    (s.seqLinkUp).part = s.part ∧ (s.seqLinkUp).order = s.order ∧
    (s.seqLinkUp).pending = s.pending := by
  dsimp only [State.seqLinkUp]
  split_ands <;> simp

@[simp] theorem State.seqSource_frame (live : Bool) (s : State) :
    (s.seqSource live).meu = s.meu ∧ (s.seqSource live).store = s.store ∧
    (s.seqSource live).sets = s.sets ∧ (s.seqSource live).lku = s.lku ∧
    (s.seqSource live).sup = s.sup ∧ (s.seqSource live).lines = s.lines ∧
    (s.seqSource live).part = s.part ∧ (s.seqSource live).order = s.order ∧
    (s.seqSource live).pending = s.pending := by
  dsimp only [State.seqSource]
  split_ands <;> simp

@[simp] theorem State.seqNoClose_frame (s : State) :
    (s.seqNoClose).meu = s.meu ∧ (s.seqNoClose).ele = s.ele ∧ (s.seqNoClose).store = s.store ∧
    (s.seqNoClose).sets = s.sets ∧ (s.seqNoClose).lku = s.lku ∧ (s.seqNoClose).lines = s.lines ∧
    (s.seqNoClose).part = s.part ∧ (s.seqNoClose).order = s.order ∧
    (s.seqNoClose).pending = s.pending := by
  dsimp only [State.seqNoClose]
  split_ands <;> (repeat' split) <;> simp

@[simp] theorem State.seqAnyTag_frame (s : State) :
    (s.seqAnyTag).meu = s.meu ∧ (s.seqAnyTag).ele = s.ele ∧ (s.seqAnyTag).store = s.store ∧
    (s.seqAnyTag).sets = s.sets ∧ (s.seqAnyTag).drv = s.drv ∧ (s.seqAnyTag).lku = s.lku ∧
    (s.seqAnyTag).sup = s.sup ∧ (s.seqAnyTag).lines = s.lines ∧ (s.seqAnyTag).part = s.part ∧
    (s.seqAnyTag).order = s.order ∧ (s.seqAnyTag).pending = s.pending := by
  dsimp only [State.seqAnyTag]
  split_ands <;> (repeat' split) <;> simp

@[simp] theorem State.seqTags_frame (present noClose : Bool) (s : State) :
    (s.seqTags present noClose).meu = s.meu ∧ (s.seqTags present noClose).store = s.store ∧
    (s.seqTags present noClose).sets = s.sets ∧ (s.seqTags present noClose).lku = s.lku ∧
    (s.seqTags present noClose).lines = s.lines ∧ (s.seqTags present noClose).part = s.part ∧
    (s.seqTags present noClose).order = s.order ∧
    (s.seqTags present noClose).pending = s.pending := by
  dsimp only [State.seqTags]
  split_ands <;> (repeat' split) <;> simp

@[simp] theorem State.seqIntervalEnd_frame (s : State) :
    (s.seqIntervalEnd).meu = s.meu ∧ (s.seqIntervalEnd).store = s.store ∧
    (s.seqIntervalEnd).sets = s.sets ∧ (s.seqIntervalEnd).lku = s.lku ∧
    (s.seqIntervalEnd).sup = s.sup ∧ (s.seqIntervalEnd).lines = s.lines ∧
    (s.seqIntervalEnd).part = s.part ∧ (s.seqIntervalEnd).order = s.order ∧
    (s.seqIntervalEnd).pending = s.pending := by
  dsimp only [State.seqIntervalEnd]
  split_ands <;> simp

@[simp] theorem State.seqWaitEnd_frame (s : State) :
    (s.seqWaitEnd).meu = s.meu ∧ (s.seqWaitEnd).ele = s.ele ∧ (s.seqWaitEnd).store = s.store ∧
    (s.seqWaitEnd).sets = s.sets ∧ (s.seqWaitEnd).drv = s.drv ∧ (s.seqWaitEnd).lku = s.lku ∧
    (s.seqWaitEnd).sup = s.sup ∧ (s.seqWaitEnd).lines = s.lines ∧ (s.seqWaitEnd).part = s.part ∧
    (s.seqWaitEnd).order = s.order ∧ (s.seqWaitEnd).pending = s.pending := by
  dsimp only [State.seqWaitEnd]
  split_ands <;> simp

@[simp] theorem State.seqReclaimEnd_frame (s : State) :
    (s.seqReclaimEnd).meu = s.meu ∧ (s.seqReclaimEnd).store = s.store ∧
    (s.seqReclaimEnd).sets = s.sets ∧ (s.seqReclaimEnd).drv = s.drv ∧
    (s.seqReclaimEnd).lku = s.lku ∧ (s.seqReclaimEnd).sup = s.sup ∧
    (s.seqReclaimEnd).lines = s.lines ∧ (s.seqReclaimEnd).part = s.part ∧
    (s.seqReclaimEnd).order = s.order ∧ (s.seqReclaimEnd).pending = s.pending := by
  dsimp only [State.seqReclaimEnd]
  split_ands <;> simp

@[simp] theorem State.takeLive_frame (l : LiveSet) (s : State) :
    (s.takeLive l).meu = s.meu ∧ (s.takeLive l).store = s.store ∧ (s.takeLive l).lku = s.lku ∧
    (s.takeLive l).lines = s.lines ∧ (s.takeLive l).part = s.part ∧
    (s.takeLive l).order = s.order ∧ (s.takeLive l).pending = s.pending := by
  dsimp only [State.takeLive]
  split_ands <;> (repeat' split) <;> simp

@[simp] theorem State.applyLoad_frame (g : Option Nat) (c : SelCause) (r : Option Reply) (s : State) :
    (s.applyLoad g c r).meu = s.meu ∧ (s.applyLoad g c r).lines = s.lines ∧
    (s.applyLoad g c r).part = s.part ∧ (s.applyLoad g c r).order = s.order ∧
    (s.applyLoad g c r).pending = s.pending := by
  dsimp only [State.applyLoad]
  split_ands <;> (repeat' split) <;> simp

@[simp] theorem State.completeInPlace_frame (c : SelCause) (s : State) :
    (s.completeInPlace c).slr = s.slr ∧ (s.completeInPlace c).meu = s.meu ∧
    (s.completeInPlace c).ele = s.ele ∧ (s.completeInPlace c).seq = s.seq ∧
    (s.completeInPlace c).drv = s.drv ∧ (s.completeInPlace c).bat = s.bat ∧
    (s.completeInPlace c).sup = s.sup ∧ (s.completeInPlace c).rpb = s.rpb ∧
    (s.completeInPlace c).pkm = s.pkm ∧ (s.completeInPlace c).rpc = s.rpc ∧
    (s.completeInPlace c).fcu = s.fcu ∧ (s.completeInPlace c).lines = s.lines ∧
    (s.completeInPlace c).part = s.part ∧ (s.completeInPlace c).order = s.order ∧
    (s.completeInPlace c).pending = s.pending := by
  dsimp only [State.completeInPlace]
  split_ands <;> (repeat' split) <;> simp

@[simp] theorem State.applyPending_frame (s : State) :
    (s.applyPending).meu = s.meu ∧ (s.applyPending).lines = s.lines ∧
    (s.applyPending).part = s.part ∧ (s.applyPending).order = s.order ∧
    (s.applyPending).pending = s.pending := by
  dsimp only [State.applyPending]
  split_ands <;> (repeat' split) <;> simp

@[simp] theorem State.applyIfSettled_frame (s : State) :
    (s.applyIfSettled).meu = s.meu ∧ (s.applyIfSettled).lines = s.lines ∧
    (s.applyIfSettled).part = s.part ∧ (s.applyIfSettled).order = s.order ∧
    (s.applyIfSettled).pending = s.pending := by
  dsimp only [State.applyIfSettled]
  split_ands <;> (repeat' split) <;> simp

@[simp] theorem State.setTagged_frame (s : State) :
    (s.setTagged).meu = s.meu ∧ (s.setTagged).lines = s.lines ∧ (s.setTagged).part = s.part ∧
    (s.setTagged).order = s.order ∧ (s.setTagged).pending = s.pending := by
  dsimp only [State.setTagged]
  split_ands <;> (repeat' split) <;> simp

@[simp] theorem State.setUntagged_frame (s : State) :
    (s.setUntagged).meu = s.meu ∧ (s.setUntagged).lines = s.lines ∧
    (s.setUntagged).part = s.part ∧ (s.setUntagged).order = s.order ∧
    (s.setUntagged).pending = s.pending := by
  dsimp only [State.setUntagged]
  split_ands <;> (repeat' split) <;> simp

@[simp] theorem State.resendTrip_frame (before : SeqState) (s : State) :
    (s.resendTrip before).meu = s.meu ∧ (s.resendTrip before).ele = s.ele ∧
    (s.resendTrip before).store = s.store ∧ (s.resendTrip before).sets = s.sets ∧
    (s.resendTrip before).lku = s.lku ∧ (s.resendTrip before).lines = s.lines ∧
    (s.resendTrip before).part = s.part ∧ (s.resendTrip before).order = s.order ∧
    (s.resendTrip before).pending = s.pending := by
  dsimp only [State.resendTrip]
  split_ands <;> (repeat' split) <;> simp

@[simp] theorem State.settleNotice_frame (s : State) :
    (s.settleNotice).meu = s.meu ∧ (s.settleNotice).lines = s.lines ∧
    (s.settleNotice).part = s.part ∧ (s.settleNotice).order = s.order ∧
    (s.settleNotice).pending = s.pending := by
  dsimp only [State.settleNotice]
  split_ands <;> (repeat' split) <;> simp

/-- An arrival at SEQ leaves what its action leaves, in the blocks that no action of SEQ reaches. -/
@[simp] theorem State.seqArrive_frame (f : State → State) (s : State) :
    (s.seqArrive f).meu = (f s).meu ∧ (s.seqArrive f).lines = (f s).lines ∧
    (s.seqArrive f).part = (f s).part ∧ (s.seqArrive f).order = (f s).order ∧
    (s.seqArrive f).pending = (f s).pending := by
  simp [State.seqArrive]

/-! ## Operations of Machine/Lockout.lean -/

@[simp] theorem State.stageTag_frame (c : TagChange) (s : State) :
    (s.stageTag c).slr = s.slr ∧ (s.stageTag c).meu = s.meu ∧ (s.stageTag c).ele = s.ele ∧
    (s.stageTag c).sets = s.sets ∧ (s.stageTag c).seq = s.seq ∧ (s.stageTag c).drv = s.drv ∧
    (s.stageTag c).bat = s.bat ∧ (s.stageTag c).sup = s.sup ∧ (s.stageTag c).rpb = s.rpb ∧
    (s.stageTag c).pkm = s.pkm ∧ (s.stageTag c).rpc = s.rpc ∧ (s.stageTag c).fcu = s.fcu ∧
    (s.stageTag c).lines = s.lines ∧ (s.stageTag c).part = s.part ∧
    (s.stageTag c).order = s.order ∧ (s.stageTag c).pending = s.pending := by
  dsimp only [State.stageTag]
  split_ands <;> simp

@[simp] theorem State.effectTag_frame (c : TagChange) (s : State) :
    (s.effectTag c).slr = s.slr ∧ (s.effectTag c).meu = s.meu ∧ (s.effectTag c).ele = s.ele ∧
    (s.effectTag c).sets = s.sets ∧ (s.effectTag c).seq = s.seq ∧ (s.effectTag c).drv = s.drv ∧
    (s.effectTag c).bat = s.bat ∧ (s.effectTag c).sup = s.sup ∧ (s.effectTag c).rpb = s.rpb ∧
    (s.effectTag c).pkm = s.pkm ∧ (s.effectTag c).rpc = s.rpc ∧ (s.effectTag c).fcu = s.fcu ∧
    (s.effectTag c).lines = s.lines ∧ (s.effectTag c).part = s.part ∧
    (s.effectTag c).order = s.order ∧ (s.effectTag c).pending = s.pending := by
  dsimp only [State.effectTag]
  split_ands <;> (repeat' split) <;> simp

@[simp] theorem State.effectTags_frame (cs : List TagChange) (s : State) :
    (s.effectTags cs).slr = s.slr ∧ (s.effectTags cs).meu = s.meu ∧
    (s.effectTags cs).ele = s.ele ∧ (s.effectTags cs).sets = s.sets ∧
    (s.effectTags cs).seq = s.seq ∧ (s.effectTags cs).drv = s.drv ∧
    (s.effectTags cs).bat = s.bat ∧ (s.effectTags cs).sup = s.sup ∧
    (s.effectTags cs).rpb = s.rpb ∧ (s.effectTags cs).pkm = s.pkm ∧
    (s.effectTags cs).rpc = s.rpc ∧ (s.effectTags cs).fcu = s.fcu ∧
    (s.effectTags cs).lines = s.lines ∧ (s.effectTags cs).part = s.part ∧
    (s.effectTags cs).order = s.order ∧ (s.effectTags cs).pending = s.pending := by
  induction cs generalizing s with
  | nil => simp [State.effectTags]
  | cons c cs ih =>
    unfold State.effectTags
    split_ands <;> simp [ih]

@[simp] theorem State.emitAll_frame (es : List Event) (s : State) :
    (s.emitAll es).meu = s.meu ∧ (s.emitAll es).ele = s.ele ∧ (s.emitAll es).store = s.store ∧
    (s.emitAll es).sets = s.sets ∧ (s.emitAll es).seq = s.seq ∧ (s.emitAll es).drv = s.drv ∧
    (s.emitAll es).lku = s.lku ∧ (s.emitAll es).bat = s.bat ∧ (s.emitAll es).sup = s.sup ∧
    (s.emitAll es).lines = s.lines ∧ (s.emitAll es).part = s.part ∧
    (s.emitAll es).order = s.order ∧ (s.emitAll es).pending = s.pending := by
  induction es generalizing s with
  | nil => simp [State.emitAll]
  | cons c cs ih =>
    unfold State.emitAll
    split_ands <;> simp [ih]

@[simp] theorem State.answerTags_frame (cs : List TagChange) (s : State) :
    (s.answerTags cs).slr = s.slr ∧ (s.answerTags cs).meu = s.meu ∧
    (s.answerTags cs).ele = s.ele ∧ (s.answerTags cs).store = s.store ∧
    (s.answerTags cs).sets = s.sets ∧ (s.answerTags cs).seq = s.seq ∧
    (s.answerTags cs).drv = s.drv ∧ (s.answerTags cs).lku = s.lku ∧
    (s.answerTags cs).bat = s.bat ∧ (s.answerTags cs).sup = s.sup ∧
    (s.answerTags cs).rpb = s.rpb ∧ (s.answerTags cs).rpc = s.rpc ∧
    (s.answerTags cs).lines = s.lines ∧ (s.answerTags cs).part = s.part ∧
    (s.answerTags cs).order = s.order ∧ (s.answerTags cs).pending = s.pending := by
  induction cs generalizing s with
  | nil => simp [State.answerTags]
  | cons c cs ih =>
    unfold State.answerTags
    split_ands <;> simp [ih]

@[simp] theorem State.tagNotices_frame (before : List Tag) (s : State) :
    (s.tagNotices before).meu = s.meu ∧ (s.tagNotices before).lines = s.lines ∧
    (s.tagNotices before).part = s.part ∧ (s.tagNotices before).order = s.order ∧
    (s.tagNotices before).pending = s.pending := by
  dsimp only [State.tagNotices]
  split_ands <;> (repeat' split) <;> simp

@[simp] theorem State.tagsStored_frame (cs : List TagChange) (s : State) :
    (s.tagsStored cs).meu = s.meu ∧ (s.tagsStored cs).lines = s.lines ∧
    (s.tagsStored cs).part = s.part ∧ (s.tagsStored cs).order = s.order ∧
    (s.tagsStored cs).pending = s.pending := by
  dsimp only [State.tagsStored]
  split_ands <;> simp

@[simp] theorem State.tagExpires_frame (crew : Nat) (s : State) :
    (s.tagExpires crew).slr = s.slr ∧ (s.tagExpires crew).meu = s.meu ∧
    (s.tagExpires crew).ele = s.ele ∧ (s.tagExpires crew).sets = s.sets ∧
    (s.tagExpires crew).seq = s.seq ∧ (s.tagExpires crew).drv = s.drv ∧
    (s.tagExpires crew).bat = s.bat ∧ (s.tagExpires crew).sup = s.sup ∧
    (s.tagExpires crew).rpb = s.rpb ∧ (s.tagExpires crew).pkm = s.pkm ∧
    (s.tagExpires crew).rpc = s.rpc ∧ (s.tagExpires crew).fcu = s.fcu ∧
    (s.tagExpires crew).lines = s.lines ∧ (s.tagExpires crew).part = s.part ∧
    (s.tagExpires crew).order = s.order ∧ (s.tagExpires crew).pending = s.pending := by
  dsimp only [State.tagExpires]
  split_ands <;> (repeat' split) <;> simp

@[simp] theorem State.lkuHandle_frame (d : Delivery) (s : State) :
    (s.lkuHandle d).meu = s.meu ∧ (s.lkuHandle d).ele = s.ele ∧ (s.lkuHandle d).store = s.store ∧
    (s.lkuHandle d).sets = s.sets ∧ (s.lkuHandle d).seq = s.seq ∧ (s.lkuHandle d).drv = s.drv ∧
    (s.lkuHandle d).bat = s.bat ∧ (s.lkuHandle d).sup = s.sup ∧ (s.lkuHandle d).lines = s.lines ∧
    (s.lkuHandle d).part = s.part ∧ (s.lkuHandle d).order = s.order ∧
    (s.lkuHandle d).pending = s.pending := by
  dsimp only [State.lkuHandle]
  split_ands <;> (repeat' split) <;> simp

/-! ## Operations of Machine/Sensor.lean -/

@[simp] theorem State.drvConfirm_frame (news : Bool) (d : Delivery) (s : State) :
    (s.drvConfirm news d).meu = s.meu ∧ (s.drvConfirm news d).lines = s.lines ∧
    (s.drvConfirm news d).part = s.part ∧ (s.drvConfirm news d).order = s.order ∧
    (s.drvConfirm news d).pending = s.pending := by
  dsimp only [State.drvConfirm]
  split_ands <;> (repeat' split) <;> simp

@[simp] theorem State.drvDelivery_frame (d : Delivery) (s : State) :
    (s.drvDelivery d).meu = s.meu ∧ (s.drvDelivery d).lines = s.lines ∧
    (s.drvDelivery d).part = s.part ∧ (s.drvDelivery d).order = s.order ∧
    (s.drvDelivery d).pending = s.pending := by
  dsimp only [State.drvDelivery]
  split_ands <;> (repeat' split) <;> simp

@[simp] theorem State.deliver_frame (s : State) :
    (s.deliver).meu = s.meu ∧ (s.deliver).lines = s.lines ∧ (s.deliver).part = s.part ∧
    (s.deliver).order = s.order ∧ (s.deliver).pending = s.pending := by
  dsimp only [State.deliver]
  split_ands <;> (repeat' split) <;> simp

@[simp] theorem State.profileStep_frame (m : Nat) (s : State) :
    (s.profileStep m).slr = s.slr ∧ (s.profileStep m).meu = s.meu ∧
    (s.profileStep m).ele = s.ele ∧ (s.profileStep m).store = s.store ∧
    (s.profileStep m).sets = s.sets ∧ (s.profileStep m).seq = s.seq ∧
    (s.profileStep m).drv = s.drv ∧ (s.profileStep m).lku = s.lku ∧
    (s.profileStep m).bat = s.bat ∧ (s.profileStep m).sup = s.sup ∧
    (s.profileStep m).pkm = s.pkm ∧ (s.profileStep m).rpc = s.rpc ∧
    (s.profileStep m).fcu = s.fcu ∧ (s.profileStep m).lines = s.lines ∧
    (s.profileStep m).part = s.part ∧ (s.profileStep m).order = s.order ∧
    (s.profileStep m).pending = s.pending := by
  dsimp only [State.profileStep]
  split_ands <;> simp

@[simp] theorem State.eStep_frame (s : State) :
    (s.eStep).lines = s.lines ∧ (s.eStep).part = s.part ∧ (s.eStep).order = s.order ∧
    (s.eStep).pending = s.pending := by
  dsimp only [State.eStep]
  split_ands <;> (repeat' split) <;> simp

@[simp] theorem State.stepAndDeliver_frame (estep delivery : Bool) (s : State) :
    (s.stepAndDeliver estep delivery).lines = s.lines ∧
    (s.stepAndDeliver estep delivery).part = s.part ∧
    (s.stepAndDeliver estep delivery).order = s.order ∧
    (s.stepAndDeliver estep delivery).pending = s.pending := by
  dsimp only [State.stepAndDeliver]
  split_ands <;> (repeat' split) <;> simp

@[simp] theorem State.loseLink_frame (s : State) :
    (s.loseLink).store = s.store ∧ (s.loseLink).sets = s.sets ∧ (s.loseLink).seq = s.seq ∧
    (s.loseLink).drv = s.drv ∧ (s.loseLink).lku = s.lku ∧ (s.loseLink).sup = s.sup ∧
    (s.loseLink).rpb = s.rpb ∧ (s.loseLink).pkm = s.pkm ∧ (s.loseLink).rpc = s.rpc ∧
    (s.loseLink).fcu = s.fcu ∧ (s.loseLink).lines = s.lines ∧ (s.loseLink).part = s.part ∧
    (s.loseLink).order = s.order ∧ (s.loseLink).pending = s.pending := by
  dsimp only [State.loseLink]
  split_ands <;> simp

@[simp] theorem State.holdSlot_frame (s : State) :
    (s.holdSlot).ele = s.ele ∧ (s.holdSlot).store = s.store ∧ (s.holdSlot).sets = s.sets ∧
    (s.holdSlot).seq = s.seq ∧ (s.holdSlot).drv = s.drv ∧ (s.holdSlot).lku = s.lku ∧
    (s.holdSlot).bat = s.bat ∧ (s.holdSlot).sup = s.sup ∧ (s.holdSlot).rpb = s.rpb ∧
    (s.holdSlot).pkm = s.pkm ∧ (s.holdSlot).rpc = s.rpc ∧ (s.holdSlot).fcu = s.fcu ∧
    (s.holdSlot).lines = s.lines ∧ (s.holdSlot).part = s.part ∧ (s.holdSlot).order = s.order ∧
    (s.holdSlot).pending = s.pending := by
  dsimp only [State.holdSlot]
  split_ands <;> (repeat' split) <;> simp

@[simp] theorem State.countMissing_frame (s : State) :
    (s.countMissing).meu = s.meu ∧ (s.countMissing).ele = s.ele ∧
    (s.countMissing).store = s.store ∧ (s.countMissing).sets = s.sets ∧
    (s.countMissing).seq = s.seq ∧ (s.countMissing).drv = s.drv ∧ (s.countMissing).lku = s.lku ∧
    (s.countMissing).bat = s.bat ∧ (s.countMissing).sup = s.sup ∧ (s.countMissing).rpb = s.rpb ∧
    (s.countMissing).pkm = s.pkm ∧ (s.countMissing).rpc = s.rpc ∧ (s.countMissing).fcu = s.fcu ∧
    (s.countMissing).lines = s.lines ∧ (s.countMissing).part = s.part ∧
    (s.countMissing).order = s.order ∧ (s.countMissing).pending = s.pending := by
  dsimp only [State.countMissing]
  split_ands <;> simp

@[simp] theorem State.missingSlot_frame (s : State) :
    (s.missingSlot).lines = s.lines ∧ (s.missingSlot).part = s.part ∧
    (s.missingSlot).order = s.order ∧ (s.missingSlot).pending = s.pending := by
  dsimp only [State.missingSlot]
  split_ands <;> (repeat' split) <;> simp

@[simp] theorem State.missingSlots_frame (n : Nat) (s : State) :
    (s.missingSlots n).lines = s.lines ∧ (s.missingSlots n).part = s.part ∧
    (s.missingSlots n).order = s.order ∧ (s.missingSlots n).pending = s.pending := by
  induction n generalizing s with
  | zero => simp [State.missingSlots]
  | succ n ih =>
    unfold State.missingSlots
    split_ands <;> simp [ih]

@[simp] theorem State.forwardSample_frame (f : SampleFrame) (s : State) :
    (s.forwardSample f).meu = s.meu ∧ (s.forwardSample f).ele = s.ele ∧
    (s.forwardSample f).store = s.store ∧ (s.forwardSample f).sets = s.sets ∧
    (s.forwardSample f).seq = s.seq ∧ (s.forwardSample f).drv = s.drv ∧
    (s.forwardSample f).lku = s.lku ∧ (s.forwardSample f).bat = s.bat ∧
    (s.forwardSample f).sup = s.sup ∧ (s.forwardSample f).rpb = s.rpb ∧
    (s.forwardSample f).pkm = s.pkm ∧ (s.forwardSample f).rpc = s.rpc ∧
    (s.forwardSample f).lines = s.lines ∧ (s.forwardSample f).part = s.part ∧
    (s.forwardSample f).order = s.order ∧ (s.forwardSample f).pending = s.pending := by
  dsimp only [State.forwardSample]
  split_ands <;> (repeat' split) <;> simp

@[simp] theorem State.goodLink_frame (f : SampleFrame) (s : State) :
    (s.goodLink f).ele = s.ele ∧ (s.goodLink f).store = s.store ∧ (s.goodLink f).sets = s.sets ∧
    (s.goodLink f).seq = s.seq ∧ (s.goodLink f).drv = s.drv ∧ (s.goodLink f).lku = s.lku ∧
    (s.goodLink f).bat = s.bat ∧ (s.goodLink f).sup = s.sup ∧ (s.goodLink f).rpb = s.rpb ∧
    (s.goodLink f).pkm = s.pkm ∧ (s.goodLink f).rpc = s.rpc ∧ (s.goodLink f).fcu = s.fcu ∧
    (s.goodLink f).lines = s.lines ∧ (s.goodLink f).part = s.part ∧
    (s.goodLink f).order = s.order ∧ (s.goodLink f).pending = s.pending := by
  dsimp only [State.goodLink]
  split_ands <;> simp

@[simp] theorem State.linkUpNotices_frame (before : Link) (s : State) :
    (s.linkUpNotices before).meu = s.meu ∧ (s.linkUpNotices before).lines = s.lines ∧
    (s.linkUpNotices before).part = s.part ∧ (s.linkUpNotices before).order = s.order ∧
    (s.linkUpNotices before).pending = s.pending := by
  dsimp only [State.linkUpNotices]
  split_ands <;> (repeat' split) <;> simp

@[simp] theorem State.goodSlot_frame (f : SampleFrame) (s : State) :
    (s.goodSlot f).lines = s.lines ∧ (s.goodSlot f).part = s.part ∧
    (s.goodSlot f).order = s.order ∧ (s.goodSlot f).pending = s.pending := by
  dsimp only [State.goodSlot]
  split_ands <;> simp

@[simp] theorem State.accountSeq_frame (seqNo : Nat) (s : State) :
    (s.accountSeq seqNo).lines = s.lines ∧ (s.accountSeq seqNo).part = s.part ∧
    (s.accountSeq seqNo).order = s.order ∧ (s.accountSeq seqNo).pending = s.pending := by
  dsimp only [State.accountSeq]
  split_ands <;> simp

@[simp] theorem State.restartSilence_frame (s : State) :
    (s.restartSilence).meu = s.meu ∧ (s.restartSilence).ele = s.ele ∧
    (s.restartSilence).store = s.store ∧ (s.restartSilence).sets = s.sets ∧
    (s.restartSilence).seq = s.seq ∧ (s.restartSilence).drv = s.drv ∧
    (s.restartSilence).lku = s.lku ∧ (s.restartSilence).bat = s.bat ∧
    (s.restartSilence).sup = s.sup ∧ (s.restartSilence).rpb = s.rpb ∧
    (s.restartSilence).pkm = s.pkm ∧ (s.restartSilence).rpc = s.rpc ∧
    (s.restartSilence).fcu = s.fcu ∧ (s.restartSilence).lines = s.lines ∧
    (s.restartSilence).part = s.part ∧ (s.restartSilence).order = s.order ∧
    (s.restartSilence).pending = s.pending := by
  dsimp only [State.restartSilence]
  split_ands <;> simp

@[simp] theorem State.declareMissing_frame (s : State) :
    (s.declareMissing).lines = s.lines ∧ (s.declareMissing).part = s.part ∧
    (s.declareMissing).order = s.order ∧ (s.declareMissing).pending = s.pending := by
  dsimp only [State.declareMissing]
  split_ands <;> simp

@[simp] theorem State.sampleReceived_frame (bytes : List Byte) (s : State) :
    (s.sampleReceived bytes).lines = s.lines ∧ (s.sampleReceived bytes).part = s.part ∧
    (s.sampleReceived bytes).order = s.order ∧ (s.sampleReceived bytes).pending = s.pending := by
  dsimp only [State.sampleReceived]
  split_ands <;> (repeat' split) <;> simp

@[simp] theorem State.silenceExpired_frame (s : State) :
    (s.silenceExpired).lines = s.lines ∧ (s.silenceExpired).part = s.part ∧
    (s.silenceExpired).order = s.order ∧ (s.silenceExpired).pending = s.pending := by
  dsimp only [State.silenceExpired]
  split_ands <;> simp

/-! ## Operations of Machine/Completion.lean -/

@[simp] theorem State.written_frame (table index : Nat) (r : Option Reply) (s : State) :
    (s.written table index r).meu = s.meu ∧ (s.written table index r).ele = s.ele ∧
    (s.written table index r).store = s.store ∧ (s.written table index r).sets = s.sets ∧
    (s.written table index r).seq = s.seq ∧ (s.written table index r).drv = s.drv ∧
    (s.written table index r).lku = s.lku ∧ (s.written table index r).bat = s.bat ∧
    (s.written table index r).sup = s.sup ∧ (s.written table index r).lines = s.lines ∧
    (s.written table index r).part = s.part ∧ (s.written table index r).order = s.order ∧
    (s.written table index r).pending = s.pending := by
  dsimp only [State.written]
  split_ands <;> simp

@[simp] theorem State.curveStored_frame (slot : Nat) (c : Option Curve) (s : State) :
    (s.curveStored slot c).slr = s.slr ∧ (s.curveStored slot c).meu = s.meu ∧
    (s.curveStored slot c).ele = s.ele ∧ (s.curveStored slot c).sets = s.sets ∧
    (s.curveStored slot c).seq = s.seq ∧ (s.curveStored slot c).drv = s.drv ∧
    (s.curveStored slot c).lku = s.lku ∧ (s.curveStored slot c).bat = s.bat ∧
    (s.curveStored slot c).sup = s.sup ∧ (s.curveStored slot c).rpb = s.rpb ∧
    (s.curveStored slot c).pkm = s.pkm ∧ (s.curveStored slot c).rpc = s.rpc ∧
    (s.curveStored slot c).fcu = s.fcu ∧ (s.curveStored slot c).lines = s.lines ∧
    (s.curveStored slot c).part = s.part ∧ (s.curveStored slot c).order = s.order ∧
    (s.curveStored slot c).pending = s.pending := by
  dsimp only [State.curveStored]
  split_ands <;> simp

@[simp] theorem State.dropPendingOf_frame (slot : Nat) (s : State) :
    (s.dropPendingOf slot).meu = s.meu ∧ (s.dropPendingOf slot).ele = s.ele ∧
    (s.dropPendingOf slot).store = s.store ∧ (s.dropPendingOf slot).seq = s.seq ∧
    (s.dropPendingOf slot).drv = s.drv ∧ (s.dropPendingOf slot).lku = s.lku ∧
    (s.dropPendingOf slot).bat = s.bat ∧ (s.dropPendingOf slot).sup = s.sup ∧
    (s.dropPendingOf slot).lines = s.lines ∧ (s.dropPendingOf slot).part = s.part ∧
    (s.dropPendingOf slot).order = s.order ∧ (s.dropPendingOf slot).pending = s.pending := by
  dsimp only [State.dropPendingOf]
  split_ands <;> (repeat' split) <;> simp

@[simp] theorem State.groupStored_frame (slot : Nat) (g : Option Group) (s : State) :
    (s.groupStored slot g).meu = s.meu ∧ (s.groupStored slot g).ele = s.ele ∧
    (s.groupStored slot g).seq = s.seq ∧ (s.groupStored slot g).drv = s.drv ∧
    (s.groupStored slot g).lku = s.lku ∧ (s.groupStored slot g).bat = s.bat ∧
    (s.groupStored slot g).sup = s.sup ∧ (s.groupStored slot g).lines = s.lines ∧
    (s.groupStored slot g).part = s.part ∧ (s.groupStored slot g).order = s.order ∧
    (s.groupStored slot g).pending = s.pending := by
  dsimp only [State.groupStored]
  split_ands <;> (repeat' split) <;> simp

@[simp] theorem State.deviceStored_frame (d : DeviceRec) (s : State) :
    (s.deviceStored d).slr = s.slr ∧ (s.deviceStored d).meu = s.meu ∧
    (s.deviceStored d).ele = s.ele ∧ (s.deviceStored d).sets = s.sets ∧
    (s.deviceStored d).seq = s.seq ∧ (s.deviceStored d).drv = s.drv ∧
    (s.deviceStored d).lku = s.lku ∧ (s.deviceStored d).bat = s.bat ∧
    (s.deviceStored d).sup = s.sup ∧ (s.deviceStored d).rpb = s.rpb ∧
    (s.deviceStored d).pkm = s.pkm ∧ (s.deviceStored d).rpc = s.rpc ∧
    (s.deviceStored d).fcu = s.fcu ∧ (s.deviceStored d).lines = s.lines ∧
    (s.deviceStored d).part = s.part ∧ (s.deviceStored d).order = s.order ∧
    (s.deviceStored d).pending = s.pending := by
  dsimp only [State.deviceStored]
  split_ands <;> simp

@[simp] theorem State.batteryStored_frame (b : BatteryRec) (s : State) :
    (s.batteryStored b).meu = s.meu ∧ (s.batteryStored b).ele = s.ele ∧
    (s.batteryStored b).sets = s.sets ∧ (s.batteryStored b).seq = s.seq ∧
    (s.batteryStored b).drv = s.drv ∧ (s.batteryStored b).lku = s.lku ∧
    (s.batteryStored b).lines = s.lines ∧ (s.batteryStored b).part = s.part ∧
    (s.batteryStored b).order = s.order ∧ (s.batteryStored b).pending = s.pending := by
  dsimp only [State.batteryStored]
  split_ands <;> (repeat' split) <;> simp

@[simp] theorem State.radioStored_frame (r : RadioRec) (s : State) :
    (s.radioStored r).slr = s.slr ∧ (s.radioStored r).meu = s.meu ∧
    (s.radioStored r).ele = s.ele ∧ (s.radioStored r).sets = s.sets ∧
    (s.radioStored r).seq = s.seq ∧ (s.radioStored r).drv = s.drv ∧
    (s.radioStored r).lku = s.lku ∧ (s.radioStored r).rpb = s.rpb ∧
    (s.radioStored r).pkm = s.pkm ∧ (s.radioStored r).fcu = s.fcu ∧
    (s.radioStored r).lines = s.lines ∧ (s.radioStored r).part = s.part ∧
    (s.radioStored r).order = s.order ∧ (s.radioStored r).pending = s.pending := by
  dsimp only [State.radioStored]
  split_ands <;> (repeat' split) <;> simp

@[simp] theorem State.emptyArea_frame (a : Area) (s : State) :
    (s.emptyArea a).slr = s.slr ∧ (s.emptyArea a).meu = s.meu ∧ (s.emptyArea a).ele = s.ele ∧
    (s.emptyArea a).store = s.store ∧ (s.emptyArea a).sets = s.sets ∧
    (s.emptyArea a).seq = s.seq ∧ (s.emptyArea a).drv = s.drv ∧ (s.emptyArea a).lku = s.lku ∧
    (s.emptyArea a).bat = s.bat ∧ (s.emptyArea a).sup = s.sup ∧ (s.emptyArea a).fcu = s.fcu ∧
    (s.emptyArea a).lines = s.lines ∧ (s.emptyArea a).part = s.part ∧
    (s.emptyArea a).order = s.order ∧ (s.emptyArea a).pending = s.pending := by
  dsimp only [State.emptyArea]
  split_ands <;> (repeat' split) <;> simp

@[simp] theorem State.areasStored_frame (p : Partition) (s : State) :
    (s.areasStored p).slr = s.slr ∧ (s.areasStored p).meu = s.meu ∧
    (s.areasStored p).ele = s.ele ∧ (s.areasStored p).sets = s.sets ∧
    (s.areasStored p).seq = s.seq ∧ (s.areasStored p).drv = s.drv ∧
    (s.areasStored p).lku = s.lku ∧ (s.areasStored p).bat = s.bat ∧
    (s.areasStored p).sup = s.sup ∧ (s.areasStored p).fcu = s.fcu ∧
    (s.areasStored p).lines = s.lines ∧ (s.areasStored p).part = s.part ∧
    (s.areasStored p).order = s.order ∧ (s.areasStored p).pending = s.pending := by
  dsimp only [State.areasStored]
  split_ands <;> simp

@[simp] theorem State.completeStore_frame (b : StoreBody) (r : Option Reply) (s : State) :
    (s.completeStore b r).meu = s.meu ∧ (s.completeStore b r).lines = s.lines ∧
    (s.completeStore b r).part = s.part ∧ (s.completeStore b r).order = s.order ∧
    (s.completeStore b r).pending = s.pending := by
  dsimp only [State.completeStore]
  split_ands <;> (repeat' split) <;> simp

@[simp] theorem State.storeComplete_frame (s : State) :
    (s.storeComplete).meu = s.meu ∧ (s.storeComplete).lines = s.lines ∧
    (s.storeComplete).part = s.part ∧ (s.storeComplete).order = s.order ∧
    (s.storeComplete).pending = s.pending := by
  dsimp only [State.storeComplete]
  split_ands <;> (repeat' split) <;> simp

/-! ## Operations of Machine/Reset.lean -/

@[simp] theorem State.resetSets_frame (s : State) :
    (s.resetSets).slr = s.slr ∧ (s.resetSets).meu = s.meu ∧ (s.resetSets).ele = s.ele ∧
    (s.resetSets).seq = s.seq ∧ (s.resetSets).drv = s.drv ∧ (s.resetSets).bat = s.bat ∧
    (s.resetSets).sup = s.sup ∧ (s.resetSets).rpb = s.rpb ∧ (s.resetSets).pkm = s.pkm ∧
    (s.resetSets).rpc = s.rpc ∧ (s.resetSets).fcu = s.fcu ∧ (s.resetSets).lines = s.lines ∧
    (s.resetSets).part = s.part ∧ (s.resetSets).order = s.order ∧
    (s.resetSets).pending = s.pending := by
  dsimp only [State.resetSets]
  split_ands <;> (repeat' split) <;> simp

@[simp] theorem State.resetLku_frame (s : State) :
    (s.resetLku).slr = s.slr ∧ (s.resetLku).meu = s.meu ∧ (s.resetLku).ele = s.ele ∧
    (s.resetLku).store = s.store ∧ (s.resetLku).sets = s.sets ∧ (s.resetLku).seq = s.seq ∧
    (s.resetLku).drv = s.drv ∧ (s.resetLku).bat = s.bat ∧ (s.resetLku).sup = s.sup ∧
    (s.resetLku).rpb = s.rpb ∧ (s.resetLku).pkm = s.pkm ∧ (s.resetLku).rpc = s.rpc ∧
    (s.resetLku).fcu = s.fcu ∧ (s.resetLku).lines = s.lines ∧ (s.resetLku).part = s.part ∧
    (s.resetLku).order = s.order ∧ (s.resetLku).pending = s.pending := by
  dsimp only [State.resetLku]
  split_ands <;> simp

@[simp] theorem State.resetSeq_frame (s : State) :
    (s.resetSeq).slr = s.slr ∧ (s.resetSeq).meu = s.meu ∧ (s.resetSeq).ele = s.ele ∧
    (s.resetSeq).store = s.store ∧ (s.resetSeq).sets = s.sets ∧ (s.resetSeq).drv = s.drv ∧
    (s.resetSeq).lku = s.lku ∧ (s.resetSeq).bat = s.bat ∧ (s.resetSeq).sup = s.sup ∧
    (s.resetSeq).rpb = s.rpb ∧ (s.resetSeq).pkm = s.pkm ∧ (s.resetSeq).rpc = s.rpc ∧
    (s.resetSeq).fcu = s.fcu ∧ (s.resetSeq).lines = s.lines ∧ (s.resetSeq).part = s.part ∧
    (s.resetSeq).order = s.order ∧ (s.resetSeq).pending = s.pending := by
  dsimp only [State.resetSeq]
  split_ands <;> simp

@[simp] theorem State.resetBat_frame (s : State) :
    (s.resetBat).slr = s.slr ∧ (s.resetBat).meu = s.meu ∧ (s.resetBat).ele = s.ele ∧
    (s.resetBat).store = s.store ∧ (s.resetBat).sets = s.sets ∧ (s.resetBat).seq = s.seq ∧
    (s.resetBat).drv = s.drv ∧ (s.resetBat).lku = s.lku ∧ (s.resetBat).sup = s.sup ∧
    (s.resetBat).rpb = s.rpb ∧ (s.resetBat).pkm = s.pkm ∧ (s.resetBat).rpc = s.rpc ∧
    (s.resetBat).fcu = s.fcu ∧ (s.resetBat).lines = s.lines ∧ (s.resetBat).part = s.part ∧
    (s.resetBat).order = s.order ∧ (s.resetBat).pending = s.pending := by
  dsimp only [State.resetBat]
  split_ands <;> (repeat' split) <;> simp

@[simp] theorem State.resetViews_frame (s : State) :
    (s.resetViews).slr = s.slr ∧ (s.resetViews).meu = s.meu ∧ (s.resetViews).ele = s.ele ∧
    (s.resetViews).store = s.store ∧ (s.resetViews).sets = s.sets ∧ (s.resetViews).seq = s.seq ∧
    (s.resetViews).drv = s.drv ∧ (s.resetViews).lku = s.lku ∧ (s.resetViews).bat = s.bat ∧
    (s.resetViews).rpb = s.rpb ∧ (s.resetViews).pkm = s.pkm ∧ (s.resetViews).fcu = s.fcu ∧
    (s.resetViews).lines = s.lines ∧ (s.resetViews).part = s.part ∧
    (s.resetViews).order = s.order ∧ (s.resetViews).pending = s.pending := by
  dsimp only [State.resetViews]
  split_ands <;> simp

@[simp] theorem State.resetAsserted_frame (s : State) :
    (s.resetAsserted).slr = s.slr ∧ (s.resetAsserted).meu = s.meu ∧
    (s.resetAsserted).ele = s.ele ∧ (s.resetAsserted).store = s.store ∧
    (s.resetAsserted).sets = s.sets ∧ (s.resetAsserted).seq = s.seq ∧
    (s.resetAsserted).drv = s.drv ∧ (s.resetAsserted).lku = s.lku ∧
    (s.resetAsserted).bat = s.bat ∧ (s.resetAsserted).sup = s.sup ∧
    (s.resetAsserted).rpb = s.rpb ∧ (s.resetAsserted).pkm = s.pkm ∧
    (s.resetAsserted).rpc = s.rpc ∧ (s.resetAsserted).fcu = s.fcu ∧
    (s.resetAsserted).order = s.order ∧ (s.resetAsserted).pending = s.pending := by
  dsimp only [State.resetAsserted]
  split_ands <;> (repeat' split) <;> simp

/-! ## Operations of Machine/Radio.lean -/

@[simp] theorem State.intakeOffer_frame (e : IntakeEntry) (s : State) :
    (s.intakeOffer e).slr = s.slr ∧ (s.intakeOffer e).meu = s.meu ∧
    (s.intakeOffer e).ele = s.ele ∧ (s.intakeOffer e).store = s.store ∧
    (s.intakeOffer e).sets = s.sets ∧ (s.intakeOffer e).seq = s.seq ∧
    (s.intakeOffer e).drv = s.drv ∧ (s.intakeOffer e).lku = s.lku ∧
    (s.intakeOffer e).bat = s.bat ∧ (s.intakeOffer e).sup = s.sup ∧
    (s.intakeOffer e).rpb = s.rpb ∧ (s.intakeOffer e).pkm = s.pkm ∧
    (s.intakeOffer e).rpc = s.rpc ∧ (s.intakeOffer e).lines = s.lines ∧
    (s.intakeOffer e).part = s.part ∧ (s.intakeOffer e).order = s.order ∧
    (s.intakeOffer e).pending = s.pending := by
  dsimp only [State.intakeOffer]
  split_ands <;> (repeat' split) <;> simp

@[simp] theorem State.setRx_frame (p : Port) (r : Receiver) (s : State) :
    (s.setRx p r).slr = s.slr ∧ (s.setRx p r).meu = s.meu ∧ (s.setRx p r).ele = s.ele ∧
    (s.setRx p r).store = s.store ∧ (s.setRx p r).sets = s.sets ∧ (s.setRx p r).seq = s.seq ∧
    (s.setRx p r).drv = s.drv ∧ (s.setRx p r).lku = s.lku ∧ (s.setRx p r).bat = s.bat ∧
    (s.setRx p r).sup = s.sup ∧ (s.setRx p r).rpb = s.rpb ∧ (s.setRx p r).pkm = s.pkm ∧
    (s.setRx p r).rpc = s.rpc ∧ (s.setRx p r).lines = s.lines ∧ (s.setRx p r).part = s.part ∧
    (s.setRx p r).order = s.order ∧ (s.setRx p r).pending = s.pending := by
  dsimp only [State.setRx]
  split_ands <;> split <;> simp

@[simp] theorem State.badFrame_frame (p : Port) (s : State) :
    (s.badFrame p).slr = s.slr ∧ (s.badFrame p).meu = s.meu ∧ (s.badFrame p).ele = s.ele ∧
    (s.badFrame p).store = s.store ∧ (s.badFrame p).sets = s.sets ∧ (s.badFrame p).seq = s.seq ∧
    (s.badFrame p).drv = s.drv ∧ (s.badFrame p).lku = s.lku ∧ (s.badFrame p).bat = s.bat ∧
    (s.badFrame p).sup = s.sup ∧ (s.badFrame p).rpb = s.rpb ∧ (s.badFrame p).pkm = s.pkm ∧
    (s.badFrame p).rpc = s.rpc ∧ (s.badFrame p).lines = s.lines ∧ (s.badFrame p).part = s.part ∧
    (s.badFrame p).order = s.order ∧ (s.badFrame p).pending = s.pending := by
  dsimp only [State.badFrame]
  split_ands <;> (repeat' split) <;> simp

@[simp] theorem State.takeAnswer_frame (p : Purpose) (rec : Option (Area × Nat)) (f : Frame) (s : State) :
    (s.takeAnswer p rec f).meu = s.meu ∧ (s.takeAnswer p rec f).ele = s.ele ∧
    (s.takeAnswer p rec f).store = s.store ∧ (s.takeAnswer p rec f).sets = s.sets ∧
    (s.takeAnswer p rec f).seq = s.seq ∧ (s.takeAnswer p rec f).drv = s.drv ∧
    (s.takeAnswer p rec f).lku = s.lku ∧ (s.takeAnswer p rec f).lines = s.lines ∧
    (s.takeAnswer p rec f).part = s.part ∧ (s.takeAnswer p rec f).order = s.order ∧
    (s.takeAnswer p rec f).pending = s.pending := by
  dsimp only [State.takeAnswer]
  split_ands <;> simp

@[simp] theorem State.answerPoll_frame (s : State) :
    (s.answerPoll).meu = s.meu ∧ (s.answerPoll).ele = s.ele ∧ (s.answerPoll).store = s.store ∧
    (s.answerPoll).sets = s.sets ∧ (s.answerPoll).seq = s.seq ∧ (s.answerPoll).drv = s.drv ∧
    (s.answerPoll).lku = s.lku ∧ (s.answerPoll).lines = s.lines ∧ (s.answerPoll).part = s.part ∧
    (s.answerPoll).order = s.order ∧ (s.answerPoll).pending = s.pending := by
  dsimp only [State.answerPoll]
  split_ands <;> (repeat' split) <;> simp

@[simp] theorem State.pollTaken_frame (payload : List Byte) (s : State) :
    (s.pollTaken payload).meu = s.meu ∧ (s.pollTaken payload).ele = s.ele ∧
    (s.pollTaken payload).store = s.store ∧ (s.pollTaken payload).sets = s.sets ∧
    (s.pollTaken payload).seq = s.seq ∧ (s.pollTaken payload).drv = s.drv ∧
    (s.pollTaken payload).lku = s.lku ∧ (s.pollTaken payload).lines = s.lines ∧
    (s.pollTaken payload).part = s.part ∧ (s.pollTaken payload).order = s.order ∧
    (s.pollTaken payload).pending = s.pending := by
  dsimp only [State.pollTaken]
  split_ands <;> (repeat' split) <;> simp

@[simp] theorem State.sortRadio_frame (f : Frame) (s : State) :
    (s.sortRadio f).meu = s.meu ∧ (s.sortRadio f).ele = s.ele ∧ (s.sortRadio f).store = s.store ∧
    (s.sortRadio f).sets = s.sets ∧ (s.sortRadio f).seq = s.seq ∧ (s.sortRadio f).drv = s.drv ∧
    (s.sortRadio f).lku = s.lku ∧ (s.sortRadio f).lines = s.lines ∧
    (s.sortRadio f).part = s.part ∧ (s.sortRadio f).order = s.order ∧
    (s.sortRadio f).pending = s.pending := by
  dsimp only [State.sortRadio]
  split_ands <;> (repeat' split) <;> simp

@[simp] theorem State.sortLocal_frame (f : Frame) (s : State) :
    (s.sortLocal f).slr = s.slr ∧ (s.sortLocal f).meu = s.meu ∧ (s.sortLocal f).ele = s.ele ∧
    (s.sortLocal f).store = s.store ∧ (s.sortLocal f).sets = s.sets ∧
    (s.sortLocal f).seq = s.seq ∧ (s.sortLocal f).drv = s.drv ∧ (s.sortLocal f).lku = s.lku ∧
    (s.sortLocal f).bat = s.bat ∧ (s.sortLocal f).sup = s.sup ∧ (s.sortLocal f).rpb = s.rpb ∧
    (s.sortLocal f).rpc = s.rpc ∧ (s.sortLocal f).lines = s.lines ∧
    (s.sortLocal f).part = s.part ∧ (s.sortLocal f).order = s.order ∧
    (s.sortLocal f).pending = s.pending := by
  dsimp only [State.sortLocal]
  split_ands <;> (repeat' split) <;> simp

@[simp] theorem State.frameEnded_frame (p : Port) (r : Reception) (s : State) :
    (s.frameEnded p r).meu = s.meu ∧ (s.frameEnded p r).ele = s.ele ∧
    (s.frameEnded p r).store = s.store ∧ (s.frameEnded p r).sets = s.sets ∧
    (s.frameEnded p r).seq = s.seq ∧ (s.frameEnded p r).drv = s.drv ∧
    (s.frameEnded p r).lku = s.lku ∧ (s.frameEnded p r).lines = s.lines ∧
    (s.frameEnded p r).part = s.part ∧ (s.frameEnded p r).order = s.order ∧
    (s.frameEnded p r).pending = s.pending := by
  dsimp only [State.frameEnded]
  split_ands <;> (repeat' split) <;> simp

@[simp] theorem State.windowExpired_frame (s : State) :
    (s.windowExpired).slr = s.slr ∧ (s.windowExpired).meu = s.meu ∧
    (s.windowExpired).ele = s.ele ∧ (s.windowExpired).store = s.store ∧
    (s.windowExpired).sets = s.sets ∧ (s.windowExpired).seq = s.seq ∧
    (s.windowExpired).drv = s.drv ∧ (s.windowExpired).lku = s.lku ∧
    (s.windowExpired).rpb = s.rpb ∧ (s.windowExpired).pkm = s.pkm ∧
    (s.windowExpired).fcu = s.fcu ∧ (s.windowExpired).lines = s.lines ∧
    (s.windowExpired).part = s.part ∧ (s.windowExpired).order = s.order ∧
    (s.windowExpired).pending = s.pending := by
  dsimp only [State.windowExpired]
  split_ands <;> (repeat' split) <;> simp

@[simp] theorem State.keyExpired_frame (s : State) :
    (s.keyExpired).slr = s.slr ∧ (s.keyExpired).meu = s.meu ∧ (s.keyExpired).ele = s.ele ∧
    (s.keyExpired).store = s.store ∧ (s.keyExpired).sets = s.sets ∧ (s.keyExpired).seq = s.seq ∧
    (s.keyExpired).drv = s.drv ∧ (s.keyExpired).lku = s.lku ∧ (s.keyExpired).bat = s.bat ∧
    (s.keyExpired).sup = s.sup ∧ (s.keyExpired).rpb = s.rpb ∧ (s.keyExpired).pkm = s.pkm ∧
    (s.keyExpired).fcu = s.fcu ∧ (s.keyExpired).lines = s.lines ∧ (s.keyExpired).part = s.part ∧
    (s.keyExpired).order = s.order ∧ (s.keyExpired).pending = s.pending := by
  dsimp only [State.keyExpired]
  split_ands <;> (repeat' split) <;> simp

@[simp] theorem State.markSent_frame (id : Nat) (s : State) :
    (s.markSent id).slr = s.slr ∧ (s.markSent id).meu = s.meu ∧ (s.markSent id).ele = s.ele ∧
    (s.markSent id).store = s.store ∧ (s.markSent id).sets = s.sets ∧
    (s.markSent id).seq = s.seq ∧ (s.markSent id).drv = s.drv ∧ (s.markSent id).lku = s.lku ∧
    (s.markSent id).bat = s.bat ∧ (s.markSent id).sup = s.sup ∧ (s.markSent id).rpb = s.rpb ∧
    (s.markSent id).fcu = s.fcu ∧ (s.markSent id).lines = s.lines ∧
    (s.markSent id).part = s.part ∧ (s.markSent id).order = s.order ∧
    (s.markSent id).pending = s.pending := by
  dsimp only [State.markSent]
  split_ands <;> (repeat' split) <;> simp

@[simp] theorem State.settleRecord_frame (a : Answer) (s : State) :
    (s.settleRecord a).slr = s.slr ∧ (s.settleRecord a).meu = s.meu ∧
    (s.settleRecord a).ele = s.ele ∧ (s.settleRecord a).store = s.store ∧
    (s.settleRecord a).sets = s.sets ∧ (s.settleRecord a).seq = s.seq ∧
    (s.settleRecord a).drv = s.drv ∧ (s.settleRecord a).lku = s.lku ∧
    (s.settleRecord a).bat = s.bat ∧ (s.settleRecord a).sup = s.sup ∧
    (s.settleRecord a).rpb = s.rpb ∧ (s.settleRecord a).fcu = s.fcu ∧
    (s.settleRecord a).lines = s.lines ∧ (s.settleRecord a).part = s.part ∧
    (s.settleRecord a).order = s.order ∧ (s.settleRecord a).pending = s.pending := by
  dsimp only [State.settleRecord]
  split_ands <;> (repeat' split) <;> simp

@[simp] theorem State.countSent_frame (p : Purpose) (s : State) :
    (s.countSent p).slr = s.slr ∧ (s.countSent p).meu = s.meu ∧ (s.countSent p).ele = s.ele ∧
    (s.countSent p).store = s.store ∧ (s.countSent p).sets = s.sets ∧
    (s.countSent p).seq = s.seq ∧ (s.countSent p).drv = s.drv ∧ (s.countSent p).lku = s.lku ∧
    (s.countSent p).bat = s.bat ∧ (s.countSent p).sup = s.sup ∧ (s.countSent p).rpb = s.rpb ∧
    (s.countSent p).pkm = s.pkm ∧ (s.countSent p).fcu = s.fcu ∧ (s.countSent p).lines = s.lines ∧
    (s.countSent p).part = s.part ∧ (s.countSent p).order = s.order ∧
    (s.countSent p).pending = s.pending := by
  dsimp only [State.countSent]
  split_ands <;> (repeat' split) <;> simp

@[simp] theorem State.frameSent_frame (s : State) :
    (s.frameSent).slr = s.slr ∧ (s.frameSent).meu = s.meu ∧ (s.frameSent).ele = s.ele ∧
    (s.frameSent).store = s.store ∧ (s.frameSent).sets = s.sets ∧ (s.frameSent).seq = s.seq ∧
    (s.frameSent).drv = s.drv ∧ (s.frameSent).lku = s.lku ∧ (s.frameSent).rpb = s.rpb ∧
    (s.frameSent).fcu = s.fcu ∧ (s.frameSent).lines = s.lines ∧ (s.frameSent).part = s.part ∧
    (s.frameSent).order = s.order ∧ (s.frameSent).pending = s.pending := by
  dsimp only [State.frameSent]
  split_ands <;> (repeat' split) <;> simp

@[simp] theorem State.holdoffExpired_frame (s : State) :
    (s.holdoffExpired).meu = s.meu ∧ (s.holdoffExpired).ele = s.ele ∧
    (s.holdoffExpired).store = s.store ∧ (s.holdoffExpired).sets = s.sets ∧
    (s.holdoffExpired).seq = s.seq ∧ (s.holdoffExpired).drv = s.drv ∧
    (s.holdoffExpired).lku = s.lku ∧ (s.holdoffExpired).lines = s.lines ∧
    (s.holdoffExpired).part = s.part ∧ (s.holdoffExpired).order = s.order ∧
    (s.holdoffExpired).pending = s.pending := by
  dsimp only [State.holdoffExpired]
  split_ands <;> (repeat' split) <;> simp

@[simp] theorem State.confirmExpired_frame (s : State) :
    (s.confirmExpired).slr = s.slr ∧ (s.confirmExpired).meu = s.meu ∧
    (s.confirmExpired).ele = s.ele ∧ (s.confirmExpired).store = s.store ∧
    (s.confirmExpired).sets = s.sets ∧ (s.confirmExpired).seq = s.seq ∧
    (s.confirmExpired).drv = s.drv ∧ (s.confirmExpired).lku = s.lku ∧
    (s.confirmExpired).bat = s.bat ∧ (s.confirmExpired).sup = s.sup ∧
    (s.confirmExpired).rpb = s.rpb ∧ (s.confirmExpired).fcu = s.fcu ∧
    (s.confirmExpired).lines = s.lines ∧ (s.confirmExpired).part = s.part ∧
    (s.confirmExpired).order = s.order ∧ (s.confirmExpired).pending = s.pending := by
  dsimp only [State.confirmExpired]
  split_ands <;> (repeat' split) <;> simp

/-! ## Operations of Machine/Commands.lean -/

@[simp] theorem State.markOutstanding_frame (e : IntakeEntry) (s : State) :
    (s.markOutstanding e).meu = s.meu ∧ (s.markOutstanding e).ele = s.ele ∧
    (s.markOutstanding e).store = s.store ∧ (s.markOutstanding e).sets = s.sets ∧
    (s.markOutstanding e).seq = s.seq ∧ (s.markOutstanding e).drv = s.drv ∧
    (s.markOutstanding e).lku = s.lku ∧ (s.markOutstanding e).bat = s.bat ∧
    (s.markOutstanding e).sup = s.sup ∧ (s.markOutstanding e).rpb = s.rpb ∧
    (s.markOutstanding e).pkm = s.pkm ∧ (s.markOutstanding e).rpc = s.rpc ∧
    (s.markOutstanding e).lines = s.lines ∧ (s.markOutstanding e).part = s.part ∧
    (s.markOutstanding e).order = s.order ∧ (s.markOutstanding e).pending = s.pending := by
  dsimp only [State.markOutstanding]
  split_ands <;> (repeat' split) <;> simp

@[simp] theorem State.setDecimation_frame (d : Nat) (s : State) :
    (s.setDecimation d).meu = s.meu ∧ (s.setDecimation d).ele = s.ele ∧
    (s.setDecimation d).store = s.store ∧ (s.setDecimation d).sets = s.sets ∧
    (s.setDecimation d).seq = s.seq ∧ (s.setDecimation d).drv = s.drv ∧
    (s.setDecimation d).lku = s.lku ∧ (s.setDecimation d).bat = s.bat ∧
    (s.setDecimation d).sup = s.sup ∧ (s.setDecimation d).rpb = s.rpb ∧
    (s.setDecimation d).pkm = s.pkm ∧ (s.setDecimation d).rpc = s.rpc ∧
    (s.setDecimation d).fcu = s.fcu ∧ (s.setDecimation d).lines = s.lines ∧
    (s.setDecimation d).part = s.part ∧ (s.setDecimation d).order = s.order ∧
    (s.setDecimation d).pending = s.pending := by
  dsimp only [State.setDecimation]
  split_ands <;> (repeat' split) <;> simp

@[simp] theorem State.pendSelection_frame (g : Nat) (s : State) :
    (s.pendSelection g).meu = s.meu ∧ (s.pendSelection g).ele = s.ele ∧
    (s.pendSelection g).seq = s.seq ∧ (s.pendSelection g).drv = s.drv ∧
    (s.pendSelection g).bat = s.bat ∧ (s.pendSelection g).sup = s.sup ∧
    (s.pendSelection g).rpb = s.rpb ∧ (s.pendSelection g).rpc = s.rpc ∧
    (s.pendSelection g).lines = s.lines ∧ (s.pendSelection g).part = s.part ∧
    (s.pendSelection g).order = s.order ∧ (s.pendSelection g).pending = s.pending := by
  dsimp only [State.pendSelection]
  split_ands <;> (repeat' split) <;> simp

@[simp] theorem State.clearGroup_frame (slot : Nat) (r : Option Reply) (s : State) :
    (s.clearGroup slot r).slr = s.slr ∧ (s.clearGroup slot r).meu = s.meu ∧
    (s.clearGroup slot r).ele = s.ele ∧ (s.clearGroup slot r).sets = s.sets ∧
    (s.clearGroup slot r).seq = s.seq ∧ (s.clearGroup slot r).drv = s.drv ∧
    (s.clearGroup slot r).lku = s.lku ∧ (s.clearGroup slot r).bat = s.bat ∧
    (s.clearGroup slot r).sup = s.sup ∧ (s.clearGroup slot r).rpb = s.rpb ∧
    (s.clearGroup slot r).rpc = s.rpc ∧ (s.clearGroup slot r).lines = s.lines ∧
    (s.clearGroup slot r).part = s.part ∧ (s.clearGroup slot r).order = s.order ∧
    (s.clearGroup slot r).pending = s.pending := by
  dsimp only [State.clearGroup]
  split_ands <;> (repeat' split) <;> simp

/-! ## Operations of Machine/Arrivals.lean -/

@[simp] theorem State.tripMonitorEnd_frame (s : State) :
    (s.tripMonitorEnd).meu = s.meu ∧ (s.tripMonitorEnd).lines = s.lines ∧
    (s.tripMonitorEnd).part = s.part ∧ (s.tripMonitorEnd).order = s.order ∧
    (s.tripMonitorEnd).pending = s.pending := by
  dsimp only [State.tripMonitorEnd]
  split_ands <;> (repeat' split) <;> simp

@[simp] theorem State.closeMonitorEnd_frame (s : State) :
    (s.closeMonitorEnd).meu = s.meu ∧ (s.closeMonitorEnd).lines = s.lines ∧
    (s.closeMonitorEnd).part = s.part ∧ (s.closeMonitorEnd).order = s.order ∧
    (s.closeMonitorEnd).pending = s.pending := by
  dsimp only [State.closeMonitorEnd]
  split_ands <;> (repeat' split) <;> simp

@[simp] theorem State.countdownEnd_frame (crew : Nat) (s : State) :
    (s.countdownEnd crew).slr = s.slr ∧ (s.countdownEnd crew).meu = s.meu ∧
    (s.countdownEnd crew).ele = s.ele ∧ (s.countdownEnd crew).sets = s.sets ∧
    (s.countdownEnd crew).seq = s.seq ∧ (s.countdownEnd crew).drv = s.drv ∧
    (s.countdownEnd crew).bat = s.bat ∧ (s.countdownEnd crew).sup = s.sup ∧
    (s.countdownEnd crew).rpb = s.rpb ∧ (s.countdownEnd crew).pkm = s.pkm ∧
    (s.countdownEnd crew).rpc = s.rpc ∧ (s.countdownEnd crew).fcu = s.fcu ∧
    (s.countdownEnd crew).lines = s.lines ∧ (s.countdownEnd crew).part = s.part ∧
    (s.countdownEnd crew).order = s.order ∧ (s.countdownEnd crew).pending = s.pending := by
  dsimp only [State.countdownEnd]
  split_ands <;> (repeat' split) <;> simp

@[simp] theorem State.sendIfPending_frame (before : Disconnect) (s : State) :
    (s.sendIfPending before).meu = s.meu ∧ (s.sendIfPending before).lines = s.lines ∧
    (s.sendIfPending before).part = s.part ∧ (s.sendIfPending before).order = s.order ∧
    (s.sendIfPending before).pending = s.pending := by
  dsimp only [State.sendIfPending]
  split_ands <;> (repeat' split) <;> simp

@[simp] theorem State.secondEnd_frame (s : State) :
    (s.secondEnd).meu = s.meu ∧ (s.secondEnd).lines = s.lines ∧ (s.secondEnd).part = s.part ∧
    (s.secondEnd).order = s.order ∧ (s.secondEnd).pending = s.pending := by
  dsimp only [State.secondEnd]
  split_ands <;> simp

@[simp] theorem State.hourEnd_frame (s : State) :
    (s.hourEnd).meu = s.meu ∧ (s.hourEnd).ele = s.ele ∧ (s.hourEnd).store = s.store ∧
    (s.hourEnd).sets = s.sets ∧ (s.hourEnd).seq = s.seq ∧ (s.hourEnd).drv = s.drv ∧
    (s.hourEnd).lku = s.lku ∧ (s.hourEnd).bat = s.bat ∧ (s.hourEnd).sup = s.sup ∧
    (s.hourEnd).lines = s.lines ∧ (s.hourEnd).part = s.part ∧ (s.hourEnd).order = s.order ∧
    (s.hourEnd).pending = s.pending := by
  dsimp only [State.hourEnd]
  split_ands <;> (repeat' split) <;> simp

/-! ## Resets -/

/-- A reset touches neither the pins, the free orders nor the queue. -/
@[simp] theorem State.resetBlocks_frame (s : State) :
    s.resetBlocks.lines = s.lines ∧ s.resetBlocks.part = s.part ∧
    s.resetBlocks.order = s.order ∧ s.resetBlocks.pending = s.pending := by
  simp [State.resetBlocks]

@[simp] theorem State.startPart_frame (c : ResetCause) (s : State) :
    (s.startPart c).meu = s.meu ∧ (s.startPart c).ele = s.ele ∧ (s.startPart c).drv = s.drv ∧
    (s.startPart c).lines = s.lines ∧ (s.startPart c).order = s.order ∧
    (s.startPart c).pending = s.pending := by
  simp [State.startPart]

@[simp] theorem State.resetAs_frame (c : ResetCause) (s : State) :
    (s.resetAs c).lines = s.lines ∧ (s.resetAs c).order = s.order ∧
    (s.resetAs c).pending = s.pending := by
  simp [State.resetAs]

@[simp] theorem State.resetTaken_frame (s : State) :
    s.resetTaken.lines = s.lines ∧ s.resetTaken.order = s.order ∧
    s.resetTaken.pending = s.pending := by
  dsimp only [State.resetTaken]
  split_ands <;> split <;> simp

@[simp] theorem State.resetReleased_frame (s : State) :
    s.resetReleased.order = s.order ∧ s.resetReleased.pending = s.pending := by
  dsimp only [State.resetReleased]
  split_ands <;> split <;> simp

@[simp] theorem State.powerRise_frame (s : State) :
    s.powerRise.lines = s.lines ∧ s.powerRise.order = s.order ∧
    s.powerRise.pending = s.pending := by
  simp [State.powerRise]

@[simp] theorem State.powerGone_frame (s : State) :
    s.powerGone.lines = s.lines ∧ s.powerGone.order = s.order ∧
    s.powerGone.pending = s.pending := by
  simp [State.powerGone]

/-! ## Time -/

/-- Ticks of 100 µs move the silence timer and the receivers' byte gaps only. -/
@[simp] theorem State.countTicks_frame (n : Nat) (s : State) :
    (s.countTicks n).meu = s.meu ∧ (s.countTicks n).ele = s.ele ∧ (s.countTicks n).store = s.store ∧
    (s.countTicks n).sets = s.sets ∧ (s.countTicks n).seq = s.seq ∧ (s.countTicks n).drv = s.drv ∧
    (s.countTicks n).lku = s.lku ∧ (s.countTicks n).bat = s.bat ∧ (s.countTicks n).sup = s.sup ∧
    (s.countTicks n).rpb = s.rpb ∧ (s.countTicks n).pkm = s.pkm ∧ (s.countTicks n).rpc = s.rpc ∧
    (s.countTicks n).lines = s.lines ∧ (s.countTicks n).part = s.part ∧
    (s.countTicks n).order = s.order ∧ (s.countTicks n).pending = s.pending := by
  simp [State.countTicks]

/-- Milliseconds move the other timers only. -/
@[simp] theorem State.countMs_frame (k : Nat) (s : State) :
    (s.countMs k).slr = s.slr ∧ (s.countMs k).meu = s.meu ∧ (s.countMs k).ele = s.ele ∧
    (s.countMs k).sets = s.sets ∧ (s.countMs k).sup = s.sup ∧ (s.countMs k).pkm = s.pkm ∧
    (s.countMs k).lines = s.lines ∧ (s.countMs k).order = s.order ∧
    (s.countMs k).pending = s.pending := by
  simp [State.countMs]

/-- Elapsed time moves timers only: the measurement, the elements, the settings, the arbiter, the
packet memory, the pins, the free orders and the queue stay. -/
@[simp] theorem State.elapse_frame (k : Nat) (s : State) :
    (s.elapse k).meu = s.meu ∧ (s.elapse k).ele = s.ele ∧ (s.elapse k).sets = s.sets ∧
    (s.elapse k).sup = s.sup ∧ (s.elapse k).pkm = s.pkm ∧ (s.elapse k).lines = s.lines ∧
    (s.elapse k).order = s.order ∧ (s.elapse k).pending = s.pending := by
  simp [State.elapse]

@[simp] theorem State.tick_frame (s : State) :
    s.tick.meu = s.meu ∧ s.tick.ele = s.ele ∧ s.tick.sets = s.sets ∧ s.tick.sup = s.sup ∧
    s.tick.pkm = s.pkm ∧ s.tick.lines = s.lines ∧ s.tick.order = s.order ∧
    s.tick.pending = s.pending := by
  dsimp only [State.tick]
  split_ands <;> split <;> simp

@[simp] theorem State.partSecond_frame (s : State) :
    s.partSecond.meu = s.meu ∧ s.partSecond.ele = s.ele ∧ s.partSecond.sets = s.sets ∧
    s.partSecond.pkm = s.pkm ∧ s.partSecond.lines = s.lines ∧ s.partSecond.order = s.order ∧
    s.partSecond.pending = s.pending := by
  dsimp only [State.partSecond]
  split_ands <;> split <;> simp

end Sys2Proof.Machine
end

