-- ==== Sys2Proof/Laws/Fields.lean ====
section
/-! SUPPORT. The fields that an operation leaves unchanged inside the blocks it touches: the sensor
link, the store, the frame and command unit, packet memory and the crew lockout. Each lemma is a
conjunction that simp takes apart. -/

namespace Sys2Proof.Machine

/-! ## Operations of Machine/Local.lean -/

@[simp] theorem State.addDropped_slr_fields (n : Nat) (s : State) :
    (s.addDropped n).slr.link = s.slr.link ∧
    (s.addDropped n).slr.consecMissing = s.slr.consecMissing ∧
    (s.addDropped n).slr.totalMissing = s.slr.totalMissing ∧
    (s.addDropped n).slr.lastSeq = s.slr.lastSeq ∧
    (s.addDropped n).slr.gapCount = s.slr.gapCount ∧
    (s.addDropped n).slr.lastGood = s.slr.lastGood ∧
    (s.addDropped n).slr.silenceLeft = s.slr.silenceLeft ∧
    (s.addDropped n).slr.runPos = s.slr.runPos ∧
    (s.addDropped n).slr.prevPosition = s.slr.prevPosition ∧
    (s.addDropped n).slr.prevHandle = s.slr.prevHandle ∧
    (s.addDropped n).slr.prevReady = s.slr.prevReady ∧
    (s.addDropped n).slr.position = s.slr.position ∧ (s.addDropped n).slr.handle = s.slr.handle ∧
    (s.addDropped n).slr.ready = s.slr.ready ∧
    (s.addDropped n).slr.decimation = s.slr.decimation ∧
    (s.addDropped n).slr.takeCount = s.slr.takeCount ∧ (s.addDropped n).slr.batch = s.slr.batch := by
  dsimp only [State.addDropped]
  split_ands <;> simp

@[simp] theorem State.localPut_slr_fields (i : LocalItem) (s : State) :
    (s.localPut i).slr.link = s.slr.link ∧
    (s.localPut i).slr.consecMissing = s.slr.consecMissing ∧
    (s.localPut i).slr.totalMissing = s.slr.totalMissing ∧
    (s.localPut i).slr.lastSeq = s.slr.lastSeq ∧ (s.localPut i).slr.gapCount = s.slr.gapCount ∧
    (s.localPut i).slr.lastGood = s.slr.lastGood ∧
    (s.localPut i).slr.silenceLeft = s.slr.silenceLeft ∧
    (s.localPut i).slr.runPos = s.slr.runPos ∧
    (s.localPut i).slr.prevPosition = s.slr.prevPosition ∧
    (s.localPut i).slr.prevHandle = s.slr.prevHandle ∧
    (s.localPut i).slr.prevReady = s.slr.prevReady ∧
    (s.localPut i).slr.position = s.slr.position ∧ (s.localPut i).slr.handle = s.slr.handle ∧
    (s.localPut i).slr.ready = s.slr.ready ∧ (s.localPut i).slr.decimation = s.slr.decimation ∧
    (s.localPut i).slr.takeCount = s.slr.takeCount ∧ (s.localPut i).slr.batch = s.slr.batch := by
  dsimp only [State.localPut]
  split_ands <;> (repeat' split) <;> simp

@[simp] theorem State.localPut_fcu_fields (i : LocalItem) (s : State) :
    (s.localPut i).fcu.rxRadio = s.fcu.rxRadio ∧ (s.localPut i).fcu.rxLocal = s.fcu.rxLocal ∧
    (s.localPut i).fcu.intake = s.fcu.intake ∧ (s.localPut i).fcu.outRadio = s.fcu.outRadio ∧
    (s.localPut i).fcu.outLocal = s.fcu.outLocal ∧ (s.localPut i).fcu.badRadio = s.fcu.badRadio ∧
    (s.localPut i).fcu.badLocal = s.fcu.badLocal ∧ (s.localPut i).fcu.dropRadio = s.fcu.dropRadio ∧
    (s.localPut i).fcu.dropLocal = s.fcu.dropLocal ∧
    (s.localPut i).fcu.fwdDropped = s.fcu.fwdDropped ∧
    (s.localPut i).fcu.localDropped = s.fcu.localDropped ∧ (s.localPut i).fcu.time = s.fcu.time ∧
    (s.localPut i).fcu.running = s.fcu.running ∧ (s.localPut i).fcu.subMs = s.fcu.subMs ∧
    (s.localPut i).fcu.secondTick = s.fcu.secondTick := by
  dsimp only [State.localPut]
  split_ands <;> (repeat' split) <;> simp

@[simp] theorem State.localReserve_slr_fields (s : State) :
    (s.localReserve).slr.link = s.slr.link ∧
    (s.localReserve).slr.consecMissing = s.slr.consecMissing ∧
    (s.localReserve).slr.totalMissing = s.slr.totalMissing ∧
    (s.localReserve).slr.lastSeq = s.slr.lastSeq ∧
    (s.localReserve).slr.gapCount = s.slr.gapCount ∧
    (s.localReserve).slr.lastGood = s.slr.lastGood ∧
    (s.localReserve).slr.silenceLeft = s.slr.silenceLeft ∧
    (s.localReserve).slr.runPos = s.slr.runPos ∧
    (s.localReserve).slr.prevPosition = s.slr.prevPosition ∧
    (s.localReserve).slr.prevHandle = s.slr.prevHandle ∧
    (s.localReserve).slr.prevReady = s.slr.prevReady ∧
    (s.localReserve).slr.position = s.slr.position ∧ (s.localReserve).slr.handle = s.slr.handle ∧
    (s.localReserve).slr.ready = s.slr.ready ∧
    (s.localReserve).slr.decimation = s.slr.decimation ∧
    (s.localReserve).slr.takeCount = s.slr.takeCount ∧ (s.localReserve).slr.batch = s.slr.batch := by
  dsimp only [State.localReserve]
  split_ands <;> simp

@[simp] theorem State.localReserve_fcu_fields (s : State) :
    (s.localReserve).fcu.rxRadio = s.fcu.rxRadio ∧ (s.localReserve).fcu.rxLocal = s.fcu.rxLocal ∧
    (s.localReserve).fcu.intake = s.fcu.intake ∧ (s.localReserve).fcu.outRadio = s.fcu.outRadio ∧
    (s.localReserve).fcu.outLocal = s.fcu.outLocal ∧
    (s.localReserve).fcu.badRadio = s.fcu.badRadio ∧
    (s.localReserve).fcu.badLocal = s.fcu.badLocal ∧
    (s.localReserve).fcu.dropRadio = s.fcu.dropRadio ∧
    (s.localReserve).fcu.dropLocal = s.fcu.dropLocal ∧
    (s.localReserve).fcu.fwdDropped = s.fcu.fwdDropped ∧
    (s.localReserve).fcu.localDropped = s.fcu.localDropped ∧
    (s.localReserve).fcu.time = s.fcu.time ∧ (s.localReserve).fcu.running = s.fcu.running ∧
    (s.localReserve).fcu.subMs = s.fcu.subMs ∧ (s.localReserve).fcu.secondTick = s.fcu.secondTick := by
  dsimp only [State.localReserve]
  split_ands <;> simp

@[simp] theorem State.localSend_slr_fields (k : LocalKind) (f : Frame) (s : State) :
    (s.localSend k f).slr.link = s.slr.link ∧
    (s.localSend k f).slr.consecMissing = s.slr.consecMissing ∧
    (s.localSend k f).slr.totalMissing = s.slr.totalMissing ∧
    (s.localSend k f).slr.lastSeq = s.slr.lastSeq ∧
    (s.localSend k f).slr.gapCount = s.slr.gapCount ∧
    (s.localSend k f).slr.lastGood = s.slr.lastGood ∧
    (s.localSend k f).slr.silenceLeft = s.slr.silenceLeft ∧
    (s.localSend k f).slr.runPos = s.slr.runPos ∧
    (s.localSend k f).slr.prevPosition = s.slr.prevPosition ∧
    (s.localSend k f).slr.prevHandle = s.slr.prevHandle ∧
    (s.localSend k f).slr.prevReady = s.slr.prevReady ∧
    (s.localSend k f).slr.position = s.slr.position ∧
    (s.localSend k f).slr.handle = s.slr.handle ∧ (s.localSend k f).slr.ready = s.slr.ready ∧
    (s.localSend k f).slr.decimation = s.slr.decimation ∧
    (s.localSend k f).slr.takeCount = s.slr.takeCount ∧
    (s.localSend k f).slr.batch = s.slr.batch := by
  dsimp only [State.localSend]
  split_ands <;> (repeat' split) <;> simp

@[simp] theorem State.localSend_fcu_fields (k : LocalKind) (f : Frame) (s : State) :
    (s.localSend k f).fcu.rxRadio = s.fcu.rxRadio ∧ (s.localSend k f).fcu.rxLocal = s.fcu.rxLocal ∧
    (s.localSend k f).fcu.intake = s.fcu.intake ∧ (s.localSend k f).fcu.outRadio = s.fcu.outRadio ∧
    (s.localSend k f).fcu.outLocal = s.fcu.outLocal ∧
    (s.localSend k f).fcu.badRadio = s.fcu.badRadio ∧
    (s.localSend k f).fcu.badLocal = s.fcu.badLocal ∧
    (s.localSend k f).fcu.dropRadio = s.fcu.dropRadio ∧
    (s.localSend k f).fcu.dropLocal = s.fcu.dropLocal ∧
    (s.localSend k f).fcu.fwdDropped = s.fcu.fwdDropped ∧ (s.localSend k f).fcu.time = s.fcu.time ∧
    (s.localSend k f).fcu.running = s.fcu.running ∧ (s.localSend k f).fcu.subMs = s.fcu.subMs ∧
    (s.localSend k f).fcu.secondTick = s.fcu.secondTick := by
  dsimp only [State.localSend]
  split_ands <;> (repeat' split) <;> simp

@[simp] theorem State.localSample_slr_fields (f : Frame) (s : State) :
    (s.localSample f).slr.link = s.slr.link ∧
    (s.localSample f).slr.consecMissing = s.slr.consecMissing ∧
    (s.localSample f).slr.totalMissing = s.slr.totalMissing ∧
    (s.localSample f).slr.lastSeq = s.slr.lastSeq ∧
    (s.localSample f).slr.gapCount = s.slr.gapCount ∧
    (s.localSample f).slr.lastGood = s.slr.lastGood ∧
    (s.localSample f).slr.silenceLeft = s.slr.silenceLeft ∧
    (s.localSample f).slr.runPos = s.slr.runPos ∧
    (s.localSample f).slr.prevPosition = s.slr.prevPosition ∧
    (s.localSample f).slr.prevHandle = s.slr.prevHandle ∧
    (s.localSample f).slr.prevReady = s.slr.prevReady ∧
    (s.localSample f).slr.position = s.slr.position ∧
    (s.localSample f).slr.handle = s.slr.handle ∧ (s.localSample f).slr.ready = s.slr.ready ∧
    (s.localSample f).slr.decimation = s.slr.decimation ∧
    (s.localSample f).slr.takeCount = s.slr.takeCount ∧
    (s.localSample f).slr.batch = s.slr.batch := by
  dsimp only [State.localSample]
  split_ands <;> (repeat' split) <;> simp

@[simp] theorem State.localSample_fcu_fields (f : Frame) (s : State) :
    (s.localSample f).fcu.rxRadio = s.fcu.rxRadio ∧ (s.localSample f).fcu.rxLocal = s.fcu.rxLocal ∧
    (s.localSample f).fcu.intake = s.fcu.intake ∧ (s.localSample f).fcu.outRadio = s.fcu.outRadio ∧
    (s.localSample f).fcu.outLocal = s.fcu.outLocal ∧
    (s.localSample f).fcu.badRadio = s.fcu.badRadio ∧
    (s.localSample f).fcu.badLocal = s.fcu.badLocal ∧
    (s.localSample f).fcu.dropRadio = s.fcu.dropRadio ∧
    (s.localSample f).fcu.dropLocal = s.fcu.dropLocal ∧
    (s.localSample f).fcu.fwdDropped = s.fcu.fwdDropped ∧
    (s.localSample f).fcu.localDropped = s.fcu.localDropped ∧
    (s.localSample f).fcu.time = s.fcu.time ∧ (s.localSample f).fcu.running = s.fcu.running ∧
    (s.localSample f).fcu.subMs = s.fcu.subMs ∧
    (s.localSample f).fcu.secondTick = s.fcu.secondTick := by
  dsimp only [State.localSample]
  split_ands <;> (repeat' split) <;> simp

@[simp] theorem State.localSent_fcu_fields (s : State) :
    (s.localSent).fcu.rxRadio = s.fcu.rxRadio ∧ (s.localSent).fcu.rxLocal = s.fcu.rxLocal ∧
    (s.localSent).fcu.intake = s.fcu.intake ∧ (s.localSent).fcu.outRadio = s.fcu.outRadio ∧
    (s.localSent).fcu.outLocal = s.fcu.outLocal ∧ (s.localSent).fcu.badRadio = s.fcu.badRadio ∧
    (s.localSent).fcu.badLocal = s.fcu.badLocal ∧ (s.localSent).fcu.dropRadio = s.fcu.dropRadio ∧
    (s.localSent).fcu.dropLocal = s.fcu.dropLocal ∧
    (s.localSent).fcu.fwdDropped = s.fcu.fwdDropped ∧
    (s.localSent).fcu.localDropped = s.fcu.localDropped ∧ (s.localSent).fcu.time = s.fcu.time ∧
    (s.localSent).fcu.running = s.fcu.running ∧ (s.localSent).fcu.subMs = s.fcu.subMs ∧
    (s.localSent).fcu.secondTick = s.fcu.secondTick := by
  dsimp only [State.localSent]
  split_ands <;> (repeat' split) <;> simp

@[simp] theorem State.appendResponse_pkm_fields (f : Frame) (s : State) :
    (s.appendResponse f).pkm.routine = s.pkm.routine ∧
    (s.appendResponse f).pkm.forward = s.pkm.forward := by
  dsimp only [State.appendResponse]
  split_ands <;> (repeat' split) <;> simp

@[simp] theorem State.appendForward_fcu_fields (f : Frame) (s : State) :
    (s.appendForward f).fcu.rxRadio = s.fcu.rxRadio ∧
    (s.appendForward f).fcu.rxLocal = s.fcu.rxLocal ∧
    (s.appendForward f).fcu.intake = s.fcu.intake ∧
    (s.appendForward f).fcu.outRadio = s.fcu.outRadio ∧
    (s.appendForward f).fcu.outLocal = s.fcu.outLocal ∧
    (s.appendForward f).fcu.localQ = s.fcu.localQ ∧
    (s.appendForward f).fcu.badRadio = s.fcu.badRadio ∧
    (s.appendForward f).fcu.badLocal = s.fcu.badLocal ∧
    (s.appendForward f).fcu.dropRadio = s.fcu.dropRadio ∧
    (s.appendForward f).fcu.dropLocal = s.fcu.dropLocal ∧
    (s.appendForward f).fcu.localDropped = s.fcu.localDropped ∧
    (s.appendForward f).fcu.time = s.fcu.time ∧ (s.appendForward f).fcu.running = s.fcu.running ∧
    (s.appendForward f).fcu.subMs = s.fcu.subMs ∧
    (s.appendForward f).fcu.secondTick = s.fcu.secondTick := by
  dsimp only [State.appendForward]
  split_ands <;> (repeat' split) <;> simp

@[simp] theorem State.appendForward_pkm_fields (f : Frame) (s : State) :
    (s.appendForward f).pkm.response = s.pkm.response ∧
    (s.appendForward f).pkm.routine = s.pkm.routine := by
  dsimp only [State.appendForward]
  split_ands <;> (repeat' split) <;> simp

@[simp] theorem State.answerWith_fcu_fields (r : Option Reply) (o : CmdOutcome) (data : List Byte) (s : State) :
    (s.answerWith r o data).fcu.rxRadio = s.fcu.rxRadio ∧
    (s.answerWith r o data).fcu.rxLocal = s.fcu.rxLocal ∧
    (s.answerWith r o data).fcu.intake = s.fcu.intake ∧
    (s.answerWith r o data).fcu.badRadio = s.fcu.badRadio ∧
    (s.answerWith r o data).fcu.badLocal = s.fcu.badLocal ∧
    (s.answerWith r o data).fcu.dropRadio = s.fcu.dropRadio ∧
    (s.answerWith r o data).fcu.dropLocal = s.fcu.dropLocal ∧
    (s.answerWith r o data).fcu.fwdDropped = s.fcu.fwdDropped ∧
    (s.answerWith r o data).fcu.localDropped = s.fcu.localDropped ∧
    (s.answerWith r o data).fcu.time = s.fcu.time ∧
    (s.answerWith r o data).fcu.running = s.fcu.running ∧
    (s.answerWith r o data).fcu.subMs = s.fcu.subMs ∧
    (s.answerWith r o data).fcu.secondTick = s.fcu.secondTick := by
  dsimp only [State.answerWith]
  split_ands <;> (repeat' split) <;> simp

@[simp] theorem State.answerWith_pkm_fields (r : Option Reply) (o : CmdOutcome) (data : List Byte) (s : State) :
    (s.answerWith r o data).pkm.routine = s.pkm.routine ∧
    (s.answerWith r o data).pkm.forward = s.pkm.forward := by
  dsimp only [State.answerWith]
  split_ands <;> (repeat' split) <;> simp

@[simp] theorem State.answer_fcu_fields (r : Option Reply) (o : CmdOutcome) (s : State) :
    (s.answer r o).fcu.rxRadio = s.fcu.rxRadio ∧ (s.answer r o).fcu.rxLocal = s.fcu.rxLocal ∧
    (s.answer r o).fcu.intake = s.fcu.intake ∧ (s.answer r o).fcu.badRadio = s.fcu.badRadio ∧
    (s.answer r o).fcu.badLocal = s.fcu.badLocal ∧ (s.answer r o).fcu.dropRadio = s.fcu.dropRadio ∧
    (s.answer r o).fcu.dropLocal = s.fcu.dropLocal ∧
    (s.answer r o).fcu.fwdDropped = s.fcu.fwdDropped ∧
    (s.answer r o).fcu.localDropped = s.fcu.localDropped ∧ (s.answer r o).fcu.time = s.fcu.time ∧
    (s.answer r o).fcu.running = s.fcu.running ∧ (s.answer r o).fcu.subMs = s.fcu.subMs ∧
    (s.answer r o).fcu.secondTick = s.fcu.secondTick := by
  dsimp only [State.answer]
  split_ands <;> simp

@[simp] theorem State.answer_pkm_fields (r : Option Reply) (o : CmdOutcome) (s : State) :
    (s.answer r o).pkm.routine = s.pkm.routine ∧ (s.answer r o).pkm.forward = s.pkm.forward := by
  dsimp only [State.answer]
  split_ands <;> simp

/-! ## Operations of Machine/Channel.lean -/

@[simp] theorem State.setUrgent_pkm_fields (q : List Report) (s : State) :
    (s.setUrgent q).pkm.response = s.pkm.response ∧ (s.setUrgent q).pkm.routine = s.pkm.routine ∧
    (s.setUrgent q).pkm.forward = s.pkm.forward := by
  dsimp only [State.setUrgent]
  split_ands <;> (repeat' split) <;> simp

@[simp] theorem State.acknowledge_pkm_fields (n : Nat) (s : State) :
    (s.acknowledge n).pkm.response = s.pkm.response ∧
    (s.acknowledge n).pkm.routine = s.pkm.routine ∧
    (s.acknowledge n).pkm.forward = s.pkm.forward := by
  dsimp only [State.acknowledge]
  split_ands <;> (repeat' split) <;> simp

/-! ## Operations of Machine/Events.lean -/

@[simp] theorem State.sealUrgent_slr_fields (s : State) :
    (s.sealUrgent).slr.link = s.slr.link ∧
    (s.sealUrgent).slr.consecMissing = s.slr.consecMissing ∧
    (s.sealUrgent).slr.totalMissing = s.slr.totalMissing ∧
    (s.sealUrgent).slr.lastSeq = s.slr.lastSeq ∧ (s.sealUrgent).slr.gapCount = s.slr.gapCount ∧
    (s.sealUrgent).slr.lastGood = s.slr.lastGood ∧
    (s.sealUrgent).slr.silenceLeft = s.slr.silenceLeft ∧
    (s.sealUrgent).slr.runPos = s.slr.runPos ∧
    (s.sealUrgent).slr.prevPosition = s.slr.prevPosition ∧
    (s.sealUrgent).slr.prevHandle = s.slr.prevHandle ∧
    (s.sealUrgent).slr.prevReady = s.slr.prevReady ∧
    (s.sealUrgent).slr.position = s.slr.position ∧ (s.sealUrgent).slr.handle = s.slr.handle ∧
    (s.sealUrgent).slr.ready = s.slr.ready ∧ (s.sealUrgent).slr.decimation = s.slr.decimation ∧
    (s.sealUrgent).slr.takeCount = s.slr.takeCount ∧ (s.sealUrgent).slr.batch = s.slr.batch := by
  dsimp only [State.sealUrgent]
  split_ands <;> (repeat' split) <;> simp

@[simp] theorem State.sealUrgent_fcu_fields (s : State) :
    (s.sealUrgent).fcu.rxRadio = s.fcu.rxRadio ∧ (s.sealUrgent).fcu.rxLocal = s.fcu.rxLocal ∧
    (s.sealUrgent).fcu.intake = s.fcu.intake ∧ (s.sealUrgent).fcu.outRadio = s.fcu.outRadio ∧
    (s.sealUrgent).fcu.outLocal = s.fcu.outLocal ∧ (s.sealUrgent).fcu.badRadio = s.fcu.badRadio ∧
    (s.sealUrgent).fcu.badLocal = s.fcu.badLocal ∧ (s.sealUrgent).fcu.dropRadio = s.fcu.dropRadio ∧
    (s.sealUrgent).fcu.dropLocal = s.fcu.dropLocal ∧
    (s.sealUrgent).fcu.fwdDropped = s.fcu.fwdDropped ∧ (s.sealUrgent).fcu.time = s.fcu.time ∧
    (s.sealUrgent).fcu.running = s.fcu.running ∧ (s.sealUrgent).fcu.subMs = s.fcu.subMs ∧
    (s.sealUrgent).fcu.secondTick = s.fcu.secondTick := by
  dsimp only [State.sealUrgent]
  split_ands <;> (repeat' split) <;> simp

@[simp] theorem State.sealUrgent_pkm_fields (s : State) :
    (s.sealUrgent).pkm.response = s.pkm.response ∧ (s.sealUrgent).pkm.routine = s.pkm.routine ∧
    (s.sealUrgent).pkm.forward = s.pkm.forward := by
  dsimp only [State.sealUrgent]
  split_ands <;> (repeat' split) <;> simp

@[simp] theorem State.sealRoutine_slr_fields (s : State) :
    (s.sealRoutine).slr.link = s.slr.link ∧
    (s.sealRoutine).slr.consecMissing = s.slr.consecMissing ∧
    (s.sealRoutine).slr.totalMissing = s.slr.totalMissing ∧
    (s.sealRoutine).slr.lastSeq = s.slr.lastSeq ∧ (s.sealRoutine).slr.gapCount = s.slr.gapCount ∧
    (s.sealRoutine).slr.lastGood = s.slr.lastGood ∧
    (s.sealRoutine).slr.silenceLeft = s.slr.silenceLeft ∧
    (s.sealRoutine).slr.runPos = s.slr.runPos ∧
    (s.sealRoutine).slr.prevPosition = s.slr.prevPosition ∧
    (s.sealRoutine).slr.prevHandle = s.slr.prevHandle ∧
    (s.sealRoutine).slr.prevReady = s.slr.prevReady ∧
    (s.sealRoutine).slr.position = s.slr.position ∧ (s.sealRoutine).slr.handle = s.slr.handle ∧
    (s.sealRoutine).slr.ready = s.slr.ready ∧ (s.sealRoutine).slr.decimation = s.slr.decimation ∧
    (s.sealRoutine).slr.takeCount = s.slr.takeCount ∧ (s.sealRoutine).slr.batch = s.slr.batch := by
  dsimp only [State.sealRoutine]
  split_ands <;> (repeat' split) <;> simp

@[simp] theorem State.sealRoutine_fcu_fields (s : State) :
    (s.sealRoutine).fcu.rxRadio = s.fcu.rxRadio ∧ (s.sealRoutine).fcu.rxLocal = s.fcu.rxLocal ∧
    (s.sealRoutine).fcu.intake = s.fcu.intake ∧ (s.sealRoutine).fcu.outRadio = s.fcu.outRadio ∧
    (s.sealRoutine).fcu.outLocal = s.fcu.outLocal ∧ (s.sealRoutine).fcu.badRadio = s.fcu.badRadio ∧
    (s.sealRoutine).fcu.badLocal = s.fcu.badLocal ∧
    (s.sealRoutine).fcu.dropRadio = s.fcu.dropRadio ∧
    (s.sealRoutine).fcu.dropLocal = s.fcu.dropLocal ∧
    (s.sealRoutine).fcu.fwdDropped = s.fcu.fwdDropped ∧ (s.sealRoutine).fcu.time = s.fcu.time ∧
    (s.sealRoutine).fcu.running = s.fcu.running ∧ (s.sealRoutine).fcu.subMs = s.fcu.subMs ∧
    (s.sealRoutine).fcu.secondTick = s.fcu.secondTick := by
  dsimp only [State.sealRoutine]
  split_ands <;> (repeat' split) <;> simp

@[simp] theorem State.sealRoutine_pkm_fields (s : State) :
    (s.sealRoutine).pkm.response = s.pkm.response ∧ (s.sealRoutine).pkm.forward = s.pkm.forward := by
  dsimp only [State.sealRoutine]
  split_ands <;> (repeat' split) <;> simp

@[simp] theorem State.sealClass_slr_fields (c : ReportClass) (s : State) :
    (s.sealClass c).slr.link = s.slr.link ∧
    (s.sealClass c).slr.consecMissing = s.slr.consecMissing ∧
    (s.sealClass c).slr.totalMissing = s.slr.totalMissing ∧
    (s.sealClass c).slr.lastSeq = s.slr.lastSeq ∧ (s.sealClass c).slr.gapCount = s.slr.gapCount ∧
    (s.sealClass c).slr.lastGood = s.slr.lastGood ∧
    (s.sealClass c).slr.silenceLeft = s.slr.silenceLeft ∧
    (s.sealClass c).slr.runPos = s.slr.runPos ∧
    (s.sealClass c).slr.prevPosition = s.slr.prevPosition ∧
    (s.sealClass c).slr.prevHandle = s.slr.prevHandle ∧
    (s.sealClass c).slr.prevReady = s.slr.prevReady ∧
    (s.sealClass c).slr.position = s.slr.position ∧ (s.sealClass c).slr.handle = s.slr.handle ∧
    (s.sealClass c).slr.ready = s.slr.ready ∧ (s.sealClass c).slr.decimation = s.slr.decimation ∧
    (s.sealClass c).slr.takeCount = s.slr.takeCount ∧ (s.sealClass c).slr.batch = s.slr.batch := by
  dsimp only [State.sealClass]
  split_ands <;> (repeat' split) <;> simp

@[simp] theorem State.sealClass_fcu_fields (c : ReportClass) (s : State) :
    (s.sealClass c).fcu.rxRadio = s.fcu.rxRadio ∧ (s.sealClass c).fcu.rxLocal = s.fcu.rxLocal ∧
    (s.sealClass c).fcu.intake = s.fcu.intake ∧ (s.sealClass c).fcu.outRadio = s.fcu.outRadio ∧
    (s.sealClass c).fcu.outLocal = s.fcu.outLocal ∧ (s.sealClass c).fcu.badRadio = s.fcu.badRadio ∧
    (s.sealClass c).fcu.badLocal = s.fcu.badLocal ∧
    (s.sealClass c).fcu.dropRadio = s.fcu.dropRadio ∧
    (s.sealClass c).fcu.dropLocal = s.fcu.dropLocal ∧
    (s.sealClass c).fcu.fwdDropped = s.fcu.fwdDropped ∧ (s.sealClass c).fcu.time = s.fcu.time ∧
    (s.sealClass c).fcu.running = s.fcu.running ∧ (s.sealClass c).fcu.subMs = s.fcu.subMs ∧
    (s.sealClass c).fcu.secondTick = s.fcu.secondTick := by
  dsimp only [State.sealClass]
  split_ands <;> (repeat' split) <;> simp

@[simp] theorem State.sealClass_pkm_fields (c : ReportClass) (s : State) :
    (s.sealClass c).pkm.response = s.pkm.response ∧ (s.sealClass c).pkm.forward = s.pkm.forward := by
  dsimp only [State.sealClass]
  split_ands <;> (repeat' split) <;> simp

@[simp] theorem State.emit_slr_fields (e : Event) (s : State) :
    (s.emit e).slr.link = s.slr.link ∧ (s.emit e).slr.consecMissing = s.slr.consecMissing ∧
    (s.emit e).slr.totalMissing = s.slr.totalMissing ∧ (s.emit e).slr.lastSeq = s.slr.lastSeq ∧
    (s.emit e).slr.gapCount = s.slr.gapCount ∧ (s.emit e).slr.lastGood = s.slr.lastGood ∧
    (s.emit e).slr.silenceLeft = s.slr.silenceLeft ∧ (s.emit e).slr.runPos = s.slr.runPos ∧
    (s.emit e).slr.prevPosition = s.slr.prevPosition ∧
    (s.emit e).slr.prevHandle = s.slr.prevHandle ∧ (s.emit e).slr.prevReady = s.slr.prevReady ∧
    (s.emit e).slr.position = s.slr.position ∧ (s.emit e).slr.handle = s.slr.handle ∧
    (s.emit e).slr.ready = s.slr.ready ∧ (s.emit e).slr.decimation = s.slr.decimation ∧
    (s.emit e).slr.takeCount = s.slr.takeCount ∧ (s.emit e).slr.batch = s.slr.batch := by
  dsimp only [State.emit]
  split_ands <;> (repeat' split) <;> simp

@[simp] theorem State.emit_fcu_fields (e : Event) (s : State) :
    (s.emit e).fcu.rxRadio = s.fcu.rxRadio ∧ (s.emit e).fcu.rxLocal = s.fcu.rxLocal ∧
    (s.emit e).fcu.intake = s.fcu.intake ∧ (s.emit e).fcu.outRadio = s.fcu.outRadio ∧
    (s.emit e).fcu.outLocal = s.fcu.outLocal ∧ (s.emit e).fcu.badRadio = s.fcu.badRadio ∧
    (s.emit e).fcu.badLocal = s.fcu.badLocal ∧ (s.emit e).fcu.dropRadio = s.fcu.dropRadio ∧
    (s.emit e).fcu.dropLocal = s.fcu.dropLocal ∧ (s.emit e).fcu.fwdDropped = s.fcu.fwdDropped ∧
    (s.emit e).fcu.time = s.fcu.time ∧ (s.emit e).fcu.running = s.fcu.running ∧
    (s.emit e).fcu.subMs = s.fcu.subMs ∧ (s.emit e).fcu.secondTick = s.fcu.secondTick := by
  dsimp only [State.emit]
  split_ands <;> (repeat' split) <;> simp

@[simp] theorem State.emit_pkm_fields (e : Event) (s : State) :
    (s.emit e).pkm.response = s.pkm.response ∧ (s.emit e).pkm.forward = s.pkm.forward := by
  dsimp only [State.emit]
  split_ands <;> (repeat' split) <;> simp

/-! ## Operations of Machine/Supply.lean -/

@[simp] theorem State.enterFault_slr_fields (s : State) :
    (s.enterFault).slr.link = s.slr.link ∧
    (s.enterFault).slr.consecMissing = s.slr.consecMissing ∧
    (s.enterFault).slr.totalMissing = s.slr.totalMissing ∧
    (s.enterFault).slr.lastSeq = s.slr.lastSeq ∧ (s.enterFault).slr.gapCount = s.slr.gapCount ∧
    (s.enterFault).slr.lastGood = s.slr.lastGood ∧
    (s.enterFault).slr.silenceLeft = s.slr.silenceLeft ∧
    (s.enterFault).slr.runPos = s.slr.runPos ∧
    (s.enterFault).slr.prevPosition = s.slr.prevPosition ∧
    (s.enterFault).slr.prevHandle = s.slr.prevHandle ∧
    (s.enterFault).slr.prevReady = s.slr.prevReady ∧
    (s.enterFault).slr.position = s.slr.position ∧ (s.enterFault).slr.handle = s.slr.handle ∧
    (s.enterFault).slr.ready = s.slr.ready ∧ (s.enterFault).slr.decimation = s.slr.decimation ∧
    (s.enterFault).slr.takeCount = s.slr.takeCount ∧ (s.enterFault).slr.batch = s.slr.batch := by
  dsimp only [State.enterFault]
  split_ands <;> simp

@[simp] theorem State.enterFault_fcu_fields (s : State) :
    (s.enterFault).fcu.rxRadio = s.fcu.rxRadio ∧ (s.enterFault).fcu.rxLocal = s.fcu.rxLocal ∧
    (s.enterFault).fcu.intake = s.fcu.intake ∧ (s.enterFault).fcu.outRadio = s.fcu.outRadio ∧
    (s.enterFault).fcu.outLocal = s.fcu.outLocal ∧ (s.enterFault).fcu.badRadio = s.fcu.badRadio ∧
    (s.enterFault).fcu.badLocal = s.fcu.badLocal ∧ (s.enterFault).fcu.dropRadio = s.fcu.dropRadio ∧
    (s.enterFault).fcu.dropLocal = s.fcu.dropLocal ∧
    (s.enterFault).fcu.fwdDropped = s.fcu.fwdDropped ∧ (s.enterFault).fcu.time = s.fcu.time ∧
    (s.enterFault).fcu.running = s.fcu.running ∧ (s.enterFault).fcu.subMs = s.fcu.subMs ∧
    (s.enterFault).fcu.secondTick = s.fcu.secondTick := by
  dsimp only [State.enterFault]
  split_ands <;> simp

@[simp] theorem State.enterFault_pkm_fields (s : State) :
    (s.enterFault).pkm.response = s.pkm.response ∧ (s.enterFault).pkm.forward = s.pkm.forward := by
  dsimp only [State.enterFault]
  split_ands <;> simp

@[simp] theorem State.chargerTestEnded_slr_fields (s : State) :
    (s.chargerTestEnded).slr.link = s.slr.link ∧
    (s.chargerTestEnded).slr.consecMissing = s.slr.consecMissing ∧
    (s.chargerTestEnded).slr.totalMissing = s.slr.totalMissing ∧
    (s.chargerTestEnded).slr.lastSeq = s.slr.lastSeq ∧
    (s.chargerTestEnded).slr.gapCount = s.slr.gapCount ∧
    (s.chargerTestEnded).slr.lastGood = s.slr.lastGood ∧
    (s.chargerTestEnded).slr.silenceLeft = s.slr.silenceLeft ∧
    (s.chargerTestEnded).slr.runPos = s.slr.runPos ∧
    (s.chargerTestEnded).slr.prevPosition = s.slr.prevPosition ∧
    (s.chargerTestEnded).slr.prevHandle = s.slr.prevHandle ∧
    (s.chargerTestEnded).slr.prevReady = s.slr.prevReady ∧
    (s.chargerTestEnded).slr.position = s.slr.position ∧
    (s.chargerTestEnded).slr.handle = s.slr.handle ∧
    (s.chargerTestEnded).slr.ready = s.slr.ready ∧
    (s.chargerTestEnded).slr.decimation = s.slr.decimation ∧
    (s.chargerTestEnded).slr.takeCount = s.slr.takeCount ∧
    (s.chargerTestEnded).slr.batch = s.slr.batch := by
  dsimp only [State.chargerTestEnded]
  split_ands <;> (repeat' split) <;> simp

@[simp] theorem State.chargerTestEnded_fcu_fields (s : State) :
    (s.chargerTestEnded).fcu.rxRadio = s.fcu.rxRadio ∧
    (s.chargerTestEnded).fcu.rxLocal = s.fcu.rxLocal ∧
    (s.chargerTestEnded).fcu.intake = s.fcu.intake ∧
    (s.chargerTestEnded).fcu.outRadio = s.fcu.outRadio ∧
    (s.chargerTestEnded).fcu.outLocal = s.fcu.outLocal ∧
    (s.chargerTestEnded).fcu.badRadio = s.fcu.badRadio ∧
    (s.chargerTestEnded).fcu.badLocal = s.fcu.badLocal ∧
    (s.chargerTestEnded).fcu.dropRadio = s.fcu.dropRadio ∧
    (s.chargerTestEnded).fcu.dropLocal = s.fcu.dropLocal ∧
    (s.chargerTestEnded).fcu.fwdDropped = s.fcu.fwdDropped ∧
    (s.chargerTestEnded).fcu.time = s.fcu.time ∧ (s.chargerTestEnded).fcu.running = s.fcu.running ∧
    (s.chargerTestEnded).fcu.subMs = s.fcu.subMs ∧
    (s.chargerTestEnded).fcu.secondTick = s.fcu.secondTick := by
  dsimp only [State.chargerTestEnded]
  split_ands <;> (repeat' split) <;> simp

@[simp] theorem State.chargerTestEnded_pkm_fields (s : State) :
    (s.chargerTestEnded).pkm.response = s.pkm.response ∧
    (s.chargerTestEnded).pkm.forward = s.pkm.forward := by
  dsimp only [State.chargerTestEnded]
  split_ands <;> (repeat' split) <;> simp

@[simp] theorem State.countVerdict_slr_fields (v : Verdict) (r : Option Nat) (s : State) :
    (s.countVerdict v r).slr.link = s.slr.link ∧
    (s.countVerdict v r).slr.consecMissing = s.slr.consecMissing ∧
    (s.countVerdict v r).slr.totalMissing = s.slr.totalMissing ∧
    (s.countVerdict v r).slr.lastSeq = s.slr.lastSeq ∧
    (s.countVerdict v r).slr.gapCount = s.slr.gapCount ∧
    (s.countVerdict v r).slr.lastGood = s.slr.lastGood ∧
    (s.countVerdict v r).slr.silenceLeft = s.slr.silenceLeft ∧
    (s.countVerdict v r).slr.runPos = s.slr.runPos ∧
    (s.countVerdict v r).slr.prevPosition = s.slr.prevPosition ∧
    (s.countVerdict v r).slr.prevHandle = s.slr.prevHandle ∧
    (s.countVerdict v r).slr.prevReady = s.slr.prevReady ∧
    (s.countVerdict v r).slr.position = s.slr.position ∧
    (s.countVerdict v r).slr.handle = s.slr.handle ∧
    (s.countVerdict v r).slr.ready = s.slr.ready ∧
    (s.countVerdict v r).slr.decimation = s.slr.decimation ∧
    (s.countVerdict v r).slr.takeCount = s.slr.takeCount ∧
    (s.countVerdict v r).slr.batch = s.slr.batch := by
  dsimp only [State.countVerdict]
  split_ands <;> (repeat' split) <;> simp

@[simp] theorem State.countVerdict_fcu_fields (v : Verdict) (r : Option Nat) (s : State) :
    (s.countVerdict v r).fcu.rxRadio = s.fcu.rxRadio ∧
    (s.countVerdict v r).fcu.rxLocal = s.fcu.rxLocal ∧
    (s.countVerdict v r).fcu.intake = s.fcu.intake ∧
    (s.countVerdict v r).fcu.outRadio = s.fcu.outRadio ∧
    (s.countVerdict v r).fcu.outLocal = s.fcu.outLocal ∧
    (s.countVerdict v r).fcu.badRadio = s.fcu.badRadio ∧
    (s.countVerdict v r).fcu.badLocal = s.fcu.badLocal ∧
    (s.countVerdict v r).fcu.dropRadio = s.fcu.dropRadio ∧
    (s.countVerdict v r).fcu.dropLocal = s.fcu.dropLocal ∧
    (s.countVerdict v r).fcu.fwdDropped = s.fcu.fwdDropped ∧
    (s.countVerdict v r).fcu.time = s.fcu.time ∧ (s.countVerdict v r).fcu.running = s.fcu.running ∧
    (s.countVerdict v r).fcu.subMs = s.fcu.subMs ∧
    (s.countVerdict v r).fcu.secondTick = s.fcu.secondTick := by
  dsimp only [State.countVerdict]
  split_ands <;> (repeat' split) <;> simp

@[simp] theorem State.countVerdict_pkm_fields (v : Verdict) (r : Option Nat) (s : State) :
    (s.countVerdict v r).pkm.response = s.pkm.response ∧
    (s.countVerdict v r).pkm.forward = s.pkm.forward := by
  dsimp only [State.countVerdict]
  split_ands <;> (repeat' split) <;> simp

@[simp] theorem State.endTest_slr_fields (v : Verdict) (v1 dI : Option Int) (r : Option Nat) (s : State) :
    (s.endTest v v1 dI r).slr.link = s.slr.link ∧
    (s.endTest v v1 dI r).slr.consecMissing = s.slr.consecMissing ∧
    (s.endTest v v1 dI r).slr.totalMissing = s.slr.totalMissing ∧
    (s.endTest v v1 dI r).slr.lastSeq = s.slr.lastSeq ∧
    (s.endTest v v1 dI r).slr.gapCount = s.slr.gapCount ∧
    (s.endTest v v1 dI r).slr.lastGood = s.slr.lastGood ∧
    (s.endTest v v1 dI r).slr.silenceLeft = s.slr.silenceLeft ∧
    (s.endTest v v1 dI r).slr.runPos = s.slr.runPos ∧
    (s.endTest v v1 dI r).slr.prevPosition = s.slr.prevPosition ∧
    (s.endTest v v1 dI r).slr.prevHandle = s.slr.prevHandle ∧
    (s.endTest v v1 dI r).slr.prevReady = s.slr.prevReady ∧
    (s.endTest v v1 dI r).slr.position = s.slr.position ∧
    (s.endTest v v1 dI r).slr.handle = s.slr.handle ∧
    (s.endTest v v1 dI r).slr.ready = s.slr.ready ∧
    (s.endTest v v1 dI r).slr.decimation = s.slr.decimation ∧
    (s.endTest v v1 dI r).slr.takeCount = s.slr.takeCount ∧
    (s.endTest v v1 dI r).slr.batch = s.slr.batch := by
  dsimp only [State.endTest]
  split_ands <;> simp

@[simp] theorem State.endTest_fcu_fields (v : Verdict) (v1 dI : Option Int) (r : Option Nat) (s : State) :
    (s.endTest v v1 dI r).fcu.rxRadio = s.fcu.rxRadio ∧
    (s.endTest v v1 dI r).fcu.rxLocal = s.fcu.rxLocal ∧
    (s.endTest v v1 dI r).fcu.intake = s.fcu.intake ∧
    (s.endTest v v1 dI r).fcu.outRadio = s.fcu.outRadio ∧
    (s.endTest v v1 dI r).fcu.outLocal = s.fcu.outLocal ∧
    (s.endTest v v1 dI r).fcu.badRadio = s.fcu.badRadio ∧
    (s.endTest v v1 dI r).fcu.badLocal = s.fcu.badLocal ∧
    (s.endTest v v1 dI r).fcu.dropRadio = s.fcu.dropRadio ∧
    (s.endTest v v1 dI r).fcu.dropLocal = s.fcu.dropLocal ∧
    (s.endTest v v1 dI r).fcu.fwdDropped = s.fcu.fwdDropped ∧
    (s.endTest v v1 dI r).fcu.time = s.fcu.time ∧
    (s.endTest v v1 dI r).fcu.running = s.fcu.running ∧
    (s.endTest v v1 dI r).fcu.subMs = s.fcu.subMs ∧
    (s.endTest v v1 dI r).fcu.secondTick = s.fcu.secondTick := by
  dsimp only [State.endTest]
  split_ands <;> simp

@[simp] theorem State.endTest_pkm_fields (v : Verdict) (v1 dI : Option Int) (r : Option Nat) (s : State) :
    (s.endTest v v1 dI r).pkm.response = s.pkm.response ∧
    (s.endTest v v1 dI r).pkm.forward = s.pkm.forward := by
  dsimp only [State.endTest]
  split_ands <;> simp

@[simp] theorem State.abortTest_slr_fields (s : State) :
    (s.abortTest).slr.link = s.slr.link ∧ (s.abortTest).slr.consecMissing = s.slr.consecMissing ∧
    (s.abortTest).slr.totalMissing = s.slr.totalMissing ∧
    (s.abortTest).slr.lastSeq = s.slr.lastSeq ∧ (s.abortTest).slr.gapCount = s.slr.gapCount ∧
    (s.abortTest).slr.lastGood = s.slr.lastGood ∧
    (s.abortTest).slr.silenceLeft = s.slr.silenceLeft ∧ (s.abortTest).slr.runPos = s.slr.runPos ∧
    (s.abortTest).slr.prevPosition = s.slr.prevPosition ∧
    (s.abortTest).slr.prevHandle = s.slr.prevHandle ∧
    (s.abortTest).slr.prevReady = s.slr.prevReady ∧ (s.abortTest).slr.position = s.slr.position ∧
    (s.abortTest).slr.handle = s.slr.handle ∧ (s.abortTest).slr.ready = s.slr.ready ∧
    (s.abortTest).slr.decimation = s.slr.decimation ∧
    (s.abortTest).slr.takeCount = s.slr.takeCount ∧ (s.abortTest).slr.batch = s.slr.batch := by
  dsimp only [State.abortTest]
  split_ands <;> (repeat' split) <;> simp

@[simp] theorem State.abortTest_fcu_fields (s : State) :
    (s.abortTest).fcu.rxRadio = s.fcu.rxRadio ∧ (s.abortTest).fcu.rxLocal = s.fcu.rxLocal ∧
    (s.abortTest).fcu.intake = s.fcu.intake ∧ (s.abortTest).fcu.outRadio = s.fcu.outRadio ∧
    (s.abortTest).fcu.outLocal = s.fcu.outLocal ∧ (s.abortTest).fcu.badRadio = s.fcu.badRadio ∧
    (s.abortTest).fcu.badLocal = s.fcu.badLocal ∧ (s.abortTest).fcu.dropRadio = s.fcu.dropRadio ∧
    (s.abortTest).fcu.dropLocal = s.fcu.dropLocal ∧
    (s.abortTest).fcu.fwdDropped = s.fcu.fwdDropped ∧ (s.abortTest).fcu.time = s.fcu.time ∧
    (s.abortTest).fcu.running = s.fcu.running ∧ (s.abortTest).fcu.subMs = s.fcu.subMs ∧
    (s.abortTest).fcu.secondTick = s.fcu.secondTick := by
  dsimp only [State.abortTest]
  split_ands <;> (repeat' split) <;> simp

@[simp] theorem State.abortTest_pkm_fields (s : State) :
    (s.abortTest).pkm.response = s.pkm.response ∧ (s.abortTest).pkm.forward = s.pkm.forward := by
  dsimp only [State.abortTest]
  split_ands <;> (repeat' split) <;> simp

@[simp] theorem State.batAsked_slr_fields (s : State) :
    (s.batAsked).slr.link = s.slr.link ∧ (s.batAsked).slr.consecMissing = s.slr.consecMissing ∧
    (s.batAsked).slr.totalMissing = s.slr.totalMissing ∧
    (s.batAsked).slr.lastSeq = s.slr.lastSeq ∧ (s.batAsked).slr.gapCount = s.slr.gapCount ∧
    (s.batAsked).slr.lastGood = s.slr.lastGood ∧
    (s.batAsked).slr.silenceLeft = s.slr.silenceLeft ∧ (s.batAsked).slr.runPos = s.slr.runPos ∧
    (s.batAsked).slr.prevPosition = s.slr.prevPosition ∧
    (s.batAsked).slr.prevHandle = s.slr.prevHandle ∧
    (s.batAsked).slr.prevReady = s.slr.prevReady ∧ (s.batAsked).slr.position = s.slr.position ∧
    (s.batAsked).slr.handle = s.slr.handle ∧ (s.batAsked).slr.ready = s.slr.ready ∧
    (s.batAsked).slr.decimation = s.slr.decimation ∧
    (s.batAsked).slr.takeCount = s.slr.takeCount ∧ (s.batAsked).slr.batch = s.slr.batch := by
  dsimp only [State.batAsked]
  split_ands <;> (repeat' split) <;> simp

@[simp] theorem State.batAsked_fcu_fields (s : State) :
    (s.batAsked).fcu.rxRadio = s.fcu.rxRadio ∧ (s.batAsked).fcu.rxLocal = s.fcu.rxLocal ∧
    (s.batAsked).fcu.intake = s.fcu.intake ∧ (s.batAsked).fcu.outRadio = s.fcu.outRadio ∧
    (s.batAsked).fcu.outLocal = s.fcu.outLocal ∧ (s.batAsked).fcu.badRadio = s.fcu.badRadio ∧
    (s.batAsked).fcu.badLocal = s.fcu.badLocal ∧ (s.batAsked).fcu.dropRadio = s.fcu.dropRadio ∧
    (s.batAsked).fcu.dropLocal = s.fcu.dropLocal ∧ (s.batAsked).fcu.fwdDropped = s.fcu.fwdDropped ∧
    (s.batAsked).fcu.time = s.fcu.time ∧ (s.batAsked).fcu.running = s.fcu.running ∧
    (s.batAsked).fcu.subMs = s.fcu.subMs ∧ (s.batAsked).fcu.secondTick = s.fcu.secondTick := by
  dsimp only [State.batAsked]
  split_ands <;> (repeat' split) <;> simp

@[simp] theorem State.batAsked_pkm_fields (s : State) :
    (s.batAsked).pkm.response = s.pkm.response ∧ (s.batAsked).pkm.forward = s.pkm.forward := by
  dsimp only [State.batAsked]
  split_ands <;> (repeat' split) <;> simp

@[simp] theorem State.askRelease_slr_fields (r : Requester) (s : State) :
    (s.askRelease r).slr.link = s.slr.link ∧
    (s.askRelease r).slr.consecMissing = s.slr.consecMissing ∧
    (s.askRelease r).slr.totalMissing = s.slr.totalMissing ∧
    (s.askRelease r).slr.lastSeq = s.slr.lastSeq ∧
    (s.askRelease r).slr.gapCount = s.slr.gapCount ∧
    (s.askRelease r).slr.lastGood = s.slr.lastGood ∧
    (s.askRelease r).slr.silenceLeft = s.slr.silenceLeft ∧
    (s.askRelease r).slr.runPos = s.slr.runPos ∧
    (s.askRelease r).slr.prevPosition = s.slr.prevPosition ∧
    (s.askRelease r).slr.prevHandle = s.slr.prevHandle ∧
    (s.askRelease r).slr.prevReady = s.slr.prevReady ∧
    (s.askRelease r).slr.position = s.slr.position ∧ (s.askRelease r).slr.handle = s.slr.handle ∧
    (s.askRelease r).slr.ready = s.slr.ready ∧
    (s.askRelease r).slr.decimation = s.slr.decimation ∧
    (s.askRelease r).slr.takeCount = s.slr.takeCount ∧ (s.askRelease r).slr.batch = s.slr.batch := by
  dsimp only [State.askRelease]
  split_ands <;> (repeat' split) <;> simp

@[simp] theorem State.askRelease_fcu_fields (r : Requester) (s : State) :
    (s.askRelease r).fcu.rxRadio = s.fcu.rxRadio ∧ (s.askRelease r).fcu.rxLocal = s.fcu.rxLocal ∧
    (s.askRelease r).fcu.intake = s.fcu.intake ∧ (s.askRelease r).fcu.outRadio = s.fcu.outRadio ∧
    (s.askRelease r).fcu.outLocal = s.fcu.outLocal ∧
    (s.askRelease r).fcu.badRadio = s.fcu.badRadio ∧
    (s.askRelease r).fcu.badLocal = s.fcu.badLocal ∧
    (s.askRelease r).fcu.dropRadio = s.fcu.dropRadio ∧
    (s.askRelease r).fcu.dropLocal = s.fcu.dropLocal ∧
    (s.askRelease r).fcu.fwdDropped = s.fcu.fwdDropped ∧ (s.askRelease r).fcu.time = s.fcu.time ∧
    (s.askRelease r).fcu.running = s.fcu.running ∧ (s.askRelease r).fcu.subMs = s.fcu.subMs ∧
    (s.askRelease r).fcu.secondTick = s.fcu.secondTick := by
  dsimp only [State.askRelease]
  split_ands <;> (repeat' split) <;> simp

@[simp] theorem State.askRelease_pkm_fields (r : Requester) (s : State) :
    (s.askRelease r).pkm.response = s.pkm.response ∧
    (s.askRelease r).pkm.forward = s.pkm.forward := by
  dsimp only [State.askRelease]
  split_ands <;> (repeat' split) <;> simp

@[simp] theorem State.preempt_slr_fields (r : Requester) (s : State) :
    (s.preempt r).slr.link = s.slr.link ∧ (s.preempt r).slr.consecMissing = s.slr.consecMissing ∧
    (s.preempt r).slr.totalMissing = s.slr.totalMissing ∧
    (s.preempt r).slr.lastSeq = s.slr.lastSeq ∧ (s.preempt r).slr.gapCount = s.slr.gapCount ∧
    (s.preempt r).slr.lastGood = s.slr.lastGood ∧
    (s.preempt r).slr.silenceLeft = s.slr.silenceLeft ∧ (s.preempt r).slr.runPos = s.slr.runPos ∧
    (s.preempt r).slr.prevPosition = s.slr.prevPosition ∧
    (s.preempt r).slr.prevHandle = s.slr.prevHandle ∧
    (s.preempt r).slr.prevReady = s.slr.prevReady ∧ (s.preempt r).slr.position = s.slr.position ∧
    (s.preempt r).slr.handle = s.slr.handle ∧ (s.preempt r).slr.ready = s.slr.ready ∧
    (s.preempt r).slr.decimation = s.slr.decimation ∧
    (s.preempt r).slr.takeCount = s.slr.takeCount ∧ (s.preempt r).slr.batch = s.slr.batch := by
  dsimp only [State.preempt]
  split_ands <;> (repeat' split) <;> simp

@[simp] theorem State.preempt_fcu_fields (r : Requester) (s : State) :
    (s.preempt r).fcu.rxRadio = s.fcu.rxRadio ∧ (s.preempt r).fcu.rxLocal = s.fcu.rxLocal ∧
    (s.preempt r).fcu.intake = s.fcu.intake ∧ (s.preempt r).fcu.outRadio = s.fcu.outRadio ∧
    (s.preempt r).fcu.outLocal = s.fcu.outLocal ∧ (s.preempt r).fcu.badRadio = s.fcu.badRadio ∧
    (s.preempt r).fcu.badLocal = s.fcu.badLocal ∧ (s.preempt r).fcu.dropRadio = s.fcu.dropRadio ∧
    (s.preempt r).fcu.dropLocal = s.fcu.dropLocal ∧
    (s.preempt r).fcu.fwdDropped = s.fcu.fwdDropped ∧ (s.preempt r).fcu.time = s.fcu.time ∧
    (s.preempt r).fcu.running = s.fcu.running ∧ (s.preempt r).fcu.subMs = s.fcu.subMs ∧
    (s.preempt r).fcu.secondTick = s.fcu.secondTick := by
  dsimp only [State.preempt]
  split_ands <;> (repeat' split) <;> simp

@[simp] theorem State.preempt_pkm_fields (r : Requester) (s : State) :
    (s.preempt r).pkm.response = s.pkm.response ∧ (s.preempt r).pkm.forward = s.pkm.forward := by
  dsimp only [State.preempt]
  split_ands <;> (repeat' split) <;> simp

@[simp] theorem State.request_slr_fields (r : Requester) (s : State) :
    (s.request r).slr.link = s.slr.link ∧ (s.request r).slr.consecMissing = s.slr.consecMissing ∧
    (s.request r).slr.totalMissing = s.slr.totalMissing ∧
    (s.request r).slr.lastSeq = s.slr.lastSeq ∧ (s.request r).slr.gapCount = s.slr.gapCount ∧
    (s.request r).slr.lastGood = s.slr.lastGood ∧
    (s.request r).slr.silenceLeft = s.slr.silenceLeft ∧ (s.request r).slr.runPos = s.slr.runPos ∧
    (s.request r).slr.prevPosition = s.slr.prevPosition ∧
    (s.request r).slr.prevHandle = s.slr.prevHandle ∧
    (s.request r).slr.prevReady = s.slr.prevReady ∧ (s.request r).slr.position = s.slr.position ∧
    (s.request r).slr.handle = s.slr.handle ∧ (s.request r).slr.ready = s.slr.ready ∧
    (s.request r).slr.decimation = s.slr.decimation ∧
    (s.request r).slr.takeCount = s.slr.takeCount ∧ (s.request r).slr.batch = s.slr.batch := by
  dsimp only [State.request]
  split_ands <;> (repeat' split) <;> simp

@[simp] theorem State.request_fcu_fields (r : Requester) (s : State) :
    (s.request r).fcu.rxRadio = s.fcu.rxRadio ∧ (s.request r).fcu.rxLocal = s.fcu.rxLocal ∧
    (s.request r).fcu.intake = s.fcu.intake ∧ (s.request r).fcu.outRadio = s.fcu.outRadio ∧
    (s.request r).fcu.outLocal = s.fcu.outLocal ∧ (s.request r).fcu.badRadio = s.fcu.badRadio ∧
    (s.request r).fcu.badLocal = s.fcu.badLocal ∧ (s.request r).fcu.dropRadio = s.fcu.dropRadio ∧
    (s.request r).fcu.dropLocal = s.fcu.dropLocal ∧
    (s.request r).fcu.fwdDropped = s.fcu.fwdDropped ∧ (s.request r).fcu.time = s.fcu.time ∧
    (s.request r).fcu.running = s.fcu.running ∧ (s.request r).fcu.subMs = s.fcu.subMs ∧
    (s.request r).fcu.secondTick = s.fcu.secondTick := by
  dsimp only [State.request]
  split_ands <;> (repeat' split) <;> simp

@[simp] theorem State.request_pkm_fields (r : Requester) (s : State) :
    (s.request r).pkm.response = s.pkm.response ∧ (s.request r).pkm.forward = s.pkm.forward := by
  dsimp only [State.request]
  split_ands <;> (repeat' split) <;> simp

@[simp] theorem State.supLost_slr_fields (s : State) :
    (s.supLost).slr.link = s.slr.link ∧ (s.supLost).slr.consecMissing = s.slr.consecMissing ∧
    (s.supLost).slr.totalMissing = s.slr.totalMissing ∧ (s.supLost).slr.lastSeq = s.slr.lastSeq ∧
    (s.supLost).slr.gapCount = s.slr.gapCount ∧ (s.supLost).slr.lastGood = s.slr.lastGood ∧
    (s.supLost).slr.silenceLeft = s.slr.silenceLeft ∧ (s.supLost).slr.runPos = s.slr.runPos ∧
    (s.supLost).slr.prevPosition = s.slr.prevPosition ∧
    (s.supLost).slr.prevHandle = s.slr.prevHandle ∧ (s.supLost).slr.prevReady = s.slr.prevReady ∧
    (s.supLost).slr.position = s.slr.position ∧ (s.supLost).slr.handle = s.slr.handle ∧
    (s.supLost).slr.ready = s.slr.ready ∧ (s.supLost).slr.decimation = s.slr.decimation ∧
    (s.supLost).slr.takeCount = s.slr.takeCount ∧ (s.supLost).slr.batch = s.slr.batch := by
  dsimp only [State.supLost]
  split_ands <;> (repeat' split) <;> simp

@[simp] theorem State.supLost_fcu_fields (s : State) :
    (s.supLost).fcu.rxRadio = s.fcu.rxRadio ∧ (s.supLost).fcu.rxLocal = s.fcu.rxLocal ∧
    (s.supLost).fcu.intake = s.fcu.intake ∧ (s.supLost).fcu.outRadio = s.fcu.outRadio ∧
    (s.supLost).fcu.outLocal = s.fcu.outLocal ∧ (s.supLost).fcu.badRadio = s.fcu.badRadio ∧
    (s.supLost).fcu.badLocal = s.fcu.badLocal ∧ (s.supLost).fcu.dropRadio = s.fcu.dropRadio ∧
    (s.supLost).fcu.dropLocal = s.fcu.dropLocal ∧ (s.supLost).fcu.fwdDropped = s.fcu.fwdDropped ∧
    (s.supLost).fcu.time = s.fcu.time ∧ (s.supLost).fcu.running = s.fcu.running ∧
    (s.supLost).fcu.subMs = s.fcu.subMs ∧ (s.supLost).fcu.secondTick = s.fcu.secondTick := by
  dsimp only [State.supLost]
  split_ands <;> (repeat' split) <;> simp

@[simp] theorem State.supLost_pkm_fields (s : State) :
    (s.supLost).pkm.response = s.pkm.response ∧ (s.supLost).pkm.forward = s.pkm.forward := by
  dsimp only [State.supLost]
  split_ands <;> (repeat' split) <;> simp

@[simp] theorem State.supSupply_slr_fields (present : Bool) (s : State) :
    (s.supSupply present).slr.link = s.slr.link ∧
    (s.supSupply present).slr.consecMissing = s.slr.consecMissing ∧
    (s.supSupply present).slr.totalMissing = s.slr.totalMissing ∧
    (s.supSupply present).slr.lastSeq = s.slr.lastSeq ∧
    (s.supSupply present).slr.gapCount = s.slr.gapCount ∧
    (s.supSupply present).slr.lastGood = s.slr.lastGood ∧
    (s.supSupply present).slr.silenceLeft = s.slr.silenceLeft ∧
    (s.supSupply present).slr.runPos = s.slr.runPos ∧
    (s.supSupply present).slr.prevPosition = s.slr.prevPosition ∧
    (s.supSupply present).slr.prevHandle = s.slr.prevHandle ∧
    (s.supSupply present).slr.prevReady = s.slr.prevReady ∧
    (s.supSupply present).slr.position = s.slr.position ∧
    (s.supSupply present).slr.handle = s.slr.handle ∧
    (s.supSupply present).slr.ready = s.slr.ready ∧
    (s.supSupply present).slr.decimation = s.slr.decimation ∧
    (s.supSupply present).slr.takeCount = s.slr.takeCount ∧
    (s.supSupply present).slr.batch = s.slr.batch := by
  dsimp only [State.supSupply]
  split_ands <;> (repeat' split) <;> simp

@[simp] theorem State.supSupply_fcu_fields (present : Bool) (s : State) :
    (s.supSupply present).fcu.rxRadio = s.fcu.rxRadio ∧
    (s.supSupply present).fcu.rxLocal = s.fcu.rxLocal ∧
    (s.supSupply present).fcu.intake = s.fcu.intake ∧
    (s.supSupply present).fcu.outRadio = s.fcu.outRadio ∧
    (s.supSupply present).fcu.outLocal = s.fcu.outLocal ∧
    (s.supSupply present).fcu.badRadio = s.fcu.badRadio ∧
    (s.supSupply present).fcu.badLocal = s.fcu.badLocal ∧
    (s.supSupply present).fcu.dropRadio = s.fcu.dropRadio ∧
    (s.supSupply present).fcu.dropLocal = s.fcu.dropLocal ∧
    (s.supSupply present).fcu.fwdDropped = s.fcu.fwdDropped ∧
    (s.supSupply present).fcu.time = s.fcu.time ∧
    (s.supSupply present).fcu.running = s.fcu.running ∧
    (s.supSupply present).fcu.subMs = s.fcu.subMs ∧
    (s.supSupply present).fcu.secondTick = s.fcu.secondTick := by
  dsimp only [State.supSupply]
  split_ands <;> (repeat' split) <;> simp

@[simp] theorem State.supSupply_pkm_fields (present : Bool) (s : State) :
    (s.supSupply present).pkm.response = s.pkm.response ∧
    (s.supSupply present).pkm.forward = s.pkm.forward := by
  dsimp only [State.supSupply]
  split_ands <;> (repeat' split) <;> simp

@[simp] theorem State.supShed_slr_fields (level : Nat) (s : State) :
    (s.supShed level).slr.link = s.slr.link ∧
    (s.supShed level).slr.consecMissing = s.slr.consecMissing ∧
    (s.supShed level).slr.totalMissing = s.slr.totalMissing ∧
    (s.supShed level).slr.lastSeq = s.slr.lastSeq ∧
    (s.supShed level).slr.gapCount = s.slr.gapCount ∧
    (s.supShed level).slr.lastGood = s.slr.lastGood ∧
    (s.supShed level).slr.silenceLeft = s.slr.silenceLeft ∧
    (s.supShed level).slr.runPos = s.slr.runPos ∧
    (s.supShed level).slr.prevPosition = s.slr.prevPosition ∧
    (s.supShed level).slr.prevHandle = s.slr.prevHandle ∧
    (s.supShed level).slr.prevReady = s.slr.prevReady ∧
    (s.supShed level).slr.position = s.slr.position ∧
    (s.supShed level).slr.handle = s.slr.handle ∧ (s.supShed level).slr.ready = s.slr.ready ∧
    (s.supShed level).slr.decimation = s.slr.decimation ∧
    (s.supShed level).slr.takeCount = s.slr.takeCount ∧
    (s.supShed level).slr.batch = s.slr.batch := by
  dsimp only [State.supShed]
  split_ands <;> (repeat' split) <;> simp

@[simp] theorem State.supShed_fcu_fields (level : Nat) (s : State) :
    (s.supShed level).fcu.rxRadio = s.fcu.rxRadio ∧ (s.supShed level).fcu.rxLocal = s.fcu.rxLocal ∧
    (s.supShed level).fcu.intake = s.fcu.intake ∧ (s.supShed level).fcu.outRadio = s.fcu.outRadio ∧
    (s.supShed level).fcu.outLocal = s.fcu.outLocal ∧
    (s.supShed level).fcu.badRadio = s.fcu.badRadio ∧
    (s.supShed level).fcu.badLocal = s.fcu.badLocal ∧
    (s.supShed level).fcu.dropRadio = s.fcu.dropRadio ∧
    (s.supShed level).fcu.dropLocal = s.fcu.dropLocal ∧
    (s.supShed level).fcu.fwdDropped = s.fcu.fwdDropped ∧ (s.supShed level).fcu.time = s.fcu.time ∧
    (s.supShed level).fcu.running = s.fcu.running ∧ (s.supShed level).fcu.subMs = s.fcu.subMs ∧
    (s.supShed level).fcu.secondTick = s.fcu.secondTick := by
  dsimp only [State.supShed]
  split_ands <;> (repeat' split) <;> simp

@[simp] theorem State.supShed_pkm_fields (level : Nat) (s : State) :
    (s.supShed level).pkm.response = s.pkm.response ∧
    (s.supShed level).pkm.forward = s.pkm.forward := by
  dsimp only [State.supShed]
  split_ands <;> (repeat' split) <;> simp

/-! ## Operations of Machine/Battery.lean -/

@[simp] theorem State.evalFault_slr_fields (s : State) :
    (s.evalFault).slr.link = s.slr.link ∧ (s.evalFault).slr.consecMissing = s.slr.consecMissing ∧
    (s.evalFault).slr.totalMissing = s.slr.totalMissing ∧
    (s.evalFault).slr.lastSeq = s.slr.lastSeq ∧ (s.evalFault).slr.gapCount = s.slr.gapCount ∧
    (s.evalFault).slr.lastGood = s.slr.lastGood ∧
    (s.evalFault).slr.silenceLeft = s.slr.silenceLeft ∧ (s.evalFault).slr.runPos = s.slr.runPos ∧
    (s.evalFault).slr.prevPosition = s.slr.prevPosition ∧
    (s.evalFault).slr.prevHandle = s.slr.prevHandle ∧
    (s.evalFault).slr.prevReady = s.slr.prevReady ∧ (s.evalFault).slr.position = s.slr.position ∧
    (s.evalFault).slr.handle = s.slr.handle ∧ (s.evalFault).slr.ready = s.slr.ready ∧
    (s.evalFault).slr.decimation = s.slr.decimation ∧
    (s.evalFault).slr.takeCount = s.slr.takeCount ∧ (s.evalFault).slr.batch = s.slr.batch := by
  dsimp only [State.evalFault]
  split_ands <;> (repeat' split) <;> simp

@[simp] theorem State.evalFault_fcu_fields (s : State) :
    (s.evalFault).fcu.rxRadio = s.fcu.rxRadio ∧ (s.evalFault).fcu.rxLocal = s.fcu.rxLocal ∧
    (s.evalFault).fcu.intake = s.fcu.intake ∧ (s.evalFault).fcu.outRadio = s.fcu.outRadio ∧
    (s.evalFault).fcu.outLocal = s.fcu.outLocal ∧ (s.evalFault).fcu.badRadio = s.fcu.badRadio ∧
    (s.evalFault).fcu.badLocal = s.fcu.badLocal ∧ (s.evalFault).fcu.dropRadio = s.fcu.dropRadio ∧
    (s.evalFault).fcu.dropLocal = s.fcu.dropLocal ∧
    (s.evalFault).fcu.fwdDropped = s.fcu.fwdDropped ∧ (s.evalFault).fcu.time = s.fcu.time ∧
    (s.evalFault).fcu.running = s.fcu.running ∧ (s.evalFault).fcu.subMs = s.fcu.subMs ∧
    (s.evalFault).fcu.secondTick = s.fcu.secondTick := by
  dsimp only [State.evalFault]
  split_ands <;> (repeat' split) <;> simp

@[simp] theorem State.evalFault_pkm_fields (s : State) :
    (s.evalFault).pkm.response = s.pkm.response ∧ (s.evalFault).pkm.forward = s.pkm.forward := by
  dsimp only [State.evalFault]
  split_ands <;> (repeat' split) <;> simp

@[simp] theorem State.setShed_slr_fields (level : Nat) (s : State) :
    (s.setShed level).slr.link = s.slr.link ∧
    (s.setShed level).slr.consecMissing = s.slr.consecMissing ∧
    (s.setShed level).slr.totalMissing = s.slr.totalMissing ∧
    (s.setShed level).slr.lastSeq = s.slr.lastSeq ∧
    (s.setShed level).slr.gapCount = s.slr.gapCount ∧
    (s.setShed level).slr.lastGood = s.slr.lastGood ∧
    (s.setShed level).slr.silenceLeft = s.slr.silenceLeft ∧
    (s.setShed level).slr.runPos = s.slr.runPos ∧
    (s.setShed level).slr.prevPosition = s.slr.prevPosition ∧
    (s.setShed level).slr.prevHandle = s.slr.prevHandle ∧
    (s.setShed level).slr.prevReady = s.slr.prevReady ∧
    (s.setShed level).slr.position = s.slr.position ∧
    (s.setShed level).slr.handle = s.slr.handle ∧ (s.setShed level).slr.ready = s.slr.ready ∧
    (s.setShed level).slr.decimation = s.slr.decimation ∧
    (s.setShed level).slr.takeCount = s.slr.takeCount ∧
    (s.setShed level).slr.batch = s.slr.batch := by
  dsimp only [State.setShed]
  split_ands <;> (repeat' split) <;> simp

@[simp] theorem State.setShed_fcu_fields (level : Nat) (s : State) :
    (s.setShed level).fcu.rxRadio = s.fcu.rxRadio ∧ (s.setShed level).fcu.rxLocal = s.fcu.rxLocal ∧
    (s.setShed level).fcu.intake = s.fcu.intake ∧ (s.setShed level).fcu.outRadio = s.fcu.outRadio ∧
    (s.setShed level).fcu.outLocal = s.fcu.outLocal ∧
    (s.setShed level).fcu.badRadio = s.fcu.badRadio ∧
    (s.setShed level).fcu.badLocal = s.fcu.badLocal ∧
    (s.setShed level).fcu.dropRadio = s.fcu.dropRadio ∧
    (s.setShed level).fcu.dropLocal = s.fcu.dropLocal ∧
    (s.setShed level).fcu.fwdDropped = s.fcu.fwdDropped ∧ (s.setShed level).fcu.time = s.fcu.time ∧
    (s.setShed level).fcu.running = s.fcu.running ∧ (s.setShed level).fcu.subMs = s.fcu.subMs ∧
    (s.setShed level).fcu.secondTick = s.fcu.secondTick := by
  dsimp only [State.setShed]
  split_ands <;> (repeat' split) <;> simp

@[simp] theorem State.setShed_pkm_fields (level : Nat) (s : State) :
    (s.setShed level).pkm.response = s.pkm.response ∧
    (s.setShed level).pkm.forward = s.pkm.forward := by
  dsimp only [State.setShed]
  split_ands <;> (repeat' split) <;> simp

@[simp] theorem State.evalShed_slr_fields (s : State) :
    (s.evalShed).slr.link = s.slr.link ∧ (s.evalShed).slr.consecMissing = s.slr.consecMissing ∧
    (s.evalShed).slr.totalMissing = s.slr.totalMissing ∧
    (s.evalShed).slr.lastSeq = s.slr.lastSeq ∧ (s.evalShed).slr.gapCount = s.slr.gapCount ∧
    (s.evalShed).slr.lastGood = s.slr.lastGood ∧
    (s.evalShed).slr.silenceLeft = s.slr.silenceLeft ∧ (s.evalShed).slr.runPos = s.slr.runPos ∧
    (s.evalShed).slr.prevPosition = s.slr.prevPosition ∧
    (s.evalShed).slr.prevHandle = s.slr.prevHandle ∧
    (s.evalShed).slr.prevReady = s.slr.prevReady ∧ (s.evalShed).slr.position = s.slr.position ∧
    (s.evalShed).slr.handle = s.slr.handle ∧ (s.evalShed).slr.ready = s.slr.ready ∧
    (s.evalShed).slr.decimation = s.slr.decimation ∧
    (s.evalShed).slr.takeCount = s.slr.takeCount ∧ (s.evalShed).slr.batch = s.slr.batch := by
  dsimp only [State.evalShed]
  split_ands <;> (repeat' split) <;> simp

@[simp] theorem State.evalShed_fcu_fields (s : State) :
    (s.evalShed).fcu.rxRadio = s.fcu.rxRadio ∧ (s.evalShed).fcu.rxLocal = s.fcu.rxLocal ∧
    (s.evalShed).fcu.intake = s.fcu.intake ∧ (s.evalShed).fcu.outRadio = s.fcu.outRadio ∧
    (s.evalShed).fcu.outLocal = s.fcu.outLocal ∧ (s.evalShed).fcu.badRadio = s.fcu.badRadio ∧
    (s.evalShed).fcu.badLocal = s.fcu.badLocal ∧ (s.evalShed).fcu.dropRadio = s.fcu.dropRadio ∧
    (s.evalShed).fcu.dropLocal = s.fcu.dropLocal ∧ (s.evalShed).fcu.fwdDropped = s.fcu.fwdDropped ∧
    (s.evalShed).fcu.time = s.fcu.time ∧ (s.evalShed).fcu.running = s.fcu.running ∧
    (s.evalShed).fcu.subMs = s.fcu.subMs ∧ (s.evalShed).fcu.secondTick = s.fcu.secondTick := by
  dsimp only [State.evalShed]
  split_ands <;> (repeat' split) <;> simp

@[simp] theorem State.evalShed_pkm_fields (s : State) :
    (s.evalShed).pkm.response = s.pkm.response ∧ (s.evalShed).pkm.forward = s.pkm.forward := by
  dsimp only [State.evalShed]
  split_ands <;> (repeat' split) <;> simp

@[simp] theorem State.updateQ_slr_fields (q : Nat) (s : State) :
    (s.updateQ q).slr.link = s.slr.link ∧ (s.updateQ q).slr.consecMissing = s.slr.consecMissing ∧
    (s.updateQ q).slr.totalMissing = s.slr.totalMissing ∧ (s.updateQ q).slr.lastSeq = s.slr.lastSeq ∧
    (s.updateQ q).slr.gapCount = s.slr.gapCount ∧ (s.updateQ q).slr.lastGood = s.slr.lastGood ∧
    (s.updateQ q).slr.silenceLeft = s.slr.silenceLeft ∧ (s.updateQ q).slr.runPos = s.slr.runPos ∧
    (s.updateQ q).slr.prevPosition = s.slr.prevPosition ∧
    (s.updateQ q).slr.prevHandle = s.slr.prevHandle ∧ (s.updateQ q).slr.prevReady = s.slr.prevReady ∧
    (s.updateQ q).slr.position = s.slr.position ∧ (s.updateQ q).slr.handle = s.slr.handle ∧
    (s.updateQ q).slr.ready = s.slr.ready ∧ (s.updateQ q).slr.decimation = s.slr.decimation ∧
    (s.updateQ q).slr.takeCount = s.slr.takeCount ∧ (s.updateQ q).slr.batch = s.slr.batch := by
  dsimp only [State.updateQ]
  split_ands <;> simp

@[simp] theorem State.updateQ_fcu_fields (q : Nat) (s : State) :
    (s.updateQ q).fcu.rxRadio = s.fcu.rxRadio ∧ (s.updateQ q).fcu.rxLocal = s.fcu.rxLocal ∧
    (s.updateQ q).fcu.intake = s.fcu.intake ∧ (s.updateQ q).fcu.outRadio = s.fcu.outRadio ∧
    (s.updateQ q).fcu.outLocal = s.fcu.outLocal ∧ (s.updateQ q).fcu.badRadio = s.fcu.badRadio ∧
    (s.updateQ q).fcu.badLocal = s.fcu.badLocal ∧ (s.updateQ q).fcu.dropRadio = s.fcu.dropRadio ∧
    (s.updateQ q).fcu.dropLocal = s.fcu.dropLocal ∧ (s.updateQ q).fcu.fwdDropped = s.fcu.fwdDropped ∧
    (s.updateQ q).fcu.time = s.fcu.time ∧ (s.updateQ q).fcu.running = s.fcu.running ∧
    (s.updateQ q).fcu.subMs = s.fcu.subMs ∧ (s.updateQ q).fcu.secondTick = s.fcu.secondTick := by
  dsimp only [State.updateQ]
  split_ands <;> simp

@[simp] theorem State.updateQ_pkm_fields (q : Nat) (s : State) :
    (s.updateQ q).pkm.response = s.pkm.response ∧ (s.updateQ q).pkm.forward = s.pkm.forward := by
  dsimp only [State.updateQ]
  split_ands <;> simp

@[simp] theorem State.chargeSecond_slr_fields (i : Option Int) (s : State) :
    (s.chargeSecond i).slr.link = s.slr.link ∧
    (s.chargeSecond i).slr.consecMissing = s.slr.consecMissing ∧
    (s.chargeSecond i).slr.totalMissing = s.slr.totalMissing ∧
    (s.chargeSecond i).slr.lastSeq = s.slr.lastSeq ∧
    (s.chargeSecond i).slr.gapCount = s.slr.gapCount ∧
    (s.chargeSecond i).slr.lastGood = s.slr.lastGood ∧
    (s.chargeSecond i).slr.silenceLeft = s.slr.silenceLeft ∧
    (s.chargeSecond i).slr.runPos = s.slr.runPos ∧
    (s.chargeSecond i).slr.prevPosition = s.slr.prevPosition ∧
    (s.chargeSecond i).slr.prevHandle = s.slr.prevHandle ∧
    (s.chargeSecond i).slr.prevReady = s.slr.prevReady ∧
    (s.chargeSecond i).slr.position = s.slr.position ∧
    (s.chargeSecond i).slr.handle = s.slr.handle ∧ (s.chargeSecond i).slr.ready = s.slr.ready ∧
    (s.chargeSecond i).slr.decimation = s.slr.decimation ∧
    (s.chargeSecond i).slr.takeCount = s.slr.takeCount ∧
    (s.chargeSecond i).slr.batch = s.slr.batch := by
  dsimp only [State.chargeSecond]
  split_ands <;> (repeat' split) <;> simp

@[simp] theorem State.chargeSecond_fcu_fields (i : Option Int) (s : State) :
    (s.chargeSecond i).fcu.rxRadio = s.fcu.rxRadio ∧
    (s.chargeSecond i).fcu.rxLocal = s.fcu.rxLocal ∧ (s.chargeSecond i).fcu.intake = s.fcu.intake ∧
    (s.chargeSecond i).fcu.outRadio = s.fcu.outRadio ∧
    (s.chargeSecond i).fcu.outLocal = s.fcu.outLocal ∧
    (s.chargeSecond i).fcu.badRadio = s.fcu.badRadio ∧
    (s.chargeSecond i).fcu.badLocal = s.fcu.badLocal ∧
    (s.chargeSecond i).fcu.dropRadio = s.fcu.dropRadio ∧
    (s.chargeSecond i).fcu.dropLocal = s.fcu.dropLocal ∧
    (s.chargeSecond i).fcu.fwdDropped = s.fcu.fwdDropped ∧
    (s.chargeSecond i).fcu.time = s.fcu.time ∧ (s.chargeSecond i).fcu.running = s.fcu.running ∧
    (s.chargeSecond i).fcu.subMs = s.fcu.subMs ∧
    (s.chargeSecond i).fcu.secondTick = s.fcu.secondTick := by
  dsimp only [State.chargeSecond]
  split_ands <;> (repeat' split) <;> simp

@[simp] theorem State.chargeSecond_pkm_fields (i : Option Int) (s : State) :
    (s.chargeSecond i).pkm.response = s.pkm.response ∧
    (s.chargeSecond i).pkm.forward = s.pkm.forward := by
  dsimp only [State.chargeSecond]
  split_ands <;> (repeat' split) <;> simp

@[simp] theorem State.enterFloat_slr_fields (s : State) :
    (s.enterFloat).slr.link = s.slr.link ∧
    (s.enterFloat).slr.consecMissing = s.slr.consecMissing ∧
    (s.enterFloat).slr.totalMissing = s.slr.totalMissing ∧
    (s.enterFloat).slr.lastSeq = s.slr.lastSeq ∧ (s.enterFloat).slr.gapCount = s.slr.gapCount ∧
    (s.enterFloat).slr.lastGood = s.slr.lastGood ∧
    (s.enterFloat).slr.silenceLeft = s.slr.silenceLeft ∧
    (s.enterFloat).slr.runPos = s.slr.runPos ∧
    (s.enterFloat).slr.prevPosition = s.slr.prevPosition ∧
    (s.enterFloat).slr.prevHandle = s.slr.prevHandle ∧
    (s.enterFloat).slr.prevReady = s.slr.prevReady ∧
    (s.enterFloat).slr.position = s.slr.position ∧ (s.enterFloat).slr.handle = s.slr.handle ∧
    (s.enterFloat).slr.ready = s.slr.ready ∧ (s.enterFloat).slr.decimation = s.slr.decimation ∧
    (s.enterFloat).slr.takeCount = s.slr.takeCount ∧ (s.enterFloat).slr.batch = s.slr.batch := by
  dsimp only [State.enterFloat]
  split_ands <;> (repeat' split) <;> simp

@[simp] theorem State.enterFloat_fcu_fields (s : State) :
    (s.enterFloat).fcu.rxRadio = s.fcu.rxRadio ∧ (s.enterFloat).fcu.rxLocal = s.fcu.rxLocal ∧
    (s.enterFloat).fcu.intake = s.fcu.intake ∧ (s.enterFloat).fcu.outRadio = s.fcu.outRadio ∧
    (s.enterFloat).fcu.outLocal = s.fcu.outLocal ∧ (s.enterFloat).fcu.badRadio = s.fcu.badRadio ∧
    (s.enterFloat).fcu.badLocal = s.fcu.badLocal ∧ (s.enterFloat).fcu.dropRadio = s.fcu.dropRadio ∧
    (s.enterFloat).fcu.dropLocal = s.fcu.dropLocal ∧
    (s.enterFloat).fcu.fwdDropped = s.fcu.fwdDropped ∧ (s.enterFloat).fcu.time = s.fcu.time ∧
    (s.enterFloat).fcu.running = s.fcu.running ∧ (s.enterFloat).fcu.subMs = s.fcu.subMs ∧
    (s.enterFloat).fcu.secondTick = s.fcu.secondTick := by
  dsimp only [State.enterFloat]
  split_ands <;> (repeat' split) <;> simp

@[simp] theorem State.enterFloat_pkm_fields (s : State) :
    (s.enterFloat).pkm.response = s.pkm.response ∧ (s.enterFloat).pkm.forward = s.pkm.forward := by
  dsimp only [State.enterFloat]
  split_ands <;> (repeat' split) <;> simp

@[simp] theorem State.chargerSecond_slr_fields (v i : Option Int) (s : State) :
    (s.chargerSecond v i).slr.link = s.slr.link ∧
    (s.chargerSecond v i).slr.consecMissing = s.slr.consecMissing ∧
    (s.chargerSecond v i).slr.totalMissing = s.slr.totalMissing ∧
    (s.chargerSecond v i).slr.lastSeq = s.slr.lastSeq ∧
    (s.chargerSecond v i).slr.gapCount = s.slr.gapCount ∧
    (s.chargerSecond v i).slr.lastGood = s.slr.lastGood ∧
    (s.chargerSecond v i).slr.silenceLeft = s.slr.silenceLeft ∧
    (s.chargerSecond v i).slr.runPos = s.slr.runPos ∧
    (s.chargerSecond v i).slr.prevPosition = s.slr.prevPosition ∧
    (s.chargerSecond v i).slr.prevHandle = s.slr.prevHandle ∧
    (s.chargerSecond v i).slr.prevReady = s.slr.prevReady ∧
    (s.chargerSecond v i).slr.position = s.slr.position ∧
    (s.chargerSecond v i).slr.handle = s.slr.handle ∧
    (s.chargerSecond v i).slr.ready = s.slr.ready ∧
    (s.chargerSecond v i).slr.decimation = s.slr.decimation ∧
    (s.chargerSecond v i).slr.takeCount = s.slr.takeCount ∧
    (s.chargerSecond v i).slr.batch = s.slr.batch := by
  dsimp only [State.chargerSecond]
  split_ands <;> (repeat' split) <;> simp

@[simp] theorem State.chargerSecond_fcu_fields (v i : Option Int) (s : State) :
    (s.chargerSecond v i).fcu.rxRadio = s.fcu.rxRadio ∧
    (s.chargerSecond v i).fcu.rxLocal = s.fcu.rxLocal ∧
    (s.chargerSecond v i).fcu.intake = s.fcu.intake ∧
    (s.chargerSecond v i).fcu.outRadio = s.fcu.outRadio ∧
    (s.chargerSecond v i).fcu.outLocal = s.fcu.outLocal ∧
    (s.chargerSecond v i).fcu.badRadio = s.fcu.badRadio ∧
    (s.chargerSecond v i).fcu.badLocal = s.fcu.badLocal ∧
    (s.chargerSecond v i).fcu.dropRadio = s.fcu.dropRadio ∧
    (s.chargerSecond v i).fcu.dropLocal = s.fcu.dropLocal ∧
    (s.chargerSecond v i).fcu.fwdDropped = s.fcu.fwdDropped ∧
    (s.chargerSecond v i).fcu.time = s.fcu.time ∧
    (s.chargerSecond v i).fcu.running = s.fcu.running ∧
    (s.chargerSecond v i).fcu.subMs = s.fcu.subMs ∧
    (s.chargerSecond v i).fcu.secondTick = s.fcu.secondTick := by
  dsimp only [State.chargerSecond]
  split_ands <;> (repeat' split) <;> simp

@[simp] theorem State.chargerSecond_pkm_fields (v i : Option Int) (s : State) :
    (s.chargerSecond v i).pkm.response = s.pkm.response ∧
    (s.chargerSecond v i).pkm.forward = s.pkm.forward := by
  dsimp only [State.chargerSecond]
  split_ands <;> (repeat' split) <;> simp

@[simp] theorem State.secondMeans_slr_fields (v i : Option Int) (s : State) :
    (s.secondMeans v i).slr.link = s.slr.link ∧
    (s.secondMeans v i).slr.consecMissing = s.slr.consecMissing ∧
    (s.secondMeans v i).slr.totalMissing = s.slr.totalMissing ∧
    (s.secondMeans v i).slr.lastSeq = s.slr.lastSeq ∧
    (s.secondMeans v i).slr.gapCount = s.slr.gapCount ∧
    (s.secondMeans v i).slr.lastGood = s.slr.lastGood ∧
    (s.secondMeans v i).slr.silenceLeft = s.slr.silenceLeft ∧
    (s.secondMeans v i).slr.runPos = s.slr.runPos ∧
    (s.secondMeans v i).slr.prevPosition = s.slr.prevPosition ∧
    (s.secondMeans v i).slr.prevHandle = s.slr.prevHandle ∧
    (s.secondMeans v i).slr.prevReady = s.slr.prevReady ∧
    (s.secondMeans v i).slr.position = s.slr.position ∧
    (s.secondMeans v i).slr.handle = s.slr.handle ∧ (s.secondMeans v i).slr.ready = s.slr.ready ∧
    (s.secondMeans v i).slr.decimation = s.slr.decimation ∧
    (s.secondMeans v i).slr.takeCount = s.slr.takeCount ∧
    (s.secondMeans v i).slr.batch = s.slr.batch := by
  dsimp only [State.secondMeans]
  split_ands <;> (repeat' split) <;> simp

@[simp] theorem State.secondMeans_fcu_fields (v i : Option Int) (s : State) :
    (s.secondMeans v i).fcu.rxRadio = s.fcu.rxRadio ∧
    (s.secondMeans v i).fcu.rxLocal = s.fcu.rxLocal ∧
    (s.secondMeans v i).fcu.intake = s.fcu.intake ∧
    (s.secondMeans v i).fcu.outRadio = s.fcu.outRadio ∧
    (s.secondMeans v i).fcu.outLocal = s.fcu.outLocal ∧
    (s.secondMeans v i).fcu.badRadio = s.fcu.badRadio ∧
    (s.secondMeans v i).fcu.badLocal = s.fcu.badLocal ∧
    (s.secondMeans v i).fcu.dropRadio = s.fcu.dropRadio ∧
    (s.secondMeans v i).fcu.dropLocal = s.fcu.dropLocal ∧
    (s.secondMeans v i).fcu.fwdDropped = s.fcu.fwdDropped ∧
    (s.secondMeans v i).fcu.time = s.fcu.time ∧ (s.secondMeans v i).fcu.running = s.fcu.running ∧
    (s.secondMeans v i).fcu.subMs = s.fcu.subMs ∧
    (s.secondMeans v i).fcu.secondTick = s.fcu.secondTick := by
  dsimp only [State.secondMeans]
  split_ands <;> (repeat' split) <;> simp

@[simp] theorem State.secondMeans_pkm_fields (v i : Option Int) (s : State) :
    (s.secondMeans v i).pkm.response = s.pkm.response ∧
    (s.secondMeans v i).pkm.forward = s.pkm.forward := by
  dsimp only [State.secondMeans]
  split_ands <;> (repeat' split) <;> simp

@[simp] theorem State.absorbDone_slr_fields (s : State) :
    (s.absorbDone).slr.link = s.slr.link ∧
    (s.absorbDone).slr.consecMissing = s.slr.consecMissing ∧
    (s.absorbDone).slr.totalMissing = s.slr.totalMissing ∧
    (s.absorbDone).slr.lastSeq = s.slr.lastSeq ∧ (s.absorbDone).slr.gapCount = s.slr.gapCount ∧
    (s.absorbDone).slr.lastGood = s.slr.lastGood ∧
    (s.absorbDone).slr.silenceLeft = s.slr.silenceLeft ∧
    (s.absorbDone).slr.runPos = s.slr.runPos ∧
    (s.absorbDone).slr.prevPosition = s.slr.prevPosition ∧
    (s.absorbDone).slr.prevHandle = s.slr.prevHandle ∧
    (s.absorbDone).slr.prevReady = s.slr.prevReady ∧
    (s.absorbDone).slr.position = s.slr.position ∧ (s.absorbDone).slr.handle = s.slr.handle ∧
    (s.absorbDone).slr.ready = s.slr.ready ∧ (s.absorbDone).slr.decimation = s.slr.decimation ∧
    (s.absorbDone).slr.takeCount = s.slr.takeCount ∧ (s.absorbDone).slr.batch = s.slr.batch := by
  dsimp only [State.absorbDone]
  split_ands <;> (repeat' split) <;> simp

@[simp] theorem State.absorbDone_fcu_fields (s : State) :
    (s.absorbDone).fcu.rxRadio = s.fcu.rxRadio ∧ (s.absorbDone).fcu.rxLocal = s.fcu.rxLocal ∧
    (s.absorbDone).fcu.intake = s.fcu.intake ∧ (s.absorbDone).fcu.outRadio = s.fcu.outRadio ∧
    (s.absorbDone).fcu.outLocal = s.fcu.outLocal ∧ (s.absorbDone).fcu.badRadio = s.fcu.badRadio ∧
    (s.absorbDone).fcu.badLocal = s.fcu.badLocal ∧ (s.absorbDone).fcu.dropRadio = s.fcu.dropRadio ∧
    (s.absorbDone).fcu.dropLocal = s.fcu.dropLocal ∧
    (s.absorbDone).fcu.fwdDropped = s.fcu.fwdDropped ∧ (s.absorbDone).fcu.time = s.fcu.time ∧
    (s.absorbDone).fcu.running = s.fcu.running ∧ (s.absorbDone).fcu.subMs = s.fcu.subMs ∧
    (s.absorbDone).fcu.secondTick = s.fcu.secondTick := by
  dsimp only [State.absorbDone]
  split_ands <;> (repeat' split) <;> simp

@[simp] theorem State.absorbDone_pkm_fields (s : State) :
    (s.absorbDone).pkm.response = s.pkm.response ∧ (s.absorbDone).pkm.forward = s.pkm.forward := by
  dsimp only [State.absorbDone]
  split_ands <;> (repeat' split) <;> simp

@[simp] theorem State.settleDone_slr_fields (s : State) :
    (s.settleDone).slr.link = s.slr.link ∧
    (s.settleDone).slr.consecMissing = s.slr.consecMissing ∧
    (s.settleDone).slr.totalMissing = s.slr.totalMissing ∧
    (s.settleDone).slr.lastSeq = s.slr.lastSeq ∧ (s.settleDone).slr.gapCount = s.slr.gapCount ∧
    (s.settleDone).slr.lastGood = s.slr.lastGood ∧
    (s.settleDone).slr.silenceLeft = s.slr.silenceLeft ∧
    (s.settleDone).slr.runPos = s.slr.runPos ∧
    (s.settleDone).slr.prevPosition = s.slr.prevPosition ∧
    (s.settleDone).slr.prevHandle = s.slr.prevHandle ∧
    (s.settleDone).slr.prevReady = s.slr.prevReady ∧
    (s.settleDone).slr.position = s.slr.position ∧ (s.settleDone).slr.handle = s.slr.handle ∧
    (s.settleDone).slr.ready = s.slr.ready ∧ (s.settleDone).slr.decimation = s.slr.decimation ∧
    (s.settleDone).slr.takeCount = s.slr.takeCount ∧ (s.settleDone).slr.batch = s.slr.batch := by
  dsimp only [State.settleDone]
  split_ands <;> (repeat' split) <;> simp

@[simp] theorem State.settleDone_fcu_fields (s : State) :
    (s.settleDone).fcu.rxRadio = s.fcu.rxRadio ∧ (s.settleDone).fcu.rxLocal = s.fcu.rxLocal ∧
    (s.settleDone).fcu.intake = s.fcu.intake ∧ (s.settleDone).fcu.outRadio = s.fcu.outRadio ∧
    (s.settleDone).fcu.outLocal = s.fcu.outLocal ∧ (s.settleDone).fcu.badRadio = s.fcu.badRadio ∧
    (s.settleDone).fcu.badLocal = s.fcu.badLocal ∧ (s.settleDone).fcu.dropRadio = s.fcu.dropRadio ∧
    (s.settleDone).fcu.dropLocal = s.fcu.dropLocal ∧
    (s.settleDone).fcu.fwdDropped = s.fcu.fwdDropped ∧ (s.settleDone).fcu.time = s.fcu.time ∧
    (s.settleDone).fcu.running = s.fcu.running ∧ (s.settleDone).fcu.subMs = s.fcu.subMs ∧
    (s.settleDone).fcu.secondTick = s.fcu.secondTick := by
  dsimp only [State.settleDone]
  split_ands <;> (repeat' split) <;> simp

@[simp] theorem State.settleDone_pkm_fields (s : State) :
    (s.settleDone).pkm.response = s.pkm.response ∧ (s.settleDone).pkm.forward = s.pkm.forward := by
  dsimp only [State.settleDone]
  split_ands <;> (repeat' split) <;> simp

@[simp] theorem State.loadDone_slr_fields (s : State) :
    (s.loadDone).slr.link = s.slr.link ∧ (s.loadDone).slr.consecMissing = s.slr.consecMissing ∧
    (s.loadDone).slr.totalMissing = s.slr.totalMissing ∧
    (s.loadDone).slr.lastSeq = s.slr.lastSeq ∧ (s.loadDone).slr.gapCount = s.slr.gapCount ∧
    (s.loadDone).slr.lastGood = s.slr.lastGood ∧
    (s.loadDone).slr.silenceLeft = s.slr.silenceLeft ∧ (s.loadDone).slr.runPos = s.slr.runPos ∧
    (s.loadDone).slr.prevPosition = s.slr.prevPosition ∧
    (s.loadDone).slr.prevHandle = s.slr.prevHandle ∧
    (s.loadDone).slr.prevReady = s.slr.prevReady ∧ (s.loadDone).slr.position = s.slr.position ∧
    (s.loadDone).slr.handle = s.slr.handle ∧ (s.loadDone).slr.ready = s.slr.ready ∧
    (s.loadDone).slr.decimation = s.slr.decimation ∧
    (s.loadDone).slr.takeCount = s.slr.takeCount ∧ (s.loadDone).slr.batch = s.slr.batch := by
  dsimp only [State.loadDone]
  split_ands <;> (repeat' split) <;> simp

@[simp] theorem State.loadDone_fcu_fields (s : State) :
    (s.loadDone).fcu.rxRadio = s.fcu.rxRadio ∧ (s.loadDone).fcu.rxLocal = s.fcu.rxLocal ∧
    (s.loadDone).fcu.intake = s.fcu.intake ∧ (s.loadDone).fcu.outRadio = s.fcu.outRadio ∧
    (s.loadDone).fcu.outLocal = s.fcu.outLocal ∧ (s.loadDone).fcu.badRadio = s.fcu.badRadio ∧
    (s.loadDone).fcu.badLocal = s.fcu.badLocal ∧ (s.loadDone).fcu.dropRadio = s.fcu.dropRadio ∧
    (s.loadDone).fcu.dropLocal = s.fcu.dropLocal ∧ (s.loadDone).fcu.fwdDropped = s.fcu.fwdDropped ∧
    (s.loadDone).fcu.time = s.fcu.time ∧ (s.loadDone).fcu.running = s.fcu.running ∧
    (s.loadDone).fcu.subMs = s.fcu.subMs ∧ (s.loadDone).fcu.secondTick = s.fcu.secondTick := by
  dsimp only [State.loadDone]
  split_ands <;> (repeat' split) <;> simp

@[simp] theorem State.loadDone_pkm_fields (s : State) :
    (s.loadDone).pkm.response = s.pkm.response ∧ (s.loadDone).pkm.forward = s.pkm.forward := by
  dsimp only [State.loadDone]
  split_ands <;> (repeat' split) <;> simp

@[simp] theorem State.cancelTest_slr_fields (s : State) :
    (s.cancelTest).slr.link = s.slr.link ∧
    (s.cancelTest).slr.consecMissing = s.slr.consecMissing ∧
    (s.cancelTest).slr.totalMissing = s.slr.totalMissing ∧
    (s.cancelTest).slr.lastSeq = s.slr.lastSeq ∧ (s.cancelTest).slr.gapCount = s.slr.gapCount ∧
    (s.cancelTest).slr.lastGood = s.slr.lastGood ∧
    (s.cancelTest).slr.silenceLeft = s.slr.silenceLeft ∧
    (s.cancelTest).slr.runPos = s.slr.runPos ∧
    (s.cancelTest).slr.prevPosition = s.slr.prevPosition ∧
    (s.cancelTest).slr.prevHandle = s.slr.prevHandle ∧
    (s.cancelTest).slr.prevReady = s.slr.prevReady ∧
    (s.cancelTest).slr.position = s.slr.position ∧ (s.cancelTest).slr.handle = s.slr.handle ∧
    (s.cancelTest).slr.ready = s.slr.ready ∧ (s.cancelTest).slr.decimation = s.slr.decimation ∧
    (s.cancelTest).slr.takeCount = s.slr.takeCount ∧ (s.cancelTest).slr.batch = s.slr.batch := by
  dsimp only [State.cancelTest]
  split_ands <;> simp

@[simp] theorem State.cancelTest_fcu_fields (s : State) :
    (s.cancelTest).fcu.rxRadio = s.fcu.rxRadio ∧ (s.cancelTest).fcu.rxLocal = s.fcu.rxLocal ∧
    (s.cancelTest).fcu.intake = s.fcu.intake ∧ (s.cancelTest).fcu.outRadio = s.fcu.outRadio ∧
    (s.cancelTest).fcu.outLocal = s.fcu.outLocal ∧ (s.cancelTest).fcu.badRadio = s.fcu.badRadio ∧
    (s.cancelTest).fcu.badLocal = s.fcu.badLocal ∧ (s.cancelTest).fcu.dropRadio = s.fcu.dropRadio ∧
    (s.cancelTest).fcu.dropLocal = s.fcu.dropLocal ∧
    (s.cancelTest).fcu.fwdDropped = s.fcu.fwdDropped ∧ (s.cancelTest).fcu.time = s.fcu.time ∧
    (s.cancelTest).fcu.running = s.fcu.running ∧ (s.cancelTest).fcu.subMs = s.fcu.subMs ∧
    (s.cancelTest).fcu.secondTick = s.fcu.secondTick := by
  dsimp only [State.cancelTest]
  split_ands <;> simp

@[simp] theorem State.cancelTest_pkm_fields (s : State) :
    (s.cancelTest).pkm.response = s.pkm.response ∧ (s.cancelTest).pkm.forward = s.pkm.forward := by
  dsimp only [State.cancelTest]
  split_ands <;> simp

@[simp] theorem State.takeAux_slr_fields (pos raw : Nat) (s : State) :
    (s.takeAux pos raw).slr.link = s.slr.link ∧
    (s.takeAux pos raw).slr.consecMissing = s.slr.consecMissing ∧
    (s.takeAux pos raw).slr.totalMissing = s.slr.totalMissing ∧
    (s.takeAux pos raw).slr.lastSeq = s.slr.lastSeq ∧
    (s.takeAux pos raw).slr.gapCount = s.slr.gapCount ∧
    (s.takeAux pos raw).slr.lastGood = s.slr.lastGood ∧
    (s.takeAux pos raw).slr.silenceLeft = s.slr.silenceLeft ∧
    (s.takeAux pos raw).slr.runPos = s.slr.runPos ∧
    (s.takeAux pos raw).slr.prevPosition = s.slr.prevPosition ∧
    (s.takeAux pos raw).slr.prevHandle = s.slr.prevHandle ∧
    (s.takeAux pos raw).slr.prevReady = s.slr.prevReady ∧
    (s.takeAux pos raw).slr.position = s.slr.position ∧
    (s.takeAux pos raw).slr.handle = s.slr.handle ∧ (s.takeAux pos raw).slr.ready = s.slr.ready ∧
    (s.takeAux pos raw).slr.decimation = s.slr.decimation ∧
    (s.takeAux pos raw).slr.takeCount = s.slr.takeCount ∧
    (s.takeAux pos raw).slr.batch = s.slr.batch := by
  dsimp only [State.takeAux]
  split_ands <;> (repeat' split) <;> simp

@[simp] theorem State.takeAux_fcu_fields (pos raw : Nat) (s : State) :
    (s.takeAux pos raw).fcu.rxRadio = s.fcu.rxRadio ∧
    (s.takeAux pos raw).fcu.rxLocal = s.fcu.rxLocal ∧
    (s.takeAux pos raw).fcu.intake = s.fcu.intake ∧
    (s.takeAux pos raw).fcu.outRadio = s.fcu.outRadio ∧
    (s.takeAux pos raw).fcu.outLocal = s.fcu.outLocal ∧
    (s.takeAux pos raw).fcu.badRadio = s.fcu.badRadio ∧
    (s.takeAux pos raw).fcu.badLocal = s.fcu.badLocal ∧
    (s.takeAux pos raw).fcu.dropRadio = s.fcu.dropRadio ∧
    (s.takeAux pos raw).fcu.dropLocal = s.fcu.dropLocal ∧
    (s.takeAux pos raw).fcu.fwdDropped = s.fcu.fwdDropped ∧
    (s.takeAux pos raw).fcu.time = s.fcu.time ∧ (s.takeAux pos raw).fcu.running = s.fcu.running ∧
    (s.takeAux pos raw).fcu.subMs = s.fcu.subMs ∧
    (s.takeAux pos raw).fcu.secondTick = s.fcu.secondTick := by
  dsimp only [State.takeAux]
  split_ands <;> (repeat' split) <;> simp

@[simp] theorem State.takeAux_pkm_fields (pos raw : Nat) (s : State) :
    (s.takeAux pos raw).pkm.response = s.pkm.response ∧
    (s.takeAux pos raw).pkm.forward = s.pkm.forward := by
  dsimp only [State.takeAux]
  split_ands <;> (repeat' split) <;> simp

@[simp] theorem State.notifySupply_slr_fields (present : Bool) (s : State) :
    (s.notifySupply present).slr.link = s.slr.link ∧
    (s.notifySupply present).slr.consecMissing = s.slr.consecMissing ∧
    (s.notifySupply present).slr.totalMissing = s.slr.totalMissing ∧
    (s.notifySupply present).slr.lastSeq = s.slr.lastSeq ∧
    (s.notifySupply present).slr.gapCount = s.slr.gapCount ∧
    (s.notifySupply present).slr.lastGood = s.slr.lastGood ∧
    (s.notifySupply present).slr.silenceLeft = s.slr.silenceLeft ∧
    (s.notifySupply present).slr.runPos = s.slr.runPos ∧
    (s.notifySupply present).slr.prevPosition = s.slr.prevPosition ∧
    (s.notifySupply present).slr.prevHandle = s.slr.prevHandle ∧
    (s.notifySupply present).slr.prevReady = s.slr.prevReady ∧
    (s.notifySupply present).slr.position = s.slr.position ∧
    (s.notifySupply present).slr.handle = s.slr.handle ∧
    (s.notifySupply present).slr.ready = s.slr.ready ∧
    (s.notifySupply present).slr.decimation = s.slr.decimation ∧
    (s.notifySupply present).slr.takeCount = s.slr.takeCount ∧
    (s.notifySupply present).slr.batch = s.slr.batch := by
  dsimp only [State.notifySupply]
  split_ands <;> (repeat' split) <;> simp

@[simp] theorem State.notifySupply_fcu_fields (present : Bool) (s : State) :
    (s.notifySupply present).fcu.rxRadio = s.fcu.rxRadio ∧
    (s.notifySupply present).fcu.rxLocal = s.fcu.rxLocal ∧
    (s.notifySupply present).fcu.intake = s.fcu.intake ∧
    (s.notifySupply present).fcu.outRadio = s.fcu.outRadio ∧
    (s.notifySupply present).fcu.outLocal = s.fcu.outLocal ∧
    (s.notifySupply present).fcu.badRadio = s.fcu.badRadio ∧
    (s.notifySupply present).fcu.badLocal = s.fcu.badLocal ∧
    (s.notifySupply present).fcu.dropRadio = s.fcu.dropRadio ∧
    (s.notifySupply present).fcu.dropLocal = s.fcu.dropLocal ∧
    (s.notifySupply present).fcu.fwdDropped = s.fcu.fwdDropped ∧
    (s.notifySupply present).fcu.time = s.fcu.time ∧
    (s.notifySupply present).fcu.running = s.fcu.running ∧
    (s.notifySupply present).fcu.subMs = s.fcu.subMs ∧
    (s.notifySupply present).fcu.secondTick = s.fcu.secondTick := by
  dsimp only [State.notifySupply]
  split_ands <;> (repeat' split) <;> simp

@[simp] theorem State.notifySupply_pkm_fields (present : Bool) (s : State) :
    (s.notifySupply present).pkm.response = s.pkm.response ∧
    (s.notifySupply present).pkm.forward = s.pkm.forward := by
  dsimp only [State.notifySupply]
  split_ands <;> (repeat' split) <;> simp

@[simp] theorem State.takeSupplyAbsent_slr_fields (s : State) :
    (s.takeSupplyAbsent).slr.link = s.slr.link ∧
    (s.takeSupplyAbsent).slr.consecMissing = s.slr.consecMissing ∧
    (s.takeSupplyAbsent).slr.totalMissing = s.slr.totalMissing ∧
    (s.takeSupplyAbsent).slr.lastSeq = s.slr.lastSeq ∧
    (s.takeSupplyAbsent).slr.gapCount = s.slr.gapCount ∧
    (s.takeSupplyAbsent).slr.lastGood = s.slr.lastGood ∧
    (s.takeSupplyAbsent).slr.silenceLeft = s.slr.silenceLeft ∧
    (s.takeSupplyAbsent).slr.runPos = s.slr.runPos ∧
    (s.takeSupplyAbsent).slr.prevPosition = s.slr.prevPosition ∧
    (s.takeSupplyAbsent).slr.prevHandle = s.slr.prevHandle ∧
    (s.takeSupplyAbsent).slr.prevReady = s.slr.prevReady ∧
    (s.takeSupplyAbsent).slr.position = s.slr.position ∧
    (s.takeSupplyAbsent).slr.handle = s.slr.handle ∧
    (s.takeSupplyAbsent).slr.ready = s.slr.ready ∧
    (s.takeSupplyAbsent).slr.decimation = s.slr.decimation ∧
    (s.takeSupplyAbsent).slr.takeCount = s.slr.takeCount ∧
    (s.takeSupplyAbsent).slr.batch = s.slr.batch := by
  dsimp only [State.takeSupplyAbsent]
  split_ands <;> (repeat' split) <;> simp

@[simp] theorem State.takeSupplyAbsent_fcu_fields (s : State) :
    (s.takeSupplyAbsent).fcu.rxRadio = s.fcu.rxRadio ∧
    (s.takeSupplyAbsent).fcu.rxLocal = s.fcu.rxLocal ∧
    (s.takeSupplyAbsent).fcu.intake = s.fcu.intake ∧
    (s.takeSupplyAbsent).fcu.outRadio = s.fcu.outRadio ∧
    (s.takeSupplyAbsent).fcu.outLocal = s.fcu.outLocal ∧
    (s.takeSupplyAbsent).fcu.badRadio = s.fcu.badRadio ∧
    (s.takeSupplyAbsent).fcu.badLocal = s.fcu.badLocal ∧
    (s.takeSupplyAbsent).fcu.dropRadio = s.fcu.dropRadio ∧
    (s.takeSupplyAbsent).fcu.dropLocal = s.fcu.dropLocal ∧
    (s.takeSupplyAbsent).fcu.fwdDropped = s.fcu.fwdDropped ∧
    (s.takeSupplyAbsent).fcu.time = s.fcu.time ∧ (s.takeSupplyAbsent).fcu.running = s.fcu.running ∧
    (s.takeSupplyAbsent).fcu.subMs = s.fcu.subMs ∧
    (s.takeSupplyAbsent).fcu.secondTick = s.fcu.secondTick := by
  dsimp only [State.takeSupplyAbsent]
  split_ands <;> (repeat' split) <;> simp

@[simp] theorem State.takeSupplyAbsent_pkm_fields (s : State) :
    (s.takeSupplyAbsent).pkm.response = s.pkm.response ∧
    (s.takeSupplyAbsent).pkm.forward = s.pkm.forward := by
  dsimp only [State.takeSupplyAbsent]
  split_ands <;> (repeat' split) <;> simp

@[simp] theorem State.takeSupplyPresent_slr_fields (s : State) :
    (s.takeSupplyPresent).slr.link = s.slr.link ∧
    (s.takeSupplyPresent).slr.consecMissing = s.slr.consecMissing ∧
    (s.takeSupplyPresent).slr.totalMissing = s.slr.totalMissing ∧
    (s.takeSupplyPresent).slr.lastSeq = s.slr.lastSeq ∧
    (s.takeSupplyPresent).slr.gapCount = s.slr.gapCount ∧
    (s.takeSupplyPresent).slr.lastGood = s.slr.lastGood ∧
    (s.takeSupplyPresent).slr.silenceLeft = s.slr.silenceLeft ∧
    (s.takeSupplyPresent).slr.runPos = s.slr.runPos ∧
    (s.takeSupplyPresent).slr.prevPosition = s.slr.prevPosition ∧
    (s.takeSupplyPresent).slr.prevHandle = s.slr.prevHandle ∧
    (s.takeSupplyPresent).slr.prevReady = s.slr.prevReady ∧
    (s.takeSupplyPresent).slr.position = s.slr.position ∧
    (s.takeSupplyPresent).slr.handle = s.slr.handle ∧
    (s.takeSupplyPresent).slr.ready = s.slr.ready ∧
    (s.takeSupplyPresent).slr.decimation = s.slr.decimation ∧
    (s.takeSupplyPresent).slr.takeCount = s.slr.takeCount ∧
    (s.takeSupplyPresent).slr.batch = s.slr.batch := by
  dsimp only [State.takeSupplyPresent]
  split_ands <;> (repeat' split) <;> simp

@[simp] theorem State.takeSupplyPresent_fcu_fields (s : State) :
    (s.takeSupplyPresent).fcu.rxRadio = s.fcu.rxRadio ∧
    (s.takeSupplyPresent).fcu.rxLocal = s.fcu.rxLocal ∧
    (s.takeSupplyPresent).fcu.intake = s.fcu.intake ∧
    (s.takeSupplyPresent).fcu.outRadio = s.fcu.outRadio ∧
    (s.takeSupplyPresent).fcu.outLocal = s.fcu.outLocal ∧
    (s.takeSupplyPresent).fcu.badRadio = s.fcu.badRadio ∧
    (s.takeSupplyPresent).fcu.badLocal = s.fcu.badLocal ∧
    (s.takeSupplyPresent).fcu.dropRadio = s.fcu.dropRadio ∧
    (s.takeSupplyPresent).fcu.dropLocal = s.fcu.dropLocal ∧
    (s.takeSupplyPresent).fcu.fwdDropped = s.fcu.fwdDropped ∧
    (s.takeSupplyPresent).fcu.time = s.fcu.time ∧
    (s.takeSupplyPresent).fcu.running = s.fcu.running ∧
    (s.takeSupplyPresent).fcu.subMs = s.fcu.subMs ∧
    (s.takeSupplyPresent).fcu.secondTick = s.fcu.secondTick := by
  dsimp only [State.takeSupplyPresent]
  split_ands <;> (repeat' split) <;> simp

@[simp] theorem State.takeSupplyPresent_pkm_fields (s : State) :
    (s.takeSupplyPresent).pkm.response = s.pkm.response ∧
    (s.takeSupplyPresent).pkm.forward = s.pkm.forward := by
  dsimp only [State.takeSupplyPresent]
  split_ands <;> (repeat' split) <;> simp

@[simp] theorem State.takeSupply_slr_fields (s : State) :
    (s.takeSupply).slr.link = s.slr.link ∧
    (s.takeSupply).slr.consecMissing = s.slr.consecMissing ∧
    (s.takeSupply).slr.totalMissing = s.slr.totalMissing ∧
    (s.takeSupply).slr.lastSeq = s.slr.lastSeq ∧ (s.takeSupply).slr.gapCount = s.slr.gapCount ∧
    (s.takeSupply).slr.lastGood = s.slr.lastGood ∧
    (s.takeSupply).slr.silenceLeft = s.slr.silenceLeft ∧
    (s.takeSupply).slr.runPos = s.slr.runPos ∧
    (s.takeSupply).slr.prevPosition = s.slr.prevPosition ∧
    (s.takeSupply).slr.prevHandle = s.slr.prevHandle ∧
    (s.takeSupply).slr.prevReady = s.slr.prevReady ∧
    (s.takeSupply).slr.position = s.slr.position ∧ (s.takeSupply).slr.handle = s.slr.handle ∧
    (s.takeSupply).slr.ready = s.slr.ready ∧ (s.takeSupply).slr.decimation = s.slr.decimation ∧
    (s.takeSupply).slr.takeCount = s.slr.takeCount ∧ (s.takeSupply).slr.batch = s.slr.batch := by
  dsimp only [State.takeSupply]
  split_ands <;> (repeat' split) <;> simp

@[simp] theorem State.takeSupply_fcu_fields (s : State) :
    (s.takeSupply).fcu.rxRadio = s.fcu.rxRadio ∧ (s.takeSupply).fcu.rxLocal = s.fcu.rxLocal ∧
    (s.takeSupply).fcu.intake = s.fcu.intake ∧ (s.takeSupply).fcu.outRadio = s.fcu.outRadio ∧
    (s.takeSupply).fcu.outLocal = s.fcu.outLocal ∧ (s.takeSupply).fcu.badRadio = s.fcu.badRadio ∧
    (s.takeSupply).fcu.badLocal = s.fcu.badLocal ∧ (s.takeSupply).fcu.dropRadio = s.fcu.dropRadio ∧
    (s.takeSupply).fcu.dropLocal = s.fcu.dropLocal ∧
    (s.takeSupply).fcu.fwdDropped = s.fcu.fwdDropped ∧ (s.takeSupply).fcu.time = s.fcu.time ∧
    (s.takeSupply).fcu.running = s.fcu.running ∧ (s.takeSupply).fcu.subMs = s.fcu.subMs ∧
    (s.takeSupply).fcu.secondTick = s.fcu.secondTick := by
  dsimp only [State.takeSupply]
  split_ands <;> (repeat' split) <;> simp

@[simp] theorem State.takeSupply_pkm_fields (s : State) :
    (s.takeSupply).pkm.response = s.pkm.response ∧ (s.takeSupply).pkm.forward = s.pkm.forward := by
  dsimp only [State.takeSupply]
  split_ands <;> (repeat' split) <;> simp

@[simp] theorem State.enterPending_slr_fields (s : State) :
    (s.enterPending).slr.link = s.slr.link ∧
    (s.enterPending).slr.consecMissing = s.slr.consecMissing ∧
    (s.enterPending).slr.totalMissing = s.slr.totalMissing ∧
    (s.enterPending).slr.lastSeq = s.slr.lastSeq ∧
    (s.enterPending).slr.gapCount = s.slr.gapCount ∧
    (s.enterPending).slr.lastGood = s.slr.lastGood ∧
    (s.enterPending).slr.silenceLeft = s.slr.silenceLeft ∧
    (s.enterPending).slr.runPos = s.slr.runPos ∧
    (s.enterPending).slr.prevPosition = s.slr.prevPosition ∧
    (s.enterPending).slr.prevHandle = s.slr.prevHandle ∧
    (s.enterPending).slr.prevReady = s.slr.prevReady ∧
    (s.enterPending).slr.position = s.slr.position ∧ (s.enterPending).slr.handle = s.slr.handle ∧
    (s.enterPending).slr.ready = s.slr.ready ∧
    (s.enterPending).slr.decimation = s.slr.decimation ∧
    (s.enterPending).slr.takeCount = s.slr.takeCount ∧ (s.enterPending).slr.batch = s.slr.batch := by
  dsimp only [State.enterPending]
  split_ands <;> (repeat' split) <;> simp

@[simp] theorem State.enterPending_fcu_fields (s : State) :
    (s.enterPending).fcu.rxRadio = s.fcu.rxRadio ∧ (s.enterPending).fcu.rxLocal = s.fcu.rxLocal ∧
    (s.enterPending).fcu.intake = s.fcu.intake ∧ (s.enterPending).fcu.outRadio = s.fcu.outRadio ∧
    (s.enterPending).fcu.outLocal = s.fcu.outLocal ∧
    (s.enterPending).fcu.badRadio = s.fcu.badRadio ∧
    (s.enterPending).fcu.badLocal = s.fcu.badLocal ∧
    (s.enterPending).fcu.dropRadio = s.fcu.dropRadio ∧
    (s.enterPending).fcu.dropLocal = s.fcu.dropLocal ∧
    (s.enterPending).fcu.fwdDropped = s.fcu.fwdDropped ∧ (s.enterPending).fcu.time = s.fcu.time ∧
    (s.enterPending).fcu.running = s.fcu.running ∧ (s.enterPending).fcu.subMs = s.fcu.subMs ∧
    (s.enterPending).fcu.secondTick = s.fcu.secondTick := by
  dsimp only [State.enterPending]
  split_ands <;> (repeat' split) <;> simp

@[simp] theorem State.enterPending_pkm_fields (s : State) :
    (s.enterPending).pkm.response = s.pkm.response ∧
    (s.enterPending).pkm.forward = s.pkm.forward := by
  dsimp only [State.enterPending]
  split_ands <;> (repeat' split) <;> simp

@[simp] theorem State.qualify_slr_fields (v : Option Int) (s : State) :
    (s.qualify v).slr.link = s.slr.link ∧ (s.qualify v).slr.consecMissing = s.slr.consecMissing ∧
    (s.qualify v).slr.totalMissing = s.slr.totalMissing ∧
    (s.qualify v).slr.lastSeq = s.slr.lastSeq ∧ (s.qualify v).slr.gapCount = s.slr.gapCount ∧
    (s.qualify v).slr.lastGood = s.slr.lastGood ∧
    (s.qualify v).slr.silenceLeft = s.slr.silenceLeft ∧ (s.qualify v).slr.runPos = s.slr.runPos ∧
    (s.qualify v).slr.prevPosition = s.slr.prevPosition ∧
    (s.qualify v).slr.prevHandle = s.slr.prevHandle ∧
    (s.qualify v).slr.prevReady = s.slr.prevReady ∧ (s.qualify v).slr.position = s.slr.position ∧
    (s.qualify v).slr.handle = s.slr.handle ∧ (s.qualify v).slr.ready = s.slr.ready ∧
    (s.qualify v).slr.decimation = s.slr.decimation ∧
    (s.qualify v).slr.takeCount = s.slr.takeCount ∧ (s.qualify v).slr.batch = s.slr.batch := by
  dsimp only [State.qualify]
  split_ands <;> (repeat' split) <;> simp

@[simp] theorem State.qualify_fcu_fields (v : Option Int) (s : State) :
    (s.qualify v).fcu.rxRadio = s.fcu.rxRadio ∧ (s.qualify v).fcu.rxLocal = s.fcu.rxLocal ∧
    (s.qualify v).fcu.intake = s.fcu.intake ∧ (s.qualify v).fcu.outRadio = s.fcu.outRadio ∧
    (s.qualify v).fcu.outLocal = s.fcu.outLocal ∧ (s.qualify v).fcu.badRadio = s.fcu.badRadio ∧
    (s.qualify v).fcu.badLocal = s.fcu.badLocal ∧ (s.qualify v).fcu.dropRadio = s.fcu.dropRadio ∧
    (s.qualify v).fcu.dropLocal = s.fcu.dropLocal ∧
    (s.qualify v).fcu.fwdDropped = s.fcu.fwdDropped ∧ (s.qualify v).fcu.time = s.fcu.time ∧
    (s.qualify v).fcu.running = s.fcu.running ∧ (s.qualify v).fcu.subMs = s.fcu.subMs ∧
    (s.qualify v).fcu.secondTick = s.fcu.secondTick := by
  dsimp only [State.qualify]
  split_ands <;> (repeat' split) <;> simp

@[simp] theorem State.qualify_pkm_fields (v : Option Int) (s : State) :
    (s.qualify v).pkm.response = s.pkm.response ∧ (s.qualify v).pkm.forward = s.pkm.forward := by
  dsimp only [State.qualify]
  split_ands <;> (repeat' split) <;> simp

/-! ## Operations of Machine/Settings.lean -/

@[simp] theorem State.startStore_store_fields (b : StoreBody) (r : Option Reply) (s : State) :
    (s.startStore b r).store.curves = s.store.curves ∧
    (s.startStore b r).store.groups = s.store.groups ∧
    (s.startStore b r).store.device = s.store.device ∧
    (s.startStore b r).store.selection = s.store.selection ∧
    (s.startStore b r).store.tags = s.store.tags ∧
    (s.startStore b r).store.gates = s.store.gates ∧
    (s.startStore b r).store.battery = s.store.battery ∧
    (s.startStore b r).store.radio = s.store.radio ∧
    (s.startStore b r).store.areas = s.store.areas ∧
    (s.startStore b r).store.lastFailure = s.store.lastFailure ∧
    (s.startStore b r).store.waitList = s.store.waitList := by
  dsimp only [State.startStore]
  split_ands <;> simp

@[simp] theorem State.startInternal_store_fields (t : InternalTable) (r : Option Reply) (s : State) :
    (s.startInternal t r).store.curves = s.store.curves ∧
    (s.startInternal t r).store.groups = s.store.groups ∧
    (s.startInternal t r).store.device = s.store.device ∧
    (s.startInternal t r).store.selection = s.store.selection ∧
    (s.startInternal t r).store.tags = s.store.tags ∧
    (s.startInternal t r).store.gates = s.store.gates ∧
    (s.startInternal t r).store.battery = s.store.battery ∧
    (s.startInternal t r).store.radio = s.store.radio ∧
    (s.startInternal t r).store.areas = s.store.areas ∧
    (s.startInternal t r).store.lastFailure = s.store.lastFailure ∧
    (s.startInternal t r).store.waitList = s.store.waitList := by
  dsimp only [State.startInternal]
  split_ands <;> (repeat' split) <;> simp

@[simp] theorem State.startInternal_lku_fields (t : InternalTable) (r : Option Reply) (s : State) :
    (s.startInternal t r).lku.inForce = s.lku.inForce ∧
    (s.startInternal t r).lku.staged = s.lku.staged ∧
    (s.startInternal t r).lku.countdowns = s.lku.countdowns ∧
    (s.startInternal t r).lku.handle = s.lku.handle ∧
    (s.startInternal t r).lku.handleStale = s.lku.handleStale := by
  dsimp only [State.startInternal]
  split_ands <;> (repeat' split) <;> simp

@[simp] theorem State.requestStore_store_fields (t : InternalTable) (r : Option Reply) (s : State) :
    (s.requestStore t r).store.curves = s.store.curves ∧
    (s.requestStore t r).store.groups = s.store.groups ∧
    (s.requestStore t r).store.device = s.store.device ∧
    (s.requestStore t r).store.selection = s.store.selection ∧
    (s.requestStore t r).store.tags = s.store.tags ∧
    (s.requestStore t r).store.gates = s.store.gates ∧
    (s.requestStore t r).store.battery = s.store.battery ∧
    (s.requestStore t r).store.radio = s.store.radio ∧
    (s.requestStore t r).store.areas = s.store.areas ∧
    (s.requestStore t r).store.lastFailure = s.store.lastFailure := by
  dsimp only [State.requestStore]
  split_ands <;> (repeat' split) <;> simp

@[simp] theorem State.requestStore_lku_fields (t : InternalTable) (r : Option Reply) (s : State) :
    (s.requestStore t r).lku.inForce = s.lku.inForce ∧
    (s.requestStore t r).lku.staged = s.lku.staged ∧
    (s.requestStore t r).lku.countdowns = s.lku.countdowns ∧
    (s.requestStore t r).lku.handle = s.lku.handle ∧
    (s.requestStore t r).lku.handleStale = s.lku.handleStale := by
  dsimp only [State.requestStore]
  split_ands <;> (repeat' split) <;> simp

@[simp] theorem State.storeFree_store_fields (s : State) :
    (s.storeFree).store.curves = s.store.curves ∧ (s.storeFree).store.groups = s.store.groups ∧
    (s.storeFree).store.device = s.store.device ∧
    (s.storeFree).store.selection = s.store.selection ∧ (s.storeFree).store.tags = s.store.tags ∧
    (s.storeFree).store.gates = s.store.gates ∧ (s.storeFree).store.battery = s.store.battery ∧
    (s.storeFree).store.radio = s.store.radio ∧ (s.storeFree).store.areas = s.store.areas ∧
    (s.storeFree).store.lastFailure = s.store.lastFailure := by
  dsimp only [State.storeFree]
  split_ands <;> (repeat' split) <;> simp

@[simp] theorem State.storeFree_lku_fields (s : State) :
    (s.storeFree).lku.inForce = s.lku.inForce ∧ (s.storeFree).lku.staged = s.lku.staged ∧
    (s.storeFree).lku.countdowns = s.lku.countdowns ∧ (s.storeFree).lku.handle = s.lku.handle ∧
    (s.storeFree).lku.handleStale = s.lku.handleStale := by
  dsimp only [State.storeFree]
  split_ands <;> (repeat' split) <;> simp

/-! ## Operations of Machine/Drive.lean -/

@[simp] theorem State.raiseRecharge_slr_fields (s : State) :
    (s.raiseRecharge).slr.link = s.slr.link ∧
    (s.raiseRecharge).slr.consecMissing = s.slr.consecMissing ∧
    (s.raiseRecharge).slr.totalMissing = s.slr.totalMissing ∧
    (s.raiseRecharge).slr.lastSeq = s.slr.lastSeq ∧
    (s.raiseRecharge).slr.gapCount = s.slr.gapCount ∧
    (s.raiseRecharge).slr.lastGood = s.slr.lastGood ∧
    (s.raiseRecharge).slr.silenceLeft = s.slr.silenceLeft ∧
    (s.raiseRecharge).slr.runPos = s.slr.runPos ∧
    (s.raiseRecharge).slr.prevPosition = s.slr.prevPosition ∧
    (s.raiseRecharge).slr.prevHandle = s.slr.prevHandle ∧
    (s.raiseRecharge).slr.prevReady = s.slr.prevReady ∧
    (s.raiseRecharge).slr.position = s.slr.position ∧
    (s.raiseRecharge).slr.handle = s.slr.handle ∧ (s.raiseRecharge).slr.ready = s.slr.ready ∧
    (s.raiseRecharge).slr.decimation = s.slr.decimation ∧
    (s.raiseRecharge).slr.takeCount = s.slr.takeCount ∧
    (s.raiseRecharge).slr.batch = s.slr.batch := by
  dsimp only [State.raiseRecharge]
  split_ands <;> (repeat' split) <;> simp

@[simp] theorem State.raiseRecharge_fcu_fields (s : State) :
    (s.raiseRecharge).fcu.rxRadio = s.fcu.rxRadio ∧ (s.raiseRecharge).fcu.rxLocal = s.fcu.rxLocal ∧
    (s.raiseRecharge).fcu.intake = s.fcu.intake ∧ (s.raiseRecharge).fcu.outRadio = s.fcu.outRadio ∧
    (s.raiseRecharge).fcu.outLocal = s.fcu.outLocal ∧
    (s.raiseRecharge).fcu.badRadio = s.fcu.badRadio ∧
    (s.raiseRecharge).fcu.badLocal = s.fcu.badLocal ∧
    (s.raiseRecharge).fcu.dropRadio = s.fcu.dropRadio ∧
    (s.raiseRecharge).fcu.dropLocal = s.fcu.dropLocal ∧
    (s.raiseRecharge).fcu.fwdDropped = s.fcu.fwdDropped ∧ (s.raiseRecharge).fcu.time = s.fcu.time ∧
    (s.raiseRecharge).fcu.running = s.fcu.running ∧ (s.raiseRecharge).fcu.subMs = s.fcu.subMs ∧
    (s.raiseRecharge).fcu.secondTick = s.fcu.secondTick := by
  dsimp only [State.raiseRecharge]
  split_ands <;> (repeat' split) <;> simp

@[simp] theorem State.raiseRecharge_pkm_fields (s : State) :
    (s.raiseRecharge).pkm.response = s.pkm.response ∧
    (s.raiseRecharge).pkm.forward = s.pkm.forward := by
  dsimp only [State.raiseRecharge]
  split_ands <;> (repeat' split) <;> simp

@[simp] theorem State.drvCap_slr_fields (v : Nat) (stale : Bool) (s : State) :
    (s.drvCap v stale).slr.link = s.slr.link ∧
    (s.drvCap v stale).slr.consecMissing = s.slr.consecMissing ∧
    (s.drvCap v stale).slr.totalMissing = s.slr.totalMissing ∧
    (s.drvCap v stale).slr.lastSeq = s.slr.lastSeq ∧
    (s.drvCap v stale).slr.gapCount = s.slr.gapCount ∧
    (s.drvCap v stale).slr.lastGood = s.slr.lastGood ∧
    (s.drvCap v stale).slr.silenceLeft = s.slr.silenceLeft ∧
    (s.drvCap v stale).slr.runPos = s.slr.runPos ∧
    (s.drvCap v stale).slr.prevPosition = s.slr.prevPosition ∧
    (s.drvCap v stale).slr.prevHandle = s.slr.prevHandle ∧
    (s.drvCap v stale).slr.prevReady = s.slr.prevReady ∧
    (s.drvCap v stale).slr.position = s.slr.position ∧
    (s.drvCap v stale).slr.handle = s.slr.handle ∧ (s.drvCap v stale).slr.ready = s.slr.ready ∧
    (s.drvCap v stale).slr.decimation = s.slr.decimation ∧
    (s.drvCap v stale).slr.takeCount = s.slr.takeCount ∧
    (s.drvCap v stale).slr.batch = s.slr.batch := by
  dsimp only [State.drvCap]
  split_ands <;> (repeat' split) <;> simp

@[simp] theorem State.drvCap_fcu_fields (v : Nat) (stale : Bool) (s : State) :
    (s.drvCap v stale).fcu.rxRadio = s.fcu.rxRadio ∧
    (s.drvCap v stale).fcu.rxLocal = s.fcu.rxLocal ∧ (s.drvCap v stale).fcu.intake = s.fcu.intake ∧
    (s.drvCap v stale).fcu.outRadio = s.fcu.outRadio ∧
    (s.drvCap v stale).fcu.outLocal = s.fcu.outLocal ∧
    (s.drvCap v stale).fcu.badRadio = s.fcu.badRadio ∧
    (s.drvCap v stale).fcu.badLocal = s.fcu.badLocal ∧
    (s.drvCap v stale).fcu.dropRadio = s.fcu.dropRadio ∧
    (s.drvCap v stale).fcu.dropLocal = s.fcu.dropLocal ∧
    (s.drvCap v stale).fcu.fwdDropped = s.fcu.fwdDropped ∧
    (s.drvCap v stale).fcu.time = s.fcu.time ∧ (s.drvCap v stale).fcu.running = s.fcu.running ∧
    (s.drvCap v stale).fcu.subMs = s.fcu.subMs ∧
    (s.drvCap v stale).fcu.secondTick = s.fcu.secondTick := by
  dsimp only [State.drvCap]
  split_ands <;> (repeat' split) <;> simp

@[simp] theorem State.drvCap_pkm_fields (v : Nat) (stale : Bool) (s : State) :
    (s.drvCap v stale).pkm.response = s.pkm.response ∧
    (s.drvCap v stale).pkm.forward = s.pkm.forward := by
  dsimp only [State.drvCap]
  split_ands <;> (repeat' split) <;> simp

@[simp] theorem State.abandonClose_slr_fields (c : AbandonCause) (s : State) :
    (s.abandonClose c).slr.link = s.slr.link ∧
    (s.abandonClose c).slr.consecMissing = s.slr.consecMissing ∧
    (s.abandonClose c).slr.totalMissing = s.slr.totalMissing ∧
    (s.abandonClose c).slr.lastSeq = s.slr.lastSeq ∧
    (s.abandonClose c).slr.gapCount = s.slr.gapCount ∧
    (s.abandonClose c).slr.lastGood = s.slr.lastGood ∧
    (s.abandonClose c).slr.silenceLeft = s.slr.silenceLeft ∧
    (s.abandonClose c).slr.runPos = s.slr.runPos ∧
    (s.abandonClose c).slr.prevPosition = s.slr.prevPosition ∧
    (s.abandonClose c).slr.prevHandle = s.slr.prevHandle ∧
    (s.abandonClose c).slr.prevReady = s.slr.prevReady ∧
    (s.abandonClose c).slr.position = s.slr.position ∧
    (s.abandonClose c).slr.handle = s.slr.handle ∧ (s.abandonClose c).slr.ready = s.slr.ready ∧
    (s.abandonClose c).slr.decimation = s.slr.decimation ∧
    (s.abandonClose c).slr.takeCount = s.slr.takeCount ∧
    (s.abandonClose c).slr.batch = s.slr.batch := by
  dsimp only [State.abandonClose]
  split_ands <;> (repeat' split) <;> simp

@[simp] theorem State.abandonClose_fcu_fields (c : AbandonCause) (s : State) :
    (s.abandonClose c).fcu.rxRadio = s.fcu.rxRadio ∧
    (s.abandonClose c).fcu.rxLocal = s.fcu.rxLocal ∧ (s.abandonClose c).fcu.intake = s.fcu.intake ∧
    (s.abandonClose c).fcu.outRadio = s.fcu.outRadio ∧
    (s.abandonClose c).fcu.outLocal = s.fcu.outLocal ∧
    (s.abandonClose c).fcu.badRadio = s.fcu.badRadio ∧
    (s.abandonClose c).fcu.badLocal = s.fcu.badLocal ∧
    (s.abandonClose c).fcu.dropRadio = s.fcu.dropRadio ∧
    (s.abandonClose c).fcu.dropLocal = s.fcu.dropLocal ∧
    (s.abandonClose c).fcu.fwdDropped = s.fcu.fwdDropped ∧
    (s.abandonClose c).fcu.time = s.fcu.time ∧ (s.abandonClose c).fcu.running = s.fcu.running ∧
    (s.abandonClose c).fcu.subMs = s.fcu.subMs ∧
    (s.abandonClose c).fcu.secondTick = s.fcu.secondTick := by
  dsimp only [State.abandonClose]
  split_ands <;> (repeat' split) <;> simp

@[simp] theorem State.abandonClose_pkm_fields (c : AbandonCause) (s : State) :
    (s.abandonClose c).pkm.response = s.pkm.response ∧
    (s.abandonClose c).pkm.forward = s.pkm.forward := by
  dsimp only [State.abandonClose]
  split_ands <;> (repeat' split) <;> simp

@[simp] theorem State.tripFree_slr_fields (c : TripCause) (s : State) :
    (s.tripFree c).slr.link = s.slr.link ∧
    (s.tripFree c).slr.consecMissing = s.slr.consecMissing ∧
    (s.tripFree c).slr.totalMissing = s.slr.totalMissing ∧
    (s.tripFree c).slr.lastSeq = s.slr.lastSeq ∧ (s.tripFree c).slr.gapCount = s.slr.gapCount ∧
    (s.tripFree c).slr.lastGood = s.slr.lastGood ∧
    (s.tripFree c).slr.silenceLeft = s.slr.silenceLeft ∧
    (s.tripFree c).slr.runPos = s.slr.runPos ∧
    (s.tripFree c).slr.prevPosition = s.slr.prevPosition ∧
    (s.tripFree c).slr.prevHandle = s.slr.prevHandle ∧
    (s.tripFree c).slr.prevReady = s.slr.prevReady ∧
    (s.tripFree c).slr.position = s.slr.position ∧ (s.tripFree c).slr.handle = s.slr.handle ∧
    (s.tripFree c).slr.ready = s.slr.ready ∧ (s.tripFree c).slr.decimation = s.slr.decimation ∧
    (s.tripFree c).slr.takeCount = s.slr.takeCount ∧ (s.tripFree c).slr.batch = s.slr.batch := by
  dsimp only [State.tripFree]
  split_ands <;> simp

@[simp] theorem State.tripFree_fcu_fields (c : TripCause) (s : State) :
    (s.tripFree c).fcu.rxRadio = s.fcu.rxRadio ∧ (s.tripFree c).fcu.rxLocal = s.fcu.rxLocal ∧
    (s.tripFree c).fcu.intake = s.fcu.intake ∧ (s.tripFree c).fcu.outRadio = s.fcu.outRadio ∧
    (s.tripFree c).fcu.outLocal = s.fcu.outLocal ∧ (s.tripFree c).fcu.badRadio = s.fcu.badRadio ∧
    (s.tripFree c).fcu.badLocal = s.fcu.badLocal ∧ (s.tripFree c).fcu.dropRadio = s.fcu.dropRadio ∧
    (s.tripFree c).fcu.dropLocal = s.fcu.dropLocal ∧
    (s.tripFree c).fcu.fwdDropped = s.fcu.fwdDropped ∧ (s.tripFree c).fcu.time = s.fcu.time ∧
    (s.tripFree c).fcu.running = s.fcu.running ∧ (s.tripFree c).fcu.subMs = s.fcu.subMs ∧
    (s.tripFree c).fcu.secondTick = s.fcu.secondTick := by
  dsimp only [State.tripFree]
  split_ands <;> simp

@[simp] theorem State.tripFree_pkm_fields (c : TripCause) (s : State) :
    (s.tripFree c).pkm.response = s.pkm.response ∧ (s.tripFree c).pkm.forward = s.pkm.forward := by
  dsimp only [State.tripFree]
  split_ands <;> simp

@[simp] theorem State.drvTrip_slr_fields (c : TripCause) (s : State) :
    (s.drvTrip c).slr.link = s.slr.link ∧ (s.drvTrip c).slr.consecMissing = s.slr.consecMissing ∧
    (s.drvTrip c).slr.totalMissing = s.slr.totalMissing ∧
    (s.drvTrip c).slr.lastSeq = s.slr.lastSeq ∧ (s.drvTrip c).slr.gapCount = s.slr.gapCount ∧
    (s.drvTrip c).slr.lastGood = s.slr.lastGood ∧
    (s.drvTrip c).slr.silenceLeft = s.slr.silenceLeft ∧ (s.drvTrip c).slr.runPos = s.slr.runPos ∧
    (s.drvTrip c).slr.prevPosition = s.slr.prevPosition ∧
    (s.drvTrip c).slr.prevHandle = s.slr.prevHandle ∧
    (s.drvTrip c).slr.prevReady = s.slr.prevReady ∧ (s.drvTrip c).slr.position = s.slr.position ∧
    (s.drvTrip c).slr.handle = s.slr.handle ∧ (s.drvTrip c).slr.ready = s.slr.ready ∧
    (s.drvTrip c).slr.decimation = s.slr.decimation ∧
    (s.drvTrip c).slr.takeCount = s.slr.takeCount ∧ (s.drvTrip c).slr.batch = s.slr.batch := by
  dsimp only [State.drvTrip]
  split_ands <;> (repeat' split) <;> simp

@[simp] theorem State.drvTrip_fcu_fields (c : TripCause) (s : State) :
    (s.drvTrip c).fcu.rxRadio = s.fcu.rxRadio ∧ (s.drvTrip c).fcu.rxLocal = s.fcu.rxLocal ∧
    (s.drvTrip c).fcu.intake = s.fcu.intake ∧ (s.drvTrip c).fcu.outRadio = s.fcu.outRadio ∧
    (s.drvTrip c).fcu.outLocal = s.fcu.outLocal ∧ (s.drvTrip c).fcu.badRadio = s.fcu.badRadio ∧
    (s.drvTrip c).fcu.badLocal = s.fcu.badLocal ∧ (s.drvTrip c).fcu.dropRadio = s.fcu.dropRadio ∧
    (s.drvTrip c).fcu.dropLocal = s.fcu.dropLocal ∧
    (s.drvTrip c).fcu.fwdDropped = s.fcu.fwdDropped ∧ (s.drvTrip c).fcu.time = s.fcu.time ∧
    (s.drvTrip c).fcu.running = s.fcu.running ∧ (s.drvTrip c).fcu.subMs = s.fcu.subMs ∧
    (s.drvTrip c).fcu.secondTick = s.fcu.secondTick := by
  dsimp only [State.drvTrip]
  split_ands <;> (repeat' split) <;> simp

@[simp] theorem State.drvTrip_pkm_fields (c : TripCause) (s : State) :
    (s.drvTrip c).pkm.response = s.pkm.response ∧ (s.drvTrip c).pkm.forward = s.pkm.forward := by
  dsimp only [State.drvTrip]
  split_ands <;> (repeat' split) <;> simp

@[simp] theorem State.firstPeriod_slr_fields (s : State) :
    (s.firstPeriod).slr.link = s.slr.link ∧
    (s.firstPeriod).slr.consecMissing = s.slr.consecMissing ∧
    (s.firstPeriod).slr.totalMissing = s.slr.totalMissing ∧
    (s.firstPeriod).slr.lastSeq = s.slr.lastSeq ∧ (s.firstPeriod).slr.gapCount = s.slr.gapCount ∧
    (s.firstPeriod).slr.lastGood = s.slr.lastGood ∧
    (s.firstPeriod).slr.silenceLeft = s.slr.silenceLeft ∧
    (s.firstPeriod).slr.runPos = s.slr.runPos ∧
    (s.firstPeriod).slr.prevPosition = s.slr.prevPosition ∧
    (s.firstPeriod).slr.prevHandle = s.slr.prevHandle ∧
    (s.firstPeriod).slr.prevReady = s.slr.prevReady ∧
    (s.firstPeriod).slr.position = s.slr.position ∧ (s.firstPeriod).slr.handle = s.slr.handle ∧
    (s.firstPeriod).slr.ready = s.slr.ready ∧ (s.firstPeriod).slr.decimation = s.slr.decimation ∧
    (s.firstPeriod).slr.takeCount = s.slr.takeCount ∧ (s.firstPeriod).slr.batch = s.slr.batch := by
  dsimp only [State.firstPeriod]
  split_ands <;> (repeat' split) <;> simp

@[simp] theorem State.firstPeriod_store_fields (s : State) :
    (s.firstPeriod).store.curves = s.store.curves ∧
    (s.firstPeriod).store.groups = s.store.groups ∧
    (s.firstPeriod).store.device = s.store.device ∧
    (s.firstPeriod).store.selection = s.store.selection ∧
    (s.firstPeriod).store.tags = s.store.tags ∧ (s.firstPeriod).store.gates = s.store.gates ∧
    (s.firstPeriod).store.battery = s.store.battery ∧
    (s.firstPeriod).store.radio = s.store.radio ∧ (s.firstPeriod).store.areas = s.store.areas ∧
    (s.firstPeriod).store.lastFailure = s.store.lastFailure := by
  dsimp only [State.firstPeriod]
  split_ands <;> (repeat' split) <;> simp

@[simp] theorem State.firstPeriod_fcu_fields (s : State) :
    (s.firstPeriod).fcu.rxRadio = s.fcu.rxRadio ∧ (s.firstPeriod).fcu.rxLocal = s.fcu.rxLocal ∧
    (s.firstPeriod).fcu.intake = s.fcu.intake ∧ (s.firstPeriod).fcu.outRadio = s.fcu.outRadio ∧
    (s.firstPeriod).fcu.outLocal = s.fcu.outLocal ∧ (s.firstPeriod).fcu.badRadio = s.fcu.badRadio ∧
    (s.firstPeriod).fcu.badLocal = s.fcu.badLocal ∧
    (s.firstPeriod).fcu.dropRadio = s.fcu.dropRadio ∧
    (s.firstPeriod).fcu.dropLocal = s.fcu.dropLocal ∧
    (s.firstPeriod).fcu.fwdDropped = s.fcu.fwdDropped ∧ (s.firstPeriod).fcu.time = s.fcu.time ∧
    (s.firstPeriod).fcu.running = s.fcu.running ∧ (s.firstPeriod).fcu.subMs = s.fcu.subMs ∧
    (s.firstPeriod).fcu.secondTick = s.fcu.secondTick := by
  dsimp only [State.firstPeriod]
  split_ands <;> (repeat' split) <;> simp

@[simp] theorem State.firstPeriod_pkm_fields (s : State) :
    (s.firstPeriod).pkm.response = s.pkm.response ∧ (s.firstPeriod).pkm.forward = s.pkm.forward := by
  dsimp only [State.firstPeriod]
  split_ands <;> (repeat' split) <;> simp

@[simp] theorem State.firstPeriod_lku_fields (s : State) :
    (s.firstPeriod).lku.inForce = s.lku.inForce ∧ (s.firstPeriod).lku.staged = s.lku.staged ∧
    (s.firstPeriod).lku.countdowns = s.lku.countdowns ∧
    (s.firstPeriod).lku.handle = s.lku.handle ∧
    (s.firstPeriod).lku.handleStale = s.lku.handleStale := by
  dsimp only [State.firstPeriod]
  split_ands <;> (repeat' split) <;> simp

@[simp] theorem State.drvHalt_slr_fields (s : State) :
    (s.drvHalt).slr.link = s.slr.link ∧ (s.drvHalt).slr.consecMissing = s.slr.consecMissing ∧
    (s.drvHalt).slr.totalMissing = s.slr.totalMissing ∧ (s.drvHalt).slr.lastSeq = s.slr.lastSeq ∧
    (s.drvHalt).slr.gapCount = s.slr.gapCount ∧ (s.drvHalt).slr.lastGood = s.slr.lastGood ∧
    (s.drvHalt).slr.silenceLeft = s.slr.silenceLeft ∧ (s.drvHalt).slr.runPos = s.slr.runPos ∧
    (s.drvHalt).slr.prevPosition = s.slr.prevPosition ∧
    (s.drvHalt).slr.prevHandle = s.slr.prevHandle ∧ (s.drvHalt).slr.prevReady = s.slr.prevReady ∧
    (s.drvHalt).slr.position = s.slr.position ∧ (s.drvHalt).slr.handle = s.slr.handle ∧
    (s.drvHalt).slr.ready = s.slr.ready ∧ (s.drvHalt).slr.decimation = s.slr.decimation ∧
    (s.drvHalt).slr.takeCount = s.slr.takeCount ∧ (s.drvHalt).slr.batch = s.slr.batch := by
  dsimp only [State.drvHalt]
  split_ands <;> simp

@[simp] theorem State.drvHalt_store_fields (s : State) :
    (s.drvHalt).store.curves = s.store.curves ∧ (s.drvHalt).store.groups = s.store.groups ∧
    (s.drvHalt).store.device = s.store.device ∧ (s.drvHalt).store.selection = s.store.selection ∧
    (s.drvHalt).store.tags = s.store.tags ∧ (s.drvHalt).store.gates = s.store.gates ∧
    (s.drvHalt).store.battery = s.store.battery ∧ (s.drvHalt).store.radio = s.store.radio ∧
    (s.drvHalt).store.areas = s.store.areas ∧
    (s.drvHalt).store.lastFailure = s.store.lastFailure := by
  dsimp only [State.drvHalt]
  split_ands <;> simp

@[simp] theorem State.drvHalt_fcu_fields (s : State) :
    (s.drvHalt).fcu.rxRadio = s.fcu.rxRadio ∧ (s.drvHalt).fcu.rxLocal = s.fcu.rxLocal ∧
    (s.drvHalt).fcu.intake = s.fcu.intake ∧ (s.drvHalt).fcu.outRadio = s.fcu.outRadio ∧
    (s.drvHalt).fcu.outLocal = s.fcu.outLocal ∧ (s.drvHalt).fcu.badRadio = s.fcu.badRadio ∧
    (s.drvHalt).fcu.badLocal = s.fcu.badLocal ∧ (s.drvHalt).fcu.dropRadio = s.fcu.dropRadio ∧
    (s.drvHalt).fcu.dropLocal = s.fcu.dropLocal ∧ (s.drvHalt).fcu.fwdDropped = s.fcu.fwdDropped ∧
    (s.drvHalt).fcu.time = s.fcu.time ∧ (s.drvHalt).fcu.running = s.fcu.running ∧
    (s.drvHalt).fcu.subMs = s.fcu.subMs ∧ (s.drvHalt).fcu.secondTick = s.fcu.secondTick := by
  dsimp only [State.drvHalt]
  split_ands <;> simp

@[simp] theorem State.drvHalt_pkm_fields (s : State) :
    (s.drvHalt).pkm.response = s.pkm.response ∧ (s.drvHalt).pkm.forward = s.pkm.forward := by
  dsimp only [State.drvHalt]
  split_ands <;> simp

@[simp] theorem State.drvHalt_lku_fields (s : State) :
    (s.drvHalt).lku.inForce = s.lku.inForce ∧ (s.drvHalt).lku.staged = s.lku.staged ∧
    (s.drvHalt).lku.countdowns = s.lku.countdowns ∧ (s.drvHalt).lku.handle = s.lku.handle ∧
    (s.drvHalt).lku.handleStale = s.lku.handleStale := by
  dsimp only [State.drvHalt]
  split_ands <;> simp

@[simp] theorem State.drvCloseFail_slr_fields (s : State) :
    (s.drvCloseFail).slr.link = s.slr.link ∧
    (s.drvCloseFail).slr.consecMissing = s.slr.consecMissing ∧
    (s.drvCloseFail).slr.totalMissing = s.slr.totalMissing ∧
    (s.drvCloseFail).slr.lastSeq = s.slr.lastSeq ∧
    (s.drvCloseFail).slr.gapCount = s.slr.gapCount ∧
    (s.drvCloseFail).slr.lastGood = s.slr.lastGood ∧
    (s.drvCloseFail).slr.silenceLeft = s.slr.silenceLeft ∧
    (s.drvCloseFail).slr.runPos = s.slr.runPos ∧
    (s.drvCloseFail).slr.prevPosition = s.slr.prevPosition ∧
    (s.drvCloseFail).slr.prevHandle = s.slr.prevHandle ∧
    (s.drvCloseFail).slr.prevReady = s.slr.prevReady ∧
    (s.drvCloseFail).slr.position = s.slr.position ∧ (s.drvCloseFail).slr.handle = s.slr.handle ∧
    (s.drvCloseFail).slr.ready = s.slr.ready ∧
    (s.drvCloseFail).slr.decimation = s.slr.decimation ∧
    (s.drvCloseFail).slr.takeCount = s.slr.takeCount ∧ (s.drvCloseFail).slr.batch = s.slr.batch := by
  dsimp only [State.drvCloseFail]
  split_ands <;> simp

@[simp] theorem State.drvCloseFail_store_fields (s : State) :
    (s.drvCloseFail).store.curves = s.store.curves ∧
    (s.drvCloseFail).store.groups = s.store.groups ∧
    (s.drvCloseFail).store.device = s.store.device ∧
    (s.drvCloseFail).store.selection = s.store.selection ∧
    (s.drvCloseFail).store.tags = s.store.tags ∧ (s.drvCloseFail).store.gates = s.store.gates ∧
    (s.drvCloseFail).store.battery = s.store.battery ∧
    (s.drvCloseFail).store.radio = s.store.radio ∧ (s.drvCloseFail).store.areas = s.store.areas ∧
    (s.drvCloseFail).store.lastFailure = s.store.lastFailure := by
  dsimp only [State.drvCloseFail]
  split_ands <;> simp

@[simp] theorem State.drvCloseFail_fcu_fields (s : State) :
    (s.drvCloseFail).fcu.rxRadio = s.fcu.rxRadio ∧ (s.drvCloseFail).fcu.rxLocal = s.fcu.rxLocal ∧
    (s.drvCloseFail).fcu.intake = s.fcu.intake ∧ (s.drvCloseFail).fcu.outRadio = s.fcu.outRadio ∧
    (s.drvCloseFail).fcu.outLocal = s.fcu.outLocal ∧
    (s.drvCloseFail).fcu.badRadio = s.fcu.badRadio ∧
    (s.drvCloseFail).fcu.badLocal = s.fcu.badLocal ∧
    (s.drvCloseFail).fcu.dropRadio = s.fcu.dropRadio ∧
    (s.drvCloseFail).fcu.dropLocal = s.fcu.dropLocal ∧
    (s.drvCloseFail).fcu.fwdDropped = s.fcu.fwdDropped ∧ (s.drvCloseFail).fcu.time = s.fcu.time ∧
    (s.drvCloseFail).fcu.running = s.fcu.running ∧ (s.drvCloseFail).fcu.subMs = s.fcu.subMs ∧
    (s.drvCloseFail).fcu.secondTick = s.fcu.secondTick := by
  dsimp only [State.drvCloseFail]
  split_ands <;> simp

@[simp] theorem State.drvCloseFail_pkm_fields (s : State) :
    (s.drvCloseFail).pkm.response = s.pkm.response ∧
    (s.drvCloseFail).pkm.forward = s.pkm.forward := by
  dsimp only [State.drvCloseFail]
  split_ands <;> simp

@[simp] theorem State.drvCloseFail_lku_fields (s : State) :
    (s.drvCloseFail).lku.inForce = s.lku.inForce ∧ (s.drvCloseFail).lku.staged = s.lku.staged ∧
    (s.drvCloseFail).lku.countdowns = s.lku.countdowns ∧
    (s.drvCloseFail).lku.handle = s.lku.handle ∧
    (s.drvCloseFail).lku.handleStale = s.lku.handleStale := by
  dsimp only [State.drvCloseFail]
  split_ands <;> simp

@[simp] theorem State.drvRestore_slr_fields (s : State) :
    (s.drvRestore).slr.link = s.slr.link ∧
    (s.drvRestore).slr.consecMissing = s.slr.consecMissing ∧
    (s.drvRestore).slr.totalMissing = s.slr.totalMissing ∧
    (s.drvRestore).slr.lastSeq = s.slr.lastSeq ∧ (s.drvRestore).slr.gapCount = s.slr.gapCount ∧
    (s.drvRestore).slr.lastGood = s.slr.lastGood ∧
    (s.drvRestore).slr.silenceLeft = s.slr.silenceLeft ∧
    (s.drvRestore).slr.runPos = s.slr.runPos ∧
    (s.drvRestore).slr.prevPosition = s.slr.prevPosition ∧
    (s.drvRestore).slr.prevHandle = s.slr.prevHandle ∧
    (s.drvRestore).slr.prevReady = s.slr.prevReady ∧
    (s.drvRestore).slr.position = s.slr.position ∧ (s.drvRestore).slr.handle = s.slr.handle ∧
    (s.drvRestore).slr.ready = s.slr.ready ∧ (s.drvRestore).slr.decimation = s.slr.decimation ∧
    (s.drvRestore).slr.takeCount = s.slr.takeCount ∧ (s.drvRestore).slr.batch = s.slr.batch := by
  dsimp only [State.drvRestore]
  split_ands <;> simp

@[simp] theorem State.drvRestore_fcu_fields (s : State) :
    (s.drvRestore).fcu.rxRadio = s.fcu.rxRadio ∧ (s.drvRestore).fcu.rxLocal = s.fcu.rxLocal ∧
    (s.drvRestore).fcu.intake = s.fcu.intake ∧ (s.drvRestore).fcu.outRadio = s.fcu.outRadio ∧
    (s.drvRestore).fcu.outLocal = s.fcu.outLocal ∧ (s.drvRestore).fcu.badRadio = s.fcu.badRadio ∧
    (s.drvRestore).fcu.badLocal = s.fcu.badLocal ∧ (s.drvRestore).fcu.dropRadio = s.fcu.dropRadio ∧
    (s.drvRestore).fcu.dropLocal = s.fcu.dropLocal ∧
    (s.drvRestore).fcu.fwdDropped = s.fcu.fwdDropped ∧ (s.drvRestore).fcu.time = s.fcu.time ∧
    (s.drvRestore).fcu.running = s.fcu.running ∧ (s.drvRestore).fcu.subMs = s.fcu.subMs ∧
    (s.drvRestore).fcu.secondTick = s.fcu.secondTick := by
  dsimp only [State.drvRestore]
  split_ands <;> simp

@[simp] theorem State.drvRestore_pkm_fields (s : State) :
    (s.drvRestore).pkm.response = s.pkm.response ∧ (s.drvRestore).pkm.forward = s.pkm.forward := by
  dsimp only [State.drvRestore]
  split_ands <;> simp

/-! ## Operations of Machine/Sequence.lean -/

@[simp] theorem State.seqLockout_slr_fields (r : LockReason) (s : State) :
    (s.seqLockout r).slr.link = s.slr.link ∧
    (s.seqLockout r).slr.consecMissing = s.slr.consecMissing ∧
    (s.seqLockout r).slr.totalMissing = s.slr.totalMissing ∧
    (s.seqLockout r).slr.lastSeq = s.slr.lastSeq ∧
    (s.seqLockout r).slr.gapCount = s.slr.gapCount ∧
    (s.seqLockout r).slr.lastGood = s.slr.lastGood ∧
    (s.seqLockout r).slr.silenceLeft = s.slr.silenceLeft ∧
    (s.seqLockout r).slr.runPos = s.slr.runPos ∧
    (s.seqLockout r).slr.prevPosition = s.slr.prevPosition ∧
    (s.seqLockout r).slr.prevHandle = s.slr.prevHandle ∧
    (s.seqLockout r).slr.prevReady = s.slr.prevReady ∧
    (s.seqLockout r).slr.position = s.slr.position ∧ (s.seqLockout r).slr.handle = s.slr.handle ∧
    (s.seqLockout r).slr.ready = s.slr.ready ∧
    (s.seqLockout r).slr.decimation = s.slr.decimation ∧
    (s.seqLockout r).slr.takeCount = s.slr.takeCount ∧ (s.seqLockout r).slr.batch = s.slr.batch := by
  dsimp only [State.seqLockout]
  split_ands <;> simp

@[simp] theorem State.seqLockout_fcu_fields (r : LockReason) (s : State) :
    (s.seqLockout r).fcu.rxRadio = s.fcu.rxRadio ∧ (s.seqLockout r).fcu.rxLocal = s.fcu.rxLocal ∧
    (s.seqLockout r).fcu.intake = s.fcu.intake ∧ (s.seqLockout r).fcu.outRadio = s.fcu.outRadio ∧
    (s.seqLockout r).fcu.outLocal = s.fcu.outLocal ∧
    (s.seqLockout r).fcu.badRadio = s.fcu.badRadio ∧
    (s.seqLockout r).fcu.badLocal = s.fcu.badLocal ∧
    (s.seqLockout r).fcu.dropRadio = s.fcu.dropRadio ∧
    (s.seqLockout r).fcu.dropLocal = s.fcu.dropLocal ∧
    (s.seqLockout r).fcu.fwdDropped = s.fcu.fwdDropped ∧ (s.seqLockout r).fcu.time = s.fcu.time ∧
    (s.seqLockout r).fcu.running = s.fcu.running ∧ (s.seqLockout r).fcu.subMs = s.fcu.subMs ∧
    (s.seqLockout r).fcu.secondTick = s.fcu.secondTick := by
  dsimp only [State.seqLockout]
  split_ands <;> simp

@[simp] theorem State.seqLockout_pkm_fields (r : LockReason) (s : State) :
    (s.seqLockout r).pkm.response = s.pkm.response ∧
    (s.seqLockout r).pkm.forward = s.pkm.forward := by
  dsimp only [State.seqLockout]
  split_ands <;> simp

@[simp] theorem State.seqUnexpected_slr_fields (p : Position) (s : State) :
    (s.seqUnexpected p).slr.link = s.slr.link ∧
    (s.seqUnexpected p).slr.consecMissing = s.slr.consecMissing ∧
    (s.seqUnexpected p).slr.totalMissing = s.slr.totalMissing ∧
    (s.seqUnexpected p).slr.lastSeq = s.slr.lastSeq ∧
    (s.seqUnexpected p).slr.gapCount = s.slr.gapCount ∧
    (s.seqUnexpected p).slr.lastGood = s.slr.lastGood ∧
    (s.seqUnexpected p).slr.silenceLeft = s.slr.silenceLeft ∧
    (s.seqUnexpected p).slr.runPos = s.slr.runPos ∧
    (s.seqUnexpected p).slr.prevPosition = s.slr.prevPosition ∧
    (s.seqUnexpected p).slr.prevHandle = s.slr.prevHandle ∧
    (s.seqUnexpected p).slr.prevReady = s.slr.prevReady ∧
    (s.seqUnexpected p).slr.position = s.slr.position ∧
    (s.seqUnexpected p).slr.handle = s.slr.handle ∧ (s.seqUnexpected p).slr.ready = s.slr.ready ∧
    (s.seqUnexpected p).slr.decimation = s.slr.decimation ∧
    (s.seqUnexpected p).slr.takeCount = s.slr.takeCount ∧
    (s.seqUnexpected p).slr.batch = s.slr.batch := by
  dsimp only [State.seqUnexpected]
  split_ands <;> simp

@[simp] theorem State.seqUnexpected_fcu_fields (p : Position) (s : State) :
    (s.seqUnexpected p).fcu.rxRadio = s.fcu.rxRadio ∧
    (s.seqUnexpected p).fcu.rxLocal = s.fcu.rxLocal ∧
    (s.seqUnexpected p).fcu.intake = s.fcu.intake ∧
    (s.seqUnexpected p).fcu.outRadio = s.fcu.outRadio ∧
    (s.seqUnexpected p).fcu.outLocal = s.fcu.outLocal ∧
    (s.seqUnexpected p).fcu.badRadio = s.fcu.badRadio ∧
    (s.seqUnexpected p).fcu.badLocal = s.fcu.badLocal ∧
    (s.seqUnexpected p).fcu.dropRadio = s.fcu.dropRadio ∧
    (s.seqUnexpected p).fcu.dropLocal = s.fcu.dropLocal ∧
    (s.seqUnexpected p).fcu.fwdDropped = s.fcu.fwdDropped ∧
    (s.seqUnexpected p).fcu.time = s.fcu.time ∧ (s.seqUnexpected p).fcu.running = s.fcu.running ∧
    (s.seqUnexpected p).fcu.subMs = s.fcu.subMs ∧
    (s.seqUnexpected p).fcu.secondTick = s.fcu.secondTick := by
  dsimp only [State.seqUnexpected]
  split_ands <;> simp

@[simp] theorem State.seqUnexpected_pkm_fields (p : Position) (s : State) :
    (s.seqUnexpected p).pkm.response = s.pkm.response ∧
    (s.seqUnexpected p).pkm.forward = s.pkm.forward := by
  dsimp only [State.seqUnexpected]
  split_ands <;> simp

@[simp] theorem State.seqTripEnd_slr_fields (s : State) :
    (s.seqTripEnd).slr.link = s.slr.link ∧
    (s.seqTripEnd).slr.consecMissing = s.slr.consecMissing ∧
    (s.seqTripEnd).slr.totalMissing = s.slr.totalMissing ∧
    (s.seqTripEnd).slr.lastSeq = s.slr.lastSeq ∧ (s.seqTripEnd).slr.gapCount = s.slr.gapCount ∧
    (s.seqTripEnd).slr.lastGood = s.slr.lastGood ∧
    (s.seqTripEnd).slr.silenceLeft = s.slr.silenceLeft ∧
    (s.seqTripEnd).slr.runPos = s.slr.runPos ∧
    (s.seqTripEnd).slr.prevPosition = s.slr.prevPosition ∧
    (s.seqTripEnd).slr.prevHandle = s.slr.prevHandle ∧
    (s.seqTripEnd).slr.prevReady = s.slr.prevReady ∧
    (s.seqTripEnd).slr.position = s.slr.position ∧ (s.seqTripEnd).slr.handle = s.slr.handle ∧
    (s.seqTripEnd).slr.ready = s.slr.ready ∧ (s.seqTripEnd).slr.decimation = s.slr.decimation ∧
    (s.seqTripEnd).slr.takeCount = s.slr.takeCount ∧ (s.seqTripEnd).slr.batch = s.slr.batch := by
  dsimp only [State.seqTripEnd]
  split_ands <;> (repeat' split) <;> simp

@[simp] theorem State.seqTripEnd_fcu_fields (s : State) :
    (s.seqTripEnd).fcu.rxRadio = s.fcu.rxRadio ∧ (s.seqTripEnd).fcu.rxLocal = s.fcu.rxLocal ∧
    (s.seqTripEnd).fcu.intake = s.fcu.intake ∧ (s.seqTripEnd).fcu.outRadio = s.fcu.outRadio ∧
    (s.seqTripEnd).fcu.outLocal = s.fcu.outLocal ∧ (s.seqTripEnd).fcu.badRadio = s.fcu.badRadio ∧
    (s.seqTripEnd).fcu.badLocal = s.fcu.badLocal ∧ (s.seqTripEnd).fcu.dropRadio = s.fcu.dropRadio ∧
    (s.seqTripEnd).fcu.dropLocal = s.fcu.dropLocal ∧
    (s.seqTripEnd).fcu.fwdDropped = s.fcu.fwdDropped ∧ (s.seqTripEnd).fcu.time = s.fcu.time ∧
    (s.seqTripEnd).fcu.running = s.fcu.running ∧ (s.seqTripEnd).fcu.subMs = s.fcu.subMs ∧
    (s.seqTripEnd).fcu.secondTick = s.fcu.secondTick := by
  dsimp only [State.seqTripEnd]
  split_ands <;> (repeat' split) <;> simp

@[simp] theorem State.seqTripEnd_pkm_fields (s : State) :
    (s.seqTripEnd).pkm.response = s.pkm.response ∧ (s.seqTripEnd).pkm.forward = s.pkm.forward := by
  dsimp only [State.seqTripEnd]
  split_ands <;> (repeat' split) <;> simp

@[simp] theorem State.seqTripDone_slr_fields (s : State) :
    (s.seqTripDone).slr.link = s.slr.link ∧
    (s.seqTripDone).slr.consecMissing = s.slr.consecMissing ∧
    (s.seqTripDone).slr.totalMissing = s.slr.totalMissing ∧
    (s.seqTripDone).slr.lastSeq = s.slr.lastSeq ∧ (s.seqTripDone).slr.gapCount = s.slr.gapCount ∧
    (s.seqTripDone).slr.lastGood = s.slr.lastGood ∧
    (s.seqTripDone).slr.silenceLeft = s.slr.silenceLeft ∧
    (s.seqTripDone).slr.runPos = s.slr.runPos ∧
    (s.seqTripDone).slr.prevPosition = s.slr.prevPosition ∧
    (s.seqTripDone).slr.prevHandle = s.slr.prevHandle ∧
    (s.seqTripDone).slr.prevReady = s.slr.prevReady ∧
    (s.seqTripDone).slr.position = s.slr.position ∧ (s.seqTripDone).slr.handle = s.slr.handle ∧
    (s.seqTripDone).slr.ready = s.slr.ready ∧ (s.seqTripDone).slr.decimation = s.slr.decimation ∧
    (s.seqTripDone).slr.takeCount = s.slr.takeCount ∧ (s.seqTripDone).slr.batch = s.slr.batch := by
  dsimp only [State.seqTripDone]
  split_ands <;> (repeat' split) <;> simp

@[simp] theorem State.seqTripDone_fcu_fields (s : State) :
    (s.seqTripDone).fcu.rxRadio = s.fcu.rxRadio ∧ (s.seqTripDone).fcu.rxLocal = s.fcu.rxLocal ∧
    (s.seqTripDone).fcu.intake = s.fcu.intake ∧ (s.seqTripDone).fcu.outRadio = s.fcu.outRadio ∧
    (s.seqTripDone).fcu.outLocal = s.fcu.outLocal ∧ (s.seqTripDone).fcu.badRadio = s.fcu.badRadio ∧
    (s.seqTripDone).fcu.badLocal = s.fcu.badLocal ∧
    (s.seqTripDone).fcu.dropRadio = s.fcu.dropRadio ∧
    (s.seqTripDone).fcu.dropLocal = s.fcu.dropLocal ∧
    (s.seqTripDone).fcu.fwdDropped = s.fcu.fwdDropped ∧ (s.seqTripDone).fcu.time = s.fcu.time ∧
    (s.seqTripDone).fcu.running = s.fcu.running ∧ (s.seqTripDone).fcu.subMs = s.fcu.subMs ∧
    (s.seqTripDone).fcu.secondTick = s.fcu.secondTick := by
  dsimp only [State.seqTripDone]
  split_ands <;> (repeat' split) <;> simp

@[simp] theorem State.seqTripDone_pkm_fields (s : State) :
    (s.seqTripDone).pkm.response = s.pkm.response ∧ (s.seqTripDone).pkm.forward = s.pkm.forward := by
  dsimp only [State.seqTripDone]
  split_ands <;> (repeat' split) <;> simp

@[simp] theorem State.seqCloseDone_slr_fields (s : State) :
    (s.seqCloseDone).slr.link = s.slr.link ∧
    (s.seqCloseDone).slr.consecMissing = s.slr.consecMissing ∧
    (s.seqCloseDone).slr.totalMissing = s.slr.totalMissing ∧
    (s.seqCloseDone).slr.lastSeq = s.slr.lastSeq ∧
    (s.seqCloseDone).slr.gapCount = s.slr.gapCount ∧
    (s.seqCloseDone).slr.lastGood = s.slr.lastGood ∧
    (s.seqCloseDone).slr.silenceLeft = s.slr.silenceLeft ∧
    (s.seqCloseDone).slr.runPos = s.slr.runPos ∧
    (s.seqCloseDone).slr.prevPosition = s.slr.prevPosition ∧
    (s.seqCloseDone).slr.prevHandle = s.slr.prevHandle ∧
    (s.seqCloseDone).slr.prevReady = s.slr.prevReady ∧
    (s.seqCloseDone).slr.position = s.slr.position ∧ (s.seqCloseDone).slr.handle = s.slr.handle ∧
    (s.seqCloseDone).slr.ready = s.slr.ready ∧
    (s.seqCloseDone).slr.decimation = s.slr.decimation ∧
    (s.seqCloseDone).slr.takeCount = s.slr.takeCount ∧ (s.seqCloseDone).slr.batch = s.slr.batch := by
  dsimp only [State.seqCloseDone]
  split_ands <;> (repeat' split) <;> simp

@[simp] theorem State.seqCloseDone_fcu_fields (s : State) :
    (s.seqCloseDone).fcu.rxRadio = s.fcu.rxRadio ∧ (s.seqCloseDone).fcu.rxLocal = s.fcu.rxLocal ∧
    (s.seqCloseDone).fcu.intake = s.fcu.intake ∧ (s.seqCloseDone).fcu.outRadio = s.fcu.outRadio ∧
    (s.seqCloseDone).fcu.outLocal = s.fcu.outLocal ∧
    (s.seqCloseDone).fcu.badRadio = s.fcu.badRadio ∧
    (s.seqCloseDone).fcu.badLocal = s.fcu.badLocal ∧
    (s.seqCloseDone).fcu.dropRadio = s.fcu.dropRadio ∧
    (s.seqCloseDone).fcu.dropLocal = s.fcu.dropLocal ∧
    (s.seqCloseDone).fcu.fwdDropped = s.fcu.fwdDropped ∧ (s.seqCloseDone).fcu.time = s.fcu.time ∧
    (s.seqCloseDone).fcu.running = s.fcu.running ∧ (s.seqCloseDone).fcu.subMs = s.fcu.subMs ∧
    (s.seqCloseDone).fcu.secondTick = s.fcu.secondTick := by
  dsimp only [State.seqCloseDone]
  split_ands <;> (repeat' split) <;> simp

@[simp] theorem State.seqCloseDone_pkm_fields (s : State) :
    (s.seqCloseDone).pkm.response = s.pkm.response ∧
    (s.seqCloseDone).pkm.forward = s.pkm.forward := by
  dsimp only [State.seqCloseDone]
  split_ands <;> (repeat' split) <;> simp

@[simp] theorem State.seqCloseFailed_slr_fields (s : State) :
    (s.seqCloseFailed).slr.link = s.slr.link ∧
    (s.seqCloseFailed).slr.consecMissing = s.slr.consecMissing ∧
    (s.seqCloseFailed).slr.totalMissing = s.slr.totalMissing ∧
    (s.seqCloseFailed).slr.lastSeq = s.slr.lastSeq ∧
    (s.seqCloseFailed).slr.gapCount = s.slr.gapCount ∧
    (s.seqCloseFailed).slr.lastGood = s.slr.lastGood ∧
    (s.seqCloseFailed).slr.silenceLeft = s.slr.silenceLeft ∧
    (s.seqCloseFailed).slr.runPos = s.slr.runPos ∧
    (s.seqCloseFailed).slr.prevPosition = s.slr.prevPosition ∧
    (s.seqCloseFailed).slr.prevHandle = s.slr.prevHandle ∧
    (s.seqCloseFailed).slr.prevReady = s.slr.prevReady ∧
    (s.seqCloseFailed).slr.position = s.slr.position ∧
    (s.seqCloseFailed).slr.handle = s.slr.handle ∧ (s.seqCloseFailed).slr.ready = s.slr.ready ∧
    (s.seqCloseFailed).slr.decimation = s.slr.decimation ∧
    (s.seqCloseFailed).slr.takeCount = s.slr.takeCount ∧
    (s.seqCloseFailed).slr.batch = s.slr.batch := by
  dsimp only [State.seqCloseFailed]
  split_ands <;> (repeat' split) <;> simp

@[simp] theorem State.seqCloseFailed_fcu_fields (s : State) :
    (s.seqCloseFailed).fcu.rxRadio = s.fcu.rxRadio ∧
    (s.seqCloseFailed).fcu.rxLocal = s.fcu.rxLocal ∧ (s.seqCloseFailed).fcu.intake = s.fcu.intake ∧
    (s.seqCloseFailed).fcu.outRadio = s.fcu.outRadio ∧
    (s.seqCloseFailed).fcu.outLocal = s.fcu.outLocal ∧
    (s.seqCloseFailed).fcu.badRadio = s.fcu.badRadio ∧
    (s.seqCloseFailed).fcu.badLocal = s.fcu.badLocal ∧
    (s.seqCloseFailed).fcu.dropRadio = s.fcu.dropRadio ∧
    (s.seqCloseFailed).fcu.dropLocal = s.fcu.dropLocal ∧
    (s.seqCloseFailed).fcu.fwdDropped = s.fcu.fwdDropped ∧
    (s.seqCloseFailed).fcu.time = s.fcu.time ∧ (s.seqCloseFailed).fcu.running = s.fcu.running ∧
    (s.seqCloseFailed).fcu.subMs = s.fcu.subMs ∧
    (s.seqCloseFailed).fcu.secondTick = s.fcu.secondTick := by
  dsimp only [State.seqCloseFailed]
  split_ands <;> (repeat' split) <;> simp

@[simp] theorem State.seqCloseFailed_pkm_fields (s : State) :
    (s.seqCloseFailed).pkm.response = s.pkm.response ∧
    (s.seqCloseFailed).pkm.forward = s.pkm.forward := by
  dsimp only [State.seqCloseFailed]
  split_ands <;> (repeat' split) <;> simp

@[simp] theorem State.seqRestored_slr_fields (s : State) :
    (s.seqRestored).slr.link = s.slr.link ∧
    (s.seqRestored).slr.consecMissing = s.slr.consecMissing ∧
    (s.seqRestored).slr.totalMissing = s.slr.totalMissing ∧
    (s.seqRestored).slr.lastSeq = s.slr.lastSeq ∧ (s.seqRestored).slr.gapCount = s.slr.gapCount ∧
    (s.seqRestored).slr.lastGood = s.slr.lastGood ∧
    (s.seqRestored).slr.silenceLeft = s.slr.silenceLeft ∧
    (s.seqRestored).slr.runPos = s.slr.runPos ∧
    (s.seqRestored).slr.prevPosition = s.slr.prevPosition ∧
    (s.seqRestored).slr.prevHandle = s.slr.prevHandle ∧
    (s.seqRestored).slr.prevReady = s.slr.prevReady ∧
    (s.seqRestored).slr.position = s.slr.position ∧ (s.seqRestored).slr.handle = s.slr.handle ∧
    (s.seqRestored).slr.ready = s.slr.ready ∧ (s.seqRestored).slr.decimation = s.slr.decimation ∧
    (s.seqRestored).slr.takeCount = s.slr.takeCount ∧ (s.seqRestored).slr.batch = s.slr.batch := by
  dsimp only [State.seqRestored]
  split_ands <;> (repeat' split) <;> simp

@[simp] theorem State.seqRestored_fcu_fields (s : State) :
    (s.seqRestored).fcu.rxRadio = s.fcu.rxRadio ∧ (s.seqRestored).fcu.rxLocal = s.fcu.rxLocal ∧
    (s.seqRestored).fcu.intake = s.fcu.intake ∧ (s.seqRestored).fcu.outRadio = s.fcu.outRadio ∧
    (s.seqRestored).fcu.outLocal = s.fcu.outLocal ∧ (s.seqRestored).fcu.badRadio = s.fcu.badRadio ∧
    (s.seqRestored).fcu.badLocal = s.fcu.badLocal ∧
    (s.seqRestored).fcu.dropRadio = s.fcu.dropRadio ∧
    (s.seqRestored).fcu.dropLocal = s.fcu.dropLocal ∧
    (s.seqRestored).fcu.fwdDropped = s.fcu.fwdDropped ∧ (s.seqRestored).fcu.time = s.fcu.time ∧
    (s.seqRestored).fcu.running = s.fcu.running ∧ (s.seqRestored).fcu.subMs = s.fcu.subMs ∧
    (s.seqRestored).fcu.secondTick = s.fcu.secondTick := by
  dsimp only [State.seqRestored]
  split_ands <;> (repeat' split) <;> simp

@[simp] theorem State.seqRestored_pkm_fields (s : State) :
    (s.seqRestored).pkm.response = s.pkm.response ∧ (s.seqRestored).pkm.forward = s.pkm.forward := by
  dsimp only [State.seqRestored]
  split_ands <;> (repeat' split) <;> simp

@[simp] theorem State.placeTrip_slr_fields (c : TripCause) (announce : Option Flags4) (s : State) :
    (s.placeTrip c announce).slr.link = s.slr.link ∧
    (s.placeTrip c announce).slr.consecMissing = s.slr.consecMissing ∧
    (s.placeTrip c announce).slr.totalMissing = s.slr.totalMissing ∧
    (s.placeTrip c announce).slr.lastSeq = s.slr.lastSeq ∧
    (s.placeTrip c announce).slr.gapCount = s.slr.gapCount ∧
    (s.placeTrip c announce).slr.lastGood = s.slr.lastGood ∧
    (s.placeTrip c announce).slr.silenceLeft = s.slr.silenceLeft ∧
    (s.placeTrip c announce).slr.runPos = s.slr.runPos ∧
    (s.placeTrip c announce).slr.prevPosition = s.slr.prevPosition ∧
    (s.placeTrip c announce).slr.prevHandle = s.slr.prevHandle ∧
    (s.placeTrip c announce).slr.prevReady = s.slr.prevReady ∧
    (s.placeTrip c announce).slr.position = s.slr.position ∧
    (s.placeTrip c announce).slr.handle = s.slr.handle ∧
    (s.placeTrip c announce).slr.ready = s.slr.ready ∧
    (s.placeTrip c announce).slr.decimation = s.slr.decimation ∧
    (s.placeTrip c announce).slr.takeCount = s.slr.takeCount ∧
    (s.placeTrip c announce).slr.batch = s.slr.batch := by
  dsimp only [State.placeTrip]
  split_ands <;> (repeat' split) <;> simp

@[simp] theorem State.placeTrip_fcu_fields (c : TripCause) (announce : Option Flags4) (s : State) :
    (s.placeTrip c announce).fcu.rxRadio = s.fcu.rxRadio ∧
    (s.placeTrip c announce).fcu.rxLocal = s.fcu.rxLocal ∧
    (s.placeTrip c announce).fcu.intake = s.fcu.intake ∧
    (s.placeTrip c announce).fcu.outRadio = s.fcu.outRadio ∧
    (s.placeTrip c announce).fcu.outLocal = s.fcu.outLocal ∧
    (s.placeTrip c announce).fcu.badRadio = s.fcu.badRadio ∧
    (s.placeTrip c announce).fcu.badLocal = s.fcu.badLocal ∧
    (s.placeTrip c announce).fcu.dropRadio = s.fcu.dropRadio ∧
    (s.placeTrip c announce).fcu.dropLocal = s.fcu.dropLocal ∧
    (s.placeTrip c announce).fcu.fwdDropped = s.fcu.fwdDropped ∧
    (s.placeTrip c announce).fcu.time = s.fcu.time ∧
    (s.placeTrip c announce).fcu.running = s.fcu.running ∧
    (s.placeTrip c announce).fcu.subMs = s.fcu.subMs ∧
    (s.placeTrip c announce).fcu.secondTick = s.fcu.secondTick := by
  dsimp only [State.placeTrip]
  split_ands <;> (repeat' split) <;> simp

@[simp] theorem State.placeTrip_pkm_fields (c : TripCause) (announce : Option Flags4) (s : State) :
    (s.placeTrip c announce).pkm.response = s.pkm.response ∧
    (s.placeTrip c announce).pkm.forward = s.pkm.forward := by
  dsimp only [State.placeTrip]
  split_ands <;> (repeat' split) <;> simp

@[simp] theorem State.seqProtect_slr_fields (s : State) :
    (s.seqProtect).slr.link = s.slr.link ∧
    (s.seqProtect).slr.consecMissing = s.slr.consecMissing ∧
    (s.seqProtect).slr.totalMissing = s.slr.totalMissing ∧
    (s.seqProtect).slr.lastSeq = s.slr.lastSeq ∧ (s.seqProtect).slr.gapCount = s.slr.gapCount ∧
    (s.seqProtect).slr.lastGood = s.slr.lastGood ∧
    (s.seqProtect).slr.silenceLeft = s.slr.silenceLeft ∧
    (s.seqProtect).slr.runPos = s.slr.runPos ∧
    (s.seqProtect).slr.prevPosition = s.slr.prevPosition ∧
    (s.seqProtect).slr.prevHandle = s.slr.prevHandle ∧
    (s.seqProtect).slr.prevReady = s.slr.prevReady ∧
    (s.seqProtect).slr.position = s.slr.position ∧ (s.seqProtect).slr.handle = s.slr.handle ∧
    (s.seqProtect).slr.ready = s.slr.ready ∧ (s.seqProtect).slr.decimation = s.slr.decimation ∧
    (s.seqProtect).slr.takeCount = s.slr.takeCount ∧ (s.seqProtect).slr.batch = s.slr.batch := by
  dsimp only [State.seqProtect]
  split_ands <;> (repeat' split) <;> simp

@[simp] theorem State.seqProtect_fcu_fields (s : State) :
    (s.seqProtect).fcu.rxRadio = s.fcu.rxRadio ∧ (s.seqProtect).fcu.rxLocal = s.fcu.rxLocal ∧
    (s.seqProtect).fcu.intake = s.fcu.intake ∧ (s.seqProtect).fcu.outRadio = s.fcu.outRadio ∧
    (s.seqProtect).fcu.outLocal = s.fcu.outLocal ∧ (s.seqProtect).fcu.badRadio = s.fcu.badRadio ∧
    (s.seqProtect).fcu.badLocal = s.fcu.badLocal ∧ (s.seqProtect).fcu.dropRadio = s.fcu.dropRadio ∧
    (s.seqProtect).fcu.dropLocal = s.fcu.dropLocal ∧
    (s.seqProtect).fcu.fwdDropped = s.fcu.fwdDropped ∧ (s.seqProtect).fcu.time = s.fcu.time ∧
    (s.seqProtect).fcu.running = s.fcu.running ∧ (s.seqProtect).fcu.subMs = s.fcu.subMs ∧
    (s.seqProtect).fcu.secondTick = s.fcu.secondTick := by
  dsimp only [State.seqProtect]
  split_ands <;> (repeat' split) <;> simp

@[simp] theorem State.seqProtect_pkm_fields (s : State) :
    (s.seqProtect).pkm.response = s.pkm.response ∧ (s.seqProtect).pkm.forward = s.pkm.forward := by
  dsimp only [State.seqProtect]
  split_ands <;> (repeat' split) <;> simp

@[simp] theorem State.seqTripUnknown_slr_fields (c : TripCause) (m : RestartMark) (s : State) :
    (s.seqTripUnknown c m).slr.link = s.slr.link ∧
    (s.seqTripUnknown c m).slr.consecMissing = s.slr.consecMissing ∧
    (s.seqTripUnknown c m).slr.totalMissing = s.slr.totalMissing ∧
    (s.seqTripUnknown c m).slr.lastSeq = s.slr.lastSeq ∧
    (s.seqTripUnknown c m).slr.gapCount = s.slr.gapCount ∧
    (s.seqTripUnknown c m).slr.lastGood = s.slr.lastGood ∧
    (s.seqTripUnknown c m).slr.silenceLeft = s.slr.silenceLeft ∧
    (s.seqTripUnknown c m).slr.runPos = s.slr.runPos ∧
    (s.seqTripUnknown c m).slr.prevPosition = s.slr.prevPosition ∧
    (s.seqTripUnknown c m).slr.prevHandle = s.slr.prevHandle ∧
    (s.seqTripUnknown c m).slr.prevReady = s.slr.prevReady ∧
    (s.seqTripUnknown c m).slr.position = s.slr.position ∧
    (s.seqTripUnknown c m).slr.handle = s.slr.handle ∧
    (s.seqTripUnknown c m).slr.ready = s.slr.ready ∧
    (s.seqTripUnknown c m).slr.decimation = s.slr.decimation ∧
    (s.seqTripUnknown c m).slr.takeCount = s.slr.takeCount ∧
    (s.seqTripUnknown c m).slr.batch = s.slr.batch := by
  dsimp only [State.seqTripUnknown]
  split_ands <;> (repeat' split) <;> simp

@[simp] theorem State.seqTripUnknown_fcu_fields (c : TripCause) (m : RestartMark) (s : State) :
    (s.seqTripUnknown c m).fcu.rxRadio = s.fcu.rxRadio ∧
    (s.seqTripUnknown c m).fcu.rxLocal = s.fcu.rxLocal ∧
    (s.seqTripUnknown c m).fcu.intake = s.fcu.intake ∧
    (s.seqTripUnknown c m).fcu.outRadio = s.fcu.outRadio ∧
    (s.seqTripUnknown c m).fcu.outLocal = s.fcu.outLocal ∧
    (s.seqTripUnknown c m).fcu.badRadio = s.fcu.badRadio ∧
    (s.seqTripUnknown c m).fcu.badLocal = s.fcu.badLocal ∧
    (s.seqTripUnknown c m).fcu.dropRadio = s.fcu.dropRadio ∧
    (s.seqTripUnknown c m).fcu.dropLocal = s.fcu.dropLocal ∧
    (s.seqTripUnknown c m).fcu.fwdDropped = s.fcu.fwdDropped ∧
    (s.seqTripUnknown c m).fcu.time = s.fcu.time ∧
    (s.seqTripUnknown c m).fcu.running = s.fcu.running ∧
    (s.seqTripUnknown c m).fcu.subMs = s.fcu.subMs ∧
    (s.seqTripUnknown c m).fcu.secondTick = s.fcu.secondTick := by
  dsimp only [State.seqTripUnknown]
  split_ands <;> (repeat' split) <;> simp

@[simp] theorem State.seqTripUnknown_pkm_fields (c : TripCause) (m : RestartMark) (s : State) :
    (s.seqTripUnknown c m).pkm.response = s.pkm.response ∧
    (s.seqTripUnknown c m).pkm.forward = s.pkm.forward := by
  dsimp only [State.seqTripUnknown]
  split_ands <;> (repeat' split) <;> simp

@[simp] theorem State.seqTripCommand_slr_fields (s : State) :
    (s.seqTripCommand).slr.link = s.slr.link ∧
    (s.seqTripCommand).slr.consecMissing = s.slr.consecMissing ∧
    (s.seqTripCommand).slr.totalMissing = s.slr.totalMissing ∧
    (s.seqTripCommand).slr.lastSeq = s.slr.lastSeq ∧
    (s.seqTripCommand).slr.gapCount = s.slr.gapCount ∧
    (s.seqTripCommand).slr.lastGood = s.slr.lastGood ∧
    (s.seqTripCommand).slr.silenceLeft = s.slr.silenceLeft ∧
    (s.seqTripCommand).slr.runPos = s.slr.runPos ∧
    (s.seqTripCommand).slr.prevPosition = s.slr.prevPosition ∧
    (s.seqTripCommand).slr.prevHandle = s.slr.prevHandle ∧
    (s.seqTripCommand).slr.prevReady = s.slr.prevReady ∧
    (s.seqTripCommand).slr.position = s.slr.position ∧
    (s.seqTripCommand).slr.handle = s.slr.handle ∧ (s.seqTripCommand).slr.ready = s.slr.ready ∧
    (s.seqTripCommand).slr.decimation = s.slr.decimation ∧
    (s.seqTripCommand).slr.takeCount = s.slr.takeCount ∧
    (s.seqTripCommand).slr.batch = s.slr.batch := by
  dsimp only [State.seqTripCommand]
  split_ands <;> (repeat' split) <;> simp

@[simp] theorem State.seqTripCommand_fcu_fields (s : State) :
    (s.seqTripCommand).fcu.rxRadio = s.fcu.rxRadio ∧
    (s.seqTripCommand).fcu.rxLocal = s.fcu.rxLocal ∧ (s.seqTripCommand).fcu.intake = s.fcu.intake ∧
    (s.seqTripCommand).fcu.outRadio = s.fcu.outRadio ∧
    (s.seqTripCommand).fcu.outLocal = s.fcu.outLocal ∧
    (s.seqTripCommand).fcu.badRadio = s.fcu.badRadio ∧
    (s.seqTripCommand).fcu.badLocal = s.fcu.badLocal ∧
    (s.seqTripCommand).fcu.dropRadio = s.fcu.dropRadio ∧
    (s.seqTripCommand).fcu.dropLocal = s.fcu.dropLocal ∧
    (s.seqTripCommand).fcu.fwdDropped = s.fcu.fwdDropped ∧
    (s.seqTripCommand).fcu.time = s.fcu.time ∧ (s.seqTripCommand).fcu.running = s.fcu.running ∧
    (s.seqTripCommand).fcu.subMs = s.fcu.subMs ∧
    (s.seqTripCommand).fcu.secondTick = s.fcu.secondTick := by
  dsimp only [State.seqTripCommand]
  split_ands <;> (repeat' split) <;> simp

@[simp] theorem State.seqTripCommand_pkm_fields (s : State) :
    (s.seqTripCommand).pkm.response = s.pkm.response ∧
    (s.seqTripCommand).pkm.forward = s.pkm.forward := by
  dsimp only [State.seqTripCommand]
  split_ands <;> (repeat' split) <;> simp

@[simp] theorem State.seqLowBattery_slr_fields (s : State) :
    (s.seqLowBattery).slr.link = s.slr.link ∧
    (s.seqLowBattery).slr.consecMissing = s.slr.consecMissing ∧
    (s.seqLowBattery).slr.totalMissing = s.slr.totalMissing ∧
    (s.seqLowBattery).slr.lastSeq = s.slr.lastSeq ∧
    (s.seqLowBattery).slr.gapCount = s.slr.gapCount ∧
    (s.seqLowBattery).slr.lastGood = s.slr.lastGood ∧
    (s.seqLowBattery).slr.silenceLeft = s.slr.silenceLeft ∧
    (s.seqLowBattery).slr.runPos = s.slr.runPos ∧
    (s.seqLowBattery).slr.prevPosition = s.slr.prevPosition ∧
    (s.seqLowBattery).slr.prevHandle = s.slr.prevHandle ∧
    (s.seqLowBattery).slr.prevReady = s.slr.prevReady ∧
    (s.seqLowBattery).slr.position = s.slr.position ∧
    (s.seqLowBattery).slr.handle = s.slr.handle ∧ (s.seqLowBattery).slr.ready = s.slr.ready ∧
    (s.seqLowBattery).slr.decimation = s.slr.decimation ∧
    (s.seqLowBattery).slr.takeCount = s.slr.takeCount ∧
    (s.seqLowBattery).slr.batch = s.slr.batch := by
  dsimp only [State.seqLowBattery]
  split_ands <;> (repeat' split) <;> simp

@[simp] theorem State.seqLowBattery_fcu_fields (s : State) :
    (s.seqLowBattery).fcu.rxRadio = s.fcu.rxRadio ∧ (s.seqLowBattery).fcu.rxLocal = s.fcu.rxLocal ∧
    (s.seqLowBattery).fcu.intake = s.fcu.intake ∧ (s.seqLowBattery).fcu.outRadio = s.fcu.outRadio ∧
    (s.seqLowBattery).fcu.outLocal = s.fcu.outLocal ∧
    (s.seqLowBattery).fcu.badRadio = s.fcu.badRadio ∧
    (s.seqLowBattery).fcu.badLocal = s.fcu.badLocal ∧
    (s.seqLowBattery).fcu.dropRadio = s.fcu.dropRadio ∧
    (s.seqLowBattery).fcu.dropLocal = s.fcu.dropLocal ∧
    (s.seqLowBattery).fcu.fwdDropped = s.fcu.fwdDropped ∧ (s.seqLowBattery).fcu.time = s.fcu.time ∧
    (s.seqLowBattery).fcu.running = s.fcu.running ∧ (s.seqLowBattery).fcu.subMs = s.fcu.subMs ∧
    (s.seqLowBattery).fcu.secondTick = s.fcu.secondTick := by
  dsimp only [State.seqLowBattery]
  split_ands <;> (repeat' split) <;> simp

@[simp] theorem State.seqLowBattery_pkm_fields (s : State) :
    (s.seqLowBattery).pkm.response = s.pkm.response ∧
    (s.seqLowBattery).pkm.forward = s.pkm.forward := by
  dsimp only [State.seqLowBattery]
  split_ands <;> (repeat' split) <;> simp

@[simp] theorem State.lowBatteryRequest_slr_fields (s : State) :
    (s.lowBatteryRequest).slr.link = s.slr.link ∧
    (s.lowBatteryRequest).slr.consecMissing = s.slr.consecMissing ∧
    (s.lowBatteryRequest).slr.totalMissing = s.slr.totalMissing ∧
    (s.lowBatteryRequest).slr.lastSeq = s.slr.lastSeq ∧
    (s.lowBatteryRequest).slr.gapCount = s.slr.gapCount ∧
    (s.lowBatteryRequest).slr.lastGood = s.slr.lastGood ∧
    (s.lowBatteryRequest).slr.silenceLeft = s.slr.silenceLeft ∧
    (s.lowBatteryRequest).slr.runPos = s.slr.runPos ∧
    (s.lowBatteryRequest).slr.prevPosition = s.slr.prevPosition ∧
    (s.lowBatteryRequest).slr.prevHandle = s.slr.prevHandle ∧
    (s.lowBatteryRequest).slr.prevReady = s.slr.prevReady ∧
    (s.lowBatteryRequest).slr.position = s.slr.position ∧
    (s.lowBatteryRequest).slr.handle = s.slr.handle ∧
    (s.lowBatteryRequest).slr.ready = s.slr.ready ∧
    (s.lowBatteryRequest).slr.decimation = s.slr.decimation ∧
    (s.lowBatteryRequest).slr.takeCount = s.slr.takeCount ∧
    (s.lowBatteryRequest).slr.batch = s.slr.batch := by
  dsimp only [State.lowBatteryRequest]
  split_ands <;> simp

@[simp] theorem State.lowBatteryRequest_fcu_fields (s : State) :
    (s.lowBatteryRequest).fcu.rxRadio = s.fcu.rxRadio ∧
    (s.lowBatteryRequest).fcu.rxLocal = s.fcu.rxLocal ∧
    (s.lowBatteryRequest).fcu.intake = s.fcu.intake ∧
    (s.lowBatteryRequest).fcu.outRadio = s.fcu.outRadio ∧
    (s.lowBatteryRequest).fcu.outLocal = s.fcu.outLocal ∧
    (s.lowBatteryRequest).fcu.badRadio = s.fcu.badRadio ∧
    (s.lowBatteryRequest).fcu.badLocal = s.fcu.badLocal ∧
    (s.lowBatteryRequest).fcu.dropRadio = s.fcu.dropRadio ∧
    (s.lowBatteryRequest).fcu.dropLocal = s.fcu.dropLocal ∧
    (s.lowBatteryRequest).fcu.fwdDropped = s.fcu.fwdDropped ∧
    (s.lowBatteryRequest).fcu.time = s.fcu.time ∧
    (s.lowBatteryRequest).fcu.running = s.fcu.running ∧
    (s.lowBatteryRequest).fcu.subMs = s.fcu.subMs ∧
    (s.lowBatteryRequest).fcu.secondTick = s.fcu.secondTick := by
  dsimp only [State.lowBatteryRequest]
  split_ands <;> simp

@[simp] theorem State.lowBatteryRequest_pkm_fields (s : State) :
    (s.lowBatteryRequest).pkm.response = s.pkm.response ∧
    (s.lowBatteryRequest).pkm.forward = s.pkm.forward := by
  dsimp only [State.lowBatteryRequest]
  split_ands <;> simp

@[simp] theorem State.placeClose_slr_fields (c : CloseCause) (ans : CloseAnswer) (s : State) :
    (s.placeClose c ans).slr.link = s.slr.link ∧
    (s.placeClose c ans).slr.consecMissing = s.slr.consecMissing ∧
    (s.placeClose c ans).slr.totalMissing = s.slr.totalMissing ∧
    (s.placeClose c ans).slr.lastSeq = s.slr.lastSeq ∧
    (s.placeClose c ans).slr.gapCount = s.slr.gapCount ∧
    (s.placeClose c ans).slr.lastGood = s.slr.lastGood ∧
    (s.placeClose c ans).slr.silenceLeft = s.slr.silenceLeft ∧
    (s.placeClose c ans).slr.runPos = s.slr.runPos ∧
    (s.placeClose c ans).slr.prevPosition = s.slr.prevPosition ∧
    (s.placeClose c ans).slr.prevHandle = s.slr.prevHandle ∧
    (s.placeClose c ans).slr.prevReady = s.slr.prevReady ∧
    (s.placeClose c ans).slr.position = s.slr.position ∧
    (s.placeClose c ans).slr.handle = s.slr.handle ∧
    (s.placeClose c ans).slr.ready = s.slr.ready ∧
    (s.placeClose c ans).slr.decimation = s.slr.decimation ∧
    (s.placeClose c ans).slr.takeCount = s.slr.takeCount ∧
    (s.placeClose c ans).slr.batch = s.slr.batch := by
  dsimp only [State.placeClose]
  split_ands <;> (repeat' split) <;> simp

@[simp] theorem State.placeClose_fcu_fields (c : CloseCause) (ans : CloseAnswer) (s : State) :
    (s.placeClose c ans).fcu.rxRadio = s.fcu.rxRadio ∧
    (s.placeClose c ans).fcu.rxLocal = s.fcu.rxLocal ∧
    (s.placeClose c ans).fcu.intake = s.fcu.intake ∧
    (s.placeClose c ans).fcu.outRadio = s.fcu.outRadio ∧
    (s.placeClose c ans).fcu.outLocal = s.fcu.outLocal ∧
    (s.placeClose c ans).fcu.badRadio = s.fcu.badRadio ∧
    (s.placeClose c ans).fcu.badLocal = s.fcu.badLocal ∧
    (s.placeClose c ans).fcu.dropRadio = s.fcu.dropRadio ∧
    (s.placeClose c ans).fcu.dropLocal = s.fcu.dropLocal ∧
    (s.placeClose c ans).fcu.fwdDropped = s.fcu.fwdDropped ∧
    (s.placeClose c ans).fcu.time = s.fcu.time ∧ (s.placeClose c ans).fcu.running = s.fcu.running ∧
    (s.placeClose c ans).fcu.subMs = s.fcu.subMs ∧
    (s.placeClose c ans).fcu.secondTick = s.fcu.secondTick := by
  dsimp only [State.placeClose]
  split_ands <;> (repeat' split) <;> simp

@[simp] theorem State.placeClose_pkm_fields (c : CloseCause) (ans : CloseAnswer) (s : State) :
    (s.placeClose c ans).pkm.response = s.pkm.response ∧
    (s.placeClose c ans).pkm.forward = s.pkm.forward := by
  dsimp only [State.placeClose]
  split_ands <;> (repeat' split) <;> simp

@[simp] theorem State.checkClose_slr_fields (s : State) :
    (s.checkClose).slr.link = s.slr.link ∧
    (s.checkClose).slr.consecMissing = s.slr.consecMissing ∧
    (s.checkClose).slr.totalMissing = s.slr.totalMissing ∧
    (s.checkClose).slr.lastSeq = s.slr.lastSeq ∧ (s.checkClose).slr.gapCount = s.slr.gapCount ∧
    (s.checkClose).slr.lastGood = s.slr.lastGood ∧
    (s.checkClose).slr.silenceLeft = s.slr.silenceLeft ∧
    (s.checkClose).slr.runPos = s.slr.runPos ∧
    (s.checkClose).slr.prevPosition = s.slr.prevPosition ∧
    (s.checkClose).slr.prevHandle = s.slr.prevHandle ∧
    (s.checkClose).slr.prevReady = s.slr.prevReady ∧
    (s.checkClose).slr.position = s.slr.position ∧ (s.checkClose).slr.handle = s.slr.handle ∧
    (s.checkClose).slr.ready = s.slr.ready ∧ (s.checkClose).slr.decimation = s.slr.decimation ∧
    (s.checkClose).slr.takeCount = s.slr.takeCount ∧ (s.checkClose).slr.batch = s.slr.batch := by
  dsimp only [State.checkClose]
  split_ands <;> (repeat' split) <;> simp

@[simp] theorem State.checkClose_fcu_fields (s : State) :
    (s.checkClose).fcu.rxRadio = s.fcu.rxRadio ∧ (s.checkClose).fcu.rxLocal = s.fcu.rxLocal ∧
    (s.checkClose).fcu.intake = s.fcu.intake ∧ (s.checkClose).fcu.outRadio = s.fcu.outRadio ∧
    (s.checkClose).fcu.outLocal = s.fcu.outLocal ∧ (s.checkClose).fcu.badRadio = s.fcu.badRadio ∧
    (s.checkClose).fcu.badLocal = s.fcu.badLocal ∧ (s.checkClose).fcu.dropRadio = s.fcu.dropRadio ∧
    (s.checkClose).fcu.dropLocal = s.fcu.dropLocal ∧
    (s.checkClose).fcu.fwdDropped = s.fcu.fwdDropped ∧ (s.checkClose).fcu.time = s.fcu.time ∧
    (s.checkClose).fcu.running = s.fcu.running ∧ (s.checkClose).fcu.subMs = s.fcu.subMs ∧
    (s.checkClose).fcu.secondTick = s.fcu.secondTick := by
  dsimp only [State.checkClose]
  split_ands <;> (repeat' split) <;> simp

@[simp] theorem State.checkClose_pkm_fields (s : State) :
    (s.checkClose).pkm.response = s.pkm.response ∧ (s.checkClose).pkm.forward = s.pkm.forward := by
  dsimp only [State.checkClose]
  split_ands <;> (repeat' split) <;> simp

@[simp] theorem State.seqCloseWait_slr_fields (s : State) :
    (s.seqCloseWait).slr.link = s.slr.link ∧
    (s.seqCloseWait).slr.consecMissing = s.slr.consecMissing ∧
    (s.seqCloseWait).slr.totalMissing = s.slr.totalMissing ∧
    (s.seqCloseWait).slr.lastSeq = s.slr.lastSeq ∧
    (s.seqCloseWait).slr.gapCount = s.slr.gapCount ∧
    (s.seqCloseWait).slr.lastGood = s.slr.lastGood ∧
    (s.seqCloseWait).slr.silenceLeft = s.slr.silenceLeft ∧
    (s.seqCloseWait).slr.runPos = s.slr.runPos ∧
    (s.seqCloseWait).slr.prevPosition = s.slr.prevPosition ∧
    (s.seqCloseWait).slr.prevHandle = s.slr.prevHandle ∧
    (s.seqCloseWait).slr.prevReady = s.slr.prevReady ∧
    (s.seqCloseWait).slr.position = s.slr.position ∧ (s.seqCloseWait).slr.handle = s.slr.handle ∧
    (s.seqCloseWait).slr.ready = s.slr.ready ∧
    (s.seqCloseWait).slr.decimation = s.slr.decimation ∧
    (s.seqCloseWait).slr.takeCount = s.slr.takeCount ∧ (s.seqCloseWait).slr.batch = s.slr.batch := by
  dsimp only [State.seqCloseWait]
  split_ands <;> simp

@[simp] theorem State.seqCloseWait_fcu_fields (s : State) :
    (s.seqCloseWait).fcu.rxRadio = s.fcu.rxRadio ∧ (s.seqCloseWait).fcu.rxLocal = s.fcu.rxLocal ∧
    (s.seqCloseWait).fcu.intake = s.fcu.intake ∧ (s.seqCloseWait).fcu.outRadio = s.fcu.outRadio ∧
    (s.seqCloseWait).fcu.outLocal = s.fcu.outLocal ∧
    (s.seqCloseWait).fcu.badRadio = s.fcu.badRadio ∧
    (s.seqCloseWait).fcu.badLocal = s.fcu.badLocal ∧
    (s.seqCloseWait).fcu.dropRadio = s.fcu.dropRadio ∧
    (s.seqCloseWait).fcu.dropLocal = s.fcu.dropLocal ∧
    (s.seqCloseWait).fcu.fwdDropped = s.fcu.fwdDropped ∧ (s.seqCloseWait).fcu.time = s.fcu.time ∧
    (s.seqCloseWait).fcu.running = s.fcu.running ∧ (s.seqCloseWait).fcu.subMs = s.fcu.subMs ∧
    (s.seqCloseWait).fcu.secondTick = s.fcu.secondTick := by
  dsimp only [State.seqCloseWait]
  split_ands <;> simp

@[simp] theorem State.seqCloseWait_pkm_fields (s : State) :
    (s.seqCloseWait).pkm.response = s.pkm.response ∧
    (s.seqCloseWait).pkm.forward = s.pkm.forward := by
  dsimp only [State.seqCloseWait]
  split_ands <;> simp

@[simp] theorem State.seqCloseCommand_slr_fields (s : State) :
    (s.seqCloseCommand).slr.link = s.slr.link ∧
    (s.seqCloseCommand).slr.consecMissing = s.slr.consecMissing ∧
    (s.seqCloseCommand).slr.totalMissing = s.slr.totalMissing ∧
    (s.seqCloseCommand).slr.lastSeq = s.slr.lastSeq ∧
    (s.seqCloseCommand).slr.gapCount = s.slr.gapCount ∧
    (s.seqCloseCommand).slr.lastGood = s.slr.lastGood ∧
    (s.seqCloseCommand).slr.silenceLeft = s.slr.silenceLeft ∧
    (s.seqCloseCommand).slr.runPos = s.slr.runPos ∧
    (s.seqCloseCommand).slr.prevPosition = s.slr.prevPosition ∧
    (s.seqCloseCommand).slr.prevHandle = s.slr.prevHandle ∧
    (s.seqCloseCommand).slr.prevReady = s.slr.prevReady ∧
    (s.seqCloseCommand).slr.position = s.slr.position ∧
    (s.seqCloseCommand).slr.handle = s.slr.handle ∧ (s.seqCloseCommand).slr.ready = s.slr.ready ∧
    (s.seqCloseCommand).slr.decimation = s.slr.decimation ∧
    (s.seqCloseCommand).slr.takeCount = s.slr.takeCount ∧
    (s.seqCloseCommand).slr.batch = s.slr.batch := by
  dsimp only [State.seqCloseCommand]
  split_ands <;> (repeat' split) <;> simp

@[simp] theorem State.seqCloseCommand_fcu_fields (s : State) :
    (s.seqCloseCommand).fcu.rxRadio = s.fcu.rxRadio ∧
    (s.seqCloseCommand).fcu.rxLocal = s.fcu.rxLocal ∧
    (s.seqCloseCommand).fcu.intake = s.fcu.intake ∧
    (s.seqCloseCommand).fcu.outRadio = s.fcu.outRadio ∧
    (s.seqCloseCommand).fcu.outLocal = s.fcu.outLocal ∧
    (s.seqCloseCommand).fcu.badRadio = s.fcu.badRadio ∧
    (s.seqCloseCommand).fcu.badLocal = s.fcu.badLocal ∧
    (s.seqCloseCommand).fcu.dropRadio = s.fcu.dropRadio ∧
    (s.seqCloseCommand).fcu.dropLocal = s.fcu.dropLocal ∧
    (s.seqCloseCommand).fcu.fwdDropped = s.fcu.fwdDropped ∧
    (s.seqCloseCommand).fcu.time = s.fcu.time ∧ (s.seqCloseCommand).fcu.running = s.fcu.running ∧
    (s.seqCloseCommand).fcu.subMs = s.fcu.subMs ∧
    (s.seqCloseCommand).fcu.secondTick = s.fcu.secondTick := by
  dsimp only [State.seqCloseCommand]
  split_ands <;> (repeat' split) <;> simp

@[simp] theorem State.seqCloseCommand_pkm_fields (s : State) :
    (s.seqCloseCommand).pkm.response = s.pkm.response ∧
    (s.seqCloseCommand).pkm.forward = s.pkm.forward := by
  dsimp only [State.seqCloseCommand]
  split_ands <;> (repeat' split) <;> simp

@[simp] theorem State.seqAdvance_slr_fields (s : State) :
    (s.seqAdvance).slr.link = s.slr.link ∧
    (s.seqAdvance).slr.consecMissing = s.slr.consecMissing ∧
    (s.seqAdvance).slr.totalMissing = s.slr.totalMissing ∧
    (s.seqAdvance).slr.lastSeq = s.slr.lastSeq ∧ (s.seqAdvance).slr.gapCount = s.slr.gapCount ∧
    (s.seqAdvance).slr.lastGood = s.slr.lastGood ∧
    (s.seqAdvance).slr.silenceLeft = s.slr.silenceLeft ∧
    (s.seqAdvance).slr.runPos = s.slr.runPos ∧
    (s.seqAdvance).slr.prevPosition = s.slr.prevPosition ∧
    (s.seqAdvance).slr.prevHandle = s.slr.prevHandle ∧
    (s.seqAdvance).slr.prevReady = s.slr.prevReady ∧
    (s.seqAdvance).slr.position = s.slr.position ∧ (s.seqAdvance).slr.handle = s.slr.handle ∧
    (s.seqAdvance).slr.ready = s.slr.ready ∧ (s.seqAdvance).slr.decimation = s.slr.decimation ∧
    (s.seqAdvance).slr.takeCount = s.slr.takeCount ∧ (s.seqAdvance).slr.batch = s.slr.batch := by
  dsimp only [State.seqAdvance]
  split_ands <;> simp

@[simp] theorem State.seqAdvance_fcu_fields (s : State) :
    (s.seqAdvance).fcu.rxRadio = s.fcu.rxRadio ∧ (s.seqAdvance).fcu.rxLocal = s.fcu.rxLocal ∧
    (s.seqAdvance).fcu.intake = s.fcu.intake ∧ (s.seqAdvance).fcu.outRadio = s.fcu.outRadio ∧
    (s.seqAdvance).fcu.outLocal = s.fcu.outLocal ∧ (s.seqAdvance).fcu.badRadio = s.fcu.badRadio ∧
    (s.seqAdvance).fcu.badLocal = s.fcu.badLocal ∧ (s.seqAdvance).fcu.dropRadio = s.fcu.dropRadio ∧
    (s.seqAdvance).fcu.dropLocal = s.fcu.dropLocal ∧
    (s.seqAdvance).fcu.fwdDropped = s.fcu.fwdDropped ∧ (s.seqAdvance).fcu.time = s.fcu.time ∧
    (s.seqAdvance).fcu.running = s.fcu.running ∧ (s.seqAdvance).fcu.subMs = s.fcu.subMs ∧
    (s.seqAdvance).fcu.secondTick = s.fcu.secondTick := by
  dsimp only [State.seqAdvance]
  split_ands <;> simp

@[simp] theorem State.seqAdvance_pkm_fields (s : State) :
    (s.seqAdvance).pkm.response = s.pkm.response ∧ (s.seqAdvance).pkm.forward = s.pkm.forward := by
  dsimp only [State.seqAdvance]
  split_ands <;> simp

@[simp] theorem State.seqEpisode_slr_fields (r : ElemResult) (s : State) :
    (s.seqEpisode r).slr.link = s.slr.link ∧
    (s.seqEpisode r).slr.consecMissing = s.slr.consecMissing ∧
    (s.seqEpisode r).slr.totalMissing = s.slr.totalMissing ∧
    (s.seqEpisode r).slr.lastSeq = s.slr.lastSeq ∧
    (s.seqEpisode r).slr.gapCount = s.slr.gapCount ∧
    (s.seqEpisode r).slr.lastGood = s.slr.lastGood ∧
    (s.seqEpisode r).slr.silenceLeft = s.slr.silenceLeft ∧
    (s.seqEpisode r).slr.runPos = s.slr.runPos ∧
    (s.seqEpisode r).slr.prevPosition = s.slr.prevPosition ∧
    (s.seqEpisode r).slr.prevHandle = s.slr.prevHandle ∧
    (s.seqEpisode r).slr.prevReady = s.slr.prevReady ∧
    (s.seqEpisode r).slr.position = s.slr.position ∧ (s.seqEpisode r).slr.handle = s.slr.handle ∧
    (s.seqEpisode r).slr.ready = s.slr.ready ∧
    (s.seqEpisode r).slr.decimation = s.slr.decimation ∧
    (s.seqEpisode r).slr.takeCount = s.slr.takeCount ∧ (s.seqEpisode r).slr.batch = s.slr.batch := by
  dsimp only [State.seqEpisode]
  split_ands <;> (repeat' split) <;> simp

@[simp] theorem State.seqEpisode_fcu_fields (r : ElemResult) (s : State) :
    (s.seqEpisode r).fcu.rxRadio = s.fcu.rxRadio ∧ (s.seqEpisode r).fcu.rxLocal = s.fcu.rxLocal ∧
    (s.seqEpisode r).fcu.intake = s.fcu.intake ∧ (s.seqEpisode r).fcu.outRadio = s.fcu.outRadio ∧
    (s.seqEpisode r).fcu.outLocal = s.fcu.outLocal ∧
    (s.seqEpisode r).fcu.badRadio = s.fcu.badRadio ∧
    (s.seqEpisode r).fcu.badLocal = s.fcu.badLocal ∧
    (s.seqEpisode r).fcu.dropRadio = s.fcu.dropRadio ∧
    (s.seqEpisode r).fcu.dropLocal = s.fcu.dropLocal ∧
    (s.seqEpisode r).fcu.fwdDropped = s.fcu.fwdDropped ∧ (s.seqEpisode r).fcu.time = s.fcu.time ∧
    (s.seqEpisode r).fcu.running = s.fcu.running ∧ (s.seqEpisode r).fcu.subMs = s.fcu.subMs ∧
    (s.seqEpisode r).fcu.secondTick = s.fcu.secondTick := by
  dsimp only [State.seqEpisode]
  split_ands <;> (repeat' split) <;> simp

@[simp] theorem State.seqEpisode_pkm_fields (r : ElemResult) (s : State) :
    (s.seqEpisode r).pkm.response = s.pkm.response ∧
    (s.seqEpisode r).pkm.forward = s.pkm.forward := by
  dsimp only [State.seqEpisode]
  split_ands <;> (repeat' split) <;> simp

@[simp] theorem State.seqResult_slr_fields (r : ElemResult) (s : State) :
    (s.seqResult r).slr.link = s.slr.link ∧
    (s.seqResult r).slr.consecMissing = s.slr.consecMissing ∧
    (s.seqResult r).slr.totalMissing = s.slr.totalMissing ∧
    (s.seqResult r).slr.lastSeq = s.slr.lastSeq ∧ (s.seqResult r).slr.gapCount = s.slr.gapCount ∧
    (s.seqResult r).slr.lastGood = s.slr.lastGood ∧
    (s.seqResult r).slr.silenceLeft = s.slr.silenceLeft ∧
    (s.seqResult r).slr.runPos = s.slr.runPos ∧
    (s.seqResult r).slr.prevPosition = s.slr.prevPosition ∧
    (s.seqResult r).slr.prevHandle = s.slr.prevHandle ∧
    (s.seqResult r).slr.prevReady = s.slr.prevReady ∧
    (s.seqResult r).slr.position = s.slr.position ∧ (s.seqResult r).slr.handle = s.slr.handle ∧
    (s.seqResult r).slr.ready = s.slr.ready ∧ (s.seqResult r).slr.decimation = s.slr.decimation ∧
    (s.seqResult r).slr.takeCount = s.slr.takeCount ∧ (s.seqResult r).slr.batch = s.slr.batch := by
  dsimp only [State.seqResult]
  split_ands <;> (repeat' split) <;> simp

@[simp] theorem State.seqResult_fcu_fields (r : ElemResult) (s : State) :
    (s.seqResult r).fcu.rxRadio = s.fcu.rxRadio ∧ (s.seqResult r).fcu.rxLocal = s.fcu.rxLocal ∧
    (s.seqResult r).fcu.intake = s.fcu.intake ∧ (s.seqResult r).fcu.outRadio = s.fcu.outRadio ∧
    (s.seqResult r).fcu.outLocal = s.fcu.outLocal ∧ (s.seqResult r).fcu.badRadio = s.fcu.badRadio ∧
    (s.seqResult r).fcu.badLocal = s.fcu.badLocal ∧
    (s.seqResult r).fcu.dropRadio = s.fcu.dropRadio ∧
    (s.seqResult r).fcu.dropLocal = s.fcu.dropLocal ∧
    (s.seqResult r).fcu.fwdDropped = s.fcu.fwdDropped ∧ (s.seqResult r).fcu.time = s.fcu.time ∧
    (s.seqResult r).fcu.running = s.fcu.running ∧ (s.seqResult r).fcu.subMs = s.fcu.subMs ∧
    (s.seqResult r).fcu.secondTick = s.fcu.secondTick := by
  dsimp only [State.seqResult]
  split_ands <;> (repeat' split) <;> simp

@[simp] theorem State.seqResult_pkm_fields (r : ElemResult) (s : State) :
    (s.seqResult r).pkm.response = s.pkm.response ∧ (s.seqResult r).pkm.forward = s.pkm.forward := by
  dsimp only [State.seqResult]
  split_ands <;> (repeat' split) <;> simp

@[simp] theorem State.seqTakeResult_slr_fields (r : ElemResult) (s : State) :
    (s.seqTakeResult r).slr.link = s.slr.link ∧
    (s.seqTakeResult r).slr.consecMissing = s.slr.consecMissing ∧
    (s.seqTakeResult r).slr.totalMissing = s.slr.totalMissing ∧
    (s.seqTakeResult r).slr.lastSeq = s.slr.lastSeq ∧ (s.seqTakeResult r).slr.gapCount = s.slr.gapCount ∧
    (s.seqTakeResult r).slr.lastGood = s.slr.lastGood ∧
    (s.seqTakeResult r).slr.silenceLeft = s.slr.silenceLeft ∧
    (s.seqTakeResult r).slr.runPos = s.slr.runPos ∧
    (s.seqTakeResult r).slr.prevPosition = s.slr.prevPosition ∧
    (s.seqTakeResult r).slr.prevHandle = s.slr.prevHandle ∧
    (s.seqTakeResult r).slr.prevReady = s.slr.prevReady ∧
    (s.seqTakeResult r).slr.position = s.slr.position ∧ (s.seqTakeResult r).slr.handle = s.slr.handle ∧
    (s.seqTakeResult r).slr.ready = s.slr.ready ∧ (s.seqTakeResult r).slr.decimation = s.slr.decimation ∧
    (s.seqTakeResult r).slr.takeCount = s.slr.takeCount ∧ (s.seqTakeResult r).slr.batch = s.slr.batch := by
  dsimp only [State.seqTakeResult]
  split_ands <;> (repeat' split) <;> simp

@[simp] theorem State.elePosition_slr_fields (d : Delivery) (s : State) :
    (s.elePosition d).slr.link = s.slr.link ∧
    (s.elePosition d).slr.consecMissing = s.slr.consecMissing ∧
    (s.elePosition d).slr.totalMissing = s.slr.totalMissing ∧
    (s.elePosition d).slr.lastSeq = s.slr.lastSeq ∧
    (s.elePosition d).slr.gapCount = s.slr.gapCount ∧
    (s.elePosition d).slr.lastGood = s.slr.lastGood ∧
    (s.elePosition d).slr.silenceLeft = s.slr.silenceLeft ∧
    (s.elePosition d).slr.runPos = s.slr.runPos ∧
    (s.elePosition d).slr.prevPosition = s.slr.prevPosition ∧
    (s.elePosition d).slr.prevHandle = s.slr.prevHandle ∧
    (s.elePosition d).slr.prevReady = s.slr.prevReady ∧
    (s.elePosition d).slr.position = s.slr.position ∧
    (s.elePosition d).slr.handle = s.slr.handle ∧ (s.elePosition d).slr.ready = s.slr.ready ∧
    (s.elePosition d).slr.decimation = s.slr.decimation ∧
    (s.elePosition d).slr.takeCount = s.slr.takeCount ∧
    (s.elePosition d).slr.batch = s.slr.batch := by
  dsimp only [State.elePosition]
  split_ands <;> (repeat' split) <;> simp

@[simp] theorem State.seqTakeResult_fcu_fields (r : ElemResult) (s : State) :
    (s.seqTakeResult r).fcu.rxRadio = s.fcu.rxRadio ∧ (s.seqTakeResult r).fcu.rxLocal = s.fcu.rxLocal ∧
    (s.seqTakeResult r).fcu.intake = s.fcu.intake ∧ (s.seqTakeResult r).fcu.outRadio = s.fcu.outRadio ∧
    (s.seqTakeResult r).fcu.outLocal = s.fcu.outLocal ∧ (s.seqTakeResult r).fcu.badRadio = s.fcu.badRadio ∧
    (s.seqTakeResult r).fcu.badLocal = s.fcu.badLocal ∧
    (s.seqTakeResult r).fcu.dropRadio = s.fcu.dropRadio ∧
    (s.seqTakeResult r).fcu.dropLocal = s.fcu.dropLocal ∧
    (s.seqTakeResult r).fcu.fwdDropped = s.fcu.fwdDropped ∧ (s.seqTakeResult r).fcu.time = s.fcu.time ∧
    (s.seqTakeResult r).fcu.running = s.fcu.running ∧ (s.seqTakeResult r).fcu.subMs = s.fcu.subMs ∧
    (s.seqTakeResult r).fcu.secondTick = s.fcu.secondTick := by
  dsimp only [State.seqTakeResult]
  split_ands <;> (repeat' split) <;> simp

@[simp] theorem State.elePosition_fcu_fields (d : Delivery) (s : State) :
    (s.elePosition d).fcu.rxRadio = s.fcu.rxRadio ∧ (s.elePosition d).fcu.rxLocal = s.fcu.rxLocal ∧
    (s.elePosition d).fcu.intake = s.fcu.intake ∧ (s.elePosition d).fcu.outRadio = s.fcu.outRadio ∧
    (s.elePosition d).fcu.outLocal = s.fcu.outLocal ∧
    (s.elePosition d).fcu.badRadio = s.fcu.badRadio ∧
    (s.elePosition d).fcu.badLocal = s.fcu.badLocal ∧
    (s.elePosition d).fcu.dropRadio = s.fcu.dropRadio ∧
    (s.elePosition d).fcu.dropLocal = s.fcu.dropLocal ∧
    (s.elePosition d).fcu.fwdDropped = s.fcu.fwdDropped ∧ (s.elePosition d).fcu.time = s.fcu.time ∧
    (s.elePosition d).fcu.running = s.fcu.running ∧ (s.elePosition d).fcu.subMs = s.fcu.subMs ∧
    (s.elePosition d).fcu.secondTick = s.fcu.secondTick := by
  dsimp only [State.elePosition]
  split_ands <;> (repeat' split) <;> simp

@[simp] theorem State.seqTakeResult_pkm_fields (r : ElemResult) (s : State) :
    (s.seqTakeResult r).pkm.response = s.pkm.response ∧ (s.seqTakeResult r).pkm.forward = s.pkm.forward := by
  dsimp only [State.seqTakeResult]
  split_ands <;> (repeat' split) <;> simp

@[simp] theorem State.elePosition_pkm_fields (d : Delivery) (s : State) :
    (s.elePosition d).pkm.response = s.pkm.response ∧
    (s.elePosition d).pkm.forward = s.pkm.forward := by
  dsimp only [State.elePosition]
  split_ands <;> (repeat' split) <;> simp

@[simp] theorem State.seqHandle_slr_fields (before : Handle) (s : State) :
    (s.seqHandle before).slr.link = s.slr.link ∧
    (s.seqHandle before).slr.consecMissing = s.slr.consecMissing ∧
    (s.seqHandle before).slr.totalMissing = s.slr.totalMissing ∧
    (s.seqHandle before).slr.lastSeq = s.slr.lastSeq ∧
    (s.seqHandle before).slr.gapCount = s.slr.gapCount ∧
    (s.seqHandle before).slr.lastGood = s.slr.lastGood ∧
    (s.seqHandle before).slr.silenceLeft = s.slr.silenceLeft ∧
    (s.seqHandle before).slr.runPos = s.slr.runPos ∧
    (s.seqHandle before).slr.prevPosition = s.slr.prevPosition ∧
    (s.seqHandle before).slr.prevHandle = s.slr.prevHandle ∧
    (s.seqHandle before).slr.prevReady = s.slr.prevReady ∧
    (s.seqHandle before).slr.position = s.slr.position ∧
    (s.seqHandle before).slr.handle = s.slr.handle ∧
    (s.seqHandle before).slr.ready = s.slr.ready ∧
    (s.seqHandle before).slr.decimation = s.slr.decimation ∧
    (s.seqHandle before).slr.takeCount = s.slr.takeCount ∧
    (s.seqHandle before).slr.batch = s.slr.batch := by
  dsimp only [State.seqHandle]
  split_ands <;> (repeat' split) <;> simp

@[simp] theorem State.seqHandle_fcu_fields (before : Handle) (s : State) :
    (s.seqHandle before).fcu.rxRadio = s.fcu.rxRadio ∧
    (s.seqHandle before).fcu.rxLocal = s.fcu.rxLocal ∧
    (s.seqHandle before).fcu.intake = s.fcu.intake ∧
    (s.seqHandle before).fcu.outRadio = s.fcu.outRadio ∧
    (s.seqHandle before).fcu.outLocal = s.fcu.outLocal ∧
    (s.seqHandle before).fcu.badRadio = s.fcu.badRadio ∧
    (s.seqHandle before).fcu.badLocal = s.fcu.badLocal ∧
    (s.seqHandle before).fcu.dropRadio = s.fcu.dropRadio ∧
    (s.seqHandle before).fcu.dropLocal = s.fcu.dropLocal ∧
    (s.seqHandle before).fcu.fwdDropped = s.fcu.fwdDropped ∧
    (s.seqHandle before).fcu.time = s.fcu.time ∧ (s.seqHandle before).fcu.running = s.fcu.running ∧
    (s.seqHandle before).fcu.subMs = s.fcu.subMs ∧
    (s.seqHandle before).fcu.secondTick = s.fcu.secondTick := by
  dsimp only [State.seqHandle]
  split_ands <;> (repeat' split) <;> simp

@[simp] theorem State.seqHandle_pkm_fields (before : Handle) (s : State) :
    (s.seqHandle before).pkm.response = s.pkm.response ∧
    (s.seqHandle before).pkm.forward = s.pkm.forward := by
  dsimp only [State.seqHandle]
  split_ands <;> (repeat' split) <;> simp

@[simp] theorem State.seqLeaveUnknown_slr_fields (d : Delivery) (s : State) :
    (s.seqLeaveUnknown d).slr.link = s.slr.link ∧
    (s.seqLeaveUnknown d).slr.consecMissing = s.slr.consecMissing ∧
    (s.seqLeaveUnknown d).slr.totalMissing = s.slr.totalMissing ∧
    (s.seqLeaveUnknown d).slr.lastSeq = s.slr.lastSeq ∧
    (s.seqLeaveUnknown d).slr.gapCount = s.slr.gapCount ∧
    (s.seqLeaveUnknown d).slr.lastGood = s.slr.lastGood ∧
    (s.seqLeaveUnknown d).slr.silenceLeft = s.slr.silenceLeft ∧
    (s.seqLeaveUnknown d).slr.runPos = s.slr.runPos ∧
    (s.seqLeaveUnknown d).slr.prevPosition = s.slr.prevPosition ∧
    (s.seqLeaveUnknown d).slr.prevHandle = s.slr.prevHandle ∧
    (s.seqLeaveUnknown d).slr.prevReady = s.slr.prevReady ∧
    (s.seqLeaveUnknown d).slr.position = s.slr.position ∧
    (s.seqLeaveUnknown d).slr.handle = s.slr.handle ∧
    (s.seqLeaveUnknown d).slr.ready = s.slr.ready ∧
    (s.seqLeaveUnknown d).slr.decimation = s.slr.decimation ∧
    (s.seqLeaveUnknown d).slr.takeCount = s.slr.takeCount ∧
    (s.seqLeaveUnknown d).slr.batch = s.slr.batch := by
  dsimp only [State.seqLeaveUnknown]
  split_ands <;> (repeat' split) <;> simp

@[simp] theorem State.seqLeaveUnknown_fcu_fields (d : Delivery) (s : State) :
    (s.seqLeaveUnknown d).fcu.rxRadio = s.fcu.rxRadio ∧
    (s.seqLeaveUnknown d).fcu.rxLocal = s.fcu.rxLocal ∧
    (s.seqLeaveUnknown d).fcu.intake = s.fcu.intake ∧
    (s.seqLeaveUnknown d).fcu.outRadio = s.fcu.outRadio ∧
    (s.seqLeaveUnknown d).fcu.outLocal = s.fcu.outLocal ∧
    (s.seqLeaveUnknown d).fcu.badRadio = s.fcu.badRadio ∧
    (s.seqLeaveUnknown d).fcu.badLocal = s.fcu.badLocal ∧
    (s.seqLeaveUnknown d).fcu.dropRadio = s.fcu.dropRadio ∧
    (s.seqLeaveUnknown d).fcu.dropLocal = s.fcu.dropLocal ∧
    (s.seqLeaveUnknown d).fcu.fwdDropped = s.fcu.fwdDropped ∧
    (s.seqLeaveUnknown d).fcu.time = s.fcu.time ∧
    (s.seqLeaveUnknown d).fcu.running = s.fcu.running ∧
    (s.seqLeaveUnknown d).fcu.subMs = s.fcu.subMs ∧
    (s.seqLeaveUnknown d).fcu.secondTick = s.fcu.secondTick := by
  dsimp only [State.seqLeaveUnknown]
  split_ands <;> (repeat' split) <;> simp

@[simp] theorem State.seqLeaveUnknown_pkm_fields (d : Delivery) (s : State) :
    (s.seqLeaveUnknown d).pkm.response = s.pkm.response ∧
    (s.seqLeaveUnknown d).pkm.forward = s.pkm.forward := by
  dsimp only [State.seqLeaveUnknown]
  split_ands <;> (repeat' split) <;> simp

@[simp] theorem State.seqOpened_slr_fields (d : Delivery) (changed : Bool) (s : State) :
    (s.seqOpened d changed).slr.link = s.slr.link ∧
    (s.seqOpened d changed).slr.consecMissing = s.slr.consecMissing ∧
    (s.seqOpened d changed).slr.totalMissing = s.slr.totalMissing ∧
    (s.seqOpened d changed).slr.lastSeq = s.slr.lastSeq ∧
    (s.seqOpened d changed).slr.gapCount = s.slr.gapCount ∧
    (s.seqOpened d changed).slr.lastGood = s.slr.lastGood ∧
    (s.seqOpened d changed).slr.silenceLeft = s.slr.silenceLeft ∧
    (s.seqOpened d changed).slr.runPos = s.slr.runPos ∧
    (s.seqOpened d changed).slr.prevPosition = s.slr.prevPosition ∧
    (s.seqOpened d changed).slr.prevHandle = s.slr.prevHandle ∧
    (s.seqOpened d changed).slr.prevReady = s.slr.prevReady ∧
    (s.seqOpened d changed).slr.position = s.slr.position ∧
    (s.seqOpened d changed).slr.handle = s.slr.handle ∧
    (s.seqOpened d changed).slr.ready = s.slr.ready ∧
    (s.seqOpened d changed).slr.decimation = s.slr.decimation ∧
    (s.seqOpened d changed).slr.takeCount = s.slr.takeCount ∧
    (s.seqOpened d changed).slr.batch = s.slr.batch := by
  dsimp only [State.seqOpened]
  split_ands <;> (repeat' split) <;> simp

@[simp] theorem State.seqOpened_fcu_fields (d : Delivery) (changed : Bool) (s : State) :
    (s.seqOpened d changed).fcu.rxRadio = s.fcu.rxRadio ∧
    (s.seqOpened d changed).fcu.rxLocal = s.fcu.rxLocal ∧
    (s.seqOpened d changed).fcu.intake = s.fcu.intake ∧
    (s.seqOpened d changed).fcu.outRadio = s.fcu.outRadio ∧
    (s.seqOpened d changed).fcu.outLocal = s.fcu.outLocal ∧
    (s.seqOpened d changed).fcu.badRadio = s.fcu.badRadio ∧
    (s.seqOpened d changed).fcu.badLocal = s.fcu.badLocal ∧
    (s.seqOpened d changed).fcu.dropRadio = s.fcu.dropRadio ∧
    (s.seqOpened d changed).fcu.dropLocal = s.fcu.dropLocal ∧
    (s.seqOpened d changed).fcu.fwdDropped = s.fcu.fwdDropped ∧
    (s.seqOpened d changed).fcu.time = s.fcu.time ∧
    (s.seqOpened d changed).fcu.running = s.fcu.running ∧
    (s.seqOpened d changed).fcu.subMs = s.fcu.subMs ∧
    (s.seqOpened d changed).fcu.secondTick = s.fcu.secondTick := by
  dsimp only [State.seqOpened]
  split_ands <;> (repeat' split) <;> simp

@[simp] theorem State.seqOpened_pkm_fields (d : Delivery) (changed : Bool) (s : State) :
    (s.seqOpened d changed).pkm.response = s.pkm.response ∧
    (s.seqOpened d changed).pkm.forward = s.pkm.forward := by
  dsimp only [State.seqOpened]
  split_ands <;> (repeat' split) <;> simp

@[simp] theorem State.seqClosed_slr_fields (d : Delivery) (changed : Bool) (s : State) :
    (s.seqClosed d changed).slr.link = s.slr.link ∧
    (s.seqClosed d changed).slr.consecMissing = s.slr.consecMissing ∧
    (s.seqClosed d changed).slr.totalMissing = s.slr.totalMissing ∧
    (s.seqClosed d changed).slr.lastSeq = s.slr.lastSeq ∧
    (s.seqClosed d changed).slr.gapCount = s.slr.gapCount ∧
    (s.seqClosed d changed).slr.lastGood = s.slr.lastGood ∧
    (s.seqClosed d changed).slr.silenceLeft = s.slr.silenceLeft ∧
    (s.seqClosed d changed).slr.runPos = s.slr.runPos ∧
    (s.seqClosed d changed).slr.prevPosition = s.slr.prevPosition ∧
    (s.seqClosed d changed).slr.prevHandle = s.slr.prevHandle ∧
    (s.seqClosed d changed).slr.prevReady = s.slr.prevReady ∧
    (s.seqClosed d changed).slr.position = s.slr.position ∧
    (s.seqClosed d changed).slr.handle = s.slr.handle ∧
    (s.seqClosed d changed).slr.ready = s.slr.ready ∧
    (s.seqClosed d changed).slr.decimation = s.slr.decimation ∧
    (s.seqClosed d changed).slr.takeCount = s.slr.takeCount ∧
    (s.seqClosed d changed).slr.batch = s.slr.batch := by
  dsimp only [State.seqClosed]
  split_ands <;> (repeat' split) <;> simp

@[simp] theorem State.seqClosed_fcu_fields (d : Delivery) (changed : Bool) (s : State) :
    (s.seqClosed d changed).fcu.rxRadio = s.fcu.rxRadio ∧
    (s.seqClosed d changed).fcu.rxLocal = s.fcu.rxLocal ∧
    (s.seqClosed d changed).fcu.intake = s.fcu.intake ∧
    (s.seqClosed d changed).fcu.outRadio = s.fcu.outRadio ∧
    (s.seqClosed d changed).fcu.outLocal = s.fcu.outLocal ∧
    (s.seqClosed d changed).fcu.badRadio = s.fcu.badRadio ∧
    (s.seqClosed d changed).fcu.badLocal = s.fcu.badLocal ∧
    (s.seqClosed d changed).fcu.dropRadio = s.fcu.dropRadio ∧
    (s.seqClosed d changed).fcu.dropLocal = s.fcu.dropLocal ∧
    (s.seqClosed d changed).fcu.fwdDropped = s.fcu.fwdDropped ∧
    (s.seqClosed d changed).fcu.time = s.fcu.time ∧
    (s.seqClosed d changed).fcu.running = s.fcu.running ∧
    (s.seqClosed d changed).fcu.subMs = s.fcu.subMs ∧
    (s.seqClosed d changed).fcu.secondTick = s.fcu.secondTick := by
  dsimp only [State.seqClosed]
  split_ands <;> (repeat' split) <;> simp

@[simp] theorem State.seqClosed_pkm_fields (d : Delivery) (changed : Bool) (s : State) :
    (s.seqClosed d changed).pkm.response = s.pkm.response ∧
    (s.seqClosed d changed).pkm.forward = s.pkm.forward := by
  dsimp only [State.seqClosed]
  split_ands <;> (repeat' split) <;> simp

@[simp] theorem State.seqPosition_slr_fields (d : Delivery) (changed : Bool) (s : State) :
    (s.seqPosition d changed).slr.link = s.slr.link ∧
    (s.seqPosition d changed).slr.consecMissing = s.slr.consecMissing ∧
    (s.seqPosition d changed).slr.totalMissing = s.slr.totalMissing ∧
    (s.seqPosition d changed).slr.lastSeq = s.slr.lastSeq ∧
    (s.seqPosition d changed).slr.gapCount = s.slr.gapCount ∧
    (s.seqPosition d changed).slr.lastGood = s.slr.lastGood ∧
    (s.seqPosition d changed).slr.silenceLeft = s.slr.silenceLeft ∧
    (s.seqPosition d changed).slr.runPos = s.slr.runPos ∧
    (s.seqPosition d changed).slr.prevPosition = s.slr.prevPosition ∧
    (s.seqPosition d changed).slr.prevHandle = s.slr.prevHandle ∧
    (s.seqPosition d changed).slr.prevReady = s.slr.prevReady ∧
    (s.seqPosition d changed).slr.position = s.slr.position ∧
    (s.seqPosition d changed).slr.handle = s.slr.handle ∧
    (s.seqPosition d changed).slr.ready = s.slr.ready ∧
    (s.seqPosition d changed).slr.decimation = s.slr.decimation ∧
    (s.seqPosition d changed).slr.takeCount = s.slr.takeCount ∧
    (s.seqPosition d changed).slr.batch = s.slr.batch := by
  dsimp only [State.seqPosition]
  split_ands <;> (repeat' split) <;> simp

@[simp] theorem State.seqPosition_fcu_fields (d : Delivery) (changed : Bool) (s : State) :
    (s.seqPosition d changed).fcu.rxRadio = s.fcu.rxRadio ∧
    (s.seqPosition d changed).fcu.rxLocal = s.fcu.rxLocal ∧
    (s.seqPosition d changed).fcu.intake = s.fcu.intake ∧
    (s.seqPosition d changed).fcu.outRadio = s.fcu.outRadio ∧
    (s.seqPosition d changed).fcu.outLocal = s.fcu.outLocal ∧
    (s.seqPosition d changed).fcu.badRadio = s.fcu.badRadio ∧
    (s.seqPosition d changed).fcu.badLocal = s.fcu.badLocal ∧
    (s.seqPosition d changed).fcu.dropRadio = s.fcu.dropRadio ∧
    (s.seqPosition d changed).fcu.dropLocal = s.fcu.dropLocal ∧
    (s.seqPosition d changed).fcu.fwdDropped = s.fcu.fwdDropped ∧
    (s.seqPosition d changed).fcu.time = s.fcu.time ∧
    (s.seqPosition d changed).fcu.running = s.fcu.running ∧
    (s.seqPosition d changed).fcu.subMs = s.fcu.subMs ∧
    (s.seqPosition d changed).fcu.secondTick = s.fcu.secondTick := by
  dsimp only [State.seqPosition]
  split_ands <;> (repeat' split) <;> simp

@[simp] theorem State.seqPosition_pkm_fields (d : Delivery) (changed : Bool) (s : State) :
    (s.seqPosition d changed).pkm.response = s.pkm.response ∧
    (s.seqPosition d changed).pkm.forward = s.pkm.forward := by
  dsimp only [State.seqPosition]
  split_ands <;> (repeat' split) <;> simp

@[simp] theorem State.seqView_slr_fields (f : Seq → Seq) (s : State) :
    (s.seqView f).slr.link = s.slr.link ∧ (s.seqView f).slr.consecMissing = s.slr.consecMissing ∧
    (s.seqView f).slr.totalMissing = s.slr.totalMissing ∧
    (s.seqView f).slr.lastSeq = s.slr.lastSeq ∧ (s.seqView f).slr.gapCount = s.slr.gapCount ∧
    (s.seqView f).slr.lastGood = s.slr.lastGood ∧
    (s.seqView f).slr.silenceLeft = s.slr.silenceLeft ∧ (s.seqView f).slr.runPos = s.slr.runPos ∧
    (s.seqView f).slr.prevPosition = s.slr.prevPosition ∧
    (s.seqView f).slr.prevHandle = s.slr.prevHandle ∧
    (s.seqView f).slr.prevReady = s.slr.prevReady ∧ (s.seqView f).slr.position = s.slr.position ∧
    (s.seqView f).slr.handle = s.slr.handle ∧ (s.seqView f).slr.ready = s.slr.ready ∧
    (s.seqView f).slr.decimation = s.slr.decimation ∧
    (s.seqView f).slr.takeCount = s.slr.takeCount ∧ (s.seqView f).slr.batch = s.slr.batch := by
  dsimp only [State.seqView]
  split_ands <;> (repeat' split) <;> simp

@[simp] theorem State.seqView_fcu_fields (f : Seq → Seq) (s : State) :
    (s.seqView f).fcu.rxRadio = s.fcu.rxRadio ∧ (s.seqView f).fcu.rxLocal = s.fcu.rxLocal ∧
    (s.seqView f).fcu.intake = s.fcu.intake ∧ (s.seqView f).fcu.outRadio = s.fcu.outRadio ∧
    (s.seqView f).fcu.outLocal = s.fcu.outLocal ∧ (s.seqView f).fcu.badRadio = s.fcu.badRadio ∧
    (s.seqView f).fcu.badLocal = s.fcu.badLocal ∧ (s.seqView f).fcu.dropRadio = s.fcu.dropRadio ∧
    (s.seqView f).fcu.dropLocal = s.fcu.dropLocal ∧
    (s.seqView f).fcu.fwdDropped = s.fcu.fwdDropped ∧ (s.seqView f).fcu.time = s.fcu.time ∧
    (s.seqView f).fcu.running = s.fcu.running ∧ (s.seqView f).fcu.subMs = s.fcu.subMs ∧
    (s.seqView f).fcu.secondTick = s.fcu.secondTick := by
  dsimp only [State.seqView]
  split_ands <;> (repeat' split) <;> simp

@[simp] theorem State.seqView_pkm_fields (f : Seq → Seq) (s : State) :
    (s.seqView f).pkm.response = s.pkm.response ∧ (s.seqView f).pkm.forward = s.pkm.forward := by
  dsimp only [State.seqView]
  split_ands <;> (repeat' split) <;> simp

@[simp] theorem State.seqDelivery_slr_fields (d : Delivery) (s : State) :
    (s.seqDelivery d).slr.link = s.slr.link ∧
    (s.seqDelivery d).slr.consecMissing = s.slr.consecMissing ∧
    (s.seqDelivery d).slr.totalMissing = s.slr.totalMissing ∧
    (s.seqDelivery d).slr.lastSeq = s.slr.lastSeq ∧
    (s.seqDelivery d).slr.gapCount = s.slr.gapCount ∧
    (s.seqDelivery d).slr.lastGood = s.slr.lastGood ∧
    (s.seqDelivery d).slr.silenceLeft = s.slr.silenceLeft ∧
    (s.seqDelivery d).slr.runPos = s.slr.runPos ∧
    (s.seqDelivery d).slr.prevPosition = s.slr.prevPosition ∧
    (s.seqDelivery d).slr.prevHandle = s.slr.prevHandle ∧
    (s.seqDelivery d).slr.prevReady = s.slr.prevReady ∧
    (s.seqDelivery d).slr.position = s.slr.position ∧
    (s.seqDelivery d).slr.handle = s.slr.handle ∧ (s.seqDelivery d).slr.ready = s.slr.ready ∧
    (s.seqDelivery d).slr.decimation = s.slr.decimation ∧
    (s.seqDelivery d).slr.takeCount = s.slr.takeCount ∧
    (s.seqDelivery d).slr.batch = s.slr.batch := by
  dsimp only [State.seqDelivery]
  split_ands <;> (repeat' split) <;> simp

@[simp] theorem State.seqDelivery_fcu_fields (d : Delivery) (s : State) :
    (s.seqDelivery d).fcu.rxRadio = s.fcu.rxRadio ∧ (s.seqDelivery d).fcu.rxLocal = s.fcu.rxLocal ∧
    (s.seqDelivery d).fcu.intake = s.fcu.intake ∧ (s.seqDelivery d).fcu.outRadio = s.fcu.outRadio ∧
    (s.seqDelivery d).fcu.outLocal = s.fcu.outLocal ∧
    (s.seqDelivery d).fcu.badRadio = s.fcu.badRadio ∧
    (s.seqDelivery d).fcu.badLocal = s.fcu.badLocal ∧
    (s.seqDelivery d).fcu.dropRadio = s.fcu.dropRadio ∧
    (s.seqDelivery d).fcu.dropLocal = s.fcu.dropLocal ∧
    (s.seqDelivery d).fcu.fwdDropped = s.fcu.fwdDropped ∧ (s.seqDelivery d).fcu.time = s.fcu.time ∧
    (s.seqDelivery d).fcu.running = s.fcu.running ∧ (s.seqDelivery d).fcu.subMs = s.fcu.subMs ∧
    (s.seqDelivery d).fcu.secondTick = s.fcu.secondTick := by
  dsimp only [State.seqDelivery]
  split_ands <;> (repeat' split) <;> simp

@[simp] theorem State.seqDelivery_pkm_fields (d : Delivery) (s : State) :
    (s.seqDelivery d).pkm.response = s.pkm.response ∧
    (s.seqDelivery d).pkm.forward = s.pkm.forward := by
  dsimp only [State.seqDelivery]
  split_ands <;> (repeat' split) <;> simp

@[simp] theorem State.seqCap_slr_fields (v : Nat) (stale : Bool) (s : State) :
    (s.seqCap v stale).slr.link = s.slr.link ∧
    (s.seqCap v stale).slr.consecMissing = s.slr.consecMissing ∧
    (s.seqCap v stale).slr.totalMissing = s.slr.totalMissing ∧
    (s.seqCap v stale).slr.lastSeq = s.slr.lastSeq ∧
    (s.seqCap v stale).slr.gapCount = s.slr.gapCount ∧
    (s.seqCap v stale).slr.lastGood = s.slr.lastGood ∧
    (s.seqCap v stale).slr.silenceLeft = s.slr.silenceLeft ∧
    (s.seqCap v stale).slr.runPos = s.slr.runPos ∧
    (s.seqCap v stale).slr.prevPosition = s.slr.prevPosition ∧
    (s.seqCap v stale).slr.prevHandle = s.slr.prevHandle ∧
    (s.seqCap v stale).slr.prevReady = s.slr.prevReady ∧
    (s.seqCap v stale).slr.position = s.slr.position ∧
    (s.seqCap v stale).slr.handle = s.slr.handle ∧ (s.seqCap v stale).slr.ready = s.slr.ready ∧
    (s.seqCap v stale).slr.decimation = s.slr.decimation ∧
    (s.seqCap v stale).slr.takeCount = s.slr.takeCount ∧
    (s.seqCap v stale).slr.batch = s.slr.batch := by
  dsimp only [State.seqCap]
  split_ands <;> simp

@[simp] theorem State.seqCap_fcu_fields (v : Nat) (stale : Bool) (s : State) :
    (s.seqCap v stale).fcu.rxRadio = s.fcu.rxRadio ∧
    (s.seqCap v stale).fcu.rxLocal = s.fcu.rxLocal ∧ (s.seqCap v stale).fcu.intake = s.fcu.intake ∧
    (s.seqCap v stale).fcu.outRadio = s.fcu.outRadio ∧
    (s.seqCap v stale).fcu.outLocal = s.fcu.outLocal ∧
    (s.seqCap v stale).fcu.badRadio = s.fcu.badRadio ∧
    (s.seqCap v stale).fcu.badLocal = s.fcu.badLocal ∧
    (s.seqCap v stale).fcu.dropRadio = s.fcu.dropRadio ∧
    (s.seqCap v stale).fcu.dropLocal = s.fcu.dropLocal ∧
    (s.seqCap v stale).fcu.fwdDropped = s.fcu.fwdDropped ∧
    (s.seqCap v stale).fcu.time = s.fcu.time ∧ (s.seqCap v stale).fcu.running = s.fcu.running ∧
    (s.seqCap v stale).fcu.subMs = s.fcu.subMs ∧
    (s.seqCap v stale).fcu.secondTick = s.fcu.secondTick := by
  dsimp only [State.seqCap]
  split_ands <;> simp

@[simp] theorem State.seqCap_pkm_fields (v : Nat) (stale : Bool) (s : State) :
    (s.seqCap v stale).pkm.response = s.pkm.response ∧
    (s.seqCap v stale).pkm.forward = s.pkm.forward := by
  dsimp only [State.seqCap]
  split_ands <;> simp

@[simp] theorem State.seqLinkUp_slr_fields (s : State) :
    (s.seqLinkUp).slr.link = s.slr.link ∧ (s.seqLinkUp).slr.consecMissing = s.slr.consecMissing ∧
    (s.seqLinkUp).slr.totalMissing = s.slr.totalMissing ∧
    (s.seqLinkUp).slr.lastSeq = s.slr.lastSeq ∧ (s.seqLinkUp).slr.gapCount = s.slr.gapCount ∧
    (s.seqLinkUp).slr.lastGood = s.slr.lastGood ∧
    (s.seqLinkUp).slr.silenceLeft = s.slr.silenceLeft ∧ (s.seqLinkUp).slr.runPos = s.slr.runPos ∧
    (s.seqLinkUp).slr.prevPosition = s.slr.prevPosition ∧
    (s.seqLinkUp).slr.prevHandle = s.slr.prevHandle ∧
    (s.seqLinkUp).slr.prevReady = s.slr.prevReady ∧ (s.seqLinkUp).slr.position = s.slr.position ∧
    (s.seqLinkUp).slr.handle = s.slr.handle ∧ (s.seqLinkUp).slr.ready = s.slr.ready ∧
    (s.seqLinkUp).slr.decimation = s.slr.decimation ∧
    (s.seqLinkUp).slr.takeCount = s.slr.takeCount ∧ (s.seqLinkUp).slr.batch = s.slr.batch := by
  dsimp only [State.seqLinkUp]
  split_ands <;> simp

@[simp] theorem State.seqLinkUp_fcu_fields (s : State) :
    (s.seqLinkUp).fcu.rxRadio = s.fcu.rxRadio ∧ (s.seqLinkUp).fcu.rxLocal = s.fcu.rxLocal ∧
    (s.seqLinkUp).fcu.intake = s.fcu.intake ∧ (s.seqLinkUp).fcu.outRadio = s.fcu.outRadio ∧
    (s.seqLinkUp).fcu.outLocal = s.fcu.outLocal ∧ (s.seqLinkUp).fcu.badRadio = s.fcu.badRadio ∧
    (s.seqLinkUp).fcu.badLocal = s.fcu.badLocal ∧ (s.seqLinkUp).fcu.dropRadio = s.fcu.dropRadio ∧
    (s.seqLinkUp).fcu.dropLocal = s.fcu.dropLocal ∧
    (s.seqLinkUp).fcu.fwdDropped = s.fcu.fwdDropped ∧ (s.seqLinkUp).fcu.time = s.fcu.time ∧
    (s.seqLinkUp).fcu.running = s.fcu.running ∧ (s.seqLinkUp).fcu.subMs = s.fcu.subMs ∧
    (s.seqLinkUp).fcu.secondTick = s.fcu.secondTick := by
  dsimp only [State.seqLinkUp]
  split_ands <;> simp

@[simp] theorem State.seqLinkUp_pkm_fields (s : State) :
    (s.seqLinkUp).pkm.response = s.pkm.response ∧ (s.seqLinkUp).pkm.forward = s.pkm.forward := by
  dsimp only [State.seqLinkUp]
  split_ands <;> simp

@[simp] theorem State.seqSource_slr_fields (live : Bool) (s : State) :
    (s.seqSource live).slr.link = s.slr.link ∧
    (s.seqSource live).slr.consecMissing = s.slr.consecMissing ∧
    (s.seqSource live).slr.totalMissing = s.slr.totalMissing ∧
    (s.seqSource live).slr.lastSeq = s.slr.lastSeq ∧
    (s.seqSource live).slr.gapCount = s.slr.gapCount ∧
    (s.seqSource live).slr.lastGood = s.slr.lastGood ∧
    (s.seqSource live).slr.silenceLeft = s.slr.silenceLeft ∧
    (s.seqSource live).slr.runPos = s.slr.runPos ∧
    (s.seqSource live).slr.prevPosition = s.slr.prevPosition ∧
    (s.seqSource live).slr.prevHandle = s.slr.prevHandle ∧
    (s.seqSource live).slr.prevReady = s.slr.prevReady ∧
    (s.seqSource live).slr.position = s.slr.position ∧
    (s.seqSource live).slr.handle = s.slr.handle ∧ (s.seqSource live).slr.ready = s.slr.ready ∧
    (s.seqSource live).slr.decimation = s.slr.decimation ∧
    (s.seqSource live).slr.takeCount = s.slr.takeCount ∧
    (s.seqSource live).slr.batch = s.slr.batch := by
  dsimp only [State.seqSource]
  split_ands <;> simp

@[simp] theorem State.seqSource_fcu_fields (live : Bool) (s : State) :
    (s.seqSource live).fcu.rxRadio = s.fcu.rxRadio ∧
    (s.seqSource live).fcu.rxLocal = s.fcu.rxLocal ∧ (s.seqSource live).fcu.intake = s.fcu.intake ∧
    (s.seqSource live).fcu.outRadio = s.fcu.outRadio ∧
    (s.seqSource live).fcu.outLocal = s.fcu.outLocal ∧
    (s.seqSource live).fcu.badRadio = s.fcu.badRadio ∧
    (s.seqSource live).fcu.badLocal = s.fcu.badLocal ∧
    (s.seqSource live).fcu.dropRadio = s.fcu.dropRadio ∧
    (s.seqSource live).fcu.dropLocal = s.fcu.dropLocal ∧
    (s.seqSource live).fcu.fwdDropped = s.fcu.fwdDropped ∧
    (s.seqSource live).fcu.time = s.fcu.time ∧ (s.seqSource live).fcu.running = s.fcu.running ∧
    (s.seqSource live).fcu.subMs = s.fcu.subMs ∧
    (s.seqSource live).fcu.secondTick = s.fcu.secondTick := by
  dsimp only [State.seqSource]
  split_ands <;> simp

@[simp] theorem State.seqSource_pkm_fields (live : Bool) (s : State) :
    (s.seqSource live).pkm.response = s.pkm.response ∧
    (s.seqSource live).pkm.forward = s.pkm.forward := by
  dsimp only [State.seqSource]
  split_ands <;> simp

@[simp] theorem State.seqNoClose_slr_fields (s : State) :
    (s.seqNoClose).slr.link = s.slr.link ∧
    (s.seqNoClose).slr.consecMissing = s.slr.consecMissing ∧
    (s.seqNoClose).slr.totalMissing = s.slr.totalMissing ∧
    (s.seqNoClose).slr.lastSeq = s.slr.lastSeq ∧ (s.seqNoClose).slr.gapCount = s.slr.gapCount ∧
    (s.seqNoClose).slr.lastGood = s.slr.lastGood ∧
    (s.seqNoClose).slr.silenceLeft = s.slr.silenceLeft ∧
    (s.seqNoClose).slr.runPos = s.slr.runPos ∧
    (s.seqNoClose).slr.prevPosition = s.slr.prevPosition ∧
    (s.seqNoClose).slr.prevHandle = s.slr.prevHandle ∧
    (s.seqNoClose).slr.prevReady = s.slr.prevReady ∧
    (s.seqNoClose).slr.position = s.slr.position ∧ (s.seqNoClose).slr.handle = s.slr.handle ∧
    (s.seqNoClose).slr.ready = s.slr.ready ∧ (s.seqNoClose).slr.decimation = s.slr.decimation ∧
    (s.seqNoClose).slr.takeCount = s.slr.takeCount ∧ (s.seqNoClose).slr.batch = s.slr.batch := by
  dsimp only [State.seqNoClose]
  split_ands <;> (repeat' split) <;> simp

@[simp] theorem State.seqNoClose_fcu_fields (s : State) :
    (s.seqNoClose).fcu.rxRadio = s.fcu.rxRadio ∧ (s.seqNoClose).fcu.rxLocal = s.fcu.rxLocal ∧
    (s.seqNoClose).fcu.intake = s.fcu.intake ∧ (s.seqNoClose).fcu.outRadio = s.fcu.outRadio ∧
    (s.seqNoClose).fcu.outLocal = s.fcu.outLocal ∧ (s.seqNoClose).fcu.badRadio = s.fcu.badRadio ∧
    (s.seqNoClose).fcu.badLocal = s.fcu.badLocal ∧ (s.seqNoClose).fcu.dropRadio = s.fcu.dropRadio ∧
    (s.seqNoClose).fcu.dropLocal = s.fcu.dropLocal ∧
    (s.seqNoClose).fcu.fwdDropped = s.fcu.fwdDropped ∧ (s.seqNoClose).fcu.time = s.fcu.time ∧
    (s.seqNoClose).fcu.running = s.fcu.running ∧ (s.seqNoClose).fcu.subMs = s.fcu.subMs ∧
    (s.seqNoClose).fcu.secondTick = s.fcu.secondTick := by
  dsimp only [State.seqNoClose]
  split_ands <;> (repeat' split) <;> simp

@[simp] theorem State.seqNoClose_pkm_fields (s : State) :
    (s.seqNoClose).pkm.response = s.pkm.response ∧ (s.seqNoClose).pkm.forward = s.pkm.forward := by
  dsimp only [State.seqNoClose]
  split_ands <;> (repeat' split) <;> simp

@[simp] theorem State.seqAnyTag_slr_fields (s : State) :
    (s.seqAnyTag).slr.link = s.slr.link ∧ (s.seqAnyTag).slr.consecMissing = s.slr.consecMissing ∧
    (s.seqAnyTag).slr.totalMissing = s.slr.totalMissing ∧
    (s.seqAnyTag).slr.lastSeq = s.slr.lastSeq ∧ (s.seqAnyTag).slr.gapCount = s.slr.gapCount ∧
    (s.seqAnyTag).slr.lastGood = s.slr.lastGood ∧
    (s.seqAnyTag).slr.silenceLeft = s.slr.silenceLeft ∧ (s.seqAnyTag).slr.runPos = s.slr.runPos ∧
    (s.seqAnyTag).slr.prevPosition = s.slr.prevPosition ∧
    (s.seqAnyTag).slr.prevHandle = s.slr.prevHandle ∧
    (s.seqAnyTag).slr.prevReady = s.slr.prevReady ∧ (s.seqAnyTag).slr.position = s.slr.position ∧
    (s.seqAnyTag).slr.handle = s.slr.handle ∧ (s.seqAnyTag).slr.ready = s.slr.ready ∧
    (s.seqAnyTag).slr.decimation = s.slr.decimation ∧
    (s.seqAnyTag).slr.takeCount = s.slr.takeCount ∧ (s.seqAnyTag).slr.batch = s.slr.batch := by
  dsimp only [State.seqAnyTag]
  split_ands <;> (repeat' split) <;> simp

@[simp] theorem State.seqAnyTag_fcu_fields (s : State) :
    (s.seqAnyTag).fcu.rxRadio = s.fcu.rxRadio ∧ (s.seqAnyTag).fcu.rxLocal = s.fcu.rxLocal ∧
    (s.seqAnyTag).fcu.intake = s.fcu.intake ∧ (s.seqAnyTag).fcu.outRadio = s.fcu.outRadio ∧
    (s.seqAnyTag).fcu.outLocal = s.fcu.outLocal ∧ (s.seqAnyTag).fcu.badRadio = s.fcu.badRadio ∧
    (s.seqAnyTag).fcu.badLocal = s.fcu.badLocal ∧ (s.seqAnyTag).fcu.dropRadio = s.fcu.dropRadio ∧
    (s.seqAnyTag).fcu.dropLocal = s.fcu.dropLocal ∧
    (s.seqAnyTag).fcu.fwdDropped = s.fcu.fwdDropped ∧ (s.seqAnyTag).fcu.time = s.fcu.time ∧
    (s.seqAnyTag).fcu.running = s.fcu.running ∧ (s.seqAnyTag).fcu.subMs = s.fcu.subMs ∧
    (s.seqAnyTag).fcu.secondTick = s.fcu.secondTick := by
  dsimp only [State.seqAnyTag]
  split_ands <;> (repeat' split) <;> simp

@[simp] theorem State.seqAnyTag_pkm_fields (s : State) :
    (s.seqAnyTag).pkm.response = s.pkm.response ∧ (s.seqAnyTag).pkm.forward = s.pkm.forward := by
  dsimp only [State.seqAnyTag]
  split_ands <;> (repeat' split) <;> simp

@[simp] theorem State.seqTags_slr_fields (present noClose : Bool) (s : State) :
    (s.seqTags present noClose).slr.link = s.slr.link ∧
    (s.seqTags present noClose).slr.consecMissing = s.slr.consecMissing ∧
    (s.seqTags present noClose).slr.totalMissing = s.slr.totalMissing ∧
    (s.seqTags present noClose).slr.lastSeq = s.slr.lastSeq ∧
    (s.seqTags present noClose).slr.gapCount = s.slr.gapCount ∧
    (s.seqTags present noClose).slr.lastGood = s.slr.lastGood ∧
    (s.seqTags present noClose).slr.silenceLeft = s.slr.silenceLeft ∧
    (s.seqTags present noClose).slr.runPos = s.slr.runPos ∧
    (s.seqTags present noClose).slr.prevPosition = s.slr.prevPosition ∧
    (s.seqTags present noClose).slr.prevHandle = s.slr.prevHandle ∧
    (s.seqTags present noClose).slr.prevReady = s.slr.prevReady ∧
    (s.seqTags present noClose).slr.position = s.slr.position ∧
    (s.seqTags present noClose).slr.handle = s.slr.handle ∧
    (s.seqTags present noClose).slr.ready = s.slr.ready ∧
    (s.seqTags present noClose).slr.decimation = s.slr.decimation ∧
    (s.seqTags present noClose).slr.takeCount = s.slr.takeCount ∧
    (s.seqTags present noClose).slr.batch = s.slr.batch := by
  dsimp only [State.seqTags]
  split_ands <;> (repeat' split) <;> simp

@[simp] theorem State.seqTags_fcu_fields (present noClose : Bool) (s : State) :
    (s.seqTags present noClose).fcu.rxRadio = s.fcu.rxRadio ∧
    (s.seqTags present noClose).fcu.rxLocal = s.fcu.rxLocal ∧
    (s.seqTags present noClose).fcu.intake = s.fcu.intake ∧
    (s.seqTags present noClose).fcu.outRadio = s.fcu.outRadio ∧
    (s.seqTags present noClose).fcu.outLocal = s.fcu.outLocal ∧
    (s.seqTags present noClose).fcu.badRadio = s.fcu.badRadio ∧
    (s.seqTags present noClose).fcu.badLocal = s.fcu.badLocal ∧
    (s.seqTags present noClose).fcu.dropRadio = s.fcu.dropRadio ∧
    (s.seqTags present noClose).fcu.dropLocal = s.fcu.dropLocal ∧
    (s.seqTags present noClose).fcu.fwdDropped = s.fcu.fwdDropped ∧
    (s.seqTags present noClose).fcu.time = s.fcu.time ∧
    (s.seqTags present noClose).fcu.running = s.fcu.running ∧
    (s.seqTags present noClose).fcu.subMs = s.fcu.subMs ∧
    (s.seqTags present noClose).fcu.secondTick = s.fcu.secondTick := by
  dsimp only [State.seqTags]
  split_ands <;> (repeat' split) <;> simp

@[simp] theorem State.seqTags_pkm_fields (present noClose : Bool) (s : State) :
    (s.seqTags present noClose).pkm.response = s.pkm.response ∧
    (s.seqTags present noClose).pkm.forward = s.pkm.forward := by
  dsimp only [State.seqTags]
  split_ands <;> (repeat' split) <;> simp

@[simp] theorem State.seqIntervalEnd_slr_fields (s : State) :
    (s.seqIntervalEnd).slr.link = s.slr.link ∧
    (s.seqIntervalEnd).slr.consecMissing = s.slr.consecMissing ∧
    (s.seqIntervalEnd).slr.totalMissing = s.slr.totalMissing ∧
    (s.seqIntervalEnd).slr.lastSeq = s.slr.lastSeq ∧
    (s.seqIntervalEnd).slr.gapCount = s.slr.gapCount ∧
    (s.seqIntervalEnd).slr.lastGood = s.slr.lastGood ∧
    (s.seqIntervalEnd).slr.silenceLeft = s.slr.silenceLeft ∧
    (s.seqIntervalEnd).slr.runPos = s.slr.runPos ∧
    (s.seqIntervalEnd).slr.prevPosition = s.slr.prevPosition ∧
    (s.seqIntervalEnd).slr.prevHandle = s.slr.prevHandle ∧
    (s.seqIntervalEnd).slr.prevReady = s.slr.prevReady ∧
    (s.seqIntervalEnd).slr.position = s.slr.position ∧
    (s.seqIntervalEnd).slr.handle = s.slr.handle ∧ (s.seqIntervalEnd).slr.ready = s.slr.ready ∧
    (s.seqIntervalEnd).slr.decimation = s.slr.decimation ∧
    (s.seqIntervalEnd).slr.takeCount = s.slr.takeCount ∧
    (s.seqIntervalEnd).slr.batch = s.slr.batch := by
  dsimp only [State.seqIntervalEnd]
  split_ands <;> simp

@[simp] theorem State.seqIntervalEnd_fcu_fields (s : State) :
    (s.seqIntervalEnd).fcu.rxRadio = s.fcu.rxRadio ∧
    (s.seqIntervalEnd).fcu.rxLocal = s.fcu.rxLocal ∧ (s.seqIntervalEnd).fcu.intake = s.fcu.intake ∧
    (s.seqIntervalEnd).fcu.outRadio = s.fcu.outRadio ∧
    (s.seqIntervalEnd).fcu.outLocal = s.fcu.outLocal ∧
    (s.seqIntervalEnd).fcu.badRadio = s.fcu.badRadio ∧
    (s.seqIntervalEnd).fcu.badLocal = s.fcu.badLocal ∧
    (s.seqIntervalEnd).fcu.dropRadio = s.fcu.dropRadio ∧
    (s.seqIntervalEnd).fcu.dropLocal = s.fcu.dropLocal ∧
    (s.seqIntervalEnd).fcu.fwdDropped = s.fcu.fwdDropped ∧
    (s.seqIntervalEnd).fcu.time = s.fcu.time ∧ (s.seqIntervalEnd).fcu.running = s.fcu.running ∧
    (s.seqIntervalEnd).fcu.subMs = s.fcu.subMs ∧
    (s.seqIntervalEnd).fcu.secondTick = s.fcu.secondTick := by
  dsimp only [State.seqIntervalEnd]
  split_ands <;> simp

@[simp] theorem State.seqIntervalEnd_pkm_fields (s : State) :
    (s.seqIntervalEnd).pkm.response = s.pkm.response ∧
    (s.seqIntervalEnd).pkm.forward = s.pkm.forward := by
  dsimp only [State.seqIntervalEnd]
  split_ands <;> simp

@[simp] theorem State.seqWaitEnd_slr_fields (s : State) :
    (s.seqWaitEnd).slr.link = s.slr.link ∧
    (s.seqWaitEnd).slr.consecMissing = s.slr.consecMissing ∧
    (s.seqWaitEnd).slr.totalMissing = s.slr.totalMissing ∧
    (s.seqWaitEnd).slr.lastSeq = s.slr.lastSeq ∧ (s.seqWaitEnd).slr.gapCount = s.slr.gapCount ∧
    (s.seqWaitEnd).slr.lastGood = s.slr.lastGood ∧
    (s.seqWaitEnd).slr.silenceLeft = s.slr.silenceLeft ∧
    (s.seqWaitEnd).slr.runPos = s.slr.runPos ∧
    (s.seqWaitEnd).slr.prevPosition = s.slr.prevPosition ∧
    (s.seqWaitEnd).slr.prevHandle = s.slr.prevHandle ∧
    (s.seqWaitEnd).slr.prevReady = s.slr.prevReady ∧
    (s.seqWaitEnd).slr.position = s.slr.position ∧ (s.seqWaitEnd).slr.handle = s.slr.handle ∧
    (s.seqWaitEnd).slr.ready = s.slr.ready ∧ (s.seqWaitEnd).slr.decimation = s.slr.decimation ∧
    (s.seqWaitEnd).slr.takeCount = s.slr.takeCount ∧ (s.seqWaitEnd).slr.batch = s.slr.batch := by
  dsimp only [State.seqWaitEnd]
  split_ands <;> simp

@[simp] theorem State.seqWaitEnd_fcu_fields (s : State) :
    (s.seqWaitEnd).fcu.rxRadio = s.fcu.rxRadio ∧ (s.seqWaitEnd).fcu.rxLocal = s.fcu.rxLocal ∧
    (s.seqWaitEnd).fcu.intake = s.fcu.intake ∧ (s.seqWaitEnd).fcu.outRadio = s.fcu.outRadio ∧
    (s.seqWaitEnd).fcu.outLocal = s.fcu.outLocal ∧ (s.seqWaitEnd).fcu.badRadio = s.fcu.badRadio ∧
    (s.seqWaitEnd).fcu.badLocal = s.fcu.badLocal ∧ (s.seqWaitEnd).fcu.dropRadio = s.fcu.dropRadio ∧
    (s.seqWaitEnd).fcu.dropLocal = s.fcu.dropLocal ∧
    (s.seqWaitEnd).fcu.fwdDropped = s.fcu.fwdDropped ∧ (s.seqWaitEnd).fcu.time = s.fcu.time ∧
    (s.seqWaitEnd).fcu.running = s.fcu.running ∧ (s.seqWaitEnd).fcu.subMs = s.fcu.subMs ∧
    (s.seqWaitEnd).fcu.secondTick = s.fcu.secondTick := by
  dsimp only [State.seqWaitEnd]
  split_ands <;> simp

@[simp] theorem State.seqWaitEnd_pkm_fields (s : State) :
    (s.seqWaitEnd).pkm.response = s.pkm.response ∧ (s.seqWaitEnd).pkm.forward = s.pkm.forward := by
  dsimp only [State.seqWaitEnd]
  split_ands <;> simp

@[simp] theorem State.seqReclaimEnd_slr_fields (s : State) :
    (s.seqReclaimEnd).slr.link = s.slr.link ∧
    (s.seqReclaimEnd).slr.consecMissing = s.slr.consecMissing ∧
    (s.seqReclaimEnd).slr.totalMissing = s.slr.totalMissing ∧
    (s.seqReclaimEnd).slr.lastSeq = s.slr.lastSeq ∧
    (s.seqReclaimEnd).slr.gapCount = s.slr.gapCount ∧
    (s.seqReclaimEnd).slr.lastGood = s.slr.lastGood ∧
    (s.seqReclaimEnd).slr.silenceLeft = s.slr.silenceLeft ∧
    (s.seqReclaimEnd).slr.runPos = s.slr.runPos ∧
    (s.seqReclaimEnd).slr.prevPosition = s.slr.prevPosition ∧
    (s.seqReclaimEnd).slr.prevHandle = s.slr.prevHandle ∧
    (s.seqReclaimEnd).slr.prevReady = s.slr.prevReady ∧
    (s.seqReclaimEnd).slr.position = s.slr.position ∧
    (s.seqReclaimEnd).slr.handle = s.slr.handle ∧ (s.seqReclaimEnd).slr.ready = s.slr.ready ∧
    (s.seqReclaimEnd).slr.decimation = s.slr.decimation ∧
    (s.seqReclaimEnd).slr.takeCount = s.slr.takeCount ∧
    (s.seqReclaimEnd).slr.batch = s.slr.batch := by
  dsimp only [State.seqReclaimEnd]
  split_ands <;> simp

@[simp] theorem State.seqReclaimEnd_fcu_fields (s : State) :
    (s.seqReclaimEnd).fcu.rxRadio = s.fcu.rxRadio ∧ (s.seqReclaimEnd).fcu.rxLocal = s.fcu.rxLocal ∧
    (s.seqReclaimEnd).fcu.intake = s.fcu.intake ∧ (s.seqReclaimEnd).fcu.outRadio = s.fcu.outRadio ∧
    (s.seqReclaimEnd).fcu.outLocal = s.fcu.outLocal ∧
    (s.seqReclaimEnd).fcu.badRadio = s.fcu.badRadio ∧
    (s.seqReclaimEnd).fcu.badLocal = s.fcu.badLocal ∧
    (s.seqReclaimEnd).fcu.dropRadio = s.fcu.dropRadio ∧
    (s.seqReclaimEnd).fcu.dropLocal = s.fcu.dropLocal ∧
    (s.seqReclaimEnd).fcu.fwdDropped = s.fcu.fwdDropped ∧ (s.seqReclaimEnd).fcu.time = s.fcu.time ∧
    (s.seqReclaimEnd).fcu.running = s.fcu.running ∧ (s.seqReclaimEnd).fcu.subMs = s.fcu.subMs ∧
    (s.seqReclaimEnd).fcu.secondTick = s.fcu.secondTick := by
  dsimp only [State.seqReclaimEnd]
  split_ands <;> simp

@[simp] theorem State.seqReclaimEnd_pkm_fields (s : State) :
    (s.seqReclaimEnd).pkm.response = s.pkm.response ∧
    (s.seqReclaimEnd).pkm.forward = s.pkm.forward := by
  dsimp only [State.seqReclaimEnd]
  split_ands <;> simp

@[simp] theorem State.takeLive_slr_fields (l : LiveSet) (s : State) :
    (s.takeLive l).slr.link = s.slr.link ∧
    (s.takeLive l).slr.consecMissing = s.slr.consecMissing ∧
    (s.takeLive l).slr.totalMissing = s.slr.totalMissing ∧
    (s.takeLive l).slr.lastSeq = s.slr.lastSeq ∧ (s.takeLive l).slr.gapCount = s.slr.gapCount ∧
    (s.takeLive l).slr.lastGood = s.slr.lastGood ∧
    (s.takeLive l).slr.silenceLeft = s.slr.silenceLeft ∧
    (s.takeLive l).slr.runPos = s.slr.runPos ∧
    (s.takeLive l).slr.prevPosition = s.slr.prevPosition ∧
    (s.takeLive l).slr.prevHandle = s.slr.prevHandle ∧
    (s.takeLive l).slr.prevReady = s.slr.prevReady ∧
    (s.takeLive l).slr.position = s.slr.position ∧ (s.takeLive l).slr.handle = s.slr.handle ∧
    (s.takeLive l).slr.ready = s.slr.ready ∧ (s.takeLive l).slr.decimation = s.slr.decimation ∧
    (s.takeLive l).slr.takeCount = s.slr.takeCount ∧ (s.takeLive l).slr.batch = s.slr.batch := by
  dsimp only [State.takeLive]
  split_ands <;> (repeat' split) <;> simp

@[simp] theorem State.takeLive_fcu_fields (l : LiveSet) (s : State) :
    (s.takeLive l).fcu.rxRadio = s.fcu.rxRadio ∧ (s.takeLive l).fcu.rxLocal = s.fcu.rxLocal ∧
    (s.takeLive l).fcu.intake = s.fcu.intake ∧ (s.takeLive l).fcu.outRadio = s.fcu.outRadio ∧
    (s.takeLive l).fcu.outLocal = s.fcu.outLocal ∧ (s.takeLive l).fcu.badRadio = s.fcu.badRadio ∧
    (s.takeLive l).fcu.badLocal = s.fcu.badLocal ∧ (s.takeLive l).fcu.dropRadio = s.fcu.dropRadio ∧
    (s.takeLive l).fcu.dropLocal = s.fcu.dropLocal ∧
    (s.takeLive l).fcu.fwdDropped = s.fcu.fwdDropped ∧ (s.takeLive l).fcu.time = s.fcu.time ∧
    (s.takeLive l).fcu.running = s.fcu.running ∧ (s.takeLive l).fcu.subMs = s.fcu.subMs ∧
    (s.takeLive l).fcu.secondTick = s.fcu.secondTick := by
  dsimp only [State.takeLive]
  split_ands <;> (repeat' split) <;> simp

@[simp] theorem State.takeLive_pkm_fields (l : LiveSet) (s : State) :
    (s.takeLive l).pkm.response = s.pkm.response ∧ (s.takeLive l).pkm.forward = s.pkm.forward := by
  dsimp only [State.takeLive]
  split_ands <;> (repeat' split) <;> simp

@[simp] theorem State.applyLoad_slr_fields (g : Option Nat) (c : SelCause) (r : Option Reply) (s : State) :
    (s.applyLoad g c r).slr.link = s.slr.link ∧
    (s.applyLoad g c r).slr.consecMissing = s.slr.consecMissing ∧
    (s.applyLoad g c r).slr.totalMissing = s.slr.totalMissing ∧
    (s.applyLoad g c r).slr.lastSeq = s.slr.lastSeq ∧
    (s.applyLoad g c r).slr.gapCount = s.slr.gapCount ∧
    (s.applyLoad g c r).slr.lastGood = s.slr.lastGood ∧
    (s.applyLoad g c r).slr.silenceLeft = s.slr.silenceLeft ∧
    (s.applyLoad g c r).slr.runPos = s.slr.runPos ∧
    (s.applyLoad g c r).slr.prevPosition = s.slr.prevPosition ∧
    (s.applyLoad g c r).slr.prevHandle = s.slr.prevHandle ∧
    (s.applyLoad g c r).slr.prevReady = s.slr.prevReady ∧
    (s.applyLoad g c r).slr.position = s.slr.position ∧
    (s.applyLoad g c r).slr.handle = s.slr.handle ∧ (s.applyLoad g c r).slr.ready = s.slr.ready ∧
    (s.applyLoad g c r).slr.decimation = s.slr.decimation ∧
    (s.applyLoad g c r).slr.takeCount = s.slr.takeCount ∧
    (s.applyLoad g c r).slr.batch = s.slr.batch := by
  dsimp only [State.applyLoad]
  split_ands <;> (repeat' split) <;> simp

@[simp] theorem State.applyLoad_store_fields (g : Option Nat) (c : SelCause) (r : Option Reply) (s : State) :
    (s.applyLoad g c r).store.curves = s.store.curves ∧
    (s.applyLoad g c r).store.groups = s.store.groups ∧
    (s.applyLoad g c r).store.device = s.store.device ∧
    (s.applyLoad g c r).store.selection = s.store.selection ∧
    (s.applyLoad g c r).store.tags = s.store.tags ∧
    (s.applyLoad g c r).store.gates = s.store.gates ∧
    (s.applyLoad g c r).store.battery = s.store.battery ∧
    (s.applyLoad g c r).store.radio = s.store.radio ∧
    (s.applyLoad g c r).store.areas = s.store.areas ∧
    (s.applyLoad g c r).store.lastFailure = s.store.lastFailure := by
  dsimp only [State.applyLoad]
  split_ands <;> (repeat' split) <;> simp

@[simp] theorem State.applyLoad_fcu_fields (g : Option Nat) (c : SelCause) (r : Option Reply) (s : State) :
    (s.applyLoad g c r).fcu.rxRadio = s.fcu.rxRadio ∧
    (s.applyLoad g c r).fcu.rxLocal = s.fcu.rxLocal ∧
    (s.applyLoad g c r).fcu.intake = s.fcu.intake ∧
    (s.applyLoad g c r).fcu.outRadio = s.fcu.outRadio ∧
    (s.applyLoad g c r).fcu.outLocal = s.fcu.outLocal ∧
    (s.applyLoad g c r).fcu.badRadio = s.fcu.badRadio ∧
    (s.applyLoad g c r).fcu.badLocal = s.fcu.badLocal ∧
    (s.applyLoad g c r).fcu.dropRadio = s.fcu.dropRadio ∧
    (s.applyLoad g c r).fcu.dropLocal = s.fcu.dropLocal ∧
    (s.applyLoad g c r).fcu.fwdDropped = s.fcu.fwdDropped ∧
    (s.applyLoad g c r).fcu.time = s.fcu.time ∧ (s.applyLoad g c r).fcu.running = s.fcu.running ∧
    (s.applyLoad g c r).fcu.subMs = s.fcu.subMs ∧
    (s.applyLoad g c r).fcu.secondTick = s.fcu.secondTick := by
  dsimp only [State.applyLoad]
  split_ands <;> (repeat' split) <;> simp

@[simp] theorem State.applyLoad_pkm_fields (g : Option Nat) (c : SelCause) (r : Option Reply) (s : State) :
    (s.applyLoad g c r).pkm.response = s.pkm.response ∧
    (s.applyLoad g c r).pkm.forward = s.pkm.forward := by
  dsimp only [State.applyLoad]
  split_ands <;> (repeat' split) <;> simp

@[simp] theorem State.applyLoad_lku_fields (g : Option Nat) (c : SelCause) (r : Option Reply) (s : State) :
    (s.applyLoad g c r).lku.inForce = s.lku.inForce ∧
    (s.applyLoad g c r).lku.staged = s.lku.staged ∧
    (s.applyLoad g c r).lku.countdowns = s.lku.countdowns ∧
    (s.applyLoad g c r).lku.handle = s.lku.handle ∧
    (s.applyLoad g c r).lku.handleStale = s.lku.handleStale := by
  dsimp only [State.applyLoad]
  split_ands <;> (repeat' split) <;> simp

@[simp] theorem State.completeInPlace_store_fields (c : SelCause) (s : State) :
    (s.completeInPlace c).store.curves = s.store.curves ∧
    (s.completeInPlace c).store.groups = s.store.groups ∧
    (s.completeInPlace c).store.device = s.store.device ∧
    (s.completeInPlace c).store.selection = s.store.selection ∧
    (s.completeInPlace c).store.tags = s.store.tags ∧
    (s.completeInPlace c).store.gates = s.store.gates ∧
    (s.completeInPlace c).store.battery = s.store.battery ∧
    (s.completeInPlace c).store.radio = s.store.radio ∧
    (s.completeInPlace c).store.areas = s.store.areas ∧
    (s.completeInPlace c).store.lastFailure = s.store.lastFailure := by
  dsimp only [State.completeInPlace]
  split_ands <;> (repeat' split) <;> simp

@[simp] theorem State.completeInPlace_lku_fields (c : SelCause) (s : State) :
    (s.completeInPlace c).lku.inForce = s.lku.inForce ∧
    (s.completeInPlace c).lku.staged = s.lku.staged ∧
    (s.completeInPlace c).lku.countdowns = s.lku.countdowns ∧
    (s.completeInPlace c).lku.handle = s.lku.handle ∧
    (s.completeInPlace c).lku.handleStale = s.lku.handleStale := by
  dsimp only [State.completeInPlace]
  split_ands <;> (repeat' split) <;> simp

@[simp] theorem State.applyPending_slr_fields (s : State) :
    (s.applyPending).slr.link = s.slr.link ∧
    (s.applyPending).slr.consecMissing = s.slr.consecMissing ∧
    (s.applyPending).slr.totalMissing = s.slr.totalMissing ∧
    (s.applyPending).slr.lastSeq = s.slr.lastSeq ∧
    (s.applyPending).slr.gapCount = s.slr.gapCount ∧
    (s.applyPending).slr.lastGood = s.slr.lastGood ∧
    (s.applyPending).slr.silenceLeft = s.slr.silenceLeft ∧
    (s.applyPending).slr.runPos = s.slr.runPos ∧
    (s.applyPending).slr.prevPosition = s.slr.prevPosition ∧
    (s.applyPending).slr.prevHandle = s.slr.prevHandle ∧
    (s.applyPending).slr.prevReady = s.slr.prevReady ∧
    (s.applyPending).slr.position = s.slr.position ∧ (s.applyPending).slr.handle = s.slr.handle ∧
    (s.applyPending).slr.ready = s.slr.ready ∧
    (s.applyPending).slr.decimation = s.slr.decimation ∧
    (s.applyPending).slr.takeCount = s.slr.takeCount ∧ (s.applyPending).slr.batch = s.slr.batch := by
  dsimp only [State.applyPending]
  split_ands <;> (repeat' split) <;> simp

@[simp] theorem State.applyPending_store_fields (s : State) :
    (s.applyPending).store.curves = s.store.curves ∧
    (s.applyPending).store.groups = s.store.groups ∧
    (s.applyPending).store.device = s.store.device ∧
    (s.applyPending).store.selection = s.store.selection ∧
    (s.applyPending).store.tags = s.store.tags ∧ (s.applyPending).store.gates = s.store.gates ∧
    (s.applyPending).store.battery = s.store.battery ∧
    (s.applyPending).store.radio = s.store.radio ∧ (s.applyPending).store.areas = s.store.areas ∧
    (s.applyPending).store.lastFailure = s.store.lastFailure := by
  dsimp only [State.applyPending]
  split_ands <;> (repeat' split) <;> simp

@[simp] theorem State.applyPending_fcu_fields (s : State) :
    (s.applyPending).fcu.rxRadio = s.fcu.rxRadio ∧ (s.applyPending).fcu.rxLocal = s.fcu.rxLocal ∧
    (s.applyPending).fcu.intake = s.fcu.intake ∧ (s.applyPending).fcu.outRadio = s.fcu.outRadio ∧
    (s.applyPending).fcu.outLocal = s.fcu.outLocal ∧
    (s.applyPending).fcu.badRadio = s.fcu.badRadio ∧
    (s.applyPending).fcu.badLocal = s.fcu.badLocal ∧
    (s.applyPending).fcu.dropRadio = s.fcu.dropRadio ∧
    (s.applyPending).fcu.dropLocal = s.fcu.dropLocal ∧
    (s.applyPending).fcu.fwdDropped = s.fcu.fwdDropped ∧ (s.applyPending).fcu.time = s.fcu.time ∧
    (s.applyPending).fcu.running = s.fcu.running ∧ (s.applyPending).fcu.subMs = s.fcu.subMs ∧
    (s.applyPending).fcu.secondTick = s.fcu.secondTick := by
  dsimp only [State.applyPending]
  split_ands <;> (repeat' split) <;> simp

@[simp] theorem State.applyPending_pkm_fields (s : State) :
    (s.applyPending).pkm.response = s.pkm.response ∧
    (s.applyPending).pkm.forward = s.pkm.forward := by
  dsimp only [State.applyPending]
  split_ands <;> (repeat' split) <;> simp

@[simp] theorem State.applyPending_lku_fields (s : State) :
    (s.applyPending).lku.inForce = s.lku.inForce ∧ (s.applyPending).lku.staged = s.lku.staged ∧
    (s.applyPending).lku.countdowns = s.lku.countdowns ∧
    (s.applyPending).lku.handle = s.lku.handle ∧
    (s.applyPending).lku.handleStale = s.lku.handleStale := by
  dsimp only [State.applyPending]
  split_ands <;> (repeat' split) <;> simp

@[simp] theorem State.applyIfSettled_slr_fields (s : State) :
    (s.applyIfSettled).slr.link = s.slr.link ∧
    (s.applyIfSettled).slr.consecMissing = s.slr.consecMissing ∧
    (s.applyIfSettled).slr.totalMissing = s.slr.totalMissing ∧
    (s.applyIfSettled).slr.lastSeq = s.slr.lastSeq ∧
    (s.applyIfSettled).slr.gapCount = s.slr.gapCount ∧
    (s.applyIfSettled).slr.lastGood = s.slr.lastGood ∧
    (s.applyIfSettled).slr.silenceLeft = s.slr.silenceLeft ∧
    (s.applyIfSettled).slr.runPos = s.slr.runPos ∧
    (s.applyIfSettled).slr.prevPosition = s.slr.prevPosition ∧
    (s.applyIfSettled).slr.prevHandle = s.slr.prevHandle ∧
    (s.applyIfSettled).slr.prevReady = s.slr.prevReady ∧
    (s.applyIfSettled).slr.position = s.slr.position ∧
    (s.applyIfSettled).slr.handle = s.slr.handle ∧ (s.applyIfSettled).slr.ready = s.slr.ready ∧
    (s.applyIfSettled).slr.decimation = s.slr.decimation ∧
    (s.applyIfSettled).slr.takeCount = s.slr.takeCount ∧
    (s.applyIfSettled).slr.batch = s.slr.batch := by
  dsimp only [State.applyIfSettled]
  split_ands <;> (repeat' split) <;> simp

@[simp] theorem State.applyIfSettled_store_fields (s : State) :
    (s.applyIfSettled).store.curves = s.store.curves ∧
    (s.applyIfSettled).store.groups = s.store.groups ∧
    (s.applyIfSettled).store.device = s.store.device ∧
    (s.applyIfSettled).store.selection = s.store.selection ∧
    (s.applyIfSettled).store.tags = s.store.tags ∧
    (s.applyIfSettled).store.gates = s.store.gates ∧
    (s.applyIfSettled).store.battery = s.store.battery ∧
    (s.applyIfSettled).store.radio = s.store.radio ∧
    (s.applyIfSettled).store.areas = s.store.areas ∧
    (s.applyIfSettled).store.lastFailure = s.store.lastFailure := by
  dsimp only [State.applyIfSettled]
  split_ands <;> (repeat' split) <;> simp

@[simp] theorem State.applyIfSettled_fcu_fields (s : State) :
    (s.applyIfSettled).fcu.rxRadio = s.fcu.rxRadio ∧
    (s.applyIfSettled).fcu.rxLocal = s.fcu.rxLocal ∧ (s.applyIfSettled).fcu.intake = s.fcu.intake ∧
    (s.applyIfSettled).fcu.outRadio = s.fcu.outRadio ∧
    (s.applyIfSettled).fcu.outLocal = s.fcu.outLocal ∧
    (s.applyIfSettled).fcu.badRadio = s.fcu.badRadio ∧
    (s.applyIfSettled).fcu.badLocal = s.fcu.badLocal ∧
    (s.applyIfSettled).fcu.dropRadio = s.fcu.dropRadio ∧
    (s.applyIfSettled).fcu.dropLocal = s.fcu.dropLocal ∧
    (s.applyIfSettled).fcu.fwdDropped = s.fcu.fwdDropped ∧
    (s.applyIfSettled).fcu.time = s.fcu.time ∧ (s.applyIfSettled).fcu.running = s.fcu.running ∧
    (s.applyIfSettled).fcu.subMs = s.fcu.subMs ∧
    (s.applyIfSettled).fcu.secondTick = s.fcu.secondTick := by
  dsimp only [State.applyIfSettled]
  split_ands <;> (repeat' split) <;> simp

@[simp] theorem State.applyIfSettled_pkm_fields (s : State) :
    (s.applyIfSettled).pkm.response = s.pkm.response ∧
    (s.applyIfSettled).pkm.forward = s.pkm.forward := by
  dsimp only [State.applyIfSettled]
  split_ands <;> (repeat' split) <;> simp

@[simp] theorem State.applyIfSettled_lku_fields (s : State) :
    (s.applyIfSettled).lku.inForce = s.lku.inForce ∧
    (s.applyIfSettled).lku.staged = s.lku.staged ∧
    (s.applyIfSettled).lku.countdowns = s.lku.countdowns ∧
    (s.applyIfSettled).lku.handle = s.lku.handle ∧
    (s.applyIfSettled).lku.handleStale = s.lku.handleStale := by
  dsimp only [State.applyIfSettled]
  split_ands <;> (repeat' split) <;> simp

@[simp] theorem State.setTagged_slr_fields (s : State) :
    (s.setTagged).slr.link = s.slr.link ∧ (s.setTagged).slr.consecMissing = s.slr.consecMissing ∧
    (s.setTagged).slr.totalMissing = s.slr.totalMissing ∧
    (s.setTagged).slr.lastSeq = s.slr.lastSeq ∧ (s.setTagged).slr.gapCount = s.slr.gapCount ∧
    (s.setTagged).slr.lastGood = s.slr.lastGood ∧
    (s.setTagged).slr.silenceLeft = s.slr.silenceLeft ∧ (s.setTagged).slr.runPos = s.slr.runPos ∧
    (s.setTagged).slr.prevPosition = s.slr.prevPosition ∧
    (s.setTagged).slr.prevHandle = s.slr.prevHandle ∧
    (s.setTagged).slr.prevReady = s.slr.prevReady ∧ (s.setTagged).slr.position = s.slr.position ∧
    (s.setTagged).slr.handle = s.slr.handle ∧ (s.setTagged).slr.ready = s.slr.ready ∧
    (s.setTagged).slr.decimation = s.slr.decimation ∧
    (s.setTagged).slr.takeCount = s.slr.takeCount ∧ (s.setTagged).slr.batch = s.slr.batch := by
  dsimp only [State.setTagged]
  split_ands <;> (repeat' split) <;> simp

@[simp] theorem State.setTagged_store_fields (s : State) :
    (s.setTagged).store.curves = s.store.curves ∧ (s.setTagged).store.groups = s.store.groups ∧
    (s.setTagged).store.device = s.store.device ∧
    (s.setTagged).store.selection = s.store.selection ∧ (s.setTagged).store.tags = s.store.tags ∧
    (s.setTagged).store.gates = s.store.gates ∧ (s.setTagged).store.battery = s.store.battery ∧
    (s.setTagged).store.radio = s.store.radio ∧ (s.setTagged).store.areas = s.store.areas ∧
    (s.setTagged).store.lastFailure = s.store.lastFailure := by
  dsimp only [State.setTagged]
  split_ands <;> (repeat' split) <;> simp

@[simp] theorem State.setTagged_fcu_fields (s : State) :
    (s.setTagged).fcu.rxRadio = s.fcu.rxRadio ∧ (s.setTagged).fcu.rxLocal = s.fcu.rxLocal ∧
    (s.setTagged).fcu.intake = s.fcu.intake ∧ (s.setTagged).fcu.outRadio = s.fcu.outRadio ∧
    (s.setTagged).fcu.outLocal = s.fcu.outLocal ∧ (s.setTagged).fcu.badRadio = s.fcu.badRadio ∧
    (s.setTagged).fcu.badLocal = s.fcu.badLocal ∧ (s.setTagged).fcu.dropRadio = s.fcu.dropRadio ∧
    (s.setTagged).fcu.dropLocal = s.fcu.dropLocal ∧
    (s.setTagged).fcu.fwdDropped = s.fcu.fwdDropped ∧ (s.setTagged).fcu.time = s.fcu.time ∧
    (s.setTagged).fcu.running = s.fcu.running ∧ (s.setTagged).fcu.subMs = s.fcu.subMs ∧
    (s.setTagged).fcu.secondTick = s.fcu.secondTick := by
  dsimp only [State.setTagged]
  split_ands <;> (repeat' split) <;> simp

@[simp] theorem State.setTagged_pkm_fields (s : State) :
    (s.setTagged).pkm.response = s.pkm.response ∧ (s.setTagged).pkm.forward = s.pkm.forward := by
  dsimp only [State.setTagged]
  split_ands <;> (repeat' split) <;> simp

@[simp] theorem State.setTagged_lku_fields (s : State) :
    (s.setTagged).lku.inForce = s.lku.inForce ∧ (s.setTagged).lku.staged = s.lku.staged ∧
    (s.setTagged).lku.countdowns = s.lku.countdowns ∧ (s.setTagged).lku.handle = s.lku.handle ∧
    (s.setTagged).lku.handleStale = s.lku.handleStale := by
  dsimp only [State.setTagged]
  split_ands <;> (repeat' split) <;> simp

@[simp] theorem State.setUntagged_slr_fields (s : State) :
    (s.setUntagged).slr.link = s.slr.link ∧
    (s.setUntagged).slr.consecMissing = s.slr.consecMissing ∧
    (s.setUntagged).slr.totalMissing = s.slr.totalMissing ∧
    (s.setUntagged).slr.lastSeq = s.slr.lastSeq ∧ (s.setUntagged).slr.gapCount = s.slr.gapCount ∧
    (s.setUntagged).slr.lastGood = s.slr.lastGood ∧
    (s.setUntagged).slr.silenceLeft = s.slr.silenceLeft ∧
    (s.setUntagged).slr.runPos = s.slr.runPos ∧
    (s.setUntagged).slr.prevPosition = s.slr.prevPosition ∧
    (s.setUntagged).slr.prevHandle = s.slr.prevHandle ∧
    (s.setUntagged).slr.prevReady = s.slr.prevReady ∧
    (s.setUntagged).slr.position = s.slr.position ∧ (s.setUntagged).slr.handle = s.slr.handle ∧
    (s.setUntagged).slr.ready = s.slr.ready ∧ (s.setUntagged).slr.decimation = s.slr.decimation ∧
    (s.setUntagged).slr.takeCount = s.slr.takeCount ∧ (s.setUntagged).slr.batch = s.slr.batch := by
  dsimp only [State.setUntagged]
  split_ands <;> (repeat' split) <;> simp

@[simp] theorem State.setUntagged_store_fields (s : State) :
    (s.setUntagged).store.curves = s.store.curves ∧
    (s.setUntagged).store.groups = s.store.groups ∧
    (s.setUntagged).store.device = s.store.device ∧
    (s.setUntagged).store.selection = s.store.selection ∧
    (s.setUntagged).store.tags = s.store.tags ∧ (s.setUntagged).store.gates = s.store.gates ∧
    (s.setUntagged).store.battery = s.store.battery ∧
    (s.setUntagged).store.radio = s.store.radio ∧ (s.setUntagged).store.areas = s.store.areas ∧
    (s.setUntagged).store.lastFailure = s.store.lastFailure := by
  dsimp only [State.setUntagged]
  split_ands <;> (repeat' split) <;> simp

@[simp] theorem State.setUntagged_fcu_fields (s : State) :
    (s.setUntagged).fcu.rxRadio = s.fcu.rxRadio ∧ (s.setUntagged).fcu.rxLocal = s.fcu.rxLocal ∧
    (s.setUntagged).fcu.intake = s.fcu.intake ∧ (s.setUntagged).fcu.outRadio = s.fcu.outRadio ∧
    (s.setUntagged).fcu.outLocal = s.fcu.outLocal ∧ (s.setUntagged).fcu.badRadio = s.fcu.badRadio ∧
    (s.setUntagged).fcu.badLocal = s.fcu.badLocal ∧
    (s.setUntagged).fcu.dropRadio = s.fcu.dropRadio ∧
    (s.setUntagged).fcu.dropLocal = s.fcu.dropLocal ∧
    (s.setUntagged).fcu.fwdDropped = s.fcu.fwdDropped ∧ (s.setUntagged).fcu.time = s.fcu.time ∧
    (s.setUntagged).fcu.running = s.fcu.running ∧ (s.setUntagged).fcu.subMs = s.fcu.subMs ∧
    (s.setUntagged).fcu.secondTick = s.fcu.secondTick := by
  dsimp only [State.setUntagged]
  split_ands <;> (repeat' split) <;> simp

@[simp] theorem State.setUntagged_pkm_fields (s : State) :
    (s.setUntagged).pkm.response = s.pkm.response ∧ (s.setUntagged).pkm.forward = s.pkm.forward := by
  dsimp only [State.setUntagged]
  split_ands <;> (repeat' split) <;> simp

@[simp] theorem State.setUntagged_lku_fields (s : State) :
    (s.setUntagged).lku.inForce = s.lku.inForce ∧ (s.setUntagged).lku.staged = s.lku.staged ∧
    (s.setUntagged).lku.countdowns = s.lku.countdowns ∧
    (s.setUntagged).lku.handle = s.lku.handle ∧
    (s.setUntagged).lku.handleStale = s.lku.handleStale := by
  dsimp only [State.setUntagged]
  split_ands <;> (repeat' split) <;> simp

@[simp] theorem State.resendTrip_slr_fields (before : SeqState) (s : State) :
    (s.resendTrip before).slr.link = s.slr.link ∧
    (s.resendTrip before).slr.consecMissing = s.slr.consecMissing ∧
    (s.resendTrip before).slr.totalMissing = s.slr.totalMissing ∧
    (s.resendTrip before).slr.lastSeq = s.slr.lastSeq ∧
    (s.resendTrip before).slr.gapCount = s.slr.gapCount ∧
    (s.resendTrip before).slr.lastGood = s.slr.lastGood ∧
    (s.resendTrip before).slr.silenceLeft = s.slr.silenceLeft ∧
    (s.resendTrip before).slr.runPos = s.slr.runPos ∧
    (s.resendTrip before).slr.prevPosition = s.slr.prevPosition ∧
    (s.resendTrip before).slr.prevHandle = s.slr.prevHandle ∧
    (s.resendTrip before).slr.prevReady = s.slr.prevReady ∧
    (s.resendTrip before).slr.position = s.slr.position ∧
    (s.resendTrip before).slr.handle = s.slr.handle ∧
    (s.resendTrip before).slr.ready = s.slr.ready ∧
    (s.resendTrip before).slr.decimation = s.slr.decimation ∧
    (s.resendTrip before).slr.takeCount = s.slr.takeCount ∧
    (s.resendTrip before).slr.batch = s.slr.batch := by
  dsimp only [State.resendTrip]
  split_ands <;> (repeat' split) <;> simp

@[simp] theorem State.resendTrip_fcu_fields (before : SeqState) (s : State) :
    (s.resendTrip before).fcu.rxRadio = s.fcu.rxRadio ∧
    (s.resendTrip before).fcu.rxLocal = s.fcu.rxLocal ∧
    (s.resendTrip before).fcu.intake = s.fcu.intake ∧
    (s.resendTrip before).fcu.outRadio = s.fcu.outRadio ∧
    (s.resendTrip before).fcu.outLocal = s.fcu.outLocal ∧
    (s.resendTrip before).fcu.badRadio = s.fcu.badRadio ∧
    (s.resendTrip before).fcu.badLocal = s.fcu.badLocal ∧
    (s.resendTrip before).fcu.dropRadio = s.fcu.dropRadio ∧
    (s.resendTrip before).fcu.dropLocal = s.fcu.dropLocal ∧
    (s.resendTrip before).fcu.fwdDropped = s.fcu.fwdDropped ∧
    (s.resendTrip before).fcu.time = s.fcu.time ∧
    (s.resendTrip before).fcu.running = s.fcu.running ∧
    (s.resendTrip before).fcu.subMs = s.fcu.subMs ∧
    (s.resendTrip before).fcu.secondTick = s.fcu.secondTick := by
  dsimp only [State.resendTrip]
  split_ands <;> (repeat' split) <;> simp

@[simp] theorem State.resendTrip_pkm_fields (before : SeqState) (s : State) :
    (s.resendTrip before).pkm.response = s.pkm.response ∧
    (s.resendTrip before).pkm.forward = s.pkm.forward := by
  dsimp only [State.resendTrip]
  split_ands <;> (repeat' split) <;> simp

@[simp] theorem State.settleNotice_slr_fields (s : State) :
    (s.settleNotice).slr.link = s.slr.link ∧
    (s.settleNotice).slr.consecMissing = s.slr.consecMissing ∧
    (s.settleNotice).slr.totalMissing = s.slr.totalMissing ∧
    (s.settleNotice).slr.lastSeq = s.slr.lastSeq ∧
    (s.settleNotice).slr.gapCount = s.slr.gapCount ∧
    (s.settleNotice).slr.lastGood = s.slr.lastGood ∧
    (s.settleNotice).slr.silenceLeft = s.slr.silenceLeft ∧
    (s.settleNotice).slr.runPos = s.slr.runPos ∧
    (s.settleNotice).slr.prevPosition = s.slr.prevPosition ∧
    (s.settleNotice).slr.prevHandle = s.slr.prevHandle ∧
    (s.settleNotice).slr.prevReady = s.slr.prevReady ∧
    (s.settleNotice).slr.position = s.slr.position ∧ (s.settleNotice).slr.handle = s.slr.handle ∧
    (s.settleNotice).slr.ready = s.slr.ready ∧
    (s.settleNotice).slr.decimation = s.slr.decimation ∧
    (s.settleNotice).slr.takeCount = s.slr.takeCount ∧ (s.settleNotice).slr.batch = s.slr.batch := by
  dsimp only [State.settleNotice]
  split_ands <;> (repeat' split) <;> simp

@[simp] theorem State.settleNotice_store_fields (s : State) :
    (s.settleNotice).store.curves = s.store.curves ∧
    (s.settleNotice).store.groups = s.store.groups ∧
    (s.settleNotice).store.device = s.store.device ∧
    (s.settleNotice).store.selection = s.store.selection ∧
    (s.settleNotice).store.tags = s.store.tags ∧ (s.settleNotice).store.gates = s.store.gates ∧
    (s.settleNotice).store.battery = s.store.battery ∧
    (s.settleNotice).store.radio = s.store.radio ∧ (s.settleNotice).store.areas = s.store.areas ∧
    (s.settleNotice).store.lastFailure = s.store.lastFailure := by
  dsimp only [State.settleNotice]
  split_ands <;> (repeat' split) <;> simp

@[simp] theorem State.settleNotice_fcu_fields (s : State) :
    (s.settleNotice).fcu.rxRadio = s.fcu.rxRadio ∧ (s.settleNotice).fcu.rxLocal = s.fcu.rxLocal ∧
    (s.settleNotice).fcu.intake = s.fcu.intake ∧ (s.settleNotice).fcu.outRadio = s.fcu.outRadio ∧
    (s.settleNotice).fcu.outLocal = s.fcu.outLocal ∧
    (s.settleNotice).fcu.badRadio = s.fcu.badRadio ∧
    (s.settleNotice).fcu.badLocal = s.fcu.badLocal ∧
    (s.settleNotice).fcu.dropRadio = s.fcu.dropRadio ∧
    (s.settleNotice).fcu.dropLocal = s.fcu.dropLocal ∧
    (s.settleNotice).fcu.fwdDropped = s.fcu.fwdDropped ∧ (s.settleNotice).fcu.time = s.fcu.time ∧
    (s.settleNotice).fcu.running = s.fcu.running ∧ (s.settleNotice).fcu.subMs = s.fcu.subMs ∧
    (s.settleNotice).fcu.secondTick = s.fcu.secondTick := by
  dsimp only [State.settleNotice]
  split_ands <;> (repeat' split) <;> simp

@[simp] theorem State.settleNotice_pkm_fields (s : State) :
    (s.settleNotice).pkm.response = s.pkm.response ∧
    (s.settleNotice).pkm.forward = s.pkm.forward := by
  dsimp only [State.settleNotice]
  split_ands <;> (repeat' split) <;> simp

@[simp] theorem State.settleNotice_lku_fields (s : State) :
    (s.settleNotice).lku.inForce = s.lku.inForce ∧ (s.settleNotice).lku.staged = s.lku.staged ∧
    (s.settleNotice).lku.countdowns = s.lku.countdowns ∧
    (s.settleNotice).lku.handle = s.lku.handle ∧
    (s.settleNotice).lku.handleStale = s.lku.handleStale := by
  dsimp only [State.settleNotice]
  split_ands <;> (repeat' split) <;> simp

@[simp] theorem State.seqArrive_slr_fields (f : State → State) (s : State) :
    (s.seqArrive f).slr.link = (f s).slr.link ∧
    (s.seqArrive f).slr.consecMissing = (f s).slr.consecMissing ∧
    (s.seqArrive f).slr.totalMissing = (f s).slr.totalMissing ∧
    (s.seqArrive f).slr.lastSeq = (f s).slr.lastSeq ∧
    (s.seqArrive f).slr.gapCount = (f s).slr.gapCount ∧
    (s.seqArrive f).slr.lastGood = (f s).slr.lastGood ∧
    (s.seqArrive f).slr.silenceLeft = (f s).slr.silenceLeft ∧
    (s.seqArrive f).slr.runPos = (f s).slr.runPos ∧
    (s.seqArrive f).slr.prevPosition = (f s).slr.prevPosition ∧
    (s.seqArrive f).slr.prevHandle = (f s).slr.prevHandle ∧
    (s.seqArrive f).slr.prevReady = (f s).slr.prevReady ∧
    (s.seqArrive f).slr.position = (f s).slr.position ∧
    (s.seqArrive f).slr.handle = (f s).slr.handle ∧ (s.seqArrive f).slr.ready = (f s).slr.ready ∧
    (s.seqArrive f).slr.decimation = (f s).slr.decimation ∧
    (s.seqArrive f).slr.takeCount = (f s).slr.takeCount ∧
    (s.seqArrive f).slr.batch = (f s).slr.batch := by
  simp [State.seqArrive]

@[simp] theorem State.seqArrive_store_fields (f : State → State) (s : State) :
    (s.seqArrive f).store.curves = (f s).store.curves ∧
    (s.seqArrive f).store.groups = (f s).store.groups ∧
    (s.seqArrive f).store.device = (f s).store.device ∧
    (s.seqArrive f).store.selection = (f s).store.selection ∧
    (s.seqArrive f).store.tags = (f s).store.tags ∧
    (s.seqArrive f).store.gates = (f s).store.gates ∧
    (s.seqArrive f).store.battery = (f s).store.battery ∧
    (s.seqArrive f).store.radio = (f s).store.radio ∧
    (s.seqArrive f).store.areas = (f s).store.areas ∧
    (s.seqArrive f).store.lastFailure = (f s).store.lastFailure := by
  simp [State.seqArrive]

@[simp] theorem State.seqArrive_fcu_fields (f : State → State) (s : State) :
    (s.seqArrive f).fcu.rxRadio = (f s).fcu.rxRadio ∧
    (s.seqArrive f).fcu.rxLocal = (f s).fcu.rxLocal ∧
    (s.seqArrive f).fcu.intake = (f s).fcu.intake ∧
    (s.seqArrive f).fcu.outRadio = (f s).fcu.outRadio ∧
    (s.seqArrive f).fcu.outLocal = (f s).fcu.outLocal ∧
    (s.seqArrive f).fcu.badRadio = (f s).fcu.badRadio ∧
    (s.seqArrive f).fcu.badLocal = (f s).fcu.badLocal ∧
    (s.seqArrive f).fcu.dropRadio = (f s).fcu.dropRadio ∧
    (s.seqArrive f).fcu.dropLocal = (f s).fcu.dropLocal ∧
    (s.seqArrive f).fcu.fwdDropped = (f s).fcu.fwdDropped ∧
    (s.seqArrive f).fcu.time = (f s).fcu.time ∧ (s.seqArrive f).fcu.running = (f s).fcu.running ∧
    (s.seqArrive f).fcu.subMs = (f s).fcu.subMs ∧
    (s.seqArrive f).fcu.secondTick = (f s).fcu.secondTick := by
  simp [State.seqArrive]

@[simp] theorem State.seqArrive_pkm_fields (f : State → State) (s : State) :
    (s.seqArrive f).pkm.response = (f s).pkm.response ∧
    (s.seqArrive f).pkm.forward = (f s).pkm.forward := by
  simp [State.seqArrive]

@[simp] theorem State.seqArrive_lku_fields (f : State → State) (s : State) :
    (s.seqArrive f).lku.inForce = (f s).lku.inForce ∧
    (s.seqArrive f).lku.staged = (f s).lku.staged ∧
    (s.seqArrive f).lku.countdowns = (f s).lku.countdowns ∧
    (s.seqArrive f).lku.handle = (f s).lku.handle ∧
    (s.seqArrive f).lku.handleStale = (f s).lku.handleStale := by
  simp [State.seqArrive]

/-! ## Operations of Machine/Lockout.lean -/

@[simp] theorem State.stageTag_store_fields (c : TagChange) (s : State) :
    (s.stageTag c).store.curves = s.store.curves ∧ (s.stageTag c).store.groups = s.store.groups ∧
    (s.stageTag c).store.device = s.store.device ∧
    (s.stageTag c).store.selection = s.store.selection ∧
    (s.stageTag c).store.tags = s.store.tags ∧ (s.stageTag c).store.gates = s.store.gates ∧
    (s.stageTag c).store.battery = s.store.battery ∧ (s.stageTag c).store.radio = s.store.radio ∧
    (s.stageTag c).store.areas = s.store.areas ∧
    (s.stageTag c).store.lastFailure = s.store.lastFailure := by
  dsimp only [State.stageTag]
  split_ands <;> simp

@[simp] theorem State.stageTag_lku_fields (c : TagChange) (s : State) :
    (s.stageTag c).lku.inForce = s.lku.inForce ∧
    (s.stageTag c).lku.countdowns = s.lku.countdowns ∧ (s.stageTag c).lku.handle = s.lku.handle ∧
    (s.stageTag c).lku.handleStale = s.lku.handleStale := by
  dsimp only [State.stageTag]
  split_ands <;> simp

@[simp] theorem State.effectTag_store_fields (c : TagChange) (s : State) :
    (s.effectTag c).store.curves = s.store.curves ∧
    (s.effectTag c).store.groups = s.store.groups ∧
    (s.effectTag c).store.device = s.store.device ∧
    (s.effectTag c).store.selection = s.store.selection ∧
    (s.effectTag c).store.gates = s.store.gates ∧
    (s.effectTag c).store.battery = s.store.battery ∧
    (s.effectTag c).store.radio = s.store.radio ∧ (s.effectTag c).store.areas = s.store.areas ∧
    (s.effectTag c).store.lastFailure = s.store.lastFailure ∧
    (s.effectTag c).store.inFlight = s.store.inFlight ∧
    (s.effectTag c).store.waitList = s.store.waitList := by
  dsimp only [State.effectTag]
  split_ands <;> (repeat' split) <;> simp

@[simp] theorem State.effectTag_lku_fields (c : TagChange) (s : State) :
    (s.effectTag c).lku.changes = s.lku.changes ∧ (s.effectTag c).lku.handle = s.lku.handle ∧
    (s.effectTag c).lku.handleStale = s.lku.handleStale := by
  dsimp only [State.effectTag]
  split_ands <;> (repeat' split) <;> simp

@[simp] theorem State.effectTags_store_fields (cs : List TagChange) (s : State) :
    (s.effectTags cs).store.curves = s.store.curves ∧
    (s.effectTags cs).store.groups = s.store.groups ∧
    (s.effectTags cs).store.device = s.store.device ∧
    (s.effectTags cs).store.selection = s.store.selection ∧
    (s.effectTags cs).store.gates = s.store.gates ∧
    (s.effectTags cs).store.battery = s.store.battery ∧
    (s.effectTags cs).store.radio = s.store.radio ∧
    (s.effectTags cs).store.areas = s.store.areas ∧
    (s.effectTags cs).store.lastFailure = s.store.lastFailure ∧
    (s.effectTags cs).store.inFlight = s.store.inFlight ∧
    (s.effectTags cs).store.waitList = s.store.waitList := by
  induction cs generalizing s with
  | nil => simp [State.effectTags]
  | cons c cs ih =>
    unfold State.effectTags
    simp [ih]

@[simp] theorem State.effectTags_lku_fields (cs : List TagChange) (s : State) :
    (s.effectTags cs).lku.changes = s.lku.changes ∧ (s.effectTags cs).lku.handle = s.lku.handle ∧
    (s.effectTags cs).lku.handleStale = s.lku.handleStale := by
  induction cs generalizing s with
  | nil => simp [State.effectTags]
  | cons c cs ih =>
    unfold State.effectTags
    simp [ih]

@[simp] theorem State.emitAll_slr_fields (es : List Event) (s : State) :
    (s.emitAll es).slr.link = s.slr.link ∧
    (s.emitAll es).slr.consecMissing = s.slr.consecMissing ∧
    (s.emitAll es).slr.totalMissing = s.slr.totalMissing ∧
    (s.emitAll es).slr.lastSeq = s.slr.lastSeq ∧ (s.emitAll es).slr.gapCount = s.slr.gapCount ∧
    (s.emitAll es).slr.lastGood = s.slr.lastGood ∧
    (s.emitAll es).slr.silenceLeft = s.slr.silenceLeft ∧
    (s.emitAll es).slr.runPos = s.slr.runPos ∧
    (s.emitAll es).slr.prevPosition = s.slr.prevPosition ∧
    (s.emitAll es).slr.prevHandle = s.slr.prevHandle ∧
    (s.emitAll es).slr.prevReady = s.slr.prevReady ∧
    (s.emitAll es).slr.position = s.slr.position ∧ (s.emitAll es).slr.handle = s.slr.handle ∧
    (s.emitAll es).slr.ready = s.slr.ready ∧ (s.emitAll es).slr.decimation = s.slr.decimation ∧
    (s.emitAll es).slr.takeCount = s.slr.takeCount ∧ (s.emitAll es).slr.batch = s.slr.batch := by
  induction es generalizing s with
  | nil => simp [State.emitAll]
  | cons c cs ih =>
    unfold State.emitAll
    simp [ih]

@[simp] theorem State.emitAll_fcu_fields (es : List Event) (s : State) :
    (s.emitAll es).fcu.rxRadio = s.fcu.rxRadio ∧ (s.emitAll es).fcu.rxLocal = s.fcu.rxLocal ∧
    (s.emitAll es).fcu.intake = s.fcu.intake ∧ (s.emitAll es).fcu.outRadio = s.fcu.outRadio ∧
    (s.emitAll es).fcu.outLocal = s.fcu.outLocal ∧ (s.emitAll es).fcu.badRadio = s.fcu.badRadio ∧
    (s.emitAll es).fcu.badLocal = s.fcu.badLocal ∧ (s.emitAll es).fcu.dropRadio = s.fcu.dropRadio ∧
    (s.emitAll es).fcu.dropLocal = s.fcu.dropLocal ∧
    (s.emitAll es).fcu.fwdDropped = s.fcu.fwdDropped ∧ (s.emitAll es).fcu.time = s.fcu.time ∧
    (s.emitAll es).fcu.running = s.fcu.running ∧ (s.emitAll es).fcu.subMs = s.fcu.subMs ∧
    (s.emitAll es).fcu.secondTick = s.fcu.secondTick := by
  induction es generalizing s with
  | nil => simp [State.emitAll]
  | cons c cs ih =>
    unfold State.emitAll
    simp [ih]

@[simp] theorem State.emitAll_pkm_fields (es : List Event) (s : State) :
    (s.emitAll es).pkm.response = s.pkm.response ∧ (s.emitAll es).pkm.forward = s.pkm.forward := by
  induction es generalizing s with
  | nil => simp [State.emitAll]
  | cons c cs ih =>
    unfold State.emitAll
    simp [ih]

@[simp] theorem State.answerTags_fcu_fields (cs : List TagChange) (s : State) :
    (s.answerTags cs).fcu.rxRadio = s.fcu.rxRadio ∧ (s.answerTags cs).fcu.rxLocal = s.fcu.rxLocal ∧
    (s.answerTags cs).fcu.intake = s.fcu.intake ∧ (s.answerTags cs).fcu.badRadio = s.fcu.badRadio ∧
    (s.answerTags cs).fcu.badLocal = s.fcu.badLocal ∧
    (s.answerTags cs).fcu.dropRadio = s.fcu.dropRadio ∧
    (s.answerTags cs).fcu.dropLocal = s.fcu.dropLocal ∧
    (s.answerTags cs).fcu.fwdDropped = s.fcu.fwdDropped ∧
    (s.answerTags cs).fcu.localDropped = s.fcu.localDropped ∧
    (s.answerTags cs).fcu.time = s.fcu.time ∧ (s.answerTags cs).fcu.running = s.fcu.running ∧
    (s.answerTags cs).fcu.subMs = s.fcu.subMs ∧
    (s.answerTags cs).fcu.secondTick = s.fcu.secondTick := by
  induction cs generalizing s with
  | nil => simp [State.answerTags]
  | cons c cs ih =>
    unfold State.answerTags
    simp [ih]

@[simp] theorem State.answerTags_pkm_fields (cs : List TagChange) (s : State) :
    (s.answerTags cs).pkm.routine = s.pkm.routine ∧
    (s.answerTags cs).pkm.forward = s.pkm.forward := by
  induction cs generalizing s with
  | nil => simp [State.answerTags]
  | cons c cs ih =>
    unfold State.answerTags
    simp [ih]

@[simp] theorem State.tagNotices_slr_fields (before : List Tag) (s : State) :
    (s.tagNotices before).slr.link = s.slr.link ∧
    (s.tagNotices before).slr.consecMissing = s.slr.consecMissing ∧
    (s.tagNotices before).slr.totalMissing = s.slr.totalMissing ∧
    (s.tagNotices before).slr.lastSeq = s.slr.lastSeq ∧
    (s.tagNotices before).slr.gapCount = s.slr.gapCount ∧
    (s.tagNotices before).slr.lastGood = s.slr.lastGood ∧
    (s.tagNotices before).slr.silenceLeft = s.slr.silenceLeft ∧
    (s.tagNotices before).slr.runPos = s.slr.runPos ∧
    (s.tagNotices before).slr.prevPosition = s.slr.prevPosition ∧
    (s.tagNotices before).slr.prevHandle = s.slr.prevHandle ∧
    (s.tagNotices before).slr.prevReady = s.slr.prevReady ∧
    (s.tagNotices before).slr.position = s.slr.position ∧
    (s.tagNotices before).slr.handle = s.slr.handle ∧
    (s.tagNotices before).slr.ready = s.slr.ready ∧
    (s.tagNotices before).slr.decimation = s.slr.decimation ∧
    (s.tagNotices before).slr.takeCount = s.slr.takeCount ∧
    (s.tagNotices before).slr.batch = s.slr.batch := by
  dsimp only [State.tagNotices]
  split_ands <;> (repeat' split) <;> simp

@[simp] theorem State.tagNotices_store_fields (before : List Tag) (s : State) :
    (s.tagNotices before).store.curves = s.store.curves ∧
    (s.tagNotices before).store.groups = s.store.groups ∧
    (s.tagNotices before).store.device = s.store.device ∧
    (s.tagNotices before).store.selection = s.store.selection ∧
    (s.tagNotices before).store.tags = s.store.tags ∧
    (s.tagNotices before).store.gates = s.store.gates ∧
    (s.tagNotices before).store.battery = s.store.battery ∧
    (s.tagNotices before).store.radio = s.store.radio ∧
    (s.tagNotices before).store.areas = s.store.areas ∧
    (s.tagNotices before).store.lastFailure = s.store.lastFailure := by
  dsimp only [State.tagNotices]
  split_ands <;> (repeat' split) <;> simp

@[simp] theorem State.tagNotices_fcu_fields (before : List Tag) (s : State) :
    (s.tagNotices before).fcu.rxRadio = s.fcu.rxRadio ∧
    (s.tagNotices before).fcu.rxLocal = s.fcu.rxLocal ∧
    (s.tagNotices before).fcu.intake = s.fcu.intake ∧
    (s.tagNotices before).fcu.outRadio = s.fcu.outRadio ∧
    (s.tagNotices before).fcu.outLocal = s.fcu.outLocal ∧
    (s.tagNotices before).fcu.badRadio = s.fcu.badRadio ∧
    (s.tagNotices before).fcu.badLocal = s.fcu.badLocal ∧
    (s.tagNotices before).fcu.dropRadio = s.fcu.dropRadio ∧
    (s.tagNotices before).fcu.dropLocal = s.fcu.dropLocal ∧
    (s.tagNotices before).fcu.fwdDropped = s.fcu.fwdDropped ∧
    (s.tagNotices before).fcu.time = s.fcu.time ∧
    (s.tagNotices before).fcu.running = s.fcu.running ∧
    (s.tagNotices before).fcu.subMs = s.fcu.subMs ∧
    (s.tagNotices before).fcu.secondTick = s.fcu.secondTick := by
  dsimp only [State.tagNotices]
  split_ands <;> (repeat' split) <;> simp

@[simp] theorem State.tagNotices_pkm_fields (before : List Tag) (s : State) :
    (s.tagNotices before).pkm.response = s.pkm.response ∧
    (s.tagNotices before).pkm.forward = s.pkm.forward := by
  dsimp only [State.tagNotices]
  split_ands <;> (repeat' split) <;> simp

@[simp] theorem State.tagNotices_lku_fields (before : List Tag) (s : State) :
    (s.tagNotices before).lku.inForce = s.lku.inForce ∧
    (s.tagNotices before).lku.staged = s.lku.staged ∧
    (s.tagNotices before).lku.countdowns = s.lku.countdowns ∧
    (s.tagNotices before).lku.handle = s.lku.handle ∧
    (s.tagNotices before).lku.handleStale = s.lku.handleStale := by
  dsimp only [State.tagNotices]
  split_ands <;> (repeat' split) <;> simp

@[simp] theorem State.tagsStored_slr_fields (cs : List TagChange) (s : State) :
    (s.tagsStored cs).slr.link = s.slr.link ∧
    (s.tagsStored cs).slr.consecMissing = s.slr.consecMissing ∧
    (s.tagsStored cs).slr.totalMissing = s.slr.totalMissing ∧
    (s.tagsStored cs).slr.lastSeq = s.slr.lastSeq ∧
    (s.tagsStored cs).slr.gapCount = s.slr.gapCount ∧
    (s.tagsStored cs).slr.lastGood = s.slr.lastGood ∧
    (s.tagsStored cs).slr.silenceLeft = s.slr.silenceLeft ∧
    (s.tagsStored cs).slr.runPos = s.slr.runPos ∧
    (s.tagsStored cs).slr.prevPosition = s.slr.prevPosition ∧
    (s.tagsStored cs).slr.prevHandle = s.slr.prevHandle ∧
    (s.tagsStored cs).slr.prevReady = s.slr.prevReady ∧
    (s.tagsStored cs).slr.position = s.slr.position ∧
    (s.tagsStored cs).slr.handle = s.slr.handle ∧ (s.tagsStored cs).slr.ready = s.slr.ready ∧
    (s.tagsStored cs).slr.decimation = s.slr.decimation ∧
    (s.tagsStored cs).slr.takeCount = s.slr.takeCount ∧
    (s.tagsStored cs).slr.batch = s.slr.batch := by
  dsimp only [State.tagsStored]
  split_ands <;> simp

@[simp] theorem State.tagsStored_store_fields (cs : List TagChange) (s : State) :
    (s.tagsStored cs).store.curves = s.store.curves ∧
    (s.tagsStored cs).store.groups = s.store.groups ∧
    (s.tagsStored cs).store.device = s.store.device ∧
    (s.tagsStored cs).store.selection = s.store.selection ∧
    (s.tagsStored cs).store.gates = s.store.gates ∧
    (s.tagsStored cs).store.battery = s.store.battery ∧
    (s.tagsStored cs).store.radio = s.store.radio ∧
    (s.tagsStored cs).store.areas = s.store.areas ∧
    (s.tagsStored cs).store.lastFailure = s.store.lastFailure := by
  dsimp only [State.tagsStored]
  split_ands <;> simp

@[simp] theorem State.tagsStored_fcu_fields (cs : List TagChange) (s : State) :
    (s.tagsStored cs).fcu.rxRadio = s.fcu.rxRadio ∧ (s.tagsStored cs).fcu.rxLocal = s.fcu.rxLocal ∧
    (s.tagsStored cs).fcu.intake = s.fcu.intake ∧ (s.tagsStored cs).fcu.badRadio = s.fcu.badRadio ∧
    (s.tagsStored cs).fcu.badLocal = s.fcu.badLocal ∧
    (s.tagsStored cs).fcu.dropRadio = s.fcu.dropRadio ∧
    (s.tagsStored cs).fcu.dropLocal = s.fcu.dropLocal ∧
    (s.tagsStored cs).fcu.fwdDropped = s.fcu.fwdDropped ∧ (s.tagsStored cs).fcu.time = s.fcu.time ∧
    (s.tagsStored cs).fcu.running = s.fcu.running ∧ (s.tagsStored cs).fcu.subMs = s.fcu.subMs ∧
    (s.tagsStored cs).fcu.secondTick = s.fcu.secondTick := by
  dsimp only [State.tagsStored]
  split_ands <;> simp

@[simp] theorem State.tagsStored_pkm_fields (cs : List TagChange) (s : State) :
    (s.tagsStored cs).pkm.forward = s.pkm.forward := by
  dsimp only [State.tagsStored]
  simp

@[simp] theorem State.tagsStored_lku_fields (cs : List TagChange) (s : State) :
    (s.tagsStored cs).lku.handle = s.lku.handle ∧
    (s.tagsStored cs).lku.handleStale = s.lku.handleStale := by
  dsimp only [State.tagsStored]
  split_ands <;> simp

@[simp] theorem State.tagExpires_store_fields (crew : Nat) (s : State) :
    (s.tagExpires crew).store.curves = s.store.curves ∧
    (s.tagExpires crew).store.groups = s.store.groups ∧
    (s.tagExpires crew).store.device = s.store.device ∧
    (s.tagExpires crew).store.selection = s.store.selection ∧
    (s.tagExpires crew).store.tags = s.store.tags ∧
    (s.tagExpires crew).store.gates = s.store.gates ∧
    (s.tagExpires crew).store.battery = s.store.battery ∧
    (s.tagExpires crew).store.radio = s.store.radio ∧
    (s.tagExpires crew).store.areas = s.store.areas ∧
    (s.tagExpires crew).store.lastFailure = s.store.lastFailure := by
  dsimp only [State.tagExpires]
  split_ands <;> (repeat' split) <;> simp

@[simp] theorem State.tagExpires_lku_fields (crew : Nat) (s : State) :
    (s.tagExpires crew).lku.inForce = s.lku.inForce ∧
    (s.tagExpires crew).lku.handle = s.lku.handle ∧
    (s.tagExpires crew).lku.handleStale = s.lku.handleStale := by
  dsimp only [State.tagExpires]
  split_ands <;> (repeat' split) <;> simp

@[simp] theorem State.lkuHandle_slr_fields (d : Delivery) (s : State) :
    (s.lkuHandle d).slr.link = s.slr.link ∧
    (s.lkuHandle d).slr.consecMissing = s.slr.consecMissing ∧
    (s.lkuHandle d).slr.totalMissing = s.slr.totalMissing ∧
    (s.lkuHandle d).slr.lastSeq = s.slr.lastSeq ∧ (s.lkuHandle d).slr.gapCount = s.slr.gapCount ∧
    (s.lkuHandle d).slr.lastGood = s.slr.lastGood ∧
    (s.lkuHandle d).slr.silenceLeft = s.slr.silenceLeft ∧
    (s.lkuHandle d).slr.runPos = s.slr.runPos ∧
    (s.lkuHandle d).slr.prevPosition = s.slr.prevPosition ∧
    (s.lkuHandle d).slr.prevHandle = s.slr.prevHandle ∧
    (s.lkuHandle d).slr.prevReady = s.slr.prevReady ∧
    (s.lkuHandle d).slr.position = s.slr.position ∧ (s.lkuHandle d).slr.handle = s.slr.handle ∧
    (s.lkuHandle d).slr.ready = s.slr.ready ∧ (s.lkuHandle d).slr.decimation = s.slr.decimation ∧
    (s.lkuHandle d).slr.takeCount = s.slr.takeCount ∧ (s.lkuHandle d).slr.batch = s.slr.batch := by
  dsimp only [State.lkuHandle]
  split_ands <;> (repeat' split) <;> simp

@[simp] theorem State.lkuHandle_fcu_fields (d : Delivery) (s : State) :
    (s.lkuHandle d).fcu.rxRadio = s.fcu.rxRadio ∧ (s.lkuHandle d).fcu.rxLocal = s.fcu.rxLocal ∧
    (s.lkuHandle d).fcu.intake = s.fcu.intake ∧ (s.lkuHandle d).fcu.outRadio = s.fcu.outRadio ∧
    (s.lkuHandle d).fcu.outLocal = s.fcu.outLocal ∧ (s.lkuHandle d).fcu.badRadio = s.fcu.badRadio ∧
    (s.lkuHandle d).fcu.badLocal = s.fcu.badLocal ∧
    (s.lkuHandle d).fcu.dropRadio = s.fcu.dropRadio ∧
    (s.lkuHandle d).fcu.dropLocal = s.fcu.dropLocal ∧
    (s.lkuHandle d).fcu.fwdDropped = s.fcu.fwdDropped ∧ (s.lkuHandle d).fcu.time = s.fcu.time ∧
    (s.lkuHandle d).fcu.running = s.fcu.running ∧ (s.lkuHandle d).fcu.subMs = s.fcu.subMs ∧
    (s.lkuHandle d).fcu.secondTick = s.fcu.secondTick := by
  dsimp only [State.lkuHandle]
  split_ands <;> (repeat' split) <;> simp

@[simp] theorem State.lkuHandle_pkm_fields (d : Delivery) (s : State) :
    (s.lkuHandle d).pkm.response = s.pkm.response ∧ (s.lkuHandle d).pkm.forward = s.pkm.forward := by
  dsimp only [State.lkuHandle]
  split_ands <;> (repeat' split) <;> simp

@[simp] theorem State.lkuHandle_lku_fields (d : Delivery) (s : State) :
    (s.lkuHandle d).lku.inForce = s.lku.inForce ∧ (s.lkuHandle d).lku.staged = s.lku.staged ∧
    (s.lkuHandle d).lku.changes = s.lku.changes ∧
    (s.lkuHandle d).lku.countdowns = s.lku.countdowns := by
  dsimp only [State.lkuHandle]
  split_ands <;> (repeat' split) <;> simp

/-! ## Operations of Machine/Sensor.lean -/

@[simp] theorem State.drvConfirm_slr_fields (news : Bool) (d : Delivery) (s : State) :
    (s.drvConfirm news d).slr.link = s.slr.link ∧
    (s.drvConfirm news d).slr.consecMissing = s.slr.consecMissing ∧
    (s.drvConfirm news d).slr.totalMissing = s.slr.totalMissing ∧
    (s.drvConfirm news d).slr.lastSeq = s.slr.lastSeq ∧
    (s.drvConfirm news d).slr.gapCount = s.slr.gapCount ∧
    (s.drvConfirm news d).slr.lastGood = s.slr.lastGood ∧
    (s.drvConfirm news d).slr.silenceLeft = s.slr.silenceLeft ∧
    (s.drvConfirm news d).slr.runPos = s.slr.runPos ∧
    (s.drvConfirm news d).slr.prevPosition = s.slr.prevPosition ∧
    (s.drvConfirm news d).slr.prevHandle = s.slr.prevHandle ∧
    (s.drvConfirm news d).slr.prevReady = s.slr.prevReady ∧
    (s.drvConfirm news d).slr.position = s.slr.position ∧ (s.drvConfirm news d).slr.handle = s.slr.handle ∧
    (s.drvConfirm news d).slr.ready = s.slr.ready ∧
    (s.drvConfirm news d).slr.decimation = s.slr.decimation ∧
    (s.drvConfirm news d).slr.takeCount = s.slr.takeCount ∧ (s.drvConfirm news d).slr.batch = s.slr.batch := by
  dsimp only [State.drvConfirm]
  split_ands <;> (repeat' split) <;> simp

@[simp] theorem State.drvConfirm_store_fields (news : Bool) (d : Delivery) (s : State) :
    (s.drvConfirm news d).store.curves = s.store.curves ∧
    (s.drvConfirm news d).store.groups = s.store.groups ∧
    (s.drvConfirm news d).store.device = s.store.device ∧
    (s.drvConfirm news d).store.selection = s.store.selection ∧
    (s.drvConfirm news d).store.tags = s.store.tags ∧ (s.drvConfirm news d).store.gates = s.store.gates ∧
    (s.drvConfirm news d).store.battery = s.store.battery ∧
    (s.drvConfirm news d).store.radio = s.store.radio ∧ (s.drvConfirm news d).store.areas = s.store.areas ∧
    (s.drvConfirm news d).store.lastFailure = s.store.lastFailure := by
  dsimp only [State.drvConfirm]
  split_ands <;> (repeat' split) <;> simp

@[simp] theorem State.drvConfirm_fcu_fields (news : Bool) (d : Delivery) (s : State) :
    (s.drvConfirm news d).fcu.rxRadio = s.fcu.rxRadio ∧ (s.drvConfirm news d).fcu.rxLocal = s.fcu.rxLocal ∧
    (s.drvConfirm news d).fcu.intake = s.fcu.intake ∧ (s.drvConfirm news d).fcu.outRadio = s.fcu.outRadio ∧
    (s.drvConfirm news d).fcu.outLocal = s.fcu.outLocal ∧
    (s.drvConfirm news d).fcu.badRadio = s.fcu.badRadio ∧
    (s.drvConfirm news d).fcu.badLocal = s.fcu.badLocal ∧
    (s.drvConfirm news d).fcu.dropRadio = s.fcu.dropRadio ∧
    (s.drvConfirm news d).fcu.dropLocal = s.fcu.dropLocal ∧
    (s.drvConfirm news d).fcu.fwdDropped = s.fcu.fwdDropped ∧ (s.drvConfirm news d).fcu.time = s.fcu.time ∧
    (s.drvConfirm news d).fcu.running = s.fcu.running ∧ (s.drvConfirm news d).fcu.subMs = s.fcu.subMs ∧
    (s.drvConfirm news d).fcu.secondTick = s.fcu.secondTick := by
  dsimp only [State.drvConfirm]
  split_ands <;> (repeat' split) <;> simp

@[simp] theorem State.drvConfirm_pkm_fields (news : Bool) (d : Delivery) (s : State) :
    (s.drvConfirm news d).pkm.response = s.pkm.response ∧
    (s.drvConfirm news d).pkm.forward = s.pkm.forward := by
  dsimp only [State.drvConfirm]
  split_ands <;> (repeat' split) <;> simp

@[simp] theorem State.drvConfirm_lku_fields (news : Bool) (d : Delivery) (s : State) :
    (s.drvConfirm news d).lku.inForce = s.lku.inForce ∧ (s.drvConfirm news d).lku.staged = s.lku.staged ∧
    (s.drvConfirm news d).lku.countdowns = s.lku.countdowns ∧
    (s.drvConfirm news d).lku.handle = s.lku.handle ∧
    (s.drvConfirm news d).lku.handleStale = s.lku.handleStale := by
  dsimp only [State.drvConfirm]
  split_ands <;> (repeat' split) <;> simp

@[simp] theorem State.drvDelivery_slr_fields (d : Delivery) (s : State) :
    (s.drvDelivery d).slr.link = s.slr.link ∧
    (s.drvDelivery d).slr.consecMissing = s.slr.consecMissing ∧
    (s.drvDelivery d).slr.totalMissing = s.slr.totalMissing ∧
    (s.drvDelivery d).slr.lastSeq = s.slr.lastSeq ∧
    (s.drvDelivery d).slr.gapCount = s.slr.gapCount ∧
    (s.drvDelivery d).slr.lastGood = s.slr.lastGood ∧
    (s.drvDelivery d).slr.silenceLeft = s.slr.silenceLeft ∧
    (s.drvDelivery d).slr.runPos = s.slr.runPos ∧
    (s.drvDelivery d).slr.prevPosition = s.slr.prevPosition ∧
    (s.drvDelivery d).slr.prevHandle = s.slr.prevHandle ∧
    (s.drvDelivery d).slr.prevReady = s.slr.prevReady ∧
    (s.drvDelivery d).slr.position = s.slr.position ∧
    (s.drvDelivery d).slr.handle = s.slr.handle ∧ (s.drvDelivery d).slr.ready = s.slr.ready ∧
    (s.drvDelivery d).slr.decimation = s.slr.decimation ∧
    (s.drvDelivery d).slr.takeCount = s.slr.takeCount ∧
    (s.drvDelivery d).slr.batch = s.slr.batch := by
  dsimp only [State.drvDelivery]
  split_ands <;> (repeat' split) <;> simp

@[simp] theorem State.drvDelivery_store_fields (d : Delivery) (s : State) :
    (s.drvDelivery d).store.curves = s.store.curves ∧
    (s.drvDelivery d).store.groups = s.store.groups ∧
    (s.drvDelivery d).store.device = s.store.device ∧
    (s.drvDelivery d).store.selection = s.store.selection ∧
    (s.drvDelivery d).store.tags = s.store.tags ∧ (s.drvDelivery d).store.gates = s.store.gates ∧
    (s.drvDelivery d).store.battery = s.store.battery ∧
    (s.drvDelivery d).store.radio = s.store.radio ∧
    (s.drvDelivery d).store.areas = s.store.areas ∧
    (s.drvDelivery d).store.lastFailure = s.store.lastFailure := by
  dsimp only [State.drvDelivery]
  split_ands <;> (repeat' split) <;> simp

@[simp] theorem State.drvDelivery_fcu_fields (d : Delivery) (s : State) :
    (s.drvDelivery d).fcu.rxRadio = s.fcu.rxRadio ∧ (s.drvDelivery d).fcu.rxLocal = s.fcu.rxLocal ∧
    (s.drvDelivery d).fcu.intake = s.fcu.intake ∧ (s.drvDelivery d).fcu.outRadio = s.fcu.outRadio ∧
    (s.drvDelivery d).fcu.outLocal = s.fcu.outLocal ∧
    (s.drvDelivery d).fcu.badRadio = s.fcu.badRadio ∧
    (s.drvDelivery d).fcu.badLocal = s.fcu.badLocal ∧
    (s.drvDelivery d).fcu.dropRadio = s.fcu.dropRadio ∧
    (s.drvDelivery d).fcu.dropLocal = s.fcu.dropLocal ∧
    (s.drvDelivery d).fcu.fwdDropped = s.fcu.fwdDropped ∧ (s.drvDelivery d).fcu.time = s.fcu.time ∧
    (s.drvDelivery d).fcu.running = s.fcu.running ∧ (s.drvDelivery d).fcu.subMs = s.fcu.subMs ∧
    (s.drvDelivery d).fcu.secondTick = s.fcu.secondTick := by
  dsimp only [State.drvDelivery]
  split_ands <;> (repeat' split) <;> simp

@[simp] theorem State.drvDelivery_pkm_fields (d : Delivery) (s : State) :
    (s.drvDelivery d).pkm.response = s.pkm.response ∧
    (s.drvDelivery d).pkm.forward = s.pkm.forward := by
  dsimp only [State.drvDelivery]
  split_ands <;> (repeat' split) <;> simp

@[simp] theorem State.drvDelivery_lku_fields (d : Delivery) (s : State) :
    (s.drvDelivery d).lku.inForce = s.lku.inForce ∧ (s.drvDelivery d).lku.staged = s.lku.staged ∧
    (s.drvDelivery d).lku.countdowns = s.lku.countdowns ∧
    (s.drvDelivery d).lku.handle = s.lku.handle ∧
    (s.drvDelivery d).lku.handleStale = s.lku.handleStale := by
  dsimp only [State.drvDelivery]
  split_ands <;> (repeat' split) <;> simp

@[simp] theorem State.deliver_slr_fields (s : State) :
    (s.deliver).slr.link = s.slr.link ∧ (s.deliver).slr.consecMissing = s.slr.consecMissing ∧
    (s.deliver).slr.totalMissing = s.slr.totalMissing ∧ (s.deliver).slr.lastSeq = s.slr.lastSeq ∧
    (s.deliver).slr.gapCount = s.slr.gapCount ∧ (s.deliver).slr.lastGood = s.slr.lastGood ∧
    (s.deliver).slr.silenceLeft = s.slr.silenceLeft ∧ (s.deliver).slr.runPos = s.slr.runPos ∧
    (s.deliver).slr.prevPosition = s.slr.prevPosition ∧
    (s.deliver).slr.prevHandle = s.slr.prevHandle ∧ (s.deliver).slr.prevReady = s.slr.prevReady ∧
    (s.deliver).slr.position = s.slr.position ∧ (s.deliver).slr.handle = s.slr.handle ∧
    (s.deliver).slr.ready = s.slr.ready ∧ (s.deliver).slr.decimation = s.slr.decimation ∧
    (s.deliver).slr.takeCount = s.slr.takeCount ∧ (s.deliver).slr.batch = s.slr.batch := by
  dsimp only [State.deliver]
  split_ands <;> (repeat' split) <;> simp

@[simp] theorem State.deliver_store_fields (s : State) :
    (s.deliver).store.curves = s.store.curves ∧ (s.deliver).store.groups = s.store.groups ∧
    (s.deliver).store.device = s.store.device ∧ (s.deliver).store.selection = s.store.selection ∧
    (s.deliver).store.tags = s.store.tags ∧ (s.deliver).store.gates = s.store.gates ∧
    (s.deliver).store.battery = s.store.battery ∧ (s.deliver).store.radio = s.store.radio ∧
    (s.deliver).store.areas = s.store.areas ∧
    (s.deliver).store.lastFailure = s.store.lastFailure := by
  dsimp only [State.deliver]
  split_ands <;> (repeat' split) <;> simp

@[simp] theorem State.deliver_fcu_fields (s : State) :
    (s.deliver).fcu.rxRadio = s.fcu.rxRadio ∧ (s.deliver).fcu.rxLocal = s.fcu.rxLocal ∧
    (s.deliver).fcu.intake = s.fcu.intake ∧ (s.deliver).fcu.outRadio = s.fcu.outRadio ∧
    (s.deliver).fcu.outLocal = s.fcu.outLocal ∧ (s.deliver).fcu.badRadio = s.fcu.badRadio ∧
    (s.deliver).fcu.badLocal = s.fcu.badLocal ∧ (s.deliver).fcu.dropRadio = s.fcu.dropRadio ∧
    (s.deliver).fcu.dropLocal = s.fcu.dropLocal ∧ (s.deliver).fcu.fwdDropped = s.fcu.fwdDropped ∧
    (s.deliver).fcu.time = s.fcu.time ∧ (s.deliver).fcu.running = s.fcu.running ∧
    (s.deliver).fcu.subMs = s.fcu.subMs ∧ (s.deliver).fcu.secondTick = s.fcu.secondTick := by
  dsimp only [State.deliver]
  split_ands <;> (repeat' split) <;> simp

@[simp] theorem State.deliver_pkm_fields (s : State) :
    (s.deliver).pkm.response = s.pkm.response ∧ (s.deliver).pkm.forward = s.pkm.forward := by
  dsimp only [State.deliver]
  split_ands <;> (repeat' split) <;> simp

@[simp] theorem State.deliver_lku_fields (s : State) :
    (s.deliver).lku.inForce = s.lku.inForce ∧ (s.deliver).lku.staged = s.lku.staged ∧
    (s.deliver).lku.countdowns = s.lku.countdowns := by
  dsimp only [State.deliver]
  split_ands <;> (repeat' split) <;> simp

@[simp] theorem State.eStep_slr_fields (s : State) :
    (s.eStep).slr.link = s.slr.link ∧ (s.eStep).slr.consecMissing = s.slr.consecMissing ∧
    (s.eStep).slr.totalMissing = s.slr.totalMissing ∧ (s.eStep).slr.lastSeq = s.slr.lastSeq ∧
    (s.eStep).slr.gapCount = s.slr.gapCount ∧ (s.eStep).slr.lastGood = s.slr.lastGood ∧
    (s.eStep).slr.silenceLeft = s.slr.silenceLeft ∧ (s.eStep).slr.runPos = s.slr.runPos ∧
    (s.eStep).slr.prevPosition = s.slr.prevPosition ∧
    (s.eStep).slr.prevHandle = s.slr.prevHandle ∧ (s.eStep).slr.prevReady = s.slr.prevReady ∧
    (s.eStep).slr.position = s.slr.position ∧ (s.eStep).slr.handle = s.slr.handle ∧
    (s.eStep).slr.ready = s.slr.ready ∧ (s.eStep).slr.decimation = s.slr.decimation ∧
    (s.eStep).slr.takeCount = s.slr.takeCount ∧ (s.eStep).slr.batch = s.slr.batch := by
  dsimp only [State.eStep]
  split_ands <;> (repeat' split) <;> simp

@[simp] theorem State.eStep_store_fields (s : State) :
    (s.eStep).store.curves = s.store.curves ∧ (s.eStep).store.groups = s.store.groups ∧
    (s.eStep).store.device = s.store.device ∧ (s.eStep).store.selection = s.store.selection ∧
    (s.eStep).store.tags = s.store.tags ∧ (s.eStep).store.gates = s.store.gates ∧
    (s.eStep).store.battery = s.store.battery ∧ (s.eStep).store.radio = s.store.radio ∧
    (s.eStep).store.areas = s.store.areas ∧ (s.eStep).store.lastFailure = s.store.lastFailure := by
  dsimp only [State.eStep]
  split_ands <;> (repeat' split) <;> simp

@[simp] theorem State.eStep_fcu_fields (s : State) :
    (s.eStep).fcu.rxRadio = s.fcu.rxRadio ∧ (s.eStep).fcu.rxLocal = s.fcu.rxLocal ∧
    (s.eStep).fcu.intake = s.fcu.intake ∧ (s.eStep).fcu.outRadio = s.fcu.outRadio ∧
    (s.eStep).fcu.outLocal = s.fcu.outLocal ∧ (s.eStep).fcu.badRadio = s.fcu.badRadio ∧
    (s.eStep).fcu.badLocal = s.fcu.badLocal ∧ (s.eStep).fcu.dropRadio = s.fcu.dropRadio ∧
    (s.eStep).fcu.dropLocal = s.fcu.dropLocal ∧ (s.eStep).fcu.fwdDropped = s.fcu.fwdDropped ∧
    (s.eStep).fcu.time = s.fcu.time ∧ (s.eStep).fcu.running = s.fcu.running ∧
    (s.eStep).fcu.subMs = s.fcu.subMs ∧ (s.eStep).fcu.secondTick = s.fcu.secondTick := by
  dsimp only [State.eStep]
  split_ands <;> (repeat' split) <;> simp

@[simp] theorem State.eStep_pkm_fields (s : State) :
    (s.eStep).pkm.response = s.pkm.response ∧ (s.eStep).pkm.forward = s.pkm.forward := by
  dsimp only [State.eStep]
  split_ands <;> (repeat' split) <;> simp

@[simp] theorem State.eStep_lku_fields (s : State) :
    (s.eStep).lku.inForce = s.lku.inForce ∧ (s.eStep).lku.staged = s.lku.staged ∧
    (s.eStep).lku.countdowns = s.lku.countdowns ∧ (s.eStep).lku.handle = s.lku.handle ∧
    (s.eStep).lku.handleStale = s.lku.handleStale := by
  dsimp only [State.eStep]
  split_ands <;> (repeat' split) <;> simp

@[simp] theorem State.stepAndDeliver_slr_fields (estep delivery : Bool) (s : State) :
    (s.stepAndDeliver estep delivery).slr.link = s.slr.link ∧
    (s.stepAndDeliver estep delivery).slr.consecMissing = s.slr.consecMissing ∧
    (s.stepAndDeliver estep delivery).slr.totalMissing = s.slr.totalMissing ∧
    (s.stepAndDeliver estep delivery).slr.lastSeq = s.slr.lastSeq ∧
    (s.stepAndDeliver estep delivery).slr.gapCount = s.slr.gapCount ∧
    (s.stepAndDeliver estep delivery).slr.lastGood = s.slr.lastGood ∧
    (s.stepAndDeliver estep delivery).slr.silenceLeft = s.slr.silenceLeft ∧
    (s.stepAndDeliver estep delivery).slr.runPos = s.slr.runPos ∧
    (s.stepAndDeliver estep delivery).slr.prevPosition = s.slr.prevPosition ∧
    (s.stepAndDeliver estep delivery).slr.prevHandle = s.slr.prevHandle ∧
    (s.stepAndDeliver estep delivery).slr.prevReady = s.slr.prevReady ∧
    (s.stepAndDeliver estep delivery).slr.position = s.slr.position ∧
    (s.stepAndDeliver estep delivery).slr.handle = s.slr.handle ∧
    (s.stepAndDeliver estep delivery).slr.ready = s.slr.ready ∧
    (s.stepAndDeliver estep delivery).slr.decimation = s.slr.decimation ∧
    (s.stepAndDeliver estep delivery).slr.takeCount = s.slr.takeCount ∧
    (s.stepAndDeliver estep delivery).slr.batch = s.slr.batch := by
  dsimp only [State.stepAndDeliver]
  split_ands <;> (repeat' split) <;> simp

@[simp] theorem State.stepAndDeliver_store_fields (estep delivery : Bool) (s : State) :
    (s.stepAndDeliver estep delivery).store.curves = s.store.curves ∧
    (s.stepAndDeliver estep delivery).store.groups = s.store.groups ∧
    (s.stepAndDeliver estep delivery).store.device = s.store.device ∧
    (s.stepAndDeliver estep delivery).store.selection = s.store.selection ∧
    (s.stepAndDeliver estep delivery).store.tags = s.store.tags ∧
    (s.stepAndDeliver estep delivery).store.gates = s.store.gates ∧
    (s.stepAndDeliver estep delivery).store.battery = s.store.battery ∧
    (s.stepAndDeliver estep delivery).store.radio = s.store.radio ∧
    (s.stepAndDeliver estep delivery).store.areas = s.store.areas ∧
    (s.stepAndDeliver estep delivery).store.lastFailure = s.store.lastFailure := by
  dsimp only [State.stepAndDeliver]
  split_ands <;> (repeat' split) <;> simp

@[simp] theorem State.stepAndDeliver_fcu_fields (estep delivery : Bool) (s : State) :
    (s.stepAndDeliver estep delivery).fcu.rxRadio = s.fcu.rxRadio ∧
    (s.stepAndDeliver estep delivery).fcu.rxLocal = s.fcu.rxLocal ∧
    (s.stepAndDeliver estep delivery).fcu.intake = s.fcu.intake ∧
    (s.stepAndDeliver estep delivery).fcu.outRadio = s.fcu.outRadio ∧
    (s.stepAndDeliver estep delivery).fcu.outLocal = s.fcu.outLocal ∧
    (s.stepAndDeliver estep delivery).fcu.badRadio = s.fcu.badRadio ∧
    (s.stepAndDeliver estep delivery).fcu.badLocal = s.fcu.badLocal ∧
    (s.stepAndDeliver estep delivery).fcu.dropRadio = s.fcu.dropRadio ∧
    (s.stepAndDeliver estep delivery).fcu.dropLocal = s.fcu.dropLocal ∧
    (s.stepAndDeliver estep delivery).fcu.fwdDropped = s.fcu.fwdDropped ∧
    (s.stepAndDeliver estep delivery).fcu.time = s.fcu.time ∧
    (s.stepAndDeliver estep delivery).fcu.running = s.fcu.running ∧
    (s.stepAndDeliver estep delivery).fcu.subMs = s.fcu.subMs ∧
    (s.stepAndDeliver estep delivery).fcu.secondTick = s.fcu.secondTick := by
  dsimp only [State.stepAndDeliver]
  split_ands <;> (repeat' split) <;> simp

@[simp] theorem State.stepAndDeliver_pkm_fields (estep delivery : Bool) (s : State) :
    (s.stepAndDeliver estep delivery).pkm.response = s.pkm.response ∧
    (s.stepAndDeliver estep delivery).pkm.forward = s.pkm.forward := by
  dsimp only [State.stepAndDeliver]
  split_ands <;> (repeat' split) <;> simp

@[simp] theorem State.stepAndDeliver_lku_fields (estep delivery : Bool) (s : State) :
    (s.stepAndDeliver estep delivery).lku.inForce = s.lku.inForce ∧
    (s.stepAndDeliver estep delivery).lku.staged = s.lku.staged ∧
    (s.stepAndDeliver estep delivery).lku.countdowns = s.lku.countdowns := by
  dsimp only [State.stepAndDeliver]
  split_ands <;> (repeat' split) <;> simp

@[simp] theorem State.loseLink_slr_fields (s : State) :
    (s.loseLink).slr.consecMissing = s.slr.consecMissing ∧
    (s.loseLink).slr.totalMissing = s.slr.totalMissing ∧
    (s.loseLink).slr.lastSeq = s.slr.lastSeq ∧ (s.loseLink).slr.gapCount = s.slr.gapCount ∧
    (s.loseLink).slr.silenceLeft = s.slr.silenceLeft ∧ (s.loseLink).slr.runPos = s.slr.runPos ∧
    (s.loseLink).slr.prevPosition = s.slr.prevPosition ∧
    (s.loseLink).slr.prevHandle = s.slr.prevHandle ∧
    (s.loseLink).slr.prevReady = s.slr.prevReady ∧ (s.loseLink).slr.position = s.slr.position ∧
    (s.loseLink).slr.handle = s.slr.handle ∧ (s.loseLink).slr.ready = s.slr.ready ∧
    (s.loseLink).slr.decimation = s.slr.decimation ∧
    (s.loseLink).slr.takeCount = s.slr.takeCount ∧ (s.loseLink).slr.batch = s.slr.batch ∧
    (s.loseLink).slr.droppedCount = s.slr.droppedCount := by
  dsimp only [State.loseLink]
  split_ands <;> simp

@[simp] theorem State.holdSlot_slr_fields (s : State) :
    (s.holdSlot).slr.link = s.slr.link ∧ (s.holdSlot).slr.consecMissing = s.slr.consecMissing ∧
    (s.holdSlot).slr.totalMissing = s.slr.totalMissing ∧
    (s.holdSlot).slr.lastSeq = s.slr.lastSeq ∧ (s.holdSlot).slr.gapCount = s.slr.gapCount ∧
    (s.holdSlot).slr.lastGood = s.slr.lastGood ∧
    (s.holdSlot).slr.silenceLeft = s.slr.silenceLeft ∧
    (s.holdSlot).slr.prevPosition = s.slr.prevPosition ∧
    (s.holdSlot).slr.prevHandle = s.slr.prevHandle ∧
    (s.holdSlot).slr.prevReady = s.slr.prevReady ∧ (s.holdSlot).slr.position = s.slr.position ∧
    (s.holdSlot).slr.handle = s.slr.handle ∧ (s.holdSlot).slr.ready = s.slr.ready ∧
    (s.holdSlot).slr.decimation = s.slr.decimation ∧
    (s.holdSlot).slr.takeCount = s.slr.takeCount ∧ (s.holdSlot).slr.batch = s.slr.batch ∧
    (s.holdSlot).slr.droppedCount = s.slr.droppedCount := by
  dsimp only [State.holdSlot]
  split_ands <;> (repeat' split) <;> simp

@[simp] theorem State.countMissing_slr_fields (s : State) :
    (s.countMissing).slr.link = s.slr.link ∧ (s.countMissing).slr.lastSeq = s.slr.lastSeq ∧
    (s.countMissing).slr.gapCount = s.slr.gapCount ∧
    (s.countMissing).slr.lastGood = s.slr.lastGood ∧
    (s.countMissing).slr.silenceLeft = s.slr.silenceLeft ∧
    (s.countMissing).slr.runPos = s.slr.runPos ∧ (s.countMissing).slr.position = s.slr.position ∧
    (s.countMissing).slr.handle = s.slr.handle ∧ (s.countMissing).slr.ready = s.slr.ready ∧
    (s.countMissing).slr.decimation = s.slr.decimation ∧
    (s.countMissing).slr.takeCount = s.slr.takeCount ∧ (s.countMissing).slr.batch = s.slr.batch ∧
    (s.countMissing).slr.droppedCount = s.slr.droppedCount := by
  dsimp only [State.countMissing]
  split_ands <;> simp

@[simp] theorem State.missingSlot_slr_fields (s : State) :
    (s.missingSlot).slr.lastSeq = s.slr.lastSeq ∧ (s.missingSlot).slr.gapCount = s.slr.gapCount ∧
    (s.missingSlot).slr.silenceLeft = s.slr.silenceLeft ∧
    (s.missingSlot).slr.position = s.slr.position ∧ (s.missingSlot).slr.handle = s.slr.handle ∧
    (s.missingSlot).slr.ready = s.slr.ready ∧ (s.missingSlot).slr.decimation = s.slr.decimation ∧
    (s.missingSlot).slr.takeCount = s.slr.takeCount ∧ (s.missingSlot).slr.batch = s.slr.batch := by
  dsimp only [State.missingSlot]
  split_ands <;> (repeat' split) <;> simp

@[simp] theorem State.missingSlot_store_fields (s : State) :
    (s.missingSlot).store.curves = s.store.curves ∧
    (s.missingSlot).store.groups = s.store.groups ∧
    (s.missingSlot).store.device = s.store.device ∧
    (s.missingSlot).store.selection = s.store.selection ∧
    (s.missingSlot).store.tags = s.store.tags ∧ (s.missingSlot).store.gates = s.store.gates ∧
    (s.missingSlot).store.battery = s.store.battery ∧
    (s.missingSlot).store.radio = s.store.radio ∧ (s.missingSlot).store.areas = s.store.areas ∧
    (s.missingSlot).store.lastFailure = s.store.lastFailure := by
  dsimp only [State.missingSlot]
  split_ands <;> (repeat' split) <;> simp

@[simp] theorem State.missingSlot_fcu_fields (s : State) :
    (s.missingSlot).fcu.rxRadio = s.fcu.rxRadio ∧ (s.missingSlot).fcu.rxLocal = s.fcu.rxLocal ∧
    (s.missingSlot).fcu.intake = s.fcu.intake ∧ (s.missingSlot).fcu.outRadio = s.fcu.outRadio ∧
    (s.missingSlot).fcu.outLocal = s.fcu.outLocal ∧ (s.missingSlot).fcu.badRadio = s.fcu.badRadio ∧
    (s.missingSlot).fcu.badLocal = s.fcu.badLocal ∧
    (s.missingSlot).fcu.dropRadio = s.fcu.dropRadio ∧
    (s.missingSlot).fcu.dropLocal = s.fcu.dropLocal ∧
    (s.missingSlot).fcu.fwdDropped = s.fcu.fwdDropped ∧ (s.missingSlot).fcu.time = s.fcu.time ∧
    (s.missingSlot).fcu.running = s.fcu.running ∧ (s.missingSlot).fcu.subMs = s.fcu.subMs ∧
    (s.missingSlot).fcu.secondTick = s.fcu.secondTick := by
  dsimp only [State.missingSlot]
  split_ands <;> (repeat' split) <;> simp

@[simp] theorem State.missingSlot_pkm_fields (s : State) :
    (s.missingSlot).pkm.response = s.pkm.response ∧ (s.missingSlot).pkm.forward = s.pkm.forward := by
  dsimp only [State.missingSlot]
  split_ands <;> (repeat' split) <;> simp

@[simp] theorem State.missingSlot_lku_fields (s : State) :
    (s.missingSlot).lku.inForce = s.lku.inForce ∧ (s.missingSlot).lku.staged = s.lku.staged ∧
    (s.missingSlot).lku.countdowns = s.lku.countdowns := by
  dsimp only [State.missingSlot]
  split_ands <;> (repeat' split) <;> simp

@[simp] theorem State.missingSlots_slr_fields (n : Nat) (s : State) :
    (s.missingSlots n).slr.lastSeq = s.slr.lastSeq ∧
    (s.missingSlots n).slr.gapCount = s.slr.gapCount ∧
    (s.missingSlots n).slr.silenceLeft = s.slr.silenceLeft ∧
    (s.missingSlots n).slr.position = s.slr.position ∧
    (s.missingSlots n).slr.handle = s.slr.handle ∧ (s.missingSlots n).slr.ready = s.slr.ready ∧
    (s.missingSlots n).slr.decimation = s.slr.decimation ∧
    (s.missingSlots n).slr.takeCount = s.slr.takeCount ∧
    (s.missingSlots n).slr.batch = s.slr.batch := by
  induction n generalizing s with
  | zero => simp [State.missingSlots]
  | succ n ih =>
    unfold State.missingSlots
    split_ands <;> simp [ih]

@[simp] theorem State.missingSlots_store_fields (n : Nat) (s : State) :
    (s.missingSlots n).store.curves = s.store.curves ∧
    (s.missingSlots n).store.groups = s.store.groups ∧
    (s.missingSlots n).store.device = s.store.device ∧
    (s.missingSlots n).store.selection = s.store.selection ∧
    (s.missingSlots n).store.tags = s.store.tags ∧
    (s.missingSlots n).store.gates = s.store.gates ∧
    (s.missingSlots n).store.battery = s.store.battery ∧
    (s.missingSlots n).store.radio = s.store.radio ∧
    (s.missingSlots n).store.areas = s.store.areas ∧
    (s.missingSlots n).store.lastFailure = s.store.lastFailure := by
  induction n generalizing s with
  | zero => simp [State.missingSlots]
  | succ n ih =>
    unfold State.missingSlots
    split_ands <;> simp [ih]

@[simp] theorem State.missingSlots_fcu_fields (n : Nat) (s : State) :
    (s.missingSlots n).fcu.rxRadio = s.fcu.rxRadio ∧
    (s.missingSlots n).fcu.rxLocal = s.fcu.rxLocal ∧ (s.missingSlots n).fcu.intake = s.fcu.intake ∧
    (s.missingSlots n).fcu.outRadio = s.fcu.outRadio ∧
    (s.missingSlots n).fcu.outLocal = s.fcu.outLocal ∧
    (s.missingSlots n).fcu.badRadio = s.fcu.badRadio ∧
    (s.missingSlots n).fcu.badLocal = s.fcu.badLocal ∧
    (s.missingSlots n).fcu.dropRadio = s.fcu.dropRadio ∧
    (s.missingSlots n).fcu.dropLocal = s.fcu.dropLocal ∧
    (s.missingSlots n).fcu.fwdDropped = s.fcu.fwdDropped ∧
    (s.missingSlots n).fcu.time = s.fcu.time ∧ (s.missingSlots n).fcu.running = s.fcu.running ∧
    (s.missingSlots n).fcu.subMs = s.fcu.subMs ∧
    (s.missingSlots n).fcu.secondTick = s.fcu.secondTick := by
  induction n generalizing s with
  | zero => simp [State.missingSlots]
  | succ n ih =>
    unfold State.missingSlots
    split_ands <;> simp [ih]

@[simp] theorem State.missingSlots_pkm_fields (n : Nat) (s : State) :
    (s.missingSlots n).pkm.response = s.pkm.response ∧
    (s.missingSlots n).pkm.forward = s.pkm.forward := by
  induction n generalizing s with
  | zero => simp [State.missingSlots]
  | succ n ih =>
    unfold State.missingSlots
    split_ands <;> simp [ih]

@[simp] theorem State.missingSlots_lku_fields (n : Nat) (s : State) :
    (s.missingSlots n).lku.inForce = s.lku.inForce ∧
    (s.missingSlots n).lku.staged = s.lku.staged ∧
    (s.missingSlots n).lku.countdowns = s.lku.countdowns := by
  induction n generalizing s with
  | zero => simp [State.missingSlots]
  | succ n ih =>
    unfold State.missingSlots
    split_ands <;> simp [ih]

@[simp] theorem State.forwardSample_slr_fields (f : SampleFrame) (s : State) :
    (s.forwardSample f).slr.link = s.slr.link ∧
    (s.forwardSample f).slr.consecMissing = s.slr.consecMissing ∧
    (s.forwardSample f).slr.totalMissing = s.slr.totalMissing ∧
    (s.forwardSample f).slr.lastSeq = s.slr.lastSeq ∧
    (s.forwardSample f).slr.gapCount = s.slr.gapCount ∧
    (s.forwardSample f).slr.lastGood = s.slr.lastGood ∧
    (s.forwardSample f).slr.silenceLeft = s.slr.silenceLeft ∧
    (s.forwardSample f).slr.runPos = s.slr.runPos ∧
    (s.forwardSample f).slr.prevPosition = s.slr.prevPosition ∧
    (s.forwardSample f).slr.prevHandle = s.slr.prevHandle ∧
    (s.forwardSample f).slr.prevReady = s.slr.prevReady ∧
    (s.forwardSample f).slr.position = s.slr.position ∧
    (s.forwardSample f).slr.handle = s.slr.handle ∧ (s.forwardSample f).slr.ready = s.slr.ready ∧
    (s.forwardSample f).slr.decimation = s.slr.decimation := by
  dsimp only [State.forwardSample]
  split_ands <;> (repeat' split) <;> simp

@[simp] theorem State.forwardSample_fcu_fields (f : SampleFrame) (s : State) :
    (s.forwardSample f).fcu.rxRadio = s.fcu.rxRadio ∧
    (s.forwardSample f).fcu.rxLocal = s.fcu.rxLocal ∧
    (s.forwardSample f).fcu.intake = s.fcu.intake ∧
    (s.forwardSample f).fcu.outRadio = s.fcu.outRadio ∧
    (s.forwardSample f).fcu.outLocal = s.fcu.outLocal ∧
    (s.forwardSample f).fcu.badRadio = s.fcu.badRadio ∧
    (s.forwardSample f).fcu.badLocal = s.fcu.badLocal ∧
    (s.forwardSample f).fcu.dropRadio = s.fcu.dropRadio ∧
    (s.forwardSample f).fcu.dropLocal = s.fcu.dropLocal ∧
    (s.forwardSample f).fcu.fwdDropped = s.fcu.fwdDropped ∧
    (s.forwardSample f).fcu.localDropped = s.fcu.localDropped ∧
    (s.forwardSample f).fcu.time = s.fcu.time ∧ (s.forwardSample f).fcu.running = s.fcu.running ∧
    (s.forwardSample f).fcu.subMs = s.fcu.subMs ∧
    (s.forwardSample f).fcu.secondTick = s.fcu.secondTick := by
  dsimp only [State.forwardSample]
  split_ands <;> (repeat' split) <;> simp

@[simp] theorem State.goodLink_slr_fields (f : SampleFrame) (s : State) :
    (s.goodLink f).slr.totalMissing = s.slr.totalMissing ∧
    (s.goodLink f).slr.lastSeq = s.slr.lastSeq ∧ (s.goodLink f).slr.gapCount = s.slr.gapCount ∧
    (s.goodLink f).slr.silenceLeft = s.slr.silenceLeft ∧
    (s.goodLink f).slr.prevPosition = s.slr.prevPosition ∧
    (s.goodLink f).slr.prevHandle = s.slr.prevHandle ∧
    (s.goodLink f).slr.prevReady = s.slr.prevReady ∧
    (s.goodLink f).slr.position = s.slr.position ∧ (s.goodLink f).slr.handle = s.slr.handle ∧
    (s.goodLink f).slr.ready = s.slr.ready ∧ (s.goodLink f).slr.decimation = s.slr.decimation ∧
    (s.goodLink f).slr.takeCount = s.slr.takeCount ∧ (s.goodLink f).slr.batch = s.slr.batch ∧
    (s.goodLink f).slr.droppedCount = s.slr.droppedCount := by
  dsimp only [State.goodLink]
  split_ands <;> simp

@[simp] theorem State.linkUpNotices_slr_fields (before : Link) (s : State) :
    (s.linkUpNotices before).slr.link = s.slr.link ∧
    (s.linkUpNotices before).slr.consecMissing = s.slr.consecMissing ∧
    (s.linkUpNotices before).slr.totalMissing = s.slr.totalMissing ∧
    (s.linkUpNotices before).slr.lastSeq = s.slr.lastSeq ∧
    (s.linkUpNotices before).slr.gapCount = s.slr.gapCount ∧
    (s.linkUpNotices before).slr.lastGood = s.slr.lastGood ∧
    (s.linkUpNotices before).slr.silenceLeft = s.slr.silenceLeft ∧
    (s.linkUpNotices before).slr.runPos = s.slr.runPos ∧
    (s.linkUpNotices before).slr.prevPosition = s.slr.prevPosition ∧
    (s.linkUpNotices before).slr.prevHandle = s.slr.prevHandle ∧
    (s.linkUpNotices before).slr.prevReady = s.slr.prevReady ∧
    (s.linkUpNotices before).slr.position = s.slr.position ∧
    (s.linkUpNotices before).slr.handle = s.slr.handle ∧
    (s.linkUpNotices before).slr.ready = s.slr.ready ∧
    (s.linkUpNotices before).slr.decimation = s.slr.decimation ∧
    (s.linkUpNotices before).slr.takeCount = s.slr.takeCount ∧
    (s.linkUpNotices before).slr.batch = s.slr.batch := by
  dsimp only [State.linkUpNotices]
  split_ands <;> (repeat' split) <;> simp

@[simp] theorem State.linkUpNotices_store_fields (before : Link) (s : State) :
    (s.linkUpNotices before).store.curves = s.store.curves ∧
    (s.linkUpNotices before).store.groups = s.store.groups ∧
    (s.linkUpNotices before).store.device = s.store.device ∧
    (s.linkUpNotices before).store.selection = s.store.selection ∧
    (s.linkUpNotices before).store.tags = s.store.tags ∧
    (s.linkUpNotices before).store.gates = s.store.gates ∧
    (s.linkUpNotices before).store.battery = s.store.battery ∧
    (s.linkUpNotices before).store.radio = s.store.radio ∧
    (s.linkUpNotices before).store.areas = s.store.areas ∧
    (s.linkUpNotices before).store.lastFailure = s.store.lastFailure := by
  dsimp only [State.linkUpNotices]
  split_ands <;> (repeat' split) <;> simp

@[simp] theorem State.linkUpNotices_fcu_fields (before : Link) (s : State) :
    (s.linkUpNotices before).fcu.rxRadio = s.fcu.rxRadio ∧
    (s.linkUpNotices before).fcu.rxLocal = s.fcu.rxLocal ∧
    (s.linkUpNotices before).fcu.intake = s.fcu.intake ∧
    (s.linkUpNotices before).fcu.outRadio = s.fcu.outRadio ∧
    (s.linkUpNotices before).fcu.outLocal = s.fcu.outLocal ∧
    (s.linkUpNotices before).fcu.badRadio = s.fcu.badRadio ∧
    (s.linkUpNotices before).fcu.badLocal = s.fcu.badLocal ∧
    (s.linkUpNotices before).fcu.dropRadio = s.fcu.dropRadio ∧
    (s.linkUpNotices before).fcu.dropLocal = s.fcu.dropLocal ∧
    (s.linkUpNotices before).fcu.fwdDropped = s.fcu.fwdDropped ∧
    (s.linkUpNotices before).fcu.time = s.fcu.time ∧
    (s.linkUpNotices before).fcu.running = s.fcu.running ∧
    (s.linkUpNotices before).fcu.subMs = s.fcu.subMs ∧
    (s.linkUpNotices before).fcu.secondTick = s.fcu.secondTick := by
  dsimp only [State.linkUpNotices]
  split_ands <;> (repeat' split) <;> simp

@[simp] theorem State.linkUpNotices_pkm_fields (before : Link) (s : State) :
    (s.linkUpNotices before).pkm.response = s.pkm.response ∧
    (s.linkUpNotices before).pkm.forward = s.pkm.forward := by
  dsimp only [State.linkUpNotices]
  split_ands <;> (repeat' split) <;> simp

@[simp] theorem State.linkUpNotices_lku_fields (before : Link) (s : State) :
    (s.linkUpNotices before).lku.inForce = s.lku.inForce ∧
    (s.linkUpNotices before).lku.staged = s.lku.staged ∧
    (s.linkUpNotices before).lku.countdowns = s.lku.countdowns ∧
    (s.linkUpNotices before).lku.handle = s.lku.handle ∧
    (s.linkUpNotices before).lku.handleStale = s.lku.handleStale := by
  dsimp only [State.linkUpNotices]
  split_ands <;> (repeat' split) <;> simp

@[simp] theorem State.goodSlot_store_fields (f : SampleFrame) (s : State) :
    (s.goodSlot f).store.curves = s.store.curves ∧ (s.goodSlot f).store.groups = s.store.groups ∧
    (s.goodSlot f).store.device = s.store.device ∧
    (s.goodSlot f).store.selection = s.store.selection ∧
    (s.goodSlot f).store.tags = s.store.tags ∧ (s.goodSlot f).store.gates = s.store.gates ∧
    (s.goodSlot f).store.battery = s.store.battery ∧ (s.goodSlot f).store.radio = s.store.radio ∧
    (s.goodSlot f).store.areas = s.store.areas ∧
    (s.goodSlot f).store.lastFailure = s.store.lastFailure := by
  dsimp only [State.goodSlot]
  split_ands <;> simp

@[simp] theorem State.goodSlot_fcu_fields (f : SampleFrame) (s : State) :
    (s.goodSlot f).fcu.rxRadio = s.fcu.rxRadio ∧ (s.goodSlot f).fcu.rxLocal = s.fcu.rxLocal ∧
    (s.goodSlot f).fcu.intake = s.fcu.intake ∧ (s.goodSlot f).fcu.outRadio = s.fcu.outRadio ∧
    (s.goodSlot f).fcu.outLocal = s.fcu.outLocal ∧ (s.goodSlot f).fcu.badRadio = s.fcu.badRadio ∧
    (s.goodSlot f).fcu.badLocal = s.fcu.badLocal ∧ (s.goodSlot f).fcu.dropRadio = s.fcu.dropRadio ∧
    (s.goodSlot f).fcu.dropLocal = s.fcu.dropLocal ∧
    (s.goodSlot f).fcu.fwdDropped = s.fcu.fwdDropped ∧ (s.goodSlot f).fcu.time = s.fcu.time ∧
    (s.goodSlot f).fcu.running = s.fcu.running ∧ (s.goodSlot f).fcu.subMs = s.fcu.subMs ∧
    (s.goodSlot f).fcu.secondTick = s.fcu.secondTick := by
  dsimp only [State.goodSlot]
  split_ands <;> simp

@[simp] theorem State.goodSlot_pkm_fields (f : SampleFrame) (s : State) :
    (s.goodSlot f).pkm.response = s.pkm.response ∧ (s.goodSlot f).pkm.forward = s.pkm.forward := by
  dsimp only [State.goodSlot]
  split_ands <;> simp

@[simp] theorem State.goodSlot_lku_fields (f : SampleFrame) (s : State) :
    (s.goodSlot f).lku.inForce = s.lku.inForce ∧ (s.goodSlot f).lku.staged = s.lku.staged ∧
    (s.goodSlot f).lku.countdowns = s.lku.countdowns := by
  dsimp only [State.goodSlot]
  split_ands <;> simp

@[simp] theorem State.accountSeq_slr_fields (seqNo : Nat) (s : State) :
    (s.accountSeq seqNo).slr.silenceLeft = s.slr.silenceLeft ∧
    (s.accountSeq seqNo).slr.position = s.slr.position ∧
    (s.accountSeq seqNo).slr.handle = s.slr.handle ∧
    (s.accountSeq seqNo).slr.ready = s.slr.ready ∧
    (s.accountSeq seqNo).slr.decimation = s.slr.decimation ∧
    (s.accountSeq seqNo).slr.takeCount = s.slr.takeCount ∧
    (s.accountSeq seqNo).slr.batch = s.slr.batch := by
  dsimp only [State.accountSeq]
  split_ands <;> simp

@[simp] theorem State.accountSeq_store_fields (seqNo : Nat) (s : State) :
    (s.accountSeq seqNo).store.curves = s.store.curves ∧
    (s.accountSeq seqNo).store.groups = s.store.groups ∧
    (s.accountSeq seqNo).store.device = s.store.device ∧
    (s.accountSeq seqNo).store.selection = s.store.selection ∧
    (s.accountSeq seqNo).store.tags = s.store.tags ∧
    (s.accountSeq seqNo).store.gates = s.store.gates ∧
    (s.accountSeq seqNo).store.battery = s.store.battery ∧
    (s.accountSeq seqNo).store.radio = s.store.radio ∧
    (s.accountSeq seqNo).store.areas = s.store.areas ∧
    (s.accountSeq seqNo).store.lastFailure = s.store.lastFailure := by
  dsimp only [State.accountSeq]
  split_ands <;> simp

@[simp] theorem State.accountSeq_fcu_fields (seqNo : Nat) (s : State) :
    (s.accountSeq seqNo).fcu.rxRadio = s.fcu.rxRadio ∧
    (s.accountSeq seqNo).fcu.rxLocal = s.fcu.rxLocal ∧
    (s.accountSeq seqNo).fcu.intake = s.fcu.intake ∧
    (s.accountSeq seqNo).fcu.outRadio = s.fcu.outRadio ∧
    (s.accountSeq seqNo).fcu.outLocal = s.fcu.outLocal ∧
    (s.accountSeq seqNo).fcu.badRadio = s.fcu.badRadio ∧
    (s.accountSeq seqNo).fcu.badLocal = s.fcu.badLocal ∧
    (s.accountSeq seqNo).fcu.dropRadio = s.fcu.dropRadio ∧
    (s.accountSeq seqNo).fcu.dropLocal = s.fcu.dropLocal ∧
    (s.accountSeq seqNo).fcu.fwdDropped = s.fcu.fwdDropped ∧
    (s.accountSeq seqNo).fcu.time = s.fcu.time ∧ (s.accountSeq seqNo).fcu.running = s.fcu.running ∧
    (s.accountSeq seqNo).fcu.subMs = s.fcu.subMs ∧
    (s.accountSeq seqNo).fcu.secondTick = s.fcu.secondTick := by
  dsimp only [State.accountSeq]
  split_ands <;> simp

@[simp] theorem State.accountSeq_pkm_fields (seqNo : Nat) (s : State) :
    (s.accountSeq seqNo).pkm.response = s.pkm.response ∧
    (s.accountSeq seqNo).pkm.forward = s.pkm.forward := by
  dsimp only [State.accountSeq]
  split_ands <;> simp

@[simp] theorem State.accountSeq_lku_fields (seqNo : Nat) (s : State) :
    (s.accountSeq seqNo).lku.inForce = s.lku.inForce ∧
    (s.accountSeq seqNo).lku.staged = s.lku.staged ∧
    (s.accountSeq seqNo).lku.countdowns = s.lku.countdowns := by
  dsimp only [State.accountSeq]
  split_ands <;> simp

@[simp] theorem State.restartSilence_slr_fields (s : State) :
    (s.restartSilence).slr.link = s.slr.link ∧
    (s.restartSilence).slr.consecMissing = s.slr.consecMissing ∧
    (s.restartSilence).slr.totalMissing = s.slr.totalMissing ∧
    (s.restartSilence).slr.lastSeq = s.slr.lastSeq ∧
    (s.restartSilence).slr.gapCount = s.slr.gapCount ∧
    (s.restartSilence).slr.lastGood = s.slr.lastGood ∧
    (s.restartSilence).slr.runPos = s.slr.runPos ∧
    (s.restartSilence).slr.prevPosition = s.slr.prevPosition ∧
    (s.restartSilence).slr.prevHandle = s.slr.prevHandle ∧
    (s.restartSilence).slr.prevReady = s.slr.prevReady ∧
    (s.restartSilence).slr.position = s.slr.position ∧
    (s.restartSilence).slr.handle = s.slr.handle ∧ (s.restartSilence).slr.ready = s.slr.ready ∧
    (s.restartSilence).slr.decimation = s.slr.decimation ∧
    (s.restartSilence).slr.takeCount = s.slr.takeCount ∧
    (s.restartSilence).slr.batch = s.slr.batch ∧
    (s.restartSilence).slr.droppedCount = s.slr.droppedCount := by
  dsimp only [State.restartSilence]
  split_ands <;> simp

@[simp] theorem State.declareMissing_slr_fields (s : State) :
    (s.declareMissing).slr.lastSeq = s.slr.lastSeq ∧
    (s.declareMissing).slr.silenceLeft = s.slr.silenceLeft ∧
    (s.declareMissing).slr.position = s.slr.position ∧
    (s.declareMissing).slr.handle = s.slr.handle ∧ (s.declareMissing).slr.ready = s.slr.ready ∧
    (s.declareMissing).slr.decimation = s.slr.decimation ∧
    (s.declareMissing).slr.takeCount = s.slr.takeCount ∧
    (s.declareMissing).slr.batch = s.slr.batch := by
  dsimp only [State.declareMissing]
  split_ands <;> simp

@[simp] theorem State.declareMissing_store_fields (s : State) :
    (s.declareMissing).store.curves = s.store.curves ∧
    (s.declareMissing).store.groups = s.store.groups ∧
    (s.declareMissing).store.device = s.store.device ∧
    (s.declareMissing).store.selection = s.store.selection ∧
    (s.declareMissing).store.tags = s.store.tags ∧
    (s.declareMissing).store.gates = s.store.gates ∧
    (s.declareMissing).store.battery = s.store.battery ∧
    (s.declareMissing).store.radio = s.store.radio ∧
    (s.declareMissing).store.areas = s.store.areas ∧
    (s.declareMissing).store.lastFailure = s.store.lastFailure := by
  dsimp only [State.declareMissing]
  split_ands <;> simp

@[simp] theorem State.declareMissing_fcu_fields (s : State) :
    (s.declareMissing).fcu.rxRadio = s.fcu.rxRadio ∧
    (s.declareMissing).fcu.rxLocal = s.fcu.rxLocal ∧ (s.declareMissing).fcu.intake = s.fcu.intake ∧
    (s.declareMissing).fcu.outRadio = s.fcu.outRadio ∧
    (s.declareMissing).fcu.outLocal = s.fcu.outLocal ∧
    (s.declareMissing).fcu.badRadio = s.fcu.badRadio ∧
    (s.declareMissing).fcu.badLocal = s.fcu.badLocal ∧
    (s.declareMissing).fcu.dropRadio = s.fcu.dropRadio ∧
    (s.declareMissing).fcu.dropLocal = s.fcu.dropLocal ∧
    (s.declareMissing).fcu.fwdDropped = s.fcu.fwdDropped ∧
    (s.declareMissing).fcu.time = s.fcu.time ∧ (s.declareMissing).fcu.running = s.fcu.running ∧
    (s.declareMissing).fcu.subMs = s.fcu.subMs ∧
    (s.declareMissing).fcu.secondTick = s.fcu.secondTick := by
  dsimp only [State.declareMissing]
  split_ands <;> simp

@[simp] theorem State.declareMissing_pkm_fields (s : State) :
    (s.declareMissing).pkm.response = s.pkm.response ∧
    (s.declareMissing).pkm.forward = s.pkm.forward := by
  dsimp only [State.declareMissing]
  split_ands <;> simp

@[simp] theorem State.declareMissing_lku_fields (s : State) :
    (s.declareMissing).lku.inForce = s.lku.inForce ∧
    (s.declareMissing).lku.staged = s.lku.staged ∧
    (s.declareMissing).lku.countdowns = s.lku.countdowns := by
  dsimp only [State.declareMissing]
  split_ands <;> simp

@[simp] theorem State.sampleReceived_store_fields (bytes : List Byte) (s : State) :
    (s.sampleReceived bytes).store.curves = s.store.curves ∧
    (s.sampleReceived bytes).store.groups = s.store.groups ∧
    (s.sampleReceived bytes).store.device = s.store.device ∧
    (s.sampleReceived bytes).store.selection = s.store.selection ∧
    (s.sampleReceived bytes).store.tags = s.store.tags ∧
    (s.sampleReceived bytes).store.gates = s.store.gates ∧
    (s.sampleReceived bytes).store.battery = s.store.battery ∧
    (s.sampleReceived bytes).store.radio = s.store.radio ∧
    (s.sampleReceived bytes).store.areas = s.store.areas ∧
    (s.sampleReceived bytes).store.lastFailure = s.store.lastFailure := by
  dsimp only [State.sampleReceived]
  split_ands <;> (repeat' split) <;> simp

@[simp] theorem State.sampleReceived_fcu_fields (bytes : List Byte) (s : State) :
    (s.sampleReceived bytes).fcu.rxRadio = s.fcu.rxRadio ∧
    (s.sampleReceived bytes).fcu.rxLocal = s.fcu.rxLocal ∧
    (s.sampleReceived bytes).fcu.intake = s.fcu.intake ∧
    (s.sampleReceived bytes).fcu.outRadio = s.fcu.outRadio ∧
    (s.sampleReceived bytes).fcu.outLocal = s.fcu.outLocal ∧
    (s.sampleReceived bytes).fcu.badRadio = s.fcu.badRadio ∧
    (s.sampleReceived bytes).fcu.badLocal = s.fcu.badLocal ∧
    (s.sampleReceived bytes).fcu.dropRadio = s.fcu.dropRadio ∧
    (s.sampleReceived bytes).fcu.dropLocal = s.fcu.dropLocal ∧
    (s.sampleReceived bytes).fcu.fwdDropped = s.fcu.fwdDropped ∧
    (s.sampleReceived bytes).fcu.time = s.fcu.time ∧
    (s.sampleReceived bytes).fcu.running = s.fcu.running ∧
    (s.sampleReceived bytes).fcu.subMs = s.fcu.subMs ∧
    (s.sampleReceived bytes).fcu.secondTick = s.fcu.secondTick := by
  dsimp only [State.sampleReceived]
  split_ands <;> (repeat' split) <;> simp

@[simp] theorem State.sampleReceived_pkm_fields (bytes : List Byte) (s : State) :
    (s.sampleReceived bytes).pkm.response = s.pkm.response ∧
    (s.sampleReceived bytes).pkm.forward = s.pkm.forward := by
  dsimp only [State.sampleReceived]
  split_ands <;> (repeat' split) <;> simp

@[simp] theorem State.sampleReceived_lku_fields (bytes : List Byte) (s : State) :
    (s.sampleReceived bytes).lku.inForce = s.lku.inForce ∧
    (s.sampleReceived bytes).lku.staged = s.lku.staged ∧
    (s.sampleReceived bytes).lku.countdowns = s.lku.countdowns := by
  dsimp only [State.sampleReceived]
  split_ands <;> (repeat' split) <;> simp

@[simp] theorem State.silenceExpired_slr_fields (s : State) :
    (s.silenceExpired).slr.lastSeq = s.slr.lastSeq ∧
    (s.silenceExpired).slr.position = s.slr.position ∧
    (s.silenceExpired).slr.handle = s.slr.handle ∧ (s.silenceExpired).slr.ready = s.slr.ready ∧
    (s.silenceExpired).slr.decimation = s.slr.decimation ∧
    (s.silenceExpired).slr.takeCount = s.slr.takeCount ∧
    (s.silenceExpired).slr.batch = s.slr.batch := by
  dsimp only [State.silenceExpired]
  split_ands <;> simp

@[simp] theorem State.silenceExpired_store_fields (s : State) :
    (s.silenceExpired).store.curves = s.store.curves ∧
    (s.silenceExpired).store.groups = s.store.groups ∧
    (s.silenceExpired).store.device = s.store.device ∧
    (s.silenceExpired).store.selection = s.store.selection ∧
    (s.silenceExpired).store.tags = s.store.tags ∧
    (s.silenceExpired).store.gates = s.store.gates ∧
    (s.silenceExpired).store.battery = s.store.battery ∧
    (s.silenceExpired).store.radio = s.store.radio ∧
    (s.silenceExpired).store.areas = s.store.areas ∧
    (s.silenceExpired).store.lastFailure = s.store.lastFailure := by
  dsimp only [State.silenceExpired]
  split_ands <;> simp

@[simp] theorem State.silenceExpired_fcu_fields (s : State) :
    (s.silenceExpired).fcu.rxRadio = s.fcu.rxRadio ∧
    (s.silenceExpired).fcu.rxLocal = s.fcu.rxLocal ∧ (s.silenceExpired).fcu.intake = s.fcu.intake ∧
    (s.silenceExpired).fcu.outRadio = s.fcu.outRadio ∧
    (s.silenceExpired).fcu.outLocal = s.fcu.outLocal ∧
    (s.silenceExpired).fcu.badRadio = s.fcu.badRadio ∧
    (s.silenceExpired).fcu.badLocal = s.fcu.badLocal ∧
    (s.silenceExpired).fcu.dropRadio = s.fcu.dropRadio ∧
    (s.silenceExpired).fcu.dropLocal = s.fcu.dropLocal ∧
    (s.silenceExpired).fcu.fwdDropped = s.fcu.fwdDropped ∧
    (s.silenceExpired).fcu.time = s.fcu.time ∧ (s.silenceExpired).fcu.running = s.fcu.running ∧
    (s.silenceExpired).fcu.subMs = s.fcu.subMs ∧
    (s.silenceExpired).fcu.secondTick = s.fcu.secondTick := by
  dsimp only [State.silenceExpired]
  split_ands <;> simp

@[simp] theorem State.silenceExpired_pkm_fields (s : State) :
    (s.silenceExpired).pkm.response = s.pkm.response ∧
    (s.silenceExpired).pkm.forward = s.pkm.forward := by
  dsimp only [State.silenceExpired]
  split_ands <;> simp

@[simp] theorem State.silenceExpired_lku_fields (s : State) :
    (s.silenceExpired).lku.inForce = s.lku.inForce ∧
    (s.silenceExpired).lku.staged = s.lku.staged ∧
    (s.silenceExpired).lku.countdowns = s.lku.countdowns := by
  dsimp only [State.silenceExpired]
  split_ands <;> simp

/-! ## Operations of Machine/Completion.lean -/

@[simp] theorem State.written_slr_fields (table index : Nat) (r : Option Reply) (s : State) :
    (s.written table index r).slr.link = s.slr.link ∧
    (s.written table index r).slr.consecMissing = s.slr.consecMissing ∧
    (s.written table index r).slr.totalMissing = s.slr.totalMissing ∧
    (s.written table index r).slr.lastSeq = s.slr.lastSeq ∧
    (s.written table index r).slr.gapCount = s.slr.gapCount ∧
    (s.written table index r).slr.lastGood = s.slr.lastGood ∧
    (s.written table index r).slr.silenceLeft = s.slr.silenceLeft ∧
    (s.written table index r).slr.runPos = s.slr.runPos ∧
    (s.written table index r).slr.prevPosition = s.slr.prevPosition ∧
    (s.written table index r).slr.prevHandle = s.slr.prevHandle ∧
    (s.written table index r).slr.prevReady = s.slr.prevReady ∧
    (s.written table index r).slr.position = s.slr.position ∧
    (s.written table index r).slr.handle = s.slr.handle ∧
    (s.written table index r).slr.ready = s.slr.ready ∧
    (s.written table index r).slr.decimation = s.slr.decimation ∧
    (s.written table index r).slr.takeCount = s.slr.takeCount ∧
    (s.written table index r).slr.batch = s.slr.batch := by
  dsimp only [State.written]
  split_ands <;> simp

@[simp] theorem State.written_fcu_fields (table index : Nat) (r : Option Reply) (s : State) :
    (s.written table index r).fcu.rxRadio = s.fcu.rxRadio ∧
    (s.written table index r).fcu.rxLocal = s.fcu.rxLocal ∧
    (s.written table index r).fcu.intake = s.fcu.intake ∧
    (s.written table index r).fcu.badRadio = s.fcu.badRadio ∧
    (s.written table index r).fcu.badLocal = s.fcu.badLocal ∧
    (s.written table index r).fcu.dropRadio = s.fcu.dropRadio ∧
    (s.written table index r).fcu.dropLocal = s.fcu.dropLocal ∧
    (s.written table index r).fcu.fwdDropped = s.fcu.fwdDropped ∧
    (s.written table index r).fcu.time = s.fcu.time ∧
    (s.written table index r).fcu.running = s.fcu.running ∧
    (s.written table index r).fcu.subMs = s.fcu.subMs ∧
    (s.written table index r).fcu.secondTick = s.fcu.secondTick := by
  dsimp only [State.written]
  split_ands <;> simp

@[simp] theorem State.written_pkm_fields (table index : Nat) (r : Option Reply) (s : State) :
    (s.written table index r).pkm.forward = s.pkm.forward := by
  dsimp only [State.written]
  simp

@[simp] theorem State.curveStored_store_fields (slot : Nat) (c : Option Curve) (s : State) :
    (s.curveStored slot c).store.groups = s.store.groups ∧
    (s.curveStored slot c).store.device = s.store.device ∧
    (s.curveStored slot c).store.selection = s.store.selection ∧
    (s.curveStored slot c).store.tags = s.store.tags ∧
    (s.curveStored slot c).store.gates = s.store.gates ∧
    (s.curveStored slot c).store.battery = s.store.battery ∧
    (s.curveStored slot c).store.radio = s.store.radio ∧
    (s.curveStored slot c).store.areas = s.store.areas ∧
    (s.curveStored slot c).store.lastFailure = s.store.lastFailure ∧
    (s.curveStored slot c).store.inFlight = s.store.inFlight ∧
    (s.curveStored slot c).store.waitList = s.store.waitList := by
  dsimp only [State.curveStored]
  split_ands <;> simp

@[simp] theorem State.dropPendingOf_slr_fields (slot : Nat) (s : State) :
    (s.dropPendingOf slot).slr.link = s.slr.link ∧
    (s.dropPendingOf slot).slr.consecMissing = s.slr.consecMissing ∧
    (s.dropPendingOf slot).slr.totalMissing = s.slr.totalMissing ∧
    (s.dropPendingOf slot).slr.lastSeq = s.slr.lastSeq ∧
    (s.dropPendingOf slot).slr.gapCount = s.slr.gapCount ∧
    (s.dropPendingOf slot).slr.lastGood = s.slr.lastGood ∧
    (s.dropPendingOf slot).slr.silenceLeft = s.slr.silenceLeft ∧
    (s.dropPendingOf slot).slr.runPos = s.slr.runPos ∧
    (s.dropPendingOf slot).slr.prevPosition = s.slr.prevPosition ∧
    (s.dropPendingOf slot).slr.prevHandle = s.slr.prevHandle ∧
    (s.dropPendingOf slot).slr.prevReady = s.slr.prevReady ∧
    (s.dropPendingOf slot).slr.position = s.slr.position ∧
    (s.dropPendingOf slot).slr.handle = s.slr.handle ∧
    (s.dropPendingOf slot).slr.ready = s.slr.ready ∧
    (s.dropPendingOf slot).slr.decimation = s.slr.decimation ∧
    (s.dropPendingOf slot).slr.takeCount = s.slr.takeCount ∧
    (s.dropPendingOf slot).slr.batch = s.slr.batch := by
  dsimp only [State.dropPendingOf]
  split_ands <;> (repeat' split) <;> simp

@[simp] theorem State.dropPendingOf_fcu_fields (slot : Nat) (s : State) :
    (s.dropPendingOf slot).fcu.rxRadio = s.fcu.rxRadio ∧
    (s.dropPendingOf slot).fcu.rxLocal = s.fcu.rxLocal ∧
    (s.dropPendingOf slot).fcu.intake = s.fcu.intake ∧
    (s.dropPendingOf slot).fcu.outRadio = s.fcu.outRadio ∧
    (s.dropPendingOf slot).fcu.outLocal = s.fcu.outLocal ∧
    (s.dropPendingOf slot).fcu.badRadio = s.fcu.badRadio ∧
    (s.dropPendingOf slot).fcu.badLocal = s.fcu.badLocal ∧
    (s.dropPendingOf slot).fcu.dropRadio = s.fcu.dropRadio ∧
    (s.dropPendingOf slot).fcu.dropLocal = s.fcu.dropLocal ∧
    (s.dropPendingOf slot).fcu.fwdDropped = s.fcu.fwdDropped ∧
    (s.dropPendingOf slot).fcu.time = s.fcu.time ∧
    (s.dropPendingOf slot).fcu.running = s.fcu.running ∧
    (s.dropPendingOf slot).fcu.subMs = s.fcu.subMs ∧
    (s.dropPendingOf slot).fcu.secondTick = s.fcu.secondTick := by
  dsimp only [State.dropPendingOf]
  split_ands <;> (repeat' split) <;> simp

@[simp] theorem State.dropPendingOf_pkm_fields (slot : Nat) (s : State) :
    (s.dropPendingOf slot).pkm.response = s.pkm.response ∧
    (s.dropPendingOf slot).pkm.forward = s.pkm.forward := by
  dsimp only [State.dropPendingOf]
  split_ands <;> (repeat' split) <;> simp

@[simp] theorem State.groupStored_slr_fields (slot : Nat) (g : Option Group) (s : State) :
    (s.groupStored slot g).slr.link = s.slr.link ∧
    (s.groupStored slot g).slr.consecMissing = s.slr.consecMissing ∧
    (s.groupStored slot g).slr.totalMissing = s.slr.totalMissing ∧
    (s.groupStored slot g).slr.lastSeq = s.slr.lastSeq ∧
    (s.groupStored slot g).slr.gapCount = s.slr.gapCount ∧
    (s.groupStored slot g).slr.lastGood = s.slr.lastGood ∧
    (s.groupStored slot g).slr.silenceLeft = s.slr.silenceLeft ∧
    (s.groupStored slot g).slr.runPos = s.slr.runPos ∧
    (s.groupStored slot g).slr.prevPosition = s.slr.prevPosition ∧
    (s.groupStored slot g).slr.prevHandle = s.slr.prevHandle ∧
    (s.groupStored slot g).slr.prevReady = s.slr.prevReady ∧
    (s.groupStored slot g).slr.position = s.slr.position ∧
    (s.groupStored slot g).slr.handle = s.slr.handle ∧
    (s.groupStored slot g).slr.ready = s.slr.ready ∧
    (s.groupStored slot g).slr.decimation = s.slr.decimation ∧
    (s.groupStored slot g).slr.takeCount = s.slr.takeCount ∧
    (s.groupStored slot g).slr.batch = s.slr.batch := by
  dsimp only [State.groupStored]
  split_ands <;> (repeat' split) <;> simp

@[simp] theorem State.groupStored_store_fields (slot : Nat) (g : Option Group) (s : State) :
    (s.groupStored slot g).store.curves = s.store.curves ∧
    (s.groupStored slot g).store.device = s.store.device ∧
    (s.groupStored slot g).store.selection = s.store.selection ∧
    (s.groupStored slot g).store.tags = s.store.tags ∧
    (s.groupStored slot g).store.gates = s.store.gates ∧
    (s.groupStored slot g).store.battery = s.store.battery ∧
    (s.groupStored slot g).store.radio = s.store.radio ∧
    (s.groupStored slot g).store.areas = s.store.areas ∧
    (s.groupStored slot g).store.lastFailure = s.store.lastFailure ∧
    (s.groupStored slot g).store.inFlight = s.store.inFlight ∧
    (s.groupStored slot g).store.waitList = s.store.waitList := by
  dsimp only [State.groupStored]
  split_ands <;> (repeat' split) <;> simp

@[simp] theorem State.groupStored_fcu_fields (slot : Nat) (g : Option Group) (s : State) :
    (s.groupStored slot g).fcu.rxRadio = s.fcu.rxRadio ∧
    (s.groupStored slot g).fcu.rxLocal = s.fcu.rxLocal ∧
    (s.groupStored slot g).fcu.intake = s.fcu.intake ∧
    (s.groupStored slot g).fcu.outRadio = s.fcu.outRadio ∧
    (s.groupStored slot g).fcu.outLocal = s.fcu.outLocal ∧
    (s.groupStored slot g).fcu.badRadio = s.fcu.badRadio ∧
    (s.groupStored slot g).fcu.badLocal = s.fcu.badLocal ∧
    (s.groupStored slot g).fcu.dropRadio = s.fcu.dropRadio ∧
    (s.groupStored slot g).fcu.dropLocal = s.fcu.dropLocal ∧
    (s.groupStored slot g).fcu.fwdDropped = s.fcu.fwdDropped ∧
    (s.groupStored slot g).fcu.time = s.fcu.time ∧
    (s.groupStored slot g).fcu.running = s.fcu.running ∧
    (s.groupStored slot g).fcu.subMs = s.fcu.subMs ∧
    (s.groupStored slot g).fcu.secondTick = s.fcu.secondTick := by
  dsimp only [State.groupStored]
  split_ands <;> (repeat' split) <;> simp

@[simp] theorem State.groupStored_pkm_fields (slot : Nat) (g : Option Group) (s : State) :
    (s.groupStored slot g).pkm.response = s.pkm.response ∧
    (s.groupStored slot g).pkm.forward = s.pkm.forward := by
  dsimp only [State.groupStored]
  split_ands <;> (repeat' split) <;> simp

@[simp] theorem State.deviceStored_store_fields (d : DeviceRec) (s : State) :
    (s.deviceStored d).store.curves = s.store.curves ∧
    (s.deviceStored d).store.groups = s.store.groups ∧
    (s.deviceStored d).store.selection = s.store.selection ∧
    (s.deviceStored d).store.tags = s.store.tags ∧
    (s.deviceStored d).store.gates = s.store.gates ∧
    (s.deviceStored d).store.battery = s.store.battery ∧
    (s.deviceStored d).store.radio = s.store.radio ∧
    (s.deviceStored d).store.areas = s.store.areas ∧
    (s.deviceStored d).store.lastFailure = s.store.lastFailure ∧
    (s.deviceStored d).store.inFlight = s.store.inFlight ∧
    (s.deviceStored d).store.waitList = s.store.waitList := by
  dsimp only [State.deviceStored]
  split_ands <;> simp

@[simp] theorem State.batteryStored_slr_fields (b : BatteryRec) (s : State) :
    (s.batteryStored b).slr.link = s.slr.link ∧
    (s.batteryStored b).slr.consecMissing = s.slr.consecMissing ∧
    (s.batteryStored b).slr.totalMissing = s.slr.totalMissing ∧
    (s.batteryStored b).slr.lastSeq = s.slr.lastSeq ∧
    (s.batteryStored b).slr.gapCount = s.slr.gapCount ∧
    (s.batteryStored b).slr.lastGood = s.slr.lastGood ∧
    (s.batteryStored b).slr.silenceLeft = s.slr.silenceLeft ∧
    (s.batteryStored b).slr.runPos = s.slr.runPos ∧
    (s.batteryStored b).slr.prevPosition = s.slr.prevPosition ∧
    (s.batteryStored b).slr.prevHandle = s.slr.prevHandle ∧
    (s.batteryStored b).slr.prevReady = s.slr.prevReady ∧
    (s.batteryStored b).slr.position = s.slr.position ∧
    (s.batteryStored b).slr.handle = s.slr.handle ∧ (s.batteryStored b).slr.ready = s.slr.ready ∧
    (s.batteryStored b).slr.decimation = s.slr.decimation ∧
    (s.batteryStored b).slr.takeCount = s.slr.takeCount ∧
    (s.batteryStored b).slr.batch = s.slr.batch := by
  dsimp only [State.batteryStored]
  split_ands <;> (repeat' split) <;> simp

@[simp] theorem State.batteryStored_store_fields (b : BatteryRec) (s : State) :
    (s.batteryStored b).store.curves = s.store.curves ∧
    (s.batteryStored b).store.groups = s.store.groups ∧
    (s.batteryStored b).store.device = s.store.device ∧
    (s.batteryStored b).store.selection = s.store.selection ∧
    (s.batteryStored b).store.tags = s.store.tags ∧
    (s.batteryStored b).store.gates = s.store.gates ∧
    (s.batteryStored b).store.radio = s.store.radio ∧
    (s.batteryStored b).store.areas = s.store.areas ∧
    (s.batteryStored b).store.lastFailure = s.store.lastFailure ∧
    (s.batteryStored b).store.inFlight = s.store.inFlight ∧
    (s.batteryStored b).store.waitList = s.store.waitList := by
  dsimp only [State.batteryStored]
  split_ands <;> (repeat' split) <;> simp

@[simp] theorem State.batteryStored_fcu_fields (b : BatteryRec) (s : State) :
    (s.batteryStored b).fcu.rxRadio = s.fcu.rxRadio ∧
    (s.batteryStored b).fcu.rxLocal = s.fcu.rxLocal ∧
    (s.batteryStored b).fcu.intake = s.fcu.intake ∧
    (s.batteryStored b).fcu.outRadio = s.fcu.outRadio ∧
    (s.batteryStored b).fcu.outLocal = s.fcu.outLocal ∧
    (s.batteryStored b).fcu.badRadio = s.fcu.badRadio ∧
    (s.batteryStored b).fcu.badLocal = s.fcu.badLocal ∧
    (s.batteryStored b).fcu.dropRadio = s.fcu.dropRadio ∧
    (s.batteryStored b).fcu.dropLocal = s.fcu.dropLocal ∧
    (s.batteryStored b).fcu.fwdDropped = s.fcu.fwdDropped ∧
    (s.batteryStored b).fcu.time = s.fcu.time ∧ (s.batteryStored b).fcu.running = s.fcu.running ∧
    (s.batteryStored b).fcu.subMs = s.fcu.subMs ∧
    (s.batteryStored b).fcu.secondTick = s.fcu.secondTick := by
  dsimp only [State.batteryStored]
  split_ands <;> (repeat' split) <;> simp

@[simp] theorem State.batteryStored_pkm_fields (b : BatteryRec) (s : State) :
    (s.batteryStored b).pkm.response = s.pkm.response ∧
    (s.batteryStored b).pkm.forward = s.pkm.forward := by
  dsimp only [State.batteryStored]
  split_ands <;> (repeat' split) <;> simp

@[simp] theorem State.radioStored_store_fields (r : RadioRec) (s : State) :
    (s.radioStored r).store.curves = s.store.curves ∧
    (s.radioStored r).store.groups = s.store.groups ∧
    (s.radioStored r).store.device = s.store.device ∧
    (s.radioStored r).store.selection = s.store.selection ∧
    (s.radioStored r).store.tags = s.store.tags ∧ (s.radioStored r).store.gates = s.store.gates ∧
    (s.radioStored r).store.battery = s.store.battery ∧
    (s.radioStored r).store.areas = s.store.areas ∧
    (s.radioStored r).store.lastFailure = s.store.lastFailure ∧
    (s.radioStored r).store.inFlight = s.store.inFlight ∧
    (s.radioStored r).store.waitList = s.store.waitList := by
  dsimp only [State.radioStored]
  split_ands <;> (repeat' split) <;> simp

@[simp] theorem State.areasStored_store_fields (p : Partition) (s : State) :
    (s.areasStored p).store.curves = s.store.curves ∧
    (s.areasStored p).store.groups = s.store.groups ∧
    (s.areasStored p).store.device = s.store.device ∧
    (s.areasStored p).store.selection = s.store.selection ∧
    (s.areasStored p).store.tags = s.store.tags ∧ (s.areasStored p).store.gates = s.store.gates ∧
    (s.areasStored p).store.battery = s.store.battery ∧
    (s.areasStored p).store.radio = s.store.radio ∧
    (s.areasStored p).store.lastFailure = s.store.lastFailure ∧
    (s.areasStored p).store.inFlight = s.store.inFlight ∧
    (s.areasStored p).store.waitList = s.store.waitList := by
  dsimp only [State.areasStored]
  split_ands <;> simp

@[simp] theorem State.completeStore_slr_fields (b : StoreBody) (r : Option Reply) (s : State) :
    (s.completeStore b r).slr.link = s.slr.link ∧
    (s.completeStore b r).slr.consecMissing = s.slr.consecMissing ∧
    (s.completeStore b r).slr.totalMissing = s.slr.totalMissing ∧
    (s.completeStore b r).slr.lastSeq = s.slr.lastSeq ∧
    (s.completeStore b r).slr.gapCount = s.slr.gapCount ∧
    (s.completeStore b r).slr.lastGood = s.slr.lastGood ∧
    (s.completeStore b r).slr.silenceLeft = s.slr.silenceLeft ∧
    (s.completeStore b r).slr.runPos = s.slr.runPos ∧
    (s.completeStore b r).slr.prevPosition = s.slr.prevPosition ∧
    (s.completeStore b r).slr.prevHandle = s.slr.prevHandle ∧
    (s.completeStore b r).slr.prevReady = s.slr.prevReady ∧
    (s.completeStore b r).slr.position = s.slr.position ∧
    (s.completeStore b r).slr.handle = s.slr.handle ∧
    (s.completeStore b r).slr.ready = s.slr.ready ∧
    (s.completeStore b r).slr.decimation = s.slr.decimation ∧
    (s.completeStore b r).slr.takeCount = s.slr.takeCount ∧
    (s.completeStore b r).slr.batch = s.slr.batch := by
  dsimp only [State.completeStore]
  split_ands <;> (repeat' split) <;> simp

@[simp] theorem State.completeStore_fcu_fields (b : StoreBody) (r : Option Reply) (s : State) :
    (s.completeStore b r).fcu.rxRadio = s.fcu.rxRadio ∧
    (s.completeStore b r).fcu.rxLocal = s.fcu.rxLocal ∧
    (s.completeStore b r).fcu.intake = s.fcu.intake ∧
    (s.completeStore b r).fcu.badRadio = s.fcu.badRadio ∧
    (s.completeStore b r).fcu.badLocal = s.fcu.badLocal ∧
    (s.completeStore b r).fcu.dropRadio = s.fcu.dropRadio ∧
    (s.completeStore b r).fcu.dropLocal = s.fcu.dropLocal ∧
    (s.completeStore b r).fcu.fwdDropped = s.fcu.fwdDropped ∧
    (s.completeStore b r).fcu.time = s.fcu.time ∧
    (s.completeStore b r).fcu.running = s.fcu.running ∧
    (s.completeStore b r).fcu.subMs = s.fcu.subMs ∧
    (s.completeStore b r).fcu.secondTick = s.fcu.secondTick := by
  dsimp only [State.completeStore]
  split_ands <;> (repeat' split) <;> simp

@[simp] theorem State.completeStore_lku_fields (b : StoreBody) (r : Option Reply) (s : State) :
    (s.completeStore b r).lku.handle = s.lku.handle ∧
    (s.completeStore b r).lku.handleStale = s.lku.handleStale := by
  dsimp only [State.completeStore]
  split_ands <;> (repeat' split) <;> simp

@[simp] theorem State.storeComplete_slr_fields (s : State) :
    (s.storeComplete).slr.link = s.slr.link ∧
    (s.storeComplete).slr.consecMissing = s.slr.consecMissing ∧
    (s.storeComplete).slr.totalMissing = s.slr.totalMissing ∧
    (s.storeComplete).slr.lastSeq = s.slr.lastSeq ∧
    (s.storeComplete).slr.gapCount = s.slr.gapCount ∧
    (s.storeComplete).slr.lastGood = s.slr.lastGood ∧
    (s.storeComplete).slr.silenceLeft = s.slr.silenceLeft ∧
    (s.storeComplete).slr.runPos = s.slr.runPos ∧
    (s.storeComplete).slr.prevPosition = s.slr.prevPosition ∧
    (s.storeComplete).slr.prevHandle = s.slr.prevHandle ∧
    (s.storeComplete).slr.prevReady = s.slr.prevReady ∧
    (s.storeComplete).slr.position = s.slr.position ∧
    (s.storeComplete).slr.handle = s.slr.handle ∧ (s.storeComplete).slr.ready = s.slr.ready ∧
    (s.storeComplete).slr.decimation = s.slr.decimation ∧
    (s.storeComplete).slr.takeCount = s.slr.takeCount ∧
    (s.storeComplete).slr.batch = s.slr.batch := by
  dsimp only [State.storeComplete]
  split_ands <;> (repeat' split) <;> simp

@[simp] theorem State.storeComplete_fcu_fields (s : State) :
    (s.storeComplete).fcu.rxRadio = s.fcu.rxRadio ∧ (s.storeComplete).fcu.rxLocal = s.fcu.rxLocal ∧
    (s.storeComplete).fcu.intake = s.fcu.intake ∧ (s.storeComplete).fcu.badRadio = s.fcu.badRadio ∧
    (s.storeComplete).fcu.badLocal = s.fcu.badLocal ∧
    (s.storeComplete).fcu.dropRadio = s.fcu.dropRadio ∧
    (s.storeComplete).fcu.dropLocal = s.fcu.dropLocal ∧
    (s.storeComplete).fcu.fwdDropped = s.fcu.fwdDropped ∧ (s.storeComplete).fcu.time = s.fcu.time ∧
    (s.storeComplete).fcu.running = s.fcu.running ∧ (s.storeComplete).fcu.subMs = s.fcu.subMs ∧
    (s.storeComplete).fcu.secondTick = s.fcu.secondTick := by
  dsimp only [State.storeComplete]
  split_ands <;> (repeat' split) <;> simp

@[simp] theorem State.storeComplete_lku_fields (s : State) :
    (s.storeComplete).lku.handle = s.lku.handle ∧
    (s.storeComplete).lku.handleStale = s.lku.handleStale := by
  dsimp only [State.storeComplete]
  split_ands <;> (repeat' split) <;> simp

/-! ## Operations of Machine/Reset.lean -/

@[simp] theorem State.resetSets_store_fields (s : State) :
    (s.resetSets).store.curves = s.store.curves ∧ (s.resetSets).store.groups = s.store.groups ∧
    (s.resetSets).store.device = s.store.device ∧
    (s.resetSets).store.selection = s.store.selection ∧ (s.resetSets).store.tags = s.store.tags ∧
    (s.resetSets).store.gates = s.store.gates ∧ (s.resetSets).store.battery = s.store.battery ∧
    (s.resetSets).store.radio = s.store.radio ∧ (s.resetSets).store.areas = s.store.areas ∧
    (s.resetSets).store.lastFailure = s.store.lastFailure := by
  dsimp only [State.resetSets]
  split_ands <;> (repeat' split) <;> simp

@[simp] theorem State.resetSets_lku_fields (s : State) :
    (s.resetSets).lku.inForce = s.lku.inForce ∧ (s.resetSets).lku.staged = s.lku.staged ∧
    (s.resetSets).lku.countdowns = s.lku.countdowns ∧ (s.resetSets).lku.handle = s.lku.handle ∧
    (s.resetSets).lku.handleStale = s.lku.handleStale := by
  dsimp only [State.resetSets]
  split_ands <;> (repeat' split) <;> simp

@[simp] theorem State.resetLku_lku_fields (s : State) :
    (s.resetLku).lku.changes = s.lku.changes ∧ (s.resetLku).lku.handle = s.lku.handle ∧
    (s.resetLku).lku.handleStale = s.lku.handleStale := by
  dsimp only [State.resetLku]
  split_ands <;> simp

/-! ## Operations of Machine/Radio.lean -/

@[simp] theorem State.intakeOffer_fcu_fields (e : IntakeEntry) (s : State) :
    (s.intakeOffer e).fcu.rxRadio = s.fcu.rxRadio ∧ (s.intakeOffer e).fcu.rxLocal = s.fcu.rxLocal ∧
    (s.intakeOffer e).fcu.outRadio = s.fcu.outRadio ∧
    (s.intakeOffer e).fcu.outLocal = s.fcu.outLocal ∧ (s.intakeOffer e).fcu.localQ = s.fcu.localQ ∧
    (s.intakeOffer e).fcu.badRadio = s.fcu.badRadio ∧
    (s.intakeOffer e).fcu.badLocal = s.fcu.badLocal ∧
    (s.intakeOffer e).fcu.fwdDropped = s.fcu.fwdDropped ∧
    (s.intakeOffer e).fcu.localDropped = s.fcu.localDropped ∧
    (s.intakeOffer e).fcu.time = s.fcu.time ∧ (s.intakeOffer e).fcu.running = s.fcu.running ∧
    (s.intakeOffer e).fcu.subMs = s.fcu.subMs ∧
    (s.intakeOffer e).fcu.secondTick = s.fcu.secondTick := by
  dsimp only [State.intakeOffer]
  split_ands <;> (repeat' split) <;> simp

@[simp] theorem State.setRx_fcu_fields (p : Port) (r : Receiver) (s : State) :
    (s.setRx p r).fcu.intake = s.fcu.intake ∧ (s.setRx p r).fcu.outRadio = s.fcu.outRadio ∧
    (s.setRx p r).fcu.outLocal = s.fcu.outLocal ∧ (s.setRx p r).fcu.localQ = s.fcu.localQ ∧
    (s.setRx p r).fcu.badRadio = s.fcu.badRadio ∧ (s.setRx p r).fcu.badLocal = s.fcu.badLocal ∧
    (s.setRx p r).fcu.dropRadio = s.fcu.dropRadio ∧ (s.setRx p r).fcu.dropLocal = s.fcu.dropLocal ∧
    (s.setRx p r).fcu.fwdDropped = s.fcu.fwdDropped ∧
    (s.setRx p r).fcu.localDropped = s.fcu.localDropped ∧ (s.setRx p r).fcu.time = s.fcu.time ∧
    (s.setRx p r).fcu.running = s.fcu.running ∧ (s.setRx p r).fcu.subMs = s.fcu.subMs ∧
    (s.setRx p r).fcu.secondTick = s.fcu.secondTick := by
  dsimp only [State.setRx]
  split_ands <;> split <;> simp

@[simp] theorem State.badFrame_fcu_fields (p : Port) (s : State) :
    (s.badFrame p).fcu.rxRadio = s.fcu.rxRadio ∧ (s.badFrame p).fcu.rxLocal = s.fcu.rxLocal ∧
    (s.badFrame p).fcu.intake = s.fcu.intake ∧ (s.badFrame p).fcu.outRadio = s.fcu.outRadio ∧
    (s.badFrame p).fcu.outLocal = s.fcu.outLocal ∧ (s.badFrame p).fcu.localQ = s.fcu.localQ ∧
    (s.badFrame p).fcu.dropRadio = s.fcu.dropRadio ∧
    (s.badFrame p).fcu.dropLocal = s.fcu.dropLocal ∧
    (s.badFrame p).fcu.fwdDropped = s.fcu.fwdDropped ∧
    (s.badFrame p).fcu.localDropped = s.fcu.localDropped ∧ (s.badFrame p).fcu.time = s.fcu.time ∧
    (s.badFrame p).fcu.running = s.fcu.running ∧ (s.badFrame p).fcu.subMs = s.fcu.subMs ∧
    (s.badFrame p).fcu.secondTick = s.fcu.secondTick := by
  dsimp only [State.badFrame]
  split_ands <;> (repeat' split) <;> simp

@[simp] theorem State.takeAnswer_slr_fields (p : Purpose) (rec : Option (Area × Nat)) (f : Frame) (s : State) :
    (s.takeAnswer p rec f).slr.link = s.slr.link ∧
    (s.takeAnswer p rec f).slr.consecMissing = s.slr.consecMissing ∧
    (s.takeAnswer p rec f).slr.totalMissing = s.slr.totalMissing ∧
    (s.takeAnswer p rec f).slr.lastSeq = s.slr.lastSeq ∧
    (s.takeAnswer p rec f).slr.gapCount = s.slr.gapCount ∧
    (s.takeAnswer p rec f).slr.lastGood = s.slr.lastGood ∧
    (s.takeAnswer p rec f).slr.silenceLeft = s.slr.silenceLeft ∧
    (s.takeAnswer p rec f).slr.runPos = s.slr.runPos ∧
    (s.takeAnswer p rec f).slr.prevPosition = s.slr.prevPosition ∧
    (s.takeAnswer p rec f).slr.prevHandle = s.slr.prevHandle ∧
    (s.takeAnswer p rec f).slr.prevReady = s.slr.prevReady ∧
    (s.takeAnswer p rec f).slr.position = s.slr.position ∧
    (s.takeAnswer p rec f).slr.handle = s.slr.handle ∧
    (s.takeAnswer p rec f).slr.ready = s.slr.ready ∧
    (s.takeAnswer p rec f).slr.decimation = s.slr.decimation ∧
    (s.takeAnswer p rec f).slr.takeCount = s.slr.takeCount ∧
    (s.takeAnswer p rec f).slr.batch = s.slr.batch := by
  dsimp only [State.takeAnswer]
  split_ands <;> simp

@[simp] theorem State.takeAnswer_fcu_fields (p : Purpose) (rec : Option (Area × Nat)) (f : Frame) (s : State) :
    (s.takeAnswer p rec f).fcu.rxRadio = s.fcu.rxRadio ∧
    (s.takeAnswer p rec f).fcu.rxLocal = s.fcu.rxLocal ∧
    (s.takeAnswer p rec f).fcu.intake = s.fcu.intake ∧
    (s.takeAnswer p rec f).fcu.outRadio = s.fcu.outRadio ∧
    (s.takeAnswer p rec f).fcu.outLocal = s.fcu.outLocal ∧
    (s.takeAnswer p rec f).fcu.badRadio = s.fcu.badRadio ∧
    (s.takeAnswer p rec f).fcu.badLocal = s.fcu.badLocal ∧
    (s.takeAnswer p rec f).fcu.dropRadio = s.fcu.dropRadio ∧
    (s.takeAnswer p rec f).fcu.dropLocal = s.fcu.dropLocal ∧
    (s.takeAnswer p rec f).fcu.fwdDropped = s.fcu.fwdDropped ∧
    (s.takeAnswer p rec f).fcu.time = s.fcu.time ∧
    (s.takeAnswer p rec f).fcu.running = s.fcu.running ∧
    (s.takeAnswer p rec f).fcu.subMs = s.fcu.subMs ∧
    (s.takeAnswer p rec f).fcu.secondTick = s.fcu.secondTick := by
  dsimp only [State.takeAnswer]
  split_ands <;> simp

@[simp] theorem State.takeAnswer_pkm_fields (p : Purpose) (rec : Option (Area × Nat)) (f : Frame) (s : State) :
    (s.takeAnswer p rec f).pkm.response = s.pkm.response ∧
    (s.takeAnswer p rec f).pkm.forward = s.pkm.forward := by
  dsimp only [State.takeAnswer]
  split_ands <;> simp

@[simp] theorem State.answerPoll_slr_fields (s : State) :
    (s.answerPoll).slr.link = s.slr.link ∧
    (s.answerPoll).slr.consecMissing = s.slr.consecMissing ∧
    (s.answerPoll).slr.totalMissing = s.slr.totalMissing ∧
    (s.answerPoll).slr.lastSeq = s.slr.lastSeq ∧ (s.answerPoll).slr.gapCount = s.slr.gapCount ∧
    (s.answerPoll).slr.lastGood = s.slr.lastGood ∧
    (s.answerPoll).slr.silenceLeft = s.slr.silenceLeft ∧
    (s.answerPoll).slr.runPos = s.slr.runPos ∧
    (s.answerPoll).slr.prevPosition = s.slr.prevPosition ∧
    (s.answerPoll).slr.prevHandle = s.slr.prevHandle ∧
    (s.answerPoll).slr.prevReady = s.slr.prevReady ∧
    (s.answerPoll).slr.position = s.slr.position ∧ (s.answerPoll).slr.handle = s.slr.handle ∧
    (s.answerPoll).slr.ready = s.slr.ready ∧ (s.answerPoll).slr.decimation = s.slr.decimation ∧
    (s.answerPoll).slr.takeCount = s.slr.takeCount ∧ (s.answerPoll).slr.batch = s.slr.batch := by
  dsimp only [State.answerPoll]
  split_ands <;> (repeat' split) <;> simp

@[simp] theorem State.answerPoll_fcu_fields (s : State) :
    (s.answerPoll).fcu.rxRadio = s.fcu.rxRadio ∧ (s.answerPoll).fcu.rxLocal = s.fcu.rxLocal ∧
    (s.answerPoll).fcu.intake = s.fcu.intake ∧ (s.answerPoll).fcu.outRadio = s.fcu.outRadio ∧
    (s.answerPoll).fcu.outLocal = s.fcu.outLocal ∧ (s.answerPoll).fcu.badRadio = s.fcu.badRadio ∧
    (s.answerPoll).fcu.badLocal = s.fcu.badLocal ∧ (s.answerPoll).fcu.dropRadio = s.fcu.dropRadio ∧
    (s.answerPoll).fcu.dropLocal = s.fcu.dropLocal ∧
    (s.answerPoll).fcu.fwdDropped = s.fcu.fwdDropped ∧ (s.answerPoll).fcu.time = s.fcu.time ∧
    (s.answerPoll).fcu.running = s.fcu.running ∧ (s.answerPoll).fcu.subMs = s.fcu.subMs ∧
    (s.answerPoll).fcu.secondTick = s.fcu.secondTick := by
  dsimp only [State.answerPoll]
  split_ands <;> (repeat' split) <;> simp

@[simp] theorem State.answerPoll_pkm_fields (s : State) :
    (s.answerPoll).pkm.response = s.pkm.response ∧ (s.answerPoll).pkm.forward = s.pkm.forward := by
  dsimp only [State.answerPoll]
  split_ands <;> (repeat' split) <;> simp

@[simp] theorem State.pollTaken_slr_fields (payload : List Byte) (s : State) :
    (s.pollTaken payload).slr.link = s.slr.link ∧
    (s.pollTaken payload).slr.consecMissing = s.slr.consecMissing ∧
    (s.pollTaken payload).slr.totalMissing = s.slr.totalMissing ∧
    (s.pollTaken payload).slr.lastSeq = s.slr.lastSeq ∧
    (s.pollTaken payload).slr.gapCount = s.slr.gapCount ∧
    (s.pollTaken payload).slr.lastGood = s.slr.lastGood ∧
    (s.pollTaken payload).slr.silenceLeft = s.slr.silenceLeft ∧
    (s.pollTaken payload).slr.runPos = s.slr.runPos ∧
    (s.pollTaken payload).slr.prevPosition = s.slr.prevPosition ∧
    (s.pollTaken payload).slr.prevHandle = s.slr.prevHandle ∧
    (s.pollTaken payload).slr.prevReady = s.slr.prevReady ∧
    (s.pollTaken payload).slr.position = s.slr.position ∧
    (s.pollTaken payload).slr.handle = s.slr.handle ∧
    (s.pollTaken payload).slr.ready = s.slr.ready ∧
    (s.pollTaken payload).slr.decimation = s.slr.decimation ∧
    (s.pollTaken payload).slr.takeCount = s.slr.takeCount ∧
    (s.pollTaken payload).slr.batch = s.slr.batch := by
  dsimp only [State.pollTaken]
  split_ands <;> (repeat' split) <;> simp

@[simp] theorem State.pollTaken_fcu_fields (payload : List Byte) (s : State) :
    (s.pollTaken payload).fcu.rxRadio = s.fcu.rxRadio ∧
    (s.pollTaken payload).fcu.rxLocal = s.fcu.rxLocal ∧
    (s.pollTaken payload).fcu.intake = s.fcu.intake ∧
    (s.pollTaken payload).fcu.outRadio = s.fcu.outRadio ∧
    (s.pollTaken payload).fcu.outLocal = s.fcu.outLocal ∧
    (s.pollTaken payload).fcu.badRadio = s.fcu.badRadio ∧
    (s.pollTaken payload).fcu.badLocal = s.fcu.badLocal ∧
    (s.pollTaken payload).fcu.dropRadio = s.fcu.dropRadio ∧
    (s.pollTaken payload).fcu.dropLocal = s.fcu.dropLocal ∧
    (s.pollTaken payload).fcu.fwdDropped = s.fcu.fwdDropped ∧
    (s.pollTaken payload).fcu.time = s.fcu.time ∧
    (s.pollTaken payload).fcu.running = s.fcu.running ∧
    (s.pollTaken payload).fcu.subMs = s.fcu.subMs ∧
    (s.pollTaken payload).fcu.secondTick = s.fcu.secondTick := by
  dsimp only [State.pollTaken]
  split_ands <;> (repeat' split) <;> simp

@[simp] theorem State.pollTaken_pkm_fields (payload : List Byte) (s : State) :
    (s.pollTaken payload).pkm.response = s.pkm.response ∧
    (s.pollTaken payload).pkm.forward = s.pkm.forward := by
  dsimp only [State.pollTaken]
  split_ands <;> (repeat' split) <;> simp

@[simp] theorem State.sortRadio_slr_fields (f : Frame) (s : State) :
    (s.sortRadio f).slr.link = s.slr.link ∧
    (s.sortRadio f).slr.consecMissing = s.slr.consecMissing ∧
    (s.sortRadio f).slr.totalMissing = s.slr.totalMissing ∧
    (s.sortRadio f).slr.lastSeq = s.slr.lastSeq ∧ (s.sortRadio f).slr.gapCount = s.slr.gapCount ∧
    (s.sortRadio f).slr.lastGood = s.slr.lastGood ∧
    (s.sortRadio f).slr.silenceLeft = s.slr.silenceLeft ∧
    (s.sortRadio f).slr.runPos = s.slr.runPos ∧
    (s.sortRadio f).slr.prevPosition = s.slr.prevPosition ∧
    (s.sortRadio f).slr.prevHandle = s.slr.prevHandle ∧
    (s.sortRadio f).slr.prevReady = s.slr.prevReady ∧
    (s.sortRadio f).slr.position = s.slr.position ∧ (s.sortRadio f).slr.handle = s.slr.handle ∧
    (s.sortRadio f).slr.ready = s.slr.ready ∧ (s.sortRadio f).slr.decimation = s.slr.decimation ∧
    (s.sortRadio f).slr.takeCount = s.slr.takeCount ∧ (s.sortRadio f).slr.batch = s.slr.batch := by
  dsimp only [State.sortRadio]
  split_ands <;> (repeat' split) <;> simp

@[simp] theorem State.sortRadio_fcu_fields (f : Frame) (s : State) :
    (s.sortRadio f).fcu.rxRadio = s.fcu.rxRadio ∧ (s.sortRadio f).fcu.rxLocal = s.fcu.rxLocal ∧
    (s.sortRadio f).fcu.outRadio = s.fcu.outRadio ∧ (s.sortRadio f).fcu.outLocal = s.fcu.outLocal ∧
    (s.sortRadio f).fcu.badRadio = s.fcu.badRadio ∧ (s.sortRadio f).fcu.badLocal = s.fcu.badLocal ∧
    (s.sortRadio f).fcu.fwdDropped = s.fcu.fwdDropped ∧ (s.sortRadio f).fcu.time = s.fcu.time ∧
    (s.sortRadio f).fcu.running = s.fcu.running ∧ (s.sortRadio f).fcu.subMs = s.fcu.subMs ∧
    (s.sortRadio f).fcu.secondTick = s.fcu.secondTick := by
  dsimp only [State.sortRadio]
  split_ands <;> (repeat' split) <;> simp

@[simp] theorem State.sortRadio_pkm_fields (f : Frame) (s : State) :
    (s.sortRadio f).pkm.response = s.pkm.response ∧ (s.sortRadio f).pkm.forward = s.pkm.forward := by
  dsimp only [State.sortRadio]
  split_ands <;> (repeat' split) <;> simp

@[simp] theorem State.sortLocal_fcu_fields (f : Frame) (s : State) :
    (s.sortLocal f).fcu.rxRadio = s.fcu.rxRadio ∧ (s.sortLocal f).fcu.rxLocal = s.fcu.rxLocal ∧
    (s.sortLocal f).fcu.outRadio = s.fcu.outRadio ∧ (s.sortLocal f).fcu.outLocal = s.fcu.outLocal ∧
    (s.sortLocal f).fcu.localQ = s.fcu.localQ ∧ (s.sortLocal f).fcu.badRadio = s.fcu.badRadio ∧
    (s.sortLocal f).fcu.badLocal = s.fcu.badLocal ∧
    (s.sortLocal f).fcu.localDropped = s.fcu.localDropped ∧ (s.sortLocal f).fcu.time = s.fcu.time ∧
    (s.sortLocal f).fcu.running = s.fcu.running ∧ (s.sortLocal f).fcu.subMs = s.fcu.subMs ∧
    (s.sortLocal f).fcu.secondTick = s.fcu.secondTick := by
  dsimp only [State.sortLocal]
  split_ands <;> (repeat' split) <;> simp

@[simp] theorem State.sortLocal_pkm_fields (f : Frame) (s : State) :
    (s.sortLocal f).pkm.response = s.pkm.response ∧ (s.sortLocal f).pkm.routine = s.pkm.routine := by
  dsimp only [State.sortLocal]
  split_ands <;> (repeat' split) <;> simp

@[simp] theorem State.frameEnded_slr_fields (p : Port) (r : Reception) (s : State) :
    (s.frameEnded p r).slr.link = s.slr.link ∧
    (s.frameEnded p r).slr.consecMissing = s.slr.consecMissing ∧
    (s.frameEnded p r).slr.totalMissing = s.slr.totalMissing ∧
    (s.frameEnded p r).slr.lastSeq = s.slr.lastSeq ∧
    (s.frameEnded p r).slr.gapCount = s.slr.gapCount ∧
    (s.frameEnded p r).slr.lastGood = s.slr.lastGood ∧
    (s.frameEnded p r).slr.silenceLeft = s.slr.silenceLeft ∧
    (s.frameEnded p r).slr.runPos = s.slr.runPos ∧
    (s.frameEnded p r).slr.prevPosition = s.slr.prevPosition ∧
    (s.frameEnded p r).slr.prevHandle = s.slr.prevHandle ∧
    (s.frameEnded p r).slr.prevReady = s.slr.prevReady ∧
    (s.frameEnded p r).slr.position = s.slr.position ∧
    (s.frameEnded p r).slr.handle = s.slr.handle ∧
    (s.frameEnded p r).slr.ready = s.slr.ready ∧
    (s.frameEnded p r).slr.decimation = s.slr.decimation ∧
    (s.frameEnded p r).slr.takeCount = s.slr.takeCount ∧
    (s.frameEnded p r).slr.batch = s.slr.batch := by
  dsimp only [State.frameEnded]
  split_ands <;> (repeat' split) <;> simp

@[simp] theorem State.frameEnded_fcu_fields (p : Port) (r : Reception) (s : State) :
    (s.frameEnded p r).fcu.rxRadio = s.fcu.rxRadio ∧
    (s.frameEnded p r).fcu.rxLocal = s.fcu.rxLocal ∧
    (s.frameEnded p r).fcu.outRadio = s.fcu.outRadio ∧
    (s.frameEnded p r).fcu.outLocal = s.fcu.outLocal ∧
    (s.frameEnded p r).fcu.time = s.fcu.time ∧
    (s.frameEnded p r).fcu.running = s.fcu.running ∧
    (s.frameEnded p r).fcu.subMs = s.fcu.subMs ∧
    (s.frameEnded p r).fcu.secondTick = s.fcu.secondTick := by
  dsimp only [State.frameEnded]
  split_ands <;> (repeat' split) <;> simp

@[simp] theorem State.frameEnded_pkm_fields (p : Port) (r : Reception) (s : State) :
    (s.frameEnded p r).pkm.response = s.pkm.response := by
  dsimp only [State.frameEnded]
  (repeat' split) <;> simp

@[simp] theorem State.markSent_pkm_fields (id : Nat) (s : State) :
    (s.markSent id).pkm.response = s.pkm.response ∧ (s.markSent id).pkm.routine = s.pkm.routine ∧
    (s.markSent id).pkm.forward = s.pkm.forward := by
  dsimp only [State.markSent]
  split_ands <;> (repeat' split) <;> simp

@[simp] theorem State.holdoffExpired_slr_fields (s : State) :
    (s.holdoffExpired).slr.link = s.slr.link ∧
    (s.holdoffExpired).slr.consecMissing = s.slr.consecMissing ∧
    (s.holdoffExpired).slr.totalMissing = s.slr.totalMissing ∧
    (s.holdoffExpired).slr.lastSeq = s.slr.lastSeq ∧
    (s.holdoffExpired).slr.gapCount = s.slr.gapCount ∧
    (s.holdoffExpired).slr.lastGood = s.slr.lastGood ∧
    (s.holdoffExpired).slr.silenceLeft = s.slr.silenceLeft ∧
    (s.holdoffExpired).slr.runPos = s.slr.runPos ∧
    (s.holdoffExpired).slr.prevPosition = s.slr.prevPosition ∧
    (s.holdoffExpired).slr.prevHandle = s.slr.prevHandle ∧
    (s.holdoffExpired).slr.prevReady = s.slr.prevReady ∧
    (s.holdoffExpired).slr.position = s.slr.position ∧
    (s.holdoffExpired).slr.handle = s.slr.handle ∧ (s.holdoffExpired).slr.ready = s.slr.ready ∧
    (s.holdoffExpired).slr.decimation = s.slr.decimation ∧
    (s.holdoffExpired).slr.takeCount = s.slr.takeCount ∧
    (s.holdoffExpired).slr.batch = s.slr.batch := by
  dsimp only [State.holdoffExpired]
  split_ands <;> (repeat' split) <;> simp

@[simp] theorem State.holdoffExpired_fcu_fields (s : State) :
    (s.holdoffExpired).fcu.rxRadio = s.fcu.rxRadio ∧
    (s.holdoffExpired).fcu.rxLocal = s.fcu.rxLocal ∧ (s.holdoffExpired).fcu.intake = s.fcu.intake ∧
    (s.holdoffExpired).fcu.outRadio = s.fcu.outRadio ∧
    (s.holdoffExpired).fcu.outLocal = s.fcu.outLocal ∧
    (s.holdoffExpired).fcu.badRadio = s.fcu.badRadio ∧
    (s.holdoffExpired).fcu.badLocal = s.fcu.badLocal ∧
    (s.holdoffExpired).fcu.dropRadio = s.fcu.dropRadio ∧
    (s.holdoffExpired).fcu.dropLocal = s.fcu.dropLocal ∧
    (s.holdoffExpired).fcu.fwdDropped = s.fcu.fwdDropped ∧
    (s.holdoffExpired).fcu.time = s.fcu.time ∧ (s.holdoffExpired).fcu.running = s.fcu.running ∧
    (s.holdoffExpired).fcu.subMs = s.fcu.subMs ∧
    (s.holdoffExpired).fcu.secondTick = s.fcu.secondTick := by
  dsimp only [State.holdoffExpired]
  split_ands <;> (repeat' split) <;> simp

@[simp] theorem State.holdoffExpired_pkm_fields (s : State) :
    (s.holdoffExpired).pkm.response = s.pkm.response ∧
    (s.holdoffExpired).pkm.forward = s.pkm.forward := by
  dsimp only [State.holdoffExpired]
  split_ands <;> (repeat' split) <;> simp

@[simp] theorem State.confirmExpired_pkm_fields (s : State) :
    (s.confirmExpired).pkm.response = s.pkm.response ∧
    (s.confirmExpired).pkm.routine = s.pkm.routine ∧
    (s.confirmExpired).pkm.forward = s.pkm.forward := by
  dsimp only [State.confirmExpired]
  split_ands <;> (repeat' split) <;> simp

/-! ## Operations of Machine/Commands.lean -/

@[simp] theorem State.markOutstanding_slr_fields (e : IntakeEntry) (s : State) :
    (s.markOutstanding e).slr.link = s.slr.link ∧
    (s.markOutstanding e).slr.consecMissing = s.slr.consecMissing ∧
    (s.markOutstanding e).slr.totalMissing = s.slr.totalMissing ∧
    (s.markOutstanding e).slr.lastSeq = s.slr.lastSeq ∧
    (s.markOutstanding e).slr.gapCount = s.slr.gapCount ∧
    (s.markOutstanding e).slr.lastGood = s.slr.lastGood ∧
    (s.markOutstanding e).slr.silenceLeft = s.slr.silenceLeft ∧
    (s.markOutstanding e).slr.runPos = s.slr.runPos ∧
    (s.markOutstanding e).slr.prevPosition = s.slr.prevPosition ∧
    (s.markOutstanding e).slr.prevHandle = s.slr.prevHandle ∧
    (s.markOutstanding e).slr.prevReady = s.slr.prevReady ∧
    (s.markOutstanding e).slr.position = s.slr.position ∧
    (s.markOutstanding e).slr.handle = s.slr.handle ∧
    (s.markOutstanding e).slr.ready = s.slr.ready ∧
    (s.markOutstanding e).slr.decimation = s.slr.decimation ∧
    (s.markOutstanding e).slr.takeCount = s.slr.takeCount ∧
    (s.markOutstanding e).slr.batch = s.slr.batch := by
  dsimp only [State.markOutstanding]
  split_ands <;> (repeat' split) <;> simp

@[simp] theorem State.markOutstanding_fcu_fields (e : IntakeEntry) (s : State) :
    (s.markOutstanding e).fcu.rxRadio = s.fcu.rxRadio ∧
    (s.markOutstanding e).fcu.rxLocal = s.fcu.rxLocal ∧
    (s.markOutstanding e).fcu.intake = s.fcu.intake ∧
    (s.markOutstanding e).fcu.badRadio = s.fcu.badRadio ∧
    (s.markOutstanding e).fcu.badLocal = s.fcu.badLocal ∧
    (s.markOutstanding e).fcu.dropRadio = s.fcu.dropRadio ∧
    (s.markOutstanding e).fcu.dropLocal = s.fcu.dropLocal ∧
    (s.markOutstanding e).fcu.fwdDropped = s.fcu.fwdDropped ∧
    (s.markOutstanding e).fcu.localDropped = s.fcu.localDropped ∧
    (s.markOutstanding e).fcu.time = s.fcu.time ∧
    (s.markOutstanding e).fcu.running = s.fcu.running ∧
    (s.markOutstanding e).fcu.subMs = s.fcu.subMs ∧
    (s.markOutstanding e).fcu.secondTick = s.fcu.secondTick := by
  dsimp only [State.markOutstanding]
  split_ands <;> (repeat' split) <;> simp

@[simp] theorem State.setDecimation_slr_fields (d : Nat) (s : State) :
    (s.setDecimation d).slr.link = s.slr.link ∧
    (s.setDecimation d).slr.consecMissing = s.slr.consecMissing ∧
    (s.setDecimation d).slr.totalMissing = s.slr.totalMissing ∧
    (s.setDecimation d).slr.lastSeq = s.slr.lastSeq ∧
    (s.setDecimation d).slr.gapCount = s.slr.gapCount ∧
    (s.setDecimation d).slr.lastGood = s.slr.lastGood ∧
    (s.setDecimation d).slr.silenceLeft = s.slr.silenceLeft ∧
    (s.setDecimation d).slr.runPos = s.slr.runPos ∧
    (s.setDecimation d).slr.prevPosition = s.slr.prevPosition ∧
    (s.setDecimation d).slr.prevHandle = s.slr.prevHandle ∧
    (s.setDecimation d).slr.prevReady = s.slr.prevReady ∧
    (s.setDecimation d).slr.position = s.slr.position ∧
    (s.setDecimation d).slr.handle = s.slr.handle ∧ (s.setDecimation d).slr.ready = s.slr.ready := by
  dsimp only [State.setDecimation]
  split_ands <;> (repeat' split) <;> simp

@[simp] theorem State.pendSelection_slr_fields (g : Nat) (s : State) :
    (s.pendSelection g).slr.link = s.slr.link ∧
    (s.pendSelection g).slr.consecMissing = s.slr.consecMissing ∧
    (s.pendSelection g).slr.totalMissing = s.slr.totalMissing ∧
    (s.pendSelection g).slr.lastSeq = s.slr.lastSeq ∧
    (s.pendSelection g).slr.gapCount = s.slr.gapCount ∧
    (s.pendSelection g).slr.lastGood = s.slr.lastGood ∧
    (s.pendSelection g).slr.silenceLeft = s.slr.silenceLeft ∧
    (s.pendSelection g).slr.runPos = s.slr.runPos ∧
    (s.pendSelection g).slr.prevPosition = s.slr.prevPosition ∧
    (s.pendSelection g).slr.prevHandle = s.slr.prevHandle ∧
    (s.pendSelection g).slr.prevReady = s.slr.prevReady ∧
    (s.pendSelection g).slr.position = s.slr.position ∧
    (s.pendSelection g).slr.handle = s.slr.handle ∧ (s.pendSelection g).slr.ready = s.slr.ready ∧
    (s.pendSelection g).slr.decimation = s.slr.decimation ∧
    (s.pendSelection g).slr.takeCount = s.slr.takeCount ∧
    (s.pendSelection g).slr.batch = s.slr.batch ∧
    (s.pendSelection g).slr.droppedCount = s.slr.droppedCount := by
  dsimp only [State.pendSelection]
  split_ands <;> (repeat' split) <;> simp

@[simp] theorem State.pendSelection_store_fields (g : Nat) (s : State) :
    (s.pendSelection g).store.curves = s.store.curves ∧
    (s.pendSelection g).store.groups = s.store.groups ∧
    (s.pendSelection g).store.device = s.store.device ∧
    (s.pendSelection g).store.selection = s.store.selection ∧
    (s.pendSelection g).store.tags = s.store.tags ∧
    (s.pendSelection g).store.gates = s.store.gates ∧
    (s.pendSelection g).store.battery = s.store.battery ∧
    (s.pendSelection g).store.radio = s.store.radio ∧
    (s.pendSelection g).store.areas = s.store.areas ∧
    (s.pendSelection g).store.lastFailure = s.store.lastFailure := by
  dsimp only [State.pendSelection]
  split_ands <;> (repeat' split) <;> simp

@[simp] theorem State.pendSelection_fcu_fields (g : Nat) (s : State) :
    (s.pendSelection g).fcu.rxRadio = s.fcu.rxRadio ∧
    (s.pendSelection g).fcu.rxLocal = s.fcu.rxLocal ∧
    (s.pendSelection g).fcu.intake = s.fcu.intake ∧
    (s.pendSelection g).fcu.outRadio = s.fcu.outRadio ∧
    (s.pendSelection g).fcu.outLocal = s.fcu.outLocal ∧
    (s.pendSelection g).fcu.localQ = s.fcu.localQ ∧
    (s.pendSelection g).fcu.badRadio = s.fcu.badRadio ∧
    (s.pendSelection g).fcu.badLocal = s.fcu.badLocal ∧
    (s.pendSelection g).fcu.dropRadio = s.fcu.dropRadio ∧
    (s.pendSelection g).fcu.dropLocal = s.fcu.dropLocal ∧
    (s.pendSelection g).fcu.fwdDropped = s.fcu.fwdDropped ∧
    (s.pendSelection g).fcu.localDropped = s.fcu.localDropped ∧
    (s.pendSelection g).fcu.time = s.fcu.time ∧ (s.pendSelection g).fcu.running = s.fcu.running ∧
    (s.pendSelection g).fcu.subMs = s.fcu.subMs ∧
    (s.pendSelection g).fcu.secondTick = s.fcu.secondTick := by
  dsimp only [State.pendSelection]
  split_ands <;> (repeat' split) <;> simp

@[simp] theorem State.pendSelection_pkm_fields (g : Nat) (s : State) :
    (s.pendSelection g).pkm.response = s.pkm.response ∧
    (s.pendSelection g).pkm.routine = s.pkm.routine ∧
    (s.pendSelection g).pkm.forward = s.pkm.forward := by
  dsimp only [State.pendSelection]
  split_ands <;> (repeat' split) <;> simp

@[simp] theorem State.pendSelection_lku_fields (g : Nat) (s : State) :
    (s.pendSelection g).lku.inForce = s.lku.inForce ∧
    (s.pendSelection g).lku.staged = s.lku.staged ∧
    (s.pendSelection g).lku.countdowns = s.lku.countdowns ∧
    (s.pendSelection g).lku.handle = s.lku.handle ∧
    (s.pendSelection g).lku.handleStale = s.lku.handleStale := by
  dsimp only [State.pendSelection]
  split_ands <;> (repeat' split) <;> simp

@[simp] theorem State.clearGroup_store_fields (slot : Nat) (r : Option Reply) (s : State) :
    (s.clearGroup slot r).store.curves = s.store.curves ∧
    (s.clearGroup slot r).store.groups = s.store.groups ∧
    (s.clearGroup slot r).store.device = s.store.device ∧
    (s.clearGroup slot r).store.selection = s.store.selection ∧
    (s.clearGroup slot r).store.tags = s.store.tags ∧
    (s.clearGroup slot r).store.gates = s.store.gates ∧
    (s.clearGroup slot r).store.battery = s.store.battery ∧
    (s.clearGroup slot r).store.radio = s.store.radio ∧
    (s.clearGroup slot r).store.areas = s.store.areas ∧
    (s.clearGroup slot r).store.lastFailure = s.store.lastFailure ∧
    (s.clearGroup slot r).store.waitList = s.store.waitList := by
  dsimp only [State.clearGroup]
  split_ands <;> (repeat' split) <;> simp

@[simp] theorem State.clearGroup_fcu_fields (slot : Nat) (r : Option Reply) (s : State) :
    (s.clearGroup slot r).fcu.rxRadio = s.fcu.rxRadio ∧
    (s.clearGroup slot r).fcu.rxLocal = s.fcu.rxLocal ∧
    (s.clearGroup slot r).fcu.intake = s.fcu.intake ∧
    (s.clearGroup slot r).fcu.badRadio = s.fcu.badRadio ∧
    (s.clearGroup slot r).fcu.badLocal = s.fcu.badLocal ∧
    (s.clearGroup slot r).fcu.dropRadio = s.fcu.dropRadio ∧
    (s.clearGroup slot r).fcu.dropLocal = s.fcu.dropLocal ∧
    (s.clearGroup slot r).fcu.fwdDropped = s.fcu.fwdDropped ∧
    (s.clearGroup slot r).fcu.localDropped = s.fcu.localDropped ∧
    (s.clearGroup slot r).fcu.time = s.fcu.time ∧
    (s.clearGroup slot r).fcu.running = s.fcu.running ∧
    (s.clearGroup slot r).fcu.subMs = s.fcu.subMs ∧
    (s.clearGroup slot r).fcu.secondTick = s.fcu.secondTick := by
  dsimp only [State.clearGroup]
  split_ands <;> (repeat' split) <;> simp

@[simp] theorem State.clearGroup_pkm_fields (slot : Nat) (r : Option Reply) (s : State) :
    (s.clearGroup slot r).pkm.routine = s.pkm.routine ∧
    (s.clearGroup slot r).pkm.forward = s.pkm.forward := by
  dsimp only [State.clearGroup]
  split_ands <;> (repeat' split) <;> simp

/-! ## Operations of Machine/Arrivals.lean -/

@[simp] theorem State.tripMonitorEnd_slr_fields (s : State) :
    (s.tripMonitorEnd).slr.link = s.slr.link ∧
    (s.tripMonitorEnd).slr.consecMissing = s.slr.consecMissing ∧
    (s.tripMonitorEnd).slr.totalMissing = s.slr.totalMissing ∧
    (s.tripMonitorEnd).slr.lastSeq = s.slr.lastSeq ∧
    (s.tripMonitorEnd).slr.gapCount = s.slr.gapCount ∧
    (s.tripMonitorEnd).slr.lastGood = s.slr.lastGood ∧
    (s.tripMonitorEnd).slr.silenceLeft = s.slr.silenceLeft ∧
    (s.tripMonitorEnd).slr.runPos = s.slr.runPos ∧
    (s.tripMonitorEnd).slr.prevPosition = s.slr.prevPosition ∧
    (s.tripMonitorEnd).slr.prevHandle = s.slr.prevHandle ∧
    (s.tripMonitorEnd).slr.prevReady = s.slr.prevReady ∧
    (s.tripMonitorEnd).slr.position = s.slr.position ∧
    (s.tripMonitorEnd).slr.handle = s.slr.handle ∧ (s.tripMonitorEnd).slr.ready = s.slr.ready ∧
    (s.tripMonitorEnd).slr.decimation = s.slr.decimation ∧
    (s.tripMonitorEnd).slr.takeCount = s.slr.takeCount ∧
    (s.tripMonitorEnd).slr.batch = s.slr.batch := by
  dsimp only [State.tripMonitorEnd]
  split_ands <;> (repeat' split) <;> simp

@[simp] theorem State.tripMonitorEnd_store_fields (s : State) :
    (s.tripMonitorEnd).store.curves = s.store.curves ∧
    (s.tripMonitorEnd).store.groups = s.store.groups ∧
    (s.tripMonitorEnd).store.device = s.store.device ∧
    (s.tripMonitorEnd).store.selection = s.store.selection ∧
    (s.tripMonitorEnd).store.tags = s.store.tags ∧
    (s.tripMonitorEnd).store.gates = s.store.gates ∧
    (s.tripMonitorEnd).store.battery = s.store.battery ∧
    (s.tripMonitorEnd).store.radio = s.store.radio ∧
    (s.tripMonitorEnd).store.areas = s.store.areas ∧
    (s.tripMonitorEnd).store.lastFailure = s.store.lastFailure := by
  dsimp only [State.tripMonitorEnd]
  split_ands <;> (repeat' split) <;> simp

@[simp] theorem State.tripMonitorEnd_fcu_fields (s : State) :
    (s.tripMonitorEnd).fcu.rxRadio = s.fcu.rxRadio ∧
    (s.tripMonitorEnd).fcu.rxLocal = s.fcu.rxLocal ∧ (s.tripMonitorEnd).fcu.intake = s.fcu.intake ∧
    (s.tripMonitorEnd).fcu.outRadio = s.fcu.outRadio ∧
    (s.tripMonitorEnd).fcu.outLocal = s.fcu.outLocal ∧
    (s.tripMonitorEnd).fcu.badRadio = s.fcu.badRadio ∧
    (s.tripMonitorEnd).fcu.badLocal = s.fcu.badLocal ∧
    (s.tripMonitorEnd).fcu.dropRadio = s.fcu.dropRadio ∧
    (s.tripMonitorEnd).fcu.dropLocal = s.fcu.dropLocal ∧
    (s.tripMonitorEnd).fcu.fwdDropped = s.fcu.fwdDropped ∧
    (s.tripMonitorEnd).fcu.time = s.fcu.time ∧ (s.tripMonitorEnd).fcu.running = s.fcu.running ∧
    (s.tripMonitorEnd).fcu.subMs = s.fcu.subMs ∧
    (s.tripMonitorEnd).fcu.secondTick = s.fcu.secondTick := by
  dsimp only [State.tripMonitorEnd]
  split_ands <;> (repeat' split) <;> simp

@[simp] theorem State.tripMonitorEnd_pkm_fields (s : State) :
    (s.tripMonitorEnd).pkm.response = s.pkm.response ∧
    (s.tripMonitorEnd).pkm.forward = s.pkm.forward := by
  dsimp only [State.tripMonitorEnd]
  split_ands <;> (repeat' split) <;> simp

@[simp] theorem State.tripMonitorEnd_lku_fields (s : State) :
    (s.tripMonitorEnd).lku.inForce = s.lku.inForce ∧
    (s.tripMonitorEnd).lku.staged = s.lku.staged ∧
    (s.tripMonitorEnd).lku.countdowns = s.lku.countdowns ∧
    (s.tripMonitorEnd).lku.handle = s.lku.handle ∧
    (s.tripMonitorEnd).lku.handleStale = s.lku.handleStale := by
  dsimp only [State.tripMonitorEnd]
  split_ands <;> (repeat' split) <;> simp

@[simp] theorem State.closeMonitorEnd_slr_fields (s : State) :
    (s.closeMonitorEnd).slr.link = s.slr.link ∧
    (s.closeMonitorEnd).slr.consecMissing = s.slr.consecMissing ∧
    (s.closeMonitorEnd).slr.totalMissing = s.slr.totalMissing ∧
    (s.closeMonitorEnd).slr.lastSeq = s.slr.lastSeq ∧
    (s.closeMonitorEnd).slr.gapCount = s.slr.gapCount ∧
    (s.closeMonitorEnd).slr.lastGood = s.slr.lastGood ∧
    (s.closeMonitorEnd).slr.silenceLeft = s.slr.silenceLeft ∧
    (s.closeMonitorEnd).slr.runPos = s.slr.runPos ∧
    (s.closeMonitorEnd).slr.prevPosition = s.slr.prevPosition ∧
    (s.closeMonitorEnd).slr.prevHandle = s.slr.prevHandle ∧
    (s.closeMonitorEnd).slr.prevReady = s.slr.prevReady ∧
    (s.closeMonitorEnd).slr.position = s.slr.position ∧
    (s.closeMonitorEnd).slr.handle = s.slr.handle ∧ (s.closeMonitorEnd).slr.ready = s.slr.ready ∧
    (s.closeMonitorEnd).slr.decimation = s.slr.decimation ∧
    (s.closeMonitorEnd).slr.takeCount = s.slr.takeCount ∧
    (s.closeMonitorEnd).slr.batch = s.slr.batch := by
  dsimp only [State.closeMonitorEnd]
  split_ands <;> (repeat' split) <;> simp

@[simp] theorem State.closeMonitorEnd_store_fields (s : State) :
    (s.closeMonitorEnd).store.curves = s.store.curves ∧
    (s.closeMonitorEnd).store.groups = s.store.groups ∧
    (s.closeMonitorEnd).store.device = s.store.device ∧
    (s.closeMonitorEnd).store.selection = s.store.selection ∧
    (s.closeMonitorEnd).store.tags = s.store.tags ∧
    (s.closeMonitorEnd).store.gates = s.store.gates ∧
    (s.closeMonitorEnd).store.battery = s.store.battery ∧
    (s.closeMonitorEnd).store.radio = s.store.radio ∧
    (s.closeMonitorEnd).store.areas = s.store.areas ∧
    (s.closeMonitorEnd).store.lastFailure = s.store.lastFailure := by
  dsimp only [State.closeMonitorEnd]
  split_ands <;> (repeat' split) <;> simp

@[simp] theorem State.closeMonitorEnd_fcu_fields (s : State) :
    (s.closeMonitorEnd).fcu.rxRadio = s.fcu.rxRadio ∧
    (s.closeMonitorEnd).fcu.rxLocal = s.fcu.rxLocal ∧
    (s.closeMonitorEnd).fcu.intake = s.fcu.intake ∧
    (s.closeMonitorEnd).fcu.outRadio = s.fcu.outRadio ∧
    (s.closeMonitorEnd).fcu.outLocal = s.fcu.outLocal ∧
    (s.closeMonitorEnd).fcu.badRadio = s.fcu.badRadio ∧
    (s.closeMonitorEnd).fcu.badLocal = s.fcu.badLocal ∧
    (s.closeMonitorEnd).fcu.dropRadio = s.fcu.dropRadio ∧
    (s.closeMonitorEnd).fcu.dropLocal = s.fcu.dropLocal ∧
    (s.closeMonitorEnd).fcu.fwdDropped = s.fcu.fwdDropped ∧
    (s.closeMonitorEnd).fcu.time = s.fcu.time ∧ (s.closeMonitorEnd).fcu.running = s.fcu.running ∧
    (s.closeMonitorEnd).fcu.subMs = s.fcu.subMs ∧
    (s.closeMonitorEnd).fcu.secondTick = s.fcu.secondTick := by
  dsimp only [State.closeMonitorEnd]
  split_ands <;> (repeat' split) <;> simp

@[simp] theorem State.closeMonitorEnd_pkm_fields (s : State) :
    (s.closeMonitorEnd).pkm.response = s.pkm.response ∧
    (s.closeMonitorEnd).pkm.forward = s.pkm.forward := by
  dsimp only [State.closeMonitorEnd]
  split_ands <;> (repeat' split) <;> simp

@[simp] theorem State.closeMonitorEnd_lku_fields (s : State) :
    (s.closeMonitorEnd).lku.inForce = s.lku.inForce ∧
    (s.closeMonitorEnd).lku.staged = s.lku.staged ∧
    (s.closeMonitorEnd).lku.countdowns = s.lku.countdowns ∧
    (s.closeMonitorEnd).lku.handle = s.lku.handle ∧
    (s.closeMonitorEnd).lku.handleStale = s.lku.handleStale := by
  dsimp only [State.closeMonitorEnd]
  split_ands <;> (repeat' split) <;> simp

@[simp] theorem State.countdownEnd_store_fields (crew : Nat) (s : State) :
    (s.countdownEnd crew).store.curves = s.store.curves ∧
    (s.countdownEnd crew).store.groups = s.store.groups ∧
    (s.countdownEnd crew).store.device = s.store.device ∧
    (s.countdownEnd crew).store.selection = s.store.selection ∧
    (s.countdownEnd crew).store.tags = s.store.tags ∧
    (s.countdownEnd crew).store.gates = s.store.gates ∧
    (s.countdownEnd crew).store.battery = s.store.battery ∧
    (s.countdownEnd crew).store.radio = s.store.radio ∧
    (s.countdownEnd crew).store.areas = s.store.areas ∧
    (s.countdownEnd crew).store.lastFailure = s.store.lastFailure := by
  dsimp only [State.countdownEnd]
  split_ands <;> (repeat' split) <;> simp

@[simp] theorem State.countdownEnd_lku_fields (crew : Nat) (s : State) :
    (s.countdownEnd crew).lku.inForce = s.lku.inForce ∧
    (s.countdownEnd crew).lku.handle = s.lku.handle ∧
    (s.countdownEnd crew).lku.handleStale = s.lku.handleStale := by
  dsimp only [State.countdownEnd]
  split_ands <;> (repeat' split) <;> simp

@[simp] theorem State.sendIfPending_slr_fields (before : Disconnect) (s : State) :
    (s.sendIfPending before).slr.link = s.slr.link ∧
    (s.sendIfPending before).slr.consecMissing = s.slr.consecMissing ∧
    (s.sendIfPending before).slr.totalMissing = s.slr.totalMissing ∧
    (s.sendIfPending before).slr.lastSeq = s.slr.lastSeq ∧
    (s.sendIfPending before).slr.gapCount = s.slr.gapCount ∧
    (s.sendIfPending before).slr.lastGood = s.slr.lastGood ∧
    (s.sendIfPending before).slr.silenceLeft = s.slr.silenceLeft ∧
    (s.sendIfPending before).slr.runPos = s.slr.runPos ∧
    (s.sendIfPending before).slr.prevPosition = s.slr.prevPosition ∧
    (s.sendIfPending before).slr.prevHandle = s.slr.prevHandle ∧
    (s.sendIfPending before).slr.prevReady = s.slr.prevReady ∧
    (s.sendIfPending before).slr.position = s.slr.position ∧
    (s.sendIfPending before).slr.handle = s.slr.handle ∧
    (s.sendIfPending before).slr.ready = s.slr.ready ∧
    (s.sendIfPending before).slr.decimation = s.slr.decimation ∧
    (s.sendIfPending before).slr.takeCount = s.slr.takeCount ∧
    (s.sendIfPending before).slr.batch = s.slr.batch := by
  dsimp only [State.sendIfPending]
  split_ands <;> (repeat' split) <;> simp

@[simp] theorem State.sendIfPending_store_fields (before : Disconnect) (s : State) :
    (s.sendIfPending before).store.curves = s.store.curves ∧
    (s.sendIfPending before).store.groups = s.store.groups ∧
    (s.sendIfPending before).store.device = s.store.device ∧
    (s.sendIfPending before).store.selection = s.store.selection ∧
    (s.sendIfPending before).store.tags = s.store.tags ∧
    (s.sendIfPending before).store.gates = s.store.gates ∧
    (s.sendIfPending before).store.battery = s.store.battery ∧
    (s.sendIfPending before).store.radio = s.store.radio ∧
    (s.sendIfPending before).store.areas = s.store.areas ∧
    (s.sendIfPending before).store.lastFailure = s.store.lastFailure := by
  dsimp only [State.sendIfPending]
  split_ands <;> (repeat' split) <;> simp

@[simp] theorem State.sendIfPending_fcu_fields (before : Disconnect) (s : State) :
    (s.sendIfPending before).fcu.rxRadio = s.fcu.rxRadio ∧
    (s.sendIfPending before).fcu.rxLocal = s.fcu.rxLocal ∧
    (s.sendIfPending before).fcu.intake = s.fcu.intake ∧
    (s.sendIfPending before).fcu.outRadio = s.fcu.outRadio ∧
    (s.sendIfPending before).fcu.outLocal = s.fcu.outLocal ∧
    (s.sendIfPending before).fcu.badRadio = s.fcu.badRadio ∧
    (s.sendIfPending before).fcu.badLocal = s.fcu.badLocal ∧
    (s.sendIfPending before).fcu.dropRadio = s.fcu.dropRadio ∧
    (s.sendIfPending before).fcu.dropLocal = s.fcu.dropLocal ∧
    (s.sendIfPending before).fcu.fwdDropped = s.fcu.fwdDropped ∧
    (s.sendIfPending before).fcu.time = s.fcu.time ∧
    (s.sendIfPending before).fcu.running = s.fcu.running ∧
    (s.sendIfPending before).fcu.subMs = s.fcu.subMs ∧
    (s.sendIfPending before).fcu.secondTick = s.fcu.secondTick := by
  dsimp only [State.sendIfPending]
  split_ands <;> (repeat' split) <;> simp

@[simp] theorem State.sendIfPending_pkm_fields (before : Disconnect) (s : State) :
    (s.sendIfPending before).pkm.response = s.pkm.response ∧
    (s.sendIfPending before).pkm.forward = s.pkm.forward := by
  dsimp only [State.sendIfPending]
  split_ands <;> (repeat' split) <;> simp

@[simp] theorem State.sendIfPending_lku_fields (before : Disconnect) (s : State) :
    (s.sendIfPending before).lku.inForce = s.lku.inForce ∧
    (s.sendIfPending before).lku.staged = s.lku.staged ∧
    (s.sendIfPending before).lku.countdowns = s.lku.countdowns ∧
    (s.sendIfPending before).lku.handle = s.lku.handle ∧
    (s.sendIfPending before).lku.handleStale = s.lku.handleStale := by
  dsimp only [State.sendIfPending]
  split_ands <;> (repeat' split) <;> simp

@[simp] theorem State.secondEnd_slr_fields (s : State) :
    (s.secondEnd).slr.link = s.slr.link ∧ (s.secondEnd).slr.consecMissing = s.slr.consecMissing ∧
    (s.secondEnd).slr.totalMissing = s.slr.totalMissing ∧
    (s.secondEnd).slr.lastSeq = s.slr.lastSeq ∧ (s.secondEnd).slr.gapCount = s.slr.gapCount ∧
    (s.secondEnd).slr.lastGood = s.slr.lastGood ∧
    (s.secondEnd).slr.silenceLeft = s.slr.silenceLeft ∧ (s.secondEnd).slr.runPos = s.slr.runPos ∧
    (s.secondEnd).slr.prevPosition = s.slr.prevPosition ∧
    (s.secondEnd).slr.prevHandle = s.slr.prevHandle ∧
    (s.secondEnd).slr.prevReady = s.slr.prevReady ∧ (s.secondEnd).slr.position = s.slr.position ∧
    (s.secondEnd).slr.handle = s.slr.handle ∧ (s.secondEnd).slr.ready = s.slr.ready ∧
    (s.secondEnd).slr.decimation = s.slr.decimation ∧
    (s.secondEnd).slr.takeCount = s.slr.takeCount ∧ (s.secondEnd).slr.batch = s.slr.batch := by
  dsimp only [State.secondEnd]
  split_ands <;> simp

@[simp] theorem State.secondEnd_store_fields (s : State) :
    (s.secondEnd).store.curves = s.store.curves ∧ (s.secondEnd).store.groups = s.store.groups ∧
    (s.secondEnd).store.device = s.store.device ∧
    (s.secondEnd).store.selection = s.store.selection ∧ (s.secondEnd).store.tags = s.store.tags ∧
    (s.secondEnd).store.gates = s.store.gates ∧ (s.secondEnd).store.battery = s.store.battery ∧
    (s.secondEnd).store.radio = s.store.radio ∧ (s.secondEnd).store.areas = s.store.areas ∧
    (s.secondEnd).store.lastFailure = s.store.lastFailure := by
  dsimp only [State.secondEnd]
  split_ands <;> simp

@[simp] theorem State.secondEnd_fcu_fields (s : State) :
    (s.secondEnd).fcu.rxRadio = s.fcu.rxRadio ∧ (s.secondEnd).fcu.rxLocal = s.fcu.rxLocal ∧
    (s.secondEnd).fcu.intake = s.fcu.intake ∧ (s.secondEnd).fcu.outRadio = s.fcu.outRadio ∧
    (s.secondEnd).fcu.outLocal = s.fcu.outLocal ∧ (s.secondEnd).fcu.badRadio = s.fcu.badRadio ∧
    (s.secondEnd).fcu.badLocal = s.fcu.badLocal ∧ (s.secondEnd).fcu.dropRadio = s.fcu.dropRadio ∧
    (s.secondEnd).fcu.dropLocal = s.fcu.dropLocal ∧
    (s.secondEnd).fcu.fwdDropped = s.fcu.fwdDropped ∧ (s.secondEnd).fcu.time = s.fcu.time ∧
    (s.secondEnd).fcu.running = s.fcu.running ∧ (s.secondEnd).fcu.subMs = s.fcu.subMs ∧
    (s.secondEnd).fcu.secondTick = s.fcu.secondTick := by
  dsimp only [State.secondEnd]
  split_ands <;> simp

@[simp] theorem State.secondEnd_pkm_fields (s : State) :
    (s.secondEnd).pkm.response = s.pkm.response ∧ (s.secondEnd).pkm.forward = s.pkm.forward := by
  dsimp only [State.secondEnd]
  split_ands <;> simp

@[simp] theorem State.secondEnd_lku_fields (s : State) :
    (s.secondEnd).lku.inForce = s.lku.inForce ∧ (s.secondEnd).lku.staged = s.lku.staged ∧
    (s.secondEnd).lku.countdowns = s.lku.countdowns ∧ (s.secondEnd).lku.handle = s.lku.handle ∧
    (s.secondEnd).lku.handleStale = s.lku.handleStale := by
  dsimp only [State.secondEnd]
  split_ands <;> simp

@[simp] theorem State.hourEnd_slr_fields (s : State) :
    (s.hourEnd).slr.link = s.slr.link ∧ (s.hourEnd).slr.consecMissing = s.slr.consecMissing ∧
    (s.hourEnd).slr.totalMissing = s.slr.totalMissing ∧ (s.hourEnd).slr.lastSeq = s.slr.lastSeq ∧
    (s.hourEnd).slr.gapCount = s.slr.gapCount ∧ (s.hourEnd).slr.lastGood = s.slr.lastGood ∧
    (s.hourEnd).slr.silenceLeft = s.slr.silenceLeft ∧ (s.hourEnd).slr.runPos = s.slr.runPos ∧
    (s.hourEnd).slr.prevPosition = s.slr.prevPosition ∧
    (s.hourEnd).slr.prevHandle = s.slr.prevHandle ∧ (s.hourEnd).slr.prevReady = s.slr.prevReady ∧
    (s.hourEnd).slr.position = s.slr.position ∧ (s.hourEnd).slr.handle = s.slr.handle ∧
    (s.hourEnd).slr.ready = s.slr.ready ∧ (s.hourEnd).slr.decimation = s.slr.decimation ∧
    (s.hourEnd).slr.takeCount = s.slr.takeCount ∧ (s.hourEnd).slr.batch = s.slr.batch := by
  dsimp only [State.hourEnd]
  split_ands <;> (repeat' split) <;> simp

@[simp] theorem State.hourEnd_fcu_fields (s : State) :
    (s.hourEnd).fcu.rxRadio = s.fcu.rxRadio ∧ (s.hourEnd).fcu.rxLocal = s.fcu.rxLocal ∧
    (s.hourEnd).fcu.intake = s.fcu.intake ∧ (s.hourEnd).fcu.outRadio = s.fcu.outRadio ∧
    (s.hourEnd).fcu.outLocal = s.fcu.outLocal ∧ (s.hourEnd).fcu.badRadio = s.fcu.badRadio ∧
    (s.hourEnd).fcu.badLocal = s.fcu.badLocal ∧ (s.hourEnd).fcu.dropRadio = s.fcu.dropRadio ∧
    (s.hourEnd).fcu.dropLocal = s.fcu.dropLocal ∧ (s.hourEnd).fcu.fwdDropped = s.fcu.fwdDropped ∧
    (s.hourEnd).fcu.time = s.fcu.time ∧ (s.hourEnd).fcu.running = s.fcu.running ∧
    (s.hourEnd).fcu.subMs = s.fcu.subMs ∧ (s.hourEnd).fcu.secondTick = s.fcu.secondTick := by
  dsimp only [State.hourEnd]
  split_ands <;> (repeat' split) <;> simp

@[simp] theorem State.hourEnd_pkm_fields (s : State) :
    (s.hourEnd).pkm.response = s.pkm.response ∧ (s.hourEnd).pkm.forward = s.pkm.forward := by
  dsimp only [State.hourEnd]
  split_ands <;> (repeat' split) <;> simp

end Sys2Proof.Machine
end

