-- ==== Sys2Proof/Laws/Events.lean ====
section
/-! SUPPORT. What an event comes to (R151 to R161): its effect on the reports and on packet memory
depends on the reports, packet memory, the frame and command unit and the store alone. -/

namespace Sys2Proof.Machine

variable {s s' : State}

@[simp] theorem State.setUrgent_pkm (q : List Report) (s : State) :
    (s.setUrgent q).pkm = { s.pkm with urgent := q } := by
  dsimp only [State.setUrgent]
  split <;> simp

/-- What sealing an URGENT record makes of RPB and PKM (R159). -/
theorem sealUrgent_congr (hr : s.rpb = s'.rpb) (hp : s.pkm = s'.pkm) (hs : s.store = s'.store) :
    s.sealUrgent.rpb = s'.sealUrgent.rpb ∧ s.sealUrgent.pkm = s'.sealUrgent.pkm := by
  simp only [State.sealUrgent, hr, hp, hs]
  cases h : s'.rpb.urgent with
  | none => simp [hr, hp]
  | some g => split_ands <;> simp only <;> split <;> simp [hr, hp]

/-- What sealing a ROUTINE record makes of RPB and PKM (R160). -/
theorem sealRoutine_congr (hr : s.rpb = s'.rpb) (hp : s.pkm = s'.pkm) (hs : s.store = s'.store) :
    s.sealRoutine.rpb = s'.sealRoutine.rpb ∧ s.sealRoutine.pkm = s'.sealRoutine.pkm := by
  have hroom : ∀ n, hasRoom s .routine n = hasRoom s' .routine n := by
    intro n
    rw [hasRoom, hasRoom, freeWords, freeWords, hp, hs]
  simp only [State.sealRoutine, hroom, hr, hp]
  cases h : s'.rpb.routine with
  | none => simp [hr, hp]
  | some g =>
    cases hh : hasRoom s' .routine (reportWords g.entries.length) <;> simp [hr, hp, hh]

/-- What an event makes of RPB and PKM depends on four blocks alone. -/
theorem emit_congr (hr : s.rpb = s'.rpb) (hp : s.pkm = s'.pkm) (hf : s.fcu = s'.fcu)
    (hs : s.store = s'.store) (e : Event) :
    (s.emit e).rpb = (s'.emit e).rpb ∧ (s.emit e).pkm = (s'.emit e).pkm := by
  have hj : joined s e = joined s' e := by simp [joined, hr, hf, hs]
  simp only [State.emit, hj]
  split
  · cases eventClass e
    · exact sealUrgent_congr (by simp [hr]) (by simpa using hp) (by simpa using hs)
    · exact sealRoutine_congr (by simp [hr]) (by simpa using hp) (by simpa using hs)
  · simp [hr, hp]

/-- An event recorded in a state that differs elsewhere is recorded alike. -/
theorem emitted_of_emit (hr : s'.rpb = s.rpb) (hp : s'.pkm = s.pkm) (hf : s'.fcu = s.fcu)
    (hs : s'.store = s.store) {e : Event} {t : State} (h1 : t.rpb = (s'.emit e).rpb)
    (h2 : t.pkm = (s'.emit e).pkm) : Emitted s e t := by
  obtain ⟨a, b⟩ := emit_congr hr hp hf hs e
  exact ⟨h1.trans a, h2.trans b⟩

end Sys2Proof.Machine
end

