-- ==== Sys2Proof/Laws/Reservations.lean ====
section
/-! SUPPORT. The places reserved for local responses (R183, R186): every operation but the making
and the filling of a reservation leaves their number. -/

namespace Sys2Proof.Machine

/-- The reserved places of the local transmit queue. -/
def State.reserved (s : State) : Nat := s.fcu.localQ.count .reservation

theorem removeSample_reserved (q : List LocalItem) :
    ∀ n r, removeSample q = some (n, r) → r.count .reservation = q.count .reservation := by
  induction q with
  | nil => simp [removeSample]
  | cons i q ih =>
    intro n r h
    simp only [removeSample] at h
    split at h
    · rename_i hi
      obtain ⟨-, rfl⟩ : i.carried = n ∧ q = r := by simpa using h
      cases i with
      | reservation => simp [LocalItem.isSample] at hi
      | frame k f c => simp
    · cases hr : removeSample q with
      | none => simp [hr] at h
      | some v =>
        obtain ⟨m, q'⟩ := v
        obtain ⟨-, rfl⟩ : m = n ∧ i :: q' = r := by simpa [hr] using h
        simp [List.count_cons, ih m q' hr]

theorem removeOldestSample_reserved {q r : List LocalItem} {n : Nat}
    (h : removeOldestSample q = some (n, r)) : r.count .reservation = q.count .reservation := by
  cases q with
  | nil => simp [removeOldestSample] at h
  | cons i q =>
    simp only [removeOldestSample] at h
    cases hr : removeSample q with
    | none => simp [hr] at h
    | some v =>
      obtain ⟨m, q'⟩ := v
      obtain ⟨-, rfl⟩ : m = n ∧ i :: q' = r := by simpa [hr] using h
      simp [List.count_cons, removeSample_reserved q m q' hr]

@[simp] theorem State.localPut_frame_reserved (k : LocalKind) (f : Frame) (n : Nat) (s : State) :
    (s.localPut (.frame k f n)).reserved = s.reserved := by
  dsimp only [State.localPut]
  split
  · simp [State.reserved]
  · split
    · rename_i h
      simp [State.reserved, removeOldestSample_reserved h]
    · rfl

/-- A room that R183 has found is given to the reservation. -/
theorem State.localReserve_reserved {s : State} (h : localRoom s.fcu.localQ = true) :
    s.localReserve.reserved = s.reserved + 1 := by
  dsimp only [State.localReserve, State.localPut]
  split
  · simp [State.reserved]
  · split
    · rename_i h
      simp [State.reserved, removeOldestSample_reserved h]
    · rename_i h1 _ h2
      simp [localRoom, h1, h2] at h

/-! ## Block updates -/

@[simp] theorem State.modSlr_reserved (f : Slr → Slr) (s : State) : (s.modSlr f).reserved = s.reserved := rfl
@[simp] theorem State.modMeu_reserved (f : Meu → Meu) (s : State) : (s.modMeu f).reserved = s.reserved := rfl
@[simp] theorem State.modEle_reserved (f : Ele → Ele) (s : State) : (s.modEle f).reserved = s.reserved := rfl
@[simp] theorem State.modStore_reserved (f : Store → Store) (s : State) : (s.modStore f).reserved = s.reserved := rfl
@[simp] theorem State.modSets_reserved (f : Sets → Sets) (s : State) : (s.modSets f).reserved = s.reserved := rfl
@[simp] theorem State.modSeq_reserved (f : Seq → Seq) (s : State) : (s.modSeq f).reserved = s.reserved := rfl
@[simp] theorem State.modDrv_reserved (f : Drv → Drv) (s : State) : (s.modDrv f).reserved = s.reserved := rfl
@[simp] theorem State.modLku_reserved (f : Lku → Lku) (s : State) : (s.modLku f).reserved = s.reserved := rfl
@[simp] theorem State.modBat_reserved (f : Bat → Bat) (s : State) : (s.modBat f).reserved = s.reserved := rfl
@[simp] theorem State.modSup_reserved (f : Sup → Sup) (s : State) : (s.modSup f).reserved = s.reserved := rfl
@[simp] theorem State.modRpb_reserved (f : Rpb → Rpb) (s : State) : (s.modRpb f).reserved = s.reserved := rfl
@[simp] theorem State.modPkm_reserved (f : Pkm → Pkm) (s : State) : (s.modPkm f).reserved = s.reserved := rfl
@[simp] theorem State.modRpc_reserved (f : Rpc → Rpc) (s : State) : (s.modRpc f).reserved = s.reserved := rfl
@[simp] theorem State.modLines_reserved (f : Lines → Lines) (s : State) : (s.modLines f).reserved = s.reserved := rfl
@[simp] theorem State.modPart_reserved (f : Part → Part) (s : State) : (s.modPart f).reserved = s.reserved := rfl

/-! ## Operations -/

@[simp] theorem State.addDropped_reserved (n : Nat) (s : State) :
    (s.addDropped n).reserved = s.reserved := by
  simp [State.reserved]

@[simp] theorem State.localSend_reserved (k : LocalKind) (f : Frame) (s : State) :
    (s.localSend k f).reserved = s.reserved := by
  dsimp only [State.localSend]
  split
  · simp
  · simp [State.reserved]

@[simp] theorem State.localSample_reserved (f : Frame) (s : State) :
    (s.localSample f).reserved = s.reserved := by
  dsimp only [State.localSample]
  split <;> simp [State.reserved]

@[simp] theorem State.localSent_reserved (s : State) :
    (s.localSent).reserved = s.reserved := by
  dsimp only [State.localSent]
  split
  · rename_i h
    simp [State.reserved, h]
  · rfl

@[simp] theorem State.appendResponse_reserved (f : Frame) (s : State) :
    (s.appendResponse f).reserved = s.reserved := by
  dsimp only [State.appendResponse]
  (repeat' split) <;> simp [State.reserved]

@[simp] theorem State.appendForward_reserved (f : Frame) (s : State) :
    (s.appendForward f).reserved = s.reserved := by
  dsimp only [State.appendForward]
  (repeat' split) <;> simp [State.reserved]

@[simp] theorem State.rpcGoto_reserved (st : RadioState) (s : State) :
    (s.rpcGoto st).reserved = s.reserved := by
  simp [State.reserved]

@[simp] theorem State.lookCandidate_reserved (s : State) :
    (s.lookCandidate).reserved = s.reserved := by
  simp [State.reserved]

@[simp] theorem State.rpcListen_reserved (s : State) :
    (s.rpcListen).reserved = s.reserved := by
  simp [State.reserved]

@[simp] theorem State.setUrgent_reserved (q : List Report) (s : State) :
    (s.setUrgent q).reserved = s.reserved := by
  simp [State.reserved]

@[simp] theorem State.acknowledge_reserved (n : Nat) (s : State) :
    (s.acknowledge n).reserved = s.reserved := by
  simp [State.reserved]

@[simp] theorem State.countAbandon_reserved (s : State) :
    (s.countAbandon).reserved = s.reserved := by
  simp [State.reserved]

@[simp] theorem State.rpcRest_reserved (s : State) :
    (s.rpcRest).reserved = s.reserved := by
  simp [State.reserved]

@[simp] theorem State.sealUrgent_reserved (s : State) :
    (s.sealUrgent).reserved = s.reserved := by
  dsimp only [State.sealUrgent]
  (repeat' split) <;> simp

@[simp] theorem State.sealRoutine_reserved (s : State) :
    (s.sealRoutine).reserved = s.reserved := by
  dsimp only [State.sealRoutine]
  (repeat' split) <;> simp

@[simp] theorem State.sealClass_reserved (c : ReportClass) (s : State) :
    (s.sealClass c).reserved = s.reserved := by
  dsimp only [State.sealClass]
  (repeat' split) <;> simp

@[simp] theorem State.emit_reserved (e : Event) (s : State) :
    (s.emit e).reserved = s.reserved := by
  dsimp only [State.emit]
  (repeat' split) <;> simp

@[simp] theorem State.chargerPins_reserved (s : State) :
    (s.chargerPins).reserved = s.reserved := by
  simp [State.reserved]

@[simp] theorem State.setCharger_reserved (st : Charger) (s : State) :
    (s.setCharger st).reserved = s.reserved := by
  simp [State.reserved]

@[simp] theorem State.enterFault_reserved (s : State) :
    (s.enterFault).reserved = s.reserved := by
  dsimp only [State.enterFault]
  simp

@[simp] theorem State.radioGranted_reserved (s : State) :
    (s.radioGranted).reserved = s.reserved := by
  simp [State.reserved]

@[simp] theorem State.loadGranted_reserved (s : State) :
    (s.loadGranted).reserved = s.reserved := by
  simp [State.reserved]

@[simp] theorem State.offer_reserved (r : Requester) (s : State) :
    (s.offer r).reserved = s.reserved := by
  simp [State.reserved]

@[simp] theorem State.grantDecision_reserved (n : Nat) (s : State) :
    (s.grantDecision n).reserved = s.reserved := by
  simp [State.reserved]

@[simp] theorem State.decide3_reserved (s : State) :
    (s.decide3).reserved = s.reserved := by
  simp [State.reserved]

@[simp] theorem State.giveBack_reserved (r : Requester) (s : State) :
    (s.giveBack r).reserved = s.reserved := by
  simp [State.reserved]

@[simp] theorem State.release_reserved (r : Requester) (s : State) :
    (s.release r).reserved = s.reserved := by
  simp [State.reserved]

@[simp] theorem State.ask_reserved (r : Requester) (s : State) :
    (s.ask r).reserved = s.reserved := by
  simp [State.reserved]

@[simp] theorem State.startTest_reserved (c : StartCause) (s : State) :
    (s.startTest c).reserved = s.reserved := by
  simp [State.reserved]

@[simp] theorem State.dueCheck_reserved (s : State) :
    (s.dueCheck).reserved = s.reserved := by
  simp [State.reserved]

@[simp] theorem State.chargerTo_reserved (st : Charger) (s : State) :
    (s.chargerTo st).reserved = s.reserved := by
  simp [State.reserved]

@[simp] theorem State.chargerTestEnded_reserved (s : State) :
    (s.chargerTestEnded).reserved = s.reserved := by
  dsimp only [State.chargerTestEnded]
  (repeat' split) <;> simp

@[simp] theorem State.countVerdict_reserved (v : Verdict) (r : Option Nat) (s : State) :
    (s.countVerdict v r).reserved = s.reserved := by
  dsimp only [State.countVerdict]
  (repeat' split) <;> simp

@[simp] theorem State.endTest_reserved (v : Verdict) (v1 dI : Option Int) (r : Option Nat) (s : State) :
    (s.endTest v v1 dI r).reserved = s.reserved := by
  dsimp only [State.endTest]
  simp

@[simp] theorem State.dropLoad_reserved (s : State) :
    (s.dropLoad).reserved = s.reserved := by
  simp [State.reserved]

@[simp] theorem State.abortTest_reserved (s : State) :
    (s.abortTest).reserved = s.reserved := by
  dsimp only [State.abortTest]
  (repeat' split) <;> simp

@[simp] theorem State.suspendTest_reserved (s : State) :
    (s.suspendTest).reserved = s.reserved := by
  simp [State.reserved]

@[simp] theorem State.batAsked_reserved (s : State) :
    (s.batAsked).reserved = s.reserved := by
  dsimp only [State.batAsked]
  (repeat' split) <;> simp

@[simp] theorem State.rpcAsked_reserved (s : State) :
    (s.rpcAsked).reserved = s.reserved := by
  simp [State.reserved]

@[simp] theorem State.askRelease_reserved (r : Requester) (s : State) :
    (s.askRelease r).reserved = s.reserved := by
  dsimp only [State.askRelease]
  (repeat' split) <;> simp

@[simp] theorem State.preempt_reserved (r : Requester) (s : State) :
    (s.preempt r).reserved = s.reserved := by
  dsimp only [State.preempt]
  (repeat' split) <;> simp

@[simp] theorem State.request_reserved (r : Requester) (s : State) :
    (s.request r).reserved = s.reserved := by
  dsimp only [State.request]
  (repeat' split) <;> simp

@[simp] theorem State.supLost_reserved (s : State) :
    (s.supLost).reserved = s.reserved := by
  dsimp only [State.supLost]
  (repeat' split) <;> simp

@[simp] theorem State.offerWaiting_reserved (r : Requester) (s : State) :
    (s.offerWaiting r).reserved = s.reserved := by
  simp [State.reserved]

@[simp] theorem State.supBack_reserved (s : State) :
    (s.supBack).reserved = s.reserved := by
  simp [State.reserved]

@[simp] theorem State.supSupply_reserved (present : Bool) (s : State) :
    (s.supSupply present).reserved = s.reserved := by
  dsimp only [State.supSupply]
  (repeat' split) <;> simp

@[simp] theorem State.supShed_reserved (level : Nat) (s : State) :
    (s.supShed level).reserved = s.reserved := by
  dsimp only [State.supShed]
  (repeat' split) <;> simp

@[simp] theorem State.rpcWithdraw_reserved (st : RadioState) (s : State) :
    (s.rpcWithdraw st).reserved = s.reserved := by
  simp [State.reserved]

@[simp] theorem State.rpcWake_reserved (s : State) :
    (s.rpcWake).reserved = s.reserved := by
  simp [State.reserved]

@[simp] theorem State.rpcPower_reserved (s : State) :
    (s.rpcPower).reserved = s.reserved := by
  simp [State.reserved]

@[simp] theorem State.rpcDropUnsolicited_reserved (s : State) :
    (s.rpcDropUnsolicited).reserved = s.reserved := by
  simp [State.reserved]

@[simp] theorem State.rpcShed_reserved (level : Nat) (s : State) :
    (s.rpcShed level).reserved = s.reserved := by
  simp [State.reserved]

@[simp] theorem State.modemLost_reserved (s : State) :
    (s.modemLost).reserved = s.reserved := by
  simp [State.reserved]

@[simp] theorem State.modemRise_reserved (s : State) :
    (s.modemRise).reserved = s.reserved := by
  simp [State.reserved]

@[simp] theorem State.modemFall_reserved (s : State) :
    (s.modemFall).reserved = s.reserved := by
  simp [State.reserved]

@[simp] theorem State.modemChange_reserved (level : Bool) (s : State) :
    (s.modemChange level).reserved = s.reserved := by
  simp [State.reserved]

@[simp] theorem State.carrierChange_reserved (level : Bool) (s : State) :
    (s.carrierChange level).reserved = s.reserved := by
  simp [State.reserved]

@[simp] theorem State.updateSetpoints_reserved (s : State) :
    (s.updateSetpoints).reserved = s.reserved := by
  simp [State.reserved]

@[simp] theorem State.evalFault_reserved (s : State) :
    (s.evalFault).reserved = s.reserved := by
  dsimp only [State.evalFault]
  (repeat' split) <;> simp

@[simp] theorem State.setShed_reserved (level : Nat) (s : State) :
    (s.setShed level).reserved = s.reserved := by
  dsimp only [State.setShed]
  (repeat' split) <;> simp

@[simp] theorem State.evalShed_reserved (s : State) :
    (s.evalShed).reserved = s.reserved := by
  dsimp only [State.evalShed]
  (repeat' split) <;> simp

@[simp] theorem State.profileSoc_reserved (soc : Nat) (s : State) :
    (s.profileSoc soc).reserved = s.reserved := by
  simp [State.reserved]

@[simp] theorem State.setQ_reserved (q : Nat) (s : State) :
    (s.setQ q).reserved = s.reserved := by
  simp [State.setQ]

@[simp] theorem State.updateQ_reserved (q : Nat) (s : State) :
    (s.updateQ q).reserved = s.reserved := by
  dsimp only [State.updateQ]
  simp

@[simp] theorem State.chargeSecond_reserved (i : Option Int) (s : State) :
    (s.chargeSecond i).reserved = s.reserved := by
  dsimp only [State.chargeSecond]
  (repeat' split) <;> simp

@[simp] theorem State.enterFloat_reserved (s : State) :
    (s.enterFloat).reserved = s.reserved := by
  dsimp only [State.enterFloat]
  (repeat' split) <;> simp

@[simp] theorem State.chargerSecond_reserved (v i : Option Int) (s : State) :
    (s.chargerSecond v i).reserved = s.reserved := by
  dsimp only [State.chargerSecond]
  (repeat' split) <;> simp

@[simp] theorem State.secondMeans_reserved (v i : Option Int) (s : State) :
    (s.secondMeans v i).reserved = s.reserved := by
  dsimp only [State.secondMeans]
  (repeat' split) <;> simp

@[simp] theorem State.absorbDone_reserved (s : State) :
    (s.absorbDone).reserved = s.reserved := by
  dsimp only [State.absorbDone]
  (repeat' split) <;> simp

@[simp] theorem State.recoveryDone_reserved (s : State) :
    (s.recoveryDone).reserved = s.reserved := by
  simp [State.reserved]

@[simp] theorem State.intervalElapsed_reserved (s : State) :
    (s.intervalElapsed).reserved = s.reserved := by
  simp [State.reserved]

@[simp] theorem State.retryElapsed_reserved (s : State) :
    (s.retryElapsed).reserved = s.reserved := by
  simp [State.reserved]

@[simp] theorem State.settleDone_reserved (s : State) :
    (s.settleDone).reserved = s.reserved := by
  dsimp only [State.settleDone]
  (repeat' split) <;> simp

@[simp] theorem State.loadDone_reserved (s : State) :
    (s.loadDone).reserved = s.reserved := by
  dsimp only [State.loadDone]
  (repeat' split) <;> simp

@[simp] theorem State.cancelTest_reserved (s : State) :
    (s.cancelTest).reserved = s.reserved := by
  dsimp only [State.cancelTest]
  simp

@[simp] theorem State.takeAux_reserved (pos raw : Nat) (s : State) :
    (s.takeAux pos raw).reserved = s.reserved := by
  dsimp only [State.takeAux]
  (repeat' split) <;> simp

@[simp] theorem State.notifySupply_reserved (present : Bool) (s : State) :
    (s.notifySupply present).reserved = s.reserved := by
  dsimp only [State.notifySupply]
  (repeat' split) <;> simp

@[simp] theorem State.takeSupplyAbsent_reserved (s : State) :
    (s.takeSupplyAbsent).reserved = s.reserved := by
  dsimp only [State.takeSupplyAbsent]
  (repeat' split) <;> simp

@[simp] theorem State.cancelDisconnect_reserved (s : State) :
    (s.cancelDisconnect).reserved = s.reserved := by
  simp [State.reserved]

@[simp] theorem State.takeSupplyPresent_reserved (s : State) :
    (s.takeSupplyPresent).reserved = s.reserved := by
  dsimp only [State.takeSupplyPresent]
  (repeat' split) <;> simp

@[simp] theorem State.takeSupply_reserved (s : State) :
    (s.takeSupply).reserved = s.reserved := by
  dsimp only [State.takeSupply]
  (repeat' split) <;> simp

@[simp] theorem State.supplyEdge_reserved (level : Bool) (s : State) :
    (s.supplyEdge level).reserved = s.reserved := by
  simp [State.reserved]

@[simp] theorem State.assertLvd_reserved (s : State) :
    (s.assertLvd).reserved = s.reserved := by
  simp [State.reserved]

@[simp] theorem State.enterPending_reserved (s : State) :
    (s.enterPending).reserved = s.reserved := by
  dsimp only [State.enterPending]
  (repeat' split) <;> simp

@[simp] theorem State.qualify_reserved (v : Option Int) (s : State) :
    (s.qualify v).reserved = s.reserved := by
  dsimp only [State.qualify]
  (repeat' split) <;> simp

@[simp] theorem State.startStore_reserved (b : StoreBody) (r : Option Reply) (s : State) :
    (s.startStore b r).reserved = s.reserved := by
  simp [State.reserved]

@[simp] theorem State.startInternal_reserved (t : InternalTable) (r : Option Reply) (s : State) :
    (s.startInternal t r).reserved = s.reserved := by
  simp [State.reserved]

@[simp] theorem State.requestStore_reserved (t : InternalTable) (r : Option Reply) (s : State) :
    (s.requestStore t r).reserved = s.reserved := by
  simp [State.reserved]

@[simp] theorem State.storeFree_reserved (s : State) :
    (s.storeFree).reserved = s.reserved := by
  simp [State.reserved]

@[simp] theorem State.raiseRecharge_reserved (s : State) :
    (s.raiseRecharge).reserved = s.reserved := by
  dsimp only [State.raiseRecharge]
  (repeat' split) <;> simp

@[simp] theorem State.lowerRecharge_reserved (s : State) :
    (s.lowerRecharge).reserved = s.reserved := by
  simp [State.reserved]

@[simp] theorem State.drvCap_reserved (v : Nat) (stale : Bool) (s : State) :
    (s.drvCap v stale).reserved = s.reserved := by
  dsimp only [State.drvCap]
  (repeat' split) <;> simp

@[simp] theorem State.endOp_reserved (st : DriveState) (out : OpOutcome) (c : Coil) (s : State) :
    (s.endOp st out c).reserved = s.reserved := by
  simp [State.reserved]

@[simp] theorem State.snapFailure_reserved (k : FailKind) (s : State) :
    (s.snapFailure k).reserved = s.reserved := by
  simp [State.reserved]

@[simp] theorem State.startTrip_reserved (c : TripCause) (s : State) :
    (s.startTrip c).reserved = s.reserved := by
  simp [State.reserved]

@[simp] theorem State.abandonClose_reserved (c : AbandonCause) (s : State) :
    (s.abandonClose c).reserved = s.reserved := by
  dsimp only [State.abandonClose]
  (repeat' split) <;> simp

@[simp] theorem State.tripAtOnce_reserved (c : TripCause) (s : State) :
    (s.tripAtOnce c).reserved = s.reserved := by
  simp [State.reserved]

@[simp] theorem State.tripFree_reserved (c : TripCause) (s : State) :
    (s.tripFree c).reserved = s.reserved := by
  dsimp only [State.tripFree]
  simp

@[simp] theorem State.drvTrip_reserved (c : TripCause) (s : State) :
    (s.drvTrip c).reserved = s.reserved := by
  dsimp only [State.drvTrip]
  (repeat' split) <;> simp

@[simp] theorem State.drvClose_reserved (c : CloseCause) (s : State) :
    (s.drvClose c).reserved = s.reserved := by
  simp [State.reserved]

@[simp] theorem State.drvViews_reserved (d : Delivery) (s : State) :
    (s.drvViews d).reserved = s.reserved := by
  simp [State.reserved]

@[simp] theorem State.drvTripDone_reserved (s : State) :
    (s.drvTripDone).reserved = s.reserved := by
  simp [State.reserved]

@[simp] theorem State.drvCloseDone_reserved (s : State) :
    (s.drvCloseDone).reserved = s.reserved := by
  simp [State.reserved]

@[simp] theorem State.firstPeriod_reserved (s : State) :
    (s.firstPeriod).reserved = s.reserved := by
  dsimp only [State.firstPeriod]
  (repeat' split) <;> simp

@[simp] theorem State.drvHalt_reserved (s : State) :
    (s.drvHalt).reserved = s.reserved := by
  dsimp only [State.drvHalt]
  simp

@[simp] theorem State.drvCloseFail_reserved (s : State) :
    (s.drvCloseFail).reserved = s.reserved := by
  dsimp only [State.drvCloseFail]
  simp

@[simp] theorem State.drvRestore_reserved (s : State) :
    (s.drvRestore).reserved = s.reserved := by
  dsimp only [State.drvRestore]
  simp

@[simp] theorem State.tellBat_reserved (s : State) :
    (s.tellBat).reserved = s.reserved := by
  simp [State.reserved]

@[simp] theorem State.seqGoto_reserved (st : SeqState) (s : State) :
    (s.seqGoto st).reserved = s.reserved := by
  simp [State.reserved]

@[simp] theorem State.setShot_reserved (n : Nat) (s : State) :
    (s.setShot n).reserved = s.reserved := by
  simp [State.reserved]

@[simp] theorem State.seqLockout_reserved (r : LockReason) (s : State) :
    (s.seqLockout r).reserved = s.reserved := by
  dsimp only [State.seqLockout]
  simp

@[simp] theorem State.startSeqTimer_reserved (k : SeqTimerKind) (ms : Nat) (paused : Bool) (s : State) :
    (s.startSeqTimer k ms paused).reserved = s.reserved := by
  simp [State.reserved]

@[simp] theorem State.seqOpenInterval_reserved (s : State) :
    (s.seqOpenInterval).reserved = s.reserved := by
  simp [State.reserved]

@[simp] theorem State.seqReclaim_reserved (s : State) :
    (s.seqReclaim).reserved = s.reserved := by
  simp [State.reserved]

@[simp] theorem State.seqHandClose_reserved (s : State) :
    (s.seqHandClose).reserved = s.reserved := by
  simp [State.reserved]

@[simp] theorem State.seqUnexpected_reserved (p : Position) (s : State) :
    (s.seqUnexpected p).reserved = s.reserved := by
  dsimp only [State.seqUnexpected]
  simp

@[simp] theorem State.seqTripEnd_reserved (s : State) :
    (s.seqTripEnd).reserved = s.reserved := by
  dsimp only [State.seqTripEnd]
  (repeat' split) <;> simp

@[simp] theorem State.seqTripDone_reserved (s : State) :
    (s.seqTripDone).reserved = s.reserved := by
  dsimp only [State.seqTripDone]
  (repeat' split) <;> simp

@[simp] theorem State.seqCloseDone_reserved (s : State) :
    (s.seqCloseDone).reserved = s.reserved := by
  dsimp only [State.seqCloseDone]
  (repeat' split) <;> simp

@[simp] theorem State.seqCloseFailed_reserved (s : State) :
    (s.seqCloseFailed).reserved = s.reserved := by
  dsimp only [State.seqCloseFailed]
  (repeat' split) <;> simp

@[simp] theorem State.seqHalted_reserved (s : State) :
    (s.seqHalted).reserved = s.reserved := by
  simp [State.reserved]

@[simp] theorem State.seqRestored_reserved (s : State) :
    (s.seqRestored).reserved = s.reserved := by
  dsimp only [State.seqRestored]
  (repeat' split) <;> simp

@[simp] theorem State.placeTrip_reserved (c : TripCause) (announce : Option Flags4) (s : State) :
    (s.placeTrip c announce).reserved = s.reserved := by
  dsimp only [State.placeTrip]
  (repeat' split) <;> simp

@[simp] theorem State.seqProtect_reserved (s : State) :
    (s.seqProtect).reserved = s.reserved := by
  dsimp only [State.seqProtect]
  (repeat' split) <;> simp

@[simp] theorem State.seqTripUnknown_reserved (c : TripCause) (m : RestartMark) (s : State) :
    (s.seqTripUnknown c m).reserved = s.reserved := by
  dsimp only [State.seqTripUnknown]
  (repeat' split) <;> simp

@[simp] theorem State.seqTripCommand_reserved (s : State) :
    (s.seqTripCommand).reserved = s.reserved := by
  dsimp only [State.seqTripCommand]
  (repeat' split) <;> simp

@[simp] theorem State.seqLowBattery_reserved (s : State) :
    (s.seqLowBattery).reserved = s.reserved := by
  dsimp only [State.seqLowBattery]
  (repeat' split) <;> simp

@[simp] theorem State.lowBatteryRequest_reserved (s : State) :
    (s.lowBatteryRequest).reserved = s.reserved := by
  dsimp only [State.lowBatteryRequest]
  simp

@[simp] theorem State.placeClose_reserved (c : CloseCause) (ans : CloseAnswer) (s : State) :
    (s.placeClose c ans).reserved = s.reserved := by
  dsimp only [State.placeClose]
  (repeat' split) <;> simp

@[simp] theorem State.checkClose_reserved (s : State) :
    (s.checkClose).reserved = s.reserved := by
  dsimp only [State.checkClose]
  (repeat' split) <;> simp

@[simp] theorem State.seqCloseWait_reserved (s : State) :
    (s.seqCloseWait).reserved = s.reserved := by
  dsimp only [State.seqCloseWait]
  simp

@[simp] theorem State.seqCloseCommand_reserved (s : State) :
    (s.seqCloseCommand).reserved = s.reserved := by
  dsimp only [State.seqCloseCommand]
  (repeat' split) <;> simp

@[simp] theorem State.seqAdvance_reserved (s : State) :
    (s.seqAdvance).reserved = s.reserved := by
  dsimp only [State.seqAdvance]
  simp

@[simp] theorem State.seqEpisode_reserved (r : ElemResult) (s : State) :
    (s.seqEpisode r).reserved = s.reserved := by
  dsimp only [State.seqEpisode]
  (repeat' split) <;> simp

@[simp] theorem State.seqResult_reserved (r : ElemResult) (s : State) :
    (s.seqResult r).reserved = s.reserved := by
  dsimp only [State.seqResult]
  (repeat' split) <;> simp

@[simp] theorem State.seqTakeResult_reserved (r : ElemResult) (s : State) :
    (s.seqTakeResult r).reserved = s.reserved := by
  dsimp only [State.seqTakeResult]
  (repeat' split) <;> simp

@[simp] theorem State.elePosition_reserved (d : Delivery) (s : State) :
    (s.elePosition d).reserved = s.reserved := by
  dsimp only [State.elePosition]
  (repeat' split) <;> simp

@[simp] theorem State.seqHandle_reserved (before : Handle) (s : State) :
    (s.seqHandle before).reserved = s.reserved := by
  dsimp only [State.seqHandle]
  (repeat' split) <;> simp

@[simp] theorem State.seqLeaveUnknown_reserved (d : Delivery) (s : State) :
    (s.seqLeaveUnknown d).reserved = s.reserved := by
  dsimp only [State.seqLeaveUnknown]
  (repeat' split) <;> simp

@[simp] theorem State.seqOpened_reserved (d : Delivery) (changed : Bool) (s : State) :
    (s.seqOpened d changed).reserved = s.reserved := by
  dsimp only [State.seqOpened]
  (repeat' split) <;> simp

@[simp] theorem State.seqClosed_reserved (d : Delivery) (changed : Bool) (s : State) :
    (s.seqClosed d changed).reserved = s.reserved := by
  dsimp only [State.seqClosed]
  (repeat' split) <;> simp

@[simp] theorem State.seqPosition_reserved (d : Delivery) (changed : Bool) (s : State) :
    (s.seqPosition d changed).reserved = s.reserved := by
  dsimp only [State.seqPosition]
  (repeat' split) <;> simp

@[simp] theorem State.seqView_reserved (f : Seq → Seq) (s : State) :
    (s.seqView f).reserved = s.reserved := by
  dsimp only [State.seqView]
  (repeat' split) <;> simp

@[simp] theorem State.seqDelivery_reserved (d : Delivery) (s : State) :
    (s.seqDelivery d).reserved = s.reserved := by
  dsimp only [State.seqDelivery]
  (repeat' split) <;> simp

@[simp] theorem State.seqCap_reserved (v : Nat) (stale : Bool) (s : State) :
    (s.seqCap v stale).reserved = s.reserved := by
  dsimp only [State.seqCap]
  simp

@[simp] theorem State.seqLinkUp_reserved (s : State) :
    (s.seqLinkUp).reserved = s.reserved := by
  dsimp only [State.seqLinkUp]
  simp

@[simp] theorem State.seqSource_reserved (live : Bool) (s : State) :
    (s.seqSource live).reserved = s.reserved := by
  dsimp only [State.seqSource]
  simp

@[simp] theorem State.seqNoClose_reserved (s : State) :
    (s.seqNoClose).reserved = s.reserved := by
  dsimp only [State.seqNoClose]
  (repeat' split) <;> simp

@[simp] theorem State.seqAnyTag_reserved (s : State) :
    (s.seqAnyTag).reserved = s.reserved := by
  dsimp only [State.seqAnyTag]
  (repeat' split) <;> simp

@[simp] theorem State.seqTags_reserved (present noClose : Bool) (s : State) :
    (s.seqTags present noClose).reserved = s.reserved := by
  dsimp only [State.seqTags]
  (repeat' split) <;> simp

@[simp] theorem State.seqIntervalEnd_reserved (s : State) :
    (s.seqIntervalEnd).reserved = s.reserved := by
  dsimp only [State.seqIntervalEnd]
  simp

@[simp] theorem State.seqWaitEnd_reserved (s : State) :
    (s.seqWaitEnd).reserved = s.reserved := by
  dsimp only [State.seqWaitEnd]
  simp

@[simp] theorem State.seqReclaimEnd_reserved (s : State) :
    (s.seqReclaimEnd).reserved = s.reserved := by
  dsimp only [State.seqReclaimEnd]
  simp

@[simp] theorem State.takeLive_reserved (l : LiveSet) (s : State) :
    (s.takeLive l).reserved = s.reserved := by
  dsimp only [State.takeLive]
  (repeat' split) <;> simp

@[simp] theorem State.applyLoad_reserved (g : Option Nat) (c : SelCause) (r : Option Reply) (s : State) :
    (s.applyLoad g c r).reserved = s.reserved := by
  dsimp only [State.applyLoad]
  (repeat' split) <;> simp

@[simp] theorem State.completeInPlace_reserved (c : SelCause) (s : State) :
    (s.completeInPlace c).reserved = s.reserved := by
  simp [State.reserved]

@[simp] theorem State.applyPending_reserved (s : State) :
    (s.applyPending).reserved = s.reserved := by
  dsimp only [State.applyPending]
  (repeat' split) <;> simp

@[simp] theorem State.applyIfSettled_reserved (s : State) :
    (s.applyIfSettled).reserved = s.reserved := by
  dsimp only [State.applyIfSettled]
  (repeat' split) <;> simp

@[simp] theorem State.setTagged_reserved (s : State) :
    (s.setTagged).reserved = s.reserved := by
  dsimp only [State.setTagged]
  (repeat' split) <;> simp

@[simp] theorem State.setUntagged_reserved (s : State) :
    (s.setUntagged).reserved = s.reserved := by
  dsimp only [State.setUntagged]
  (repeat' split) <;> simp

@[simp] theorem State.resendTrip_reserved (before : SeqState) (s : State) :
    (s.resendTrip before).reserved = s.reserved := by
  dsimp only [State.resendTrip]
  (repeat' split) <;> simp

@[simp] theorem State.settleNotice_reserved (s : State) :
    (s.settleNotice).reserved = s.reserved := by
  dsimp only [State.settleNotice]
  (repeat' split) <;> simp

@[simp] theorem State.seqArrive_reserved (f : State → State) (s : State) :
    (s.seqArrive f).reserved = (f s).reserved := by
  simp [State.seqArrive]

@[simp] theorem State.stageTag_reserved (c : TagChange) (s : State) :
    (s.stageTag c).reserved = s.reserved := by
  simp [State.reserved]

@[simp] theorem State.effectTag_reserved (c : TagChange) (s : State) :
    (s.effectTag c).reserved = s.reserved := by
  simp [State.reserved]

@[simp] theorem State.effectTags_reserved (cs : List TagChange) (s : State) :
    (s.effectTags cs).reserved = s.reserved := by
  simp [State.reserved]

@[simp] theorem State.emitAll_reserved (es : List Event) (s : State) :
    (s.emitAll es).reserved = s.reserved := by
  induction es generalizing s with
  | nil => simp [State.emitAll]
  | cons c cs ih =>
    unfold State.emitAll
    simp [ih]

@[simp] theorem State.tagNotices_reserved (before : List Tag) (s : State) :
    (s.tagNotices before).reserved = s.reserved := by
  dsimp only [State.tagNotices]
  (repeat' split) <;> simp

@[simp] theorem State.tagExpires_reserved (crew : Nat) (s : State) :
    (s.tagExpires crew).reserved = s.reserved := by
  simp [State.reserved]

@[simp] theorem State.lkuHandle_reserved (d : Delivery) (s : State) :
    (s.lkuHandle d).reserved = s.reserved := by
  dsimp only [State.lkuHandle]
  (repeat' split) <;> simp

@[simp] theorem State.drvConfirm_reserved (news : Bool) (d : Delivery) (s : State) :
    (s.drvConfirm news d).reserved = s.reserved := by
  dsimp only [State.drvConfirm]
  (repeat' split) <;> simp

@[simp] theorem State.drvDelivery_reserved (d : Delivery) (s : State) :
    (s.drvDelivery d).reserved = s.reserved := by
  dsimp only [State.drvDelivery]
  (repeat' split) <;> simp

@[simp] theorem State.deliver_reserved (s : State) :
    (s.deliver).reserved = s.reserved := by
  dsimp only [State.deliver]
  (repeat' split) <;> simp

@[simp] theorem State.profileStep_reserved (m : Nat) (s : State) :
    (s.profileStep m).reserved = s.reserved := by
  simp [State.reserved]

@[simp] theorem State.eStep_reserved (s : State) :
    (s.eStep).reserved = s.reserved := by
  dsimp only [State.eStep]
  (repeat' split) <;> simp

@[simp] theorem State.stepAndDeliver_reserved (estep delivery : Bool) (s : State) :
    (s.stepAndDeliver estep delivery).reserved = s.reserved := by
  dsimp only [State.stepAndDeliver]
  (repeat' split) <;> simp

@[simp] theorem State.loseLink_reserved (s : State) :
    (s.loseLink).reserved = s.reserved := by
  simp [State.reserved]

@[simp] theorem State.holdSlot_reserved (s : State) :
    (s.holdSlot).reserved = s.reserved := by
  simp [State.reserved]

@[simp] theorem State.countMissing_reserved (s : State) :
    (s.countMissing).reserved = s.reserved := by
  simp [State.reserved]

@[simp] theorem State.missingSlot_reserved (s : State) :
    (s.missingSlot).reserved = s.reserved := by
  dsimp only [State.missingSlot]
  (repeat' split) <;> simp

@[simp] theorem State.missingSlots_reserved (n : Nat) (s : State) :
    (s.missingSlots n).reserved = s.reserved := by
  induction n generalizing s with
  | zero => simp [State.missingSlots]
  | succ n ih =>
    unfold State.missingSlots
    simp [ih]

@[simp] theorem State.forwardSample_reserved (f : SampleFrame) (s : State) :
    (s.forwardSample f).reserved = s.reserved := by
  dsimp only [State.forwardSample]
  (repeat' split) <;> simp

@[simp] theorem State.goodLink_reserved (f : SampleFrame) (s : State) :
    (s.goodLink f).reserved = s.reserved := by
  simp [State.reserved]

@[simp] theorem State.linkUpNotices_reserved (before : Link) (s : State) :
    (s.linkUpNotices before).reserved = s.reserved := by
  dsimp only [State.linkUpNotices]
  (repeat' split) <;> simp

@[simp] theorem State.goodSlot_reserved (f : SampleFrame) (s : State) :
    (s.goodSlot f).reserved = s.reserved := by
  dsimp only [State.goodSlot]
  simp

@[simp] theorem State.accountSeq_reserved (seqNo : Nat) (s : State) :
    (s.accountSeq seqNo).reserved = s.reserved := by
  dsimp only [State.accountSeq]
  simp

@[simp] theorem State.restartSilence_reserved (s : State) :
    (s.restartSilence).reserved = s.reserved := by
  simp [State.reserved]

@[simp] theorem State.declareMissing_reserved (s : State) :
    (s.declareMissing).reserved = s.reserved := by
  dsimp only [State.declareMissing]
  simp

@[simp] theorem State.sampleReceived_reserved (bytes : List Byte) (s : State) :
    (s.sampleReceived bytes).reserved = s.reserved := by
  dsimp only [State.sampleReceived]
  (repeat' split) <;> simp

@[simp] theorem State.silenceExpired_reserved (s : State) :
    (s.silenceExpired).reserved = s.reserved := by
  dsimp only [State.silenceExpired]
  simp

@[simp] theorem State.curveStored_reserved (slot : Nat) (c : Option Curve) (s : State) :
    (s.curveStored slot c).reserved = s.reserved := by
  simp [State.reserved]

@[simp] theorem State.dropPendingOf_reserved (slot : Nat) (s : State) :
    (s.dropPendingOf slot).reserved = s.reserved := by
  dsimp only [State.dropPendingOf]
  (repeat' split) <;> simp

@[simp] theorem State.groupStored_reserved (slot : Nat) (g : Option Group) (s : State) :
    (s.groupStored slot g).reserved = s.reserved := by
  dsimp only [State.groupStored]
  (repeat' split) <;> simp

@[simp] theorem State.deviceStored_reserved (d : DeviceRec) (s : State) :
    (s.deviceStored d).reserved = s.reserved := by
  simp [State.reserved]

@[simp] theorem State.batteryStored_reserved (b : BatteryRec) (s : State) :
    (s.batteryStored b).reserved = s.reserved := by
  dsimp only [State.batteryStored]
  (repeat' split) <;> simp

@[simp] theorem State.radioStored_reserved (r : RadioRec) (s : State) :
    (s.radioStored r).reserved = s.reserved := by
  simp [State.reserved]

@[simp] theorem State.emptyArea_reserved (a : Area) (s : State) :
    (s.emptyArea a).reserved = s.reserved := by
  simp [State.reserved]

@[simp] theorem State.areasStored_reserved (p : Partition) (s : State) :
    (s.areasStored p).reserved = s.reserved := by
  simp [State.reserved]

@[simp] theorem State.resetSets_reserved (s : State) :
    (s.resetSets).reserved = s.reserved := by
  simp [State.reserved]

@[simp] theorem State.resetLku_reserved (s : State) :
    (s.resetLku).reserved = s.reserved := by
  simp [State.reserved]

@[simp] theorem State.resetSeq_reserved (s : State) :
    (s.resetSeq).reserved = s.reserved := by
  simp [State.reserved]

@[simp] theorem State.resetBat_reserved (s : State) :
    (s.resetBat).reserved = s.reserved := by
  simp [State.reserved]

@[simp] theorem State.resetViews_reserved (s : State) :
    (s.resetViews).reserved = s.reserved := by
  simp [State.reserved]

@[simp] theorem State.resetAsserted_reserved (s : State) :
    (s.resetAsserted).reserved = s.reserved := by
  simp [State.reserved]

@[simp] theorem State.intakeOffer_reserved (e : IntakeEntry) (s : State) :
    (s.intakeOffer e).reserved = s.reserved := by
  dsimp only [State.intakeOffer]
  (repeat' split) <;> simp [State.reserved]

@[simp] theorem State.setRx_reserved (p : Port) (r : Receiver) (s : State) :
    (s.setRx p r).reserved = s.reserved := by
  cases p <;> simp [State.setRx, State.reserved]

@[simp] theorem State.badFrame_reserved (p : Port) (s : State) :
    (s.badFrame p).reserved = s.reserved := by
  dsimp only [State.badFrame]
  (repeat' split) <;> simp [State.reserved]

@[simp] theorem State.takeAnswer_reserved (p : Purpose) (rec : Option (Area × Nat)) (f : Frame) (s : State) :
    (s.takeAnswer p rec f).reserved = s.reserved := by
  dsimp only [State.takeAnswer]
  simp

@[simp] theorem State.answerPoll_reserved (s : State) :
    (s.answerPoll).reserved = s.reserved := by
  dsimp only [State.answerPoll]
  (repeat' split) <;> simp

@[simp] theorem State.pollTaken_reserved (payload : List Byte) (s : State) :
    (s.pollTaken payload).reserved = s.reserved := by
  dsimp only [State.pollTaken]
  (repeat' split) <;> simp

@[simp] theorem State.sortRadio_reserved (f : Frame) (s : State) :
    (s.sortRadio f).reserved = s.reserved := by
  dsimp only [State.sortRadio]
  (repeat' split) <;> simp

@[simp] theorem State.sortLocal_reserved (f : Frame) (s : State) :
    (s.sortLocal f).reserved = s.reserved := by
  dsimp only [State.sortLocal]
  (repeat' split) <;> simp

@[simp] theorem State.frameEnded_reserved (p : Port) (r : Reception) (s : State) :
    (s.frameEnded p r).reserved = s.reserved := by
  dsimp only [State.frameEnded]
  (repeat' split) <;> simp

@[simp] theorem State.windowExpired_reserved (s : State) :
    (s.windowExpired).reserved = s.reserved := by
  simp [State.reserved]

@[simp] theorem State.keyExpired_reserved (s : State) :
    (s.keyExpired).reserved = s.reserved := by
  simp [State.reserved]

@[simp] theorem State.markSent_reserved (id : Nat) (s : State) :
    (s.markSent id).reserved = s.reserved := by
  simp [State.reserved]

@[simp] theorem State.settleRecord_reserved (a : Answer) (s : State) :
    (s.settleRecord a).reserved = s.reserved := by
  simp [State.reserved]

@[simp] theorem State.countSent_reserved (p : Purpose) (s : State) :
    (s.countSent p).reserved = s.reserved := by
  simp [State.reserved]

@[simp] theorem State.frameSent_reserved (s : State) :
    (s.frameSent).reserved = s.reserved := by
  simp [State.reserved]

@[simp] theorem State.holdoffExpired_reserved (s : State) :
    (s.holdoffExpired).reserved = s.reserved := by
  dsimp only [State.holdoffExpired]
  (repeat' split) <;> simp

@[simp] theorem State.confirmExpired_reserved (s : State) :
    (s.confirmExpired).reserved = s.reserved := by
  simp [State.reserved]

@[simp] theorem State.setDecimation_reserved (d : Nat) (s : State) :
    (s.setDecimation d).reserved = s.reserved := by
  simp [State.reserved]

@[simp] theorem State.pendSelection_reserved (g : Nat) (s : State) :
    (s.pendSelection g).reserved = s.reserved := by
  dsimp only [State.pendSelection]
  (repeat' split) <;> simp

@[simp] theorem State.tripMonitorEnd_reserved (s : State) :
    (s.tripMonitorEnd).reserved = s.reserved := by
  dsimp only [State.tripMonitorEnd]
  (repeat' split) <;> simp

@[simp] theorem State.closeMonitorEnd_reserved (s : State) :
    (s.closeMonitorEnd).reserved = s.reserved := by
  dsimp only [State.closeMonitorEnd]
  (repeat' split) <;> simp

@[simp] theorem State.countdownEnd_reserved (crew : Nat) (s : State) :
    (s.countdownEnd crew).reserved = s.reserved := by
  simp [State.reserved]

@[simp] theorem State.sendIfPending_reserved (before : Disconnect) (s : State) :
    (s.sendIfPending before).reserved = s.reserved := by
  dsimp only [State.sendIfPending]
  (repeat' split) <;> simp

@[simp] theorem State.secondEnd_reserved (s : State) :
    (s.secondEnd).reserved = s.reserved := by
  dsimp only [State.secondEnd]
  simp

@[simp] theorem State.hourEnd_reserved (s : State) :
    (s.hourEnd).reserved = s.reserved := by
  dsimp only [State.hourEnd]
  (repeat' split) <;> simp

end Sys2Proof.Machine
end

