-- ==== Sys2Proof/Laws/Execution.lean ====
section
/-! SUPPORT. What the execution of a command of Table 11-3 comes to: the owner of the command takes
it in the state `begun` (R182, R183), and its response is placed (R184). -/

namespace Sys2Proof.Machine

variable {s : State} {e e' : IntakeEntry}

/-! ## Frames -/

/-- A frame, block by block. -/
theorem allBut_iff (l : List Block) (s t : State) : AllBut l s t ↔
    ((.slr ∉ l → t.slr = s.slr) ∧ (.meu ∉ l → t.meu = s.meu) ∧ (.ele ∉ l → t.ele = s.ele) ∧
    (.store ∉ l → t.store = s.store) ∧ (.sets ∉ l → t.sets = s.sets) ∧
    (.seq ∉ l → t.seq = s.seq) ∧ (.drv ∉ l → t.drv = s.drv) ∧ (.lku ∉ l → t.lku = s.lku) ∧
    (.bat ∉ l → t.bat = s.bat) ∧ (.sup ∉ l → t.sup = s.sup) ∧ (.rpb ∉ l → t.rpb = s.rpb) ∧
    (.pkm ∉ l → t.pkm = s.pkm) ∧ (.rpc ∉ l → t.rpc = s.rpc) ∧ (.fcu ∉ l → t.fcu = s.fcu) ∧
    (.lines ∉ l → t.lines = s.lines) ∧ (.part ∉ l → t.part = s.part) ∧
    (.order ∉ l → t.order = s.order) ∧ (.pending ∉ l → t.pending = s.pending)) := by
  constructor
  · intro h
    exact ⟨h .slr, h .meu, h .ele, h .store, h .sets, h .seq, h .drv, h .lku, h .bat, h .sup,
      h .rpb, h .pkm, h .rpc, h .fcu, h .lines, h .part, h .order, h .pending⟩
  · rintro ⟨h1, h2, h3, h4, h5, h6, h7, h8, h9, h10, h11, h12, h13, h14, h15, h16, h17, h18⟩ b
    cases b <;> assumption

/-! ## The queue and the outstanding response -/

@[simp] theorem State.begun_frame (s : State) (e : IntakeEntry) :
    (s.begun e).meu = s.meu ∧ (s.begun e).ele = s.ele ∧ (s.begun e).store = s.store ∧
    (s.begun e).sets = s.sets ∧ (s.begun e).seq = s.seq ∧ (s.begun e).drv = s.drv ∧
    (s.begun e).lku = s.lku ∧ (s.begun e).bat = s.bat ∧ (s.begun e).sup = s.sup ∧
    (s.begun e).rpb = s.rpb ∧ (s.begun e).pkm = s.pkm ∧ (s.begun e).rpc = s.rpc ∧
    (s.begun e).lines = s.lines ∧ (s.begun e).part = s.part ∧ (s.begun e).order = s.order ∧
    (s.begun e).pending = s.pending := by
  simp [State.begun]

/-- The execution of the head: the gate's refusal, or the owner's action, in the state `begun`. -/
theorem State.executeHead_eq {rest : List IntakeEntry} (h : s.fcu.intake = e :: rest) :
    s.executeHead e rest =
      match gateCheck s.store.gates (entryKind e) e.port e.level with
      | some o => (s.begun e).answer (replyOf s e) o
      | none => bodyOf (entryKind e) e (replyOf s e) (s.begun e) := by
  have hb : (s.modFcu (fun f => { f with intake := rest })).markOutstanding e = s.begun e := by
    simp [State.begun, State.modFcu, h]
  have hs : (s.begun e).store = s.store := by simp
  show (match gateCheck ((s.modFcu _).markOutstanding e).store.gates _ _ _ with
    | some o => _ | none => _) = _
  rw [hb, hs]

/-! ## Serving the queue (R183) -/

/-- What holds of a state, and is kept by the execution of a head, holds after the queue has been
served. -/
theorem State.serve_ind {P : State → Prop}
    (h : ∀ (u : State) (e : IntakeEntry) (rest : List IntakeEntry), u.fcu.intake = e :: rest →
      executable u e = true → P u → P (u.executeHead e rest)) (h0 : P s) : P s.serve := by
  suffices ∀ n (u : State), P u → P (u.serveHeads n) from this _ s h0
  intro n
  induction n with
  | zero => exact fun u hu => hu
  | succ n ih =>
    intro u hu
    simp only [State.serveHeads]
    cases hi : u.fcu.intake with
    | nil => exact hu
    | cons a rest =>
      simp only
      split
      · rename_i hx
        exact ih _ (h u a rest hi hx hu)
      · exact hu

/-- An empty queue has nothing to serve. -/
theorem State.serve_of_empty (h : s.fcu.intake = []) : s.serve = s := by
  simp [State.serve, State.serveHeads, h]

/-- A head whose conditions do not hold waits. -/
theorem State.serve_of_waiting (h : ∀ a ∈ s.fcu.intake.head?, executable s a = false) :
    s.serve = s := by
  cases hi : s.fcu.intake with
  | nil => exact State.serve_of_empty hi
  | cons a rest =>
    have := h a (by simp [hi])
    simp [State.serve, State.serveHeads, hi, this]

@[simp] theorem State.markOutstanding_intake (e : IntakeEntry) (s : State) :
    (s.markOutstanding e).fcu.intake = s.fcu.intake := by simp

/-- A restart leaves the intake queue empty (R188, R190). -/
theorem State.resetAs_intake (c : ResetCause) (s : State) : (s.resetAs c).fcu.intake = [] := by
  simp [State.resetAs, State.startPart, State.resetBlocks, fcuReset]

/-- Nothing that a command does adds to the intake queue; a restart empties it (R188). -/
theorem bodyOf_intake (k : Option CmdKind) (e : IntakeEntry) (r : Option Reply) (s : State) :
    (bodyOf k e r s).fcu.intake = s.fcu.intake ∨ (bodyOf k e r s).fcu.intake = [] := by
  match k with
  | some .restart =>
    simp only [bodyOf, bodyRestart]
    split
    · simp
    · split
      · exact .inr (State.resetAs_intake _ _)
      · simp
  | none => simp [bodyOf, bodyUnknown]
  | some .readStatus => left; simp only [bodyOf, bodyReadStatus]; split <;> simp
  | some .readTable => left; simp only [bodyOf, bodyReadTable]; split <;> simp
  | some .selectGroup =>
    left; simp only [bodyOf, bodySelectGroup]; (repeat' split) <;> simp
  | some .setTime => left; simp only [bodyOf, bodySetTime]; split <;> simp
  | some .sampleForward => left; simp only [bodyOf, bodySampleForward]; split <;> simp
  | some .trip => left; simp only [bodyOf, bodyTrip]; split <;> simp
  | some .close => left; simp only [bodyOf, bodyClose]; split <;> simp
  | some .placeTag => left; simp only [bodyOf, bodyPlaceTag]; (repeat' split) <;> simp
  | some .removeTag => left; simp only [bodyOf, bodyRemoveTag]; (repeat' split) <;> simp
  | some .testStart => left; simp only [bodyOf, bodyTestStart]; (repeat' split) <;> simp
  | some .testCancel => left; simp only [bodyOf, bodyTestCancel]; (repeat' split) <;> simp
  | some .writeCurve => left; simp only [bodyOf, bodyWriteCurve]; split <;> simp
  | some .clearCurve => left; simp only [bodyOf, bodyClearCurve]; (repeat' split) <;> simp
  | some .writeGroup => left; simp only [bodyOf, bodyWriteGroup]; (repeat' split) <;> simp
  | some .writeDevice => left; simp only [bodyOf, bodyWriteDevice]; split <;> simp
  | some .writeBattery => left; simp only [bodyOf, bodyWriteBattery]; (repeat' split) <;> simp
  | some .writeRadio => left; simp only [bodyOf, bodyWriteRadio]; split <;> simp
  | some .writeAreas => left; simp only [bodyOf, bodyWriteAreas]; split <;> simp
  | some .flushClass => left; simp only [bodyOf, bodyFlushClass]; split <;> simp
  | some .driveRestore => left; simp only [bodyOf, bodyDriveRestore]; (repeat' split) <;> simp
  | some .writeGates => left; simp only [bodyOf, bodyWriteGates]; split <;> simp

/-- The queue after the execution of its head. -/
theorem State.executeHead_intake {rest : List IntakeEntry} (h : s.fcu.intake = e :: rest) :
    (s.executeHead e rest).fcu.intake = rest ∨ (s.executeHead e rest).fcu.intake = [] := by
  have hb : (s.begun e).fcu.intake = rest := by simp [State.begun, h]
  rw [State.executeHead_eq h]
  split
  · simp [hb]
  · simpa [hb] using bodyOf_intake (entryKind e) e (replyOf s e) (s.begun e)

/-- A head whose conditions hold is executed, and then the queue behind it is served. -/
theorem State.serve_of_executable {rest : List IntakeEntry} (h : s.fcu.intake = e :: rest)
    (hx : executable s e = true) : s.serve = (s.executeHead e rest).serve := by
  have h1 : s.serve = (s.executeHead e rest).serveHeads rest.length := by
    simp [State.serve, State.serveHeads, h, hx]
  rw [h1]
  rcases State.executeHead_intake h with h2 | h2
  · simp [State.serve, h2]
  · rw [State.serve_of_empty h2]
    cases hn : rest.length <;> simp [State.serveHeads, h2]

/-- After the queue has been served, no head that could be executed waits. -/
theorem State.serve_waits (s : State) : ∀ a ∈ s.serve.fcu.intake.head?, executable s.serve a = false := by
  suffices ∀ (n : Nat) (u : State), u.fcu.intake.length ≤ n →
      ∀ a ∈ (u.serveHeads n).fcu.intake.head?, executable (u.serveHeads n) a = false from
    this _ s le_rfl
  intro n
  induction n with
  | zero =>
    intro u hu a ha
    have : u.fcu.intake = [] := List.length_eq_zero_iff.mp (Nat.le_zero.mp hu)
    simp [State.serveHeads, this] at ha
  | succ n ih =>
    intro u hu
    cases hi : u.fcu.intake with
    | nil => simp [State.serveHeads, hi]
    | cons a rest =>
      by_cases hx : executable u a = true
      · have hl : (u.executeHead a rest).fcu.intake.length ≤ n := by
          simp only [hi, List.length_cons] at hu
          rcases State.executeHead_intake hi with h2 | h2 <;> simp [h2]
          omega
        simpa [State.serveHeads, hi, hx] using ih _ hl
      · simp [State.serveHeads, hi, hx]

/-- Serving the queue again changes nothing. -/
@[simp] theorem State.serve_serve (s : State) : s.serve.serve = s.serve :=
  State.serve_of_waiting s.serve_waits

/-- A row whose entry arrives at an empty queue and is executed leaves the rest to the owner of the
command, who takes it in the state `begun`. -/
theorem State.offerRow_executes (h : Executes s e e') :
    (s.offerRow e).serve = bodyOf (entryKind e') e' (replyOf s e') (s.begun e') := by
  obtain ⟨⟨-, hq, rfl, hx⟩, hg⟩ := h
  have h1 : s.offerRow e = s.modFcu (fun f => { f with intake := [atIntake s e] }) := by
    simp [State.offerRow, State.intakeOffer, hq, Config.intakeTop, State.modFcu]
  have hb : (s.offerRow e).begun (atIntake s e) = s.begun (atIntake s e) := by
    have : s.modFcu (fun f => { f with intake := f.intake.tail }) = s := by
      simp only [State.modFcu, hq, List.tail_nil]
      rw [← hq]
    have h2 : (s.offerRow e).modFcu (fun f => { f with intake := f.intake.tail }) = s := by
      simp only [h1, State.modFcu, List.tail_cons]
      rw [← hq]
    simp only [State.begun, this, h2]
  have hi : (s.offerRow e).fcu.intake = [atIntake s e] := by simp [h1]
  have hr : replyOf (s.offerRow e) (atIntake s e) = replyOf s (atIntake s e) := by
    simp [h1, replyOf]
  have hx1 : executable (s.offerRow e) (atIntake s e) = true := by rw [h1]; exact hx
  have hg1 : (s.offerRow e).store = s.store := by simp [h1]
  rw [State.serve_of_executable hi hx1, State.executeHead_eq hi, hg1, hg, hr, hb]
  refine State.serve_of_empty ?_
  have hn : (s.begun (atIntake s e)).fcu.intake = [] := by simp [State.begun, hq]
  simpa [hn] using bodyOf_intake (entryKind (atIntake s e)) (atIntake s e)
    (replyOf s (atIntake s e)) (s.begun (atIntake s e))

/-- The response of an executed entry has its room. -/
theorem responseFits_of_executes (h : Executes s e e') : responseFits s e' = true := by
  have := h.1.2.2.2
  simp only [executable, Bool.and_eq_true] at this
  exact this.1

/-- An executed entry whose kind may write a table finds the store idle (R183). -/
theorem storeIdle_of_executes (h : Executes s e e') (hk : (entryKind e').any needsStore = true) :
    storeIdle s.store = true := by
  have := h.1.2.2.2
  simp only [executable, storeFits, hk, Bool.and_eq_true] at this
  simpa using this.2

/-- What an executed entry carries is what the row carries. -/
theorem payload_of_executes (h : Executes s e e') :
    e'.port = e.port ∧ e'.wantsReply = e.wantsReply ∧ e'.source = e.source ∧
    e'.payload = e.payload := by
  rw [h.1.2.2.1]
  simp [atIntake]

@[simp] theorem entryKind_rowEntry (h : CmdHead) (k : CmdKind) (p : List Byte) :
    entryKind (rowEntry h k p) = some k := by
  cases k <;> rfl

theorem args_of_executes {h : CmdHead} {k : CmdKind} {p : List Byte}
    (hx : Executes s (rowEntry h k p) e') : e'.args = p := by
  simp [IntakeEntry.args, (payload_of_executes hx).2.2.2, rowEntry]

theorem kind_of_executes {h : CmdHead} {k : CmdKind} {p : List Byte}
    (hx : Executes s (rowEntry h k p) e') : entryKind e' = some k := by
  have := (payload_of_executes hx).2.2.2
  simpa [entryKind, rowEntry, this] using entryKind_rowEntry h k p

/-- A command row that is executed, as an equation for `exec`. -/
theorem commandRow_executes {h : CmdHead} {k : CmdKind} {p : List Byte}
    (hx : Executes s (rowEntry h k p) e') :
    commandRow h k p s = .next (bodyOf (some k) e' (replyOf s e') (s.begun e')) := by
  simp [commandRow, whenRunning, hx.1.1, State.offerRow_executes hx, kind_of_executes hx]

/-! ## The response (R184) -/

/-- A local response that is owed has its place in the queue. -/
theorem reserved_of_executes (hx : Executes s e e') (hw : e'.wantsReply = true)
    (hp : e'.port = .localPort) : 1 ≤ (s.begun e').reserved := by
  have hr := responseFits_of_executes hx
  simp only [responseFits, hw, hp, Bool.not_true, Bool.false_or, Bool.and_eq_true] at hr
  simp only [State.begun, State.markOutstanding, hw, hp, if_true]
  rw [State.localReserve_reserved (by simpa using hr.2)]
  omega

theorem fillReservation_mem (f : Frame) (q : List LocalItem) (h : 1 ≤ q.count .reservation) :
    LocalItem.frame .response f 0 ∈ fillReservation f q := by
  induction q with
  | nil => simp at h
  | cons i q ih =>
    simp only [fillReservation]
    split
    · simp
    · rename_i hi
      have : 1 ≤ q.count .reservation := by
        rw [List.count_cons] at h
        simpa [hi] using h
      exact List.mem_cons_of_mem _ (ih this)

/-- The response of an executed entry is placed, from any state that has kept the RESPONSE area and
the reserved place. -/
theorem answered_of_executes (hx : Executes s e e') {u : State} {o : CmdOutcome} {data : List Byte}
    (hpart : (areaSpec u.store.areas .response).depth = (areaSpec s.store.areas .response).depth)
    (hresp : u.pkm.response = s.pkm.response) (hres : u.reserved = (s.begun e').reserved)
    (hlen : data.length ≤ 238) : Answered s e' o data (u.answerWith (replyOf s e') o data) := by
  unfold Answered
  cases hw : e'.wantsReply with
  | false => simp [replyOf, hw]
  | true =>
    simp only [replyOf, hw, if_true]
    cases hp : e'.port with
    | radio =>
      have hr := responseFits_of_executes hx
      simp only [responseFits, hw, hp, Bool.not_true, Bool.false_or, Bool.and_eq_true, responseRoom,
        hasRoom, freeWords, areaUsed, Config.responseWords] at hr
      have hr2 := of_decide_eq_true hr.2
      have hroom : hasRoom u .response (frameWords (data.length + 2)) = true := by
        simp only [hasRoom, freeWords, areaUsed, frameWords, decide_eq_true_eq, hresp, hpart]
        omega
      simp [State.answerWith, State.appendResponse, responseFrame, hroom]
    | localPort =>
      have := reserved_of_executes hx hw hp
      rw [← hres] at this
      simp [State.answerWith]
      exact fillReservation_mem _ _ this

end Sys2Proof.Machine
end

