-- ==== Sys2Proof/Laws/PerInstr.lean ====
section
/-! SUPPORT. The statement made for every constructor of Instr: what well-formedness gives an intake
entry, and that the row of a queued entry is the row it came from (R118, R182, R194). -/

/-- A well-formed command row carries an entry within the limits of Table 12-2 and R118, and it is
the row of that entry; another row carries none. -/
def Sys2Proof.Laws.WellFormedness.Statement (i : Sys2Proof.Instr) : Prop :=
  i.wf = true → ∀ e, Sys2Proof.Machine.entryOfRow i = some e →
    e.level ≤ 3 ∧ e.source < 65536 ∧ e.payload.length ≤ 240 ∧ Sys2Proof.Machine.instrOf e = i

namespace Sys2Proof.Laws

set_option Elab.async false

open Sys2Proof Sys2Proof.Machine

/-- The rows that are no command row carry no entry. -/
theorem WellFormedness.of_none {i : Instr} (h : entryOfRow i = none) : WellFormedness.Statement i := by
  intro _ e he
  rw [h] at he
  cases he

/-- A known kind with a payload of at most 239 bytes. -/
theorem WellFormedness.of_kind {i : Instr} (h : CmdHead) (k : CmdKind) (p : List Byte)
    (hrow : entryOfRow i = some (rowEntry h k p))
    (hwf : i.wf = true → h.wf = true ∧ argsWf p = true)
    (hi : i.wf = true → instrOf (rowEntry h k p) = i) : WellFormedness.Statement i := by
  intro hw e he
  rw [hrow] at he
  cases he
  obtain ⟨h1, h2⟩ := hwf hw
  simp only [CmdHead.wf, argsWf, Bool.and_eq_true, decide_eq_true_eq] at h1 h2
  exact ⟨h1.1, h1.2, Nat.succ_le_succ h2, hi hw⟩

theorem WellFormedness.sampleFrameReceived (bytes : List Byte) :
    WellFormedness.Statement (.sampleFrameReceived bytes) :=
  WellFormedness.of_none rfl

theorem WellFormedness.silenceTimerExpiry :
    WellFormedness.Statement (.silenceTimerExpiry) :=
  WellFormedness.of_none rfl

theorem WellFormedness.openIntervalExpiry :
    WellFormedness.Statement (.openIntervalExpiry) :=
  WellFormedness.of_none rfl

theorem WellFormedness.closeWaitExpiry :
    WellFormedness.Statement (.closeWaitExpiry) :=
  WellFormedness.of_none rfl

theorem WellFormedness.reclaimExpiry :
    WellFormedness.Statement (.reclaimExpiry) :=
  WellFormedness.of_none rfl

theorem WellFormedness.tripMonitorExpiry :
    WellFormedness.Statement (.tripMonitorExpiry) :=
  WellFormedness.of_none rfl

theorem WellFormedness.closeMonitorExpiry :
    WellFormedness.Statement (.closeMonitorExpiry) :=
  WellFormedness.of_none rfl

theorem WellFormedness.storeOperationComplete :
    WellFormedness.Statement (.storeOperationComplete) :=
  WellFormedness.of_none rfl

theorem WellFormedness.tagExpiryCountdownEnd (crew : Nat) :
    WellFormedness.Statement (.tagExpiryCountdownEnd crew) :=
  WellFormedness.of_none rfl

theorem WellFormedness.supplyPresentEdge (level : Bool) :
    WellFormedness.Statement (.supplyPresentEdge level) :=
  WellFormedness.of_none rfl

theorem WellFormedness.supplyChangeTaken :
    WellFormedness.Statement (.supplyChangeTaken) :=
  WellFormedness.of_none rfl

theorem WellFormedness.batterySecondEnd :
    WellFormedness.Statement (.batterySecondEnd) :=
  WellFormedness.of_none rfl

theorem WellFormedness.absorbTimeLimitReached :
    WellFormedness.Statement (.absorbTimeLimitReached) :=
  WellFormedness.of_none rfl

theorem WellFormedness.faultRecoveryExpiry :
    WellFormedness.Statement (.faultRecoveryExpiry) :=
  WellFormedness.of_none rfl

theorem WellFormedness.testIntervalElapse :
    WellFormedness.Statement (.testIntervalElapse) :=
  WellFormedness.of_none rfl

theorem WellFormedness.testRetryExpiry :
    WellFormedness.Statement (.testRetryExpiry) :=
  WellFormedness.of_none rfl

theorem WellFormedness.settleEnd :
    WellFormedness.Statement (.settleEnd) :=
  WellFormedness.of_none rfl

theorem WellFormedness.loadEnd :
    WellFormedness.Statement (.loadEnd) :=
  WellFormedness.of_none rfl

theorem WellFormedness.gatherWindowExpiry (cls : ReportClass) :
    WellFormedness.Statement (.gatherWindowExpiry cls) :=
  WellFormedness.of_none rfl

theorem WellFormedness.profileHourEnd :
    WellFormedness.Statement (.profileHourEnd) :=
  WellFormedness.of_none rfl

theorem WellFormedness.stationFrameReceived (port : Port) (bytes : List Byte) :
    WellFormedness.Statement (.stationFrameReceived port bytes) :=
  WellFormedness.of_none rfl

theorem WellFormedness.frameByteGapTimeout (port : Port) :
    WellFormedness.Statement (.frameByteGapTimeout port) :=
  WellFormedness.of_none rfl

theorem WellFormedness.poll (payload : List Byte) :
    WellFormedness.Statement (.poll payload) :=
  WellFormedness.of_none rfl

theorem WellFormedness.responseWindowExpiry :
    WellFormedness.Statement (.responseWindowExpiry) :=
  WellFormedness.of_none rfl

theorem WellFormedness.keyUpDelayExpiry :
    WellFormedness.Statement (.keyUpDelayExpiry) :=
  WellFormedness.of_none rfl

theorem WellFormedness.radioFrameSent :
    WellFormedness.Statement (.radioFrameSent) :=
  WellFormedness.of_none rfl

theorem WellFormedness.holdoffExpiry :
    WellFormedness.Statement (.holdoffExpiry) :=
  WellFormedness.of_none rfl

theorem WellFormedness.confirmTimeout :
    WellFormedness.Statement (.confirmTimeout) :=
  WellFormedness.of_none rfl

theorem WellFormedness.modemReadyChange (level : Bool) :
    WellFormedness.Statement (.modemReadyChange level) :=
  WellFormedness.of_none rfl

theorem WellFormedness.carrierDetChange (level : Bool) :
    WellFormedness.Statement (.carrierDetChange level) :=
  WellFormedness.of_none rfl

theorem WellFormedness.partTimeSecond :
    WellFormedness.Statement (.partTimeSecond) :=
  WellFormedness.of_none rfl

theorem WellFormedness.localFrameSent :
    WellFormedness.Statement (.localFrameSent) :=
  WellFormedness.of_none rfl

theorem WellFormedness.readStatus (h : CmdHead) (payload : List Byte) :
    WellFormedness.Statement (.readStatus h payload) :=
  WellFormedness.of_kind h .readStatus payload rfl
    (fun hw => by simpa [Instr.wf] using hw) (fun _ => rfl)

theorem WellFormedness.readTable (h : CmdHead) (payload : List Byte) :
    WellFormedness.Statement (.readTable h payload) :=
  WellFormedness.of_kind h .readTable payload rfl
    (fun hw => by simpa [Instr.wf] using hw) (fun _ => rfl)

theorem WellFormedness.selectGroup (h : CmdHead) (payload : List Byte) :
    WellFormedness.Statement (.selectGroup h payload) :=
  WellFormedness.of_kind h .selectGroup payload rfl
    (fun hw => by simpa [Instr.wf] using hw) (fun _ => rfl)

theorem WellFormedness.setTime (h : CmdHead) (payload : List Byte) :
    WellFormedness.Statement (.setTime h payload) :=
  WellFormedness.of_kind h .setTime payload rfl
    (fun hw => by simpa [Instr.wf] using hw) (fun _ => rfl)

theorem WellFormedness.sampleForward (h : CmdHead) (payload : List Byte) :
    WellFormedness.Statement (.sampleForward h payload) :=
  WellFormedness.of_kind h .sampleForward payload rfl
    (fun hw => by simpa [Instr.wf] using hw) (fun _ => rfl)

theorem WellFormedness.trip (h : CmdHead) (payload : List Byte) :
    WellFormedness.Statement (.trip h payload) :=
  WellFormedness.of_kind h .trip payload rfl
    (fun hw => by simpa [Instr.wf] using hw) (fun _ => rfl)

theorem WellFormedness.close (h : CmdHead) (payload : List Byte) :
    WellFormedness.Statement (.close h payload) :=
  WellFormedness.of_kind h .close payload rfl
    (fun hw => by simpa [Instr.wf] using hw) (fun _ => rfl)

theorem WellFormedness.placeTag (h : CmdHead) (payload : List Byte) :
    WellFormedness.Statement (.placeTag h payload) :=
  WellFormedness.of_kind h .placeTag payload rfl
    (fun hw => by simpa [Instr.wf] using hw) (fun _ => rfl)

theorem WellFormedness.removeTag (h : CmdHead) (payload : List Byte) :
    WellFormedness.Statement (.removeTag h payload) :=
  WellFormedness.of_kind h .removeTag payload rfl
    (fun hw => by simpa [Instr.wf] using hw) (fun _ => rfl)

theorem WellFormedness.testStart (h : CmdHead) (payload : List Byte) :
    WellFormedness.Statement (.testStart h payload) :=
  WellFormedness.of_kind h .testStart payload rfl
    (fun hw => by simpa [Instr.wf] using hw) (fun _ => rfl)

theorem WellFormedness.testCancel (h : CmdHead) (payload : List Byte) :
    WellFormedness.Statement (.testCancel h payload) :=
  WellFormedness.of_kind h .testCancel payload rfl
    (fun hw => by simpa [Instr.wf] using hw) (fun _ => rfl)

theorem WellFormedness.writeCurve (h : CmdHead) (payload : List Byte) :
    WellFormedness.Statement (.writeCurve h payload) :=
  WellFormedness.of_kind h .writeCurve payload rfl
    (fun hw => by simpa [Instr.wf] using hw) (fun _ => rfl)

theorem WellFormedness.clearCurve (h : CmdHead) (payload : List Byte) :
    WellFormedness.Statement (.clearCurve h payload) :=
  WellFormedness.of_kind h .clearCurve payload rfl
    (fun hw => by simpa [Instr.wf] using hw) (fun _ => rfl)

theorem WellFormedness.writeDevice (h : CmdHead) (payload : List Byte) :
    WellFormedness.Statement (.writeDevice h payload) :=
  WellFormedness.of_kind h .writeDevice payload rfl
    (fun hw => by simpa [Instr.wf] using hw) (fun _ => rfl)

theorem WellFormedness.writeBattery (h : CmdHead) (payload : List Byte) :
    WellFormedness.Statement (.writeBattery h payload) :=
  WellFormedness.of_kind h .writeBattery payload rfl
    (fun hw => by simpa [Instr.wf] using hw) (fun _ => rfl)

theorem WellFormedness.writeRadio (h : CmdHead) (payload : List Byte) :
    WellFormedness.Statement (.writeRadio h payload) :=
  WellFormedness.of_kind h .writeRadio payload rfl
    (fun hw => by simpa [Instr.wf] using hw) (fun _ => rfl)

theorem WellFormedness.writeAreas (h : CmdHead) (payload : List Byte) :
    WellFormedness.Statement (.writeAreas h payload) :=
  WellFormedness.of_kind h .writeAreas payload rfl
    (fun hw => by simpa [Instr.wf] using hw) (fun _ => rfl)

theorem WellFormedness.flushClass (h : CmdHead) (payload : List Byte) :
    WellFormedness.Statement (.flushClass h payload) :=
  WellFormedness.of_kind h .flushClass payload rfl
    (fun hw => by simpa [Instr.wf] using hw) (fun _ => rfl)

theorem WellFormedness.driveRestore (h : CmdHead) (payload : List Byte) :
    WellFormedness.Statement (.driveRestore h payload) :=
  WellFormedness.of_kind h .driveRestore payload rfl
    (fun hw => by simpa [Instr.wf] using hw) (fun _ => rfl)

theorem WellFormedness.restart (h : CmdHead) (payload : List Byte) :
    WellFormedness.Statement (.restart h payload) :=
  WellFormedness.of_kind h .restart payload rfl
    (fun hw => by simpa [Instr.wf] using hw) (fun _ => rfl)

theorem WellFormedness.writeGates (h : CmdHead) (payload : List Byte) :
    WellFormedness.Statement (.writeGates h payload) :=
  WellFormedness.of_kind h .writeGates payload rfl
    (fun hw => by simpa [Instr.wf] using hw) (fun _ => rfl)

theorem WellFormedness.resetLine :
    WellFormedness.Statement (.resetLine) :=
  WellFormedness.of_none rfl

theorem WellFormedness.resetInRelease :
    WellFormedness.Statement (.resetInRelease) :=
  WellFormedness.of_none rfl

theorem WellFormedness.powerOn :
    WellFormedness.Statement (.powerOn) :=
  WellFormedness.of_none rfl

theorem WellFormedness.resetInAsserted :
    WellFormedness.Statement (.resetInAsserted) :=
  WellFormedness.of_none rfl

theorem WellFormedness.powerLoss :
    WellFormedness.Statement (.powerLoss) :=
  WellFormedness.of_none rfl

theorem WellFormedness.frameLengthExceeded (port : Port) :
    WellFormedness.Statement (.frameLengthExceeded port) :=
  WellFormedness.of_none rfl

theorem WellFormedness.writeGroup (h : CmdHead) (payload : List Byte) :
    WellFormedness.Statement (.writeGroup h payload) := by
  refine WellFormedness.of_kind h .writeGroup payload rfl (fun hw => ?_) (fun hw => ?_)
  · simp only [Instr.wf, Bool.and_eq_true] at hw
    exact hw.1
  · simp only [Instr.wf, Bool.and_eq_true] at hw
    have he : ∀ p, instrOf (rowEntry h .writeGroup p) =
        match p with
        | [slot, b] => if b == 0xFF#8 then .writeGroupClear h slot else .writeGroup h p
        | _ => .writeGroup h p := fun _ => rfl
    rw [he]
    split
    · rename_i slot b
      have hb : (b == 0xFF#8) = false := by simpa using hw.2
      simp [hb]
    · rfl

theorem WellFormedness.writeGroupClear (h : CmdHead) (slot : Byte) :
    WellFormedness.Statement (.writeGroupClear h slot) :=
  WellFormedness.of_kind h .writeGroup [slot, 0xFF#8] rfl
    (fun hw => ⟨by simpa [Instr.wf] using hw, rfl⟩) (fun _ => rfl)

/-- A kind byte that is not known has no kind. -/
theorem WellFormedness.kindOfCode_none (b : Byte) (h : knownKind b = false) : kindOfCode b = none := by
  simp only [knownKind, Bool.and_eq_false_iff, decide_eq_false_iff_not] at h
  simp only [kindOfCode]
  split
  · rfl
  · apply List.getElem?_eq_none
    simp only [cmdKinds, List.length_cons, List.length_nil]
    omega

theorem WellFormedness.unknownCommand (h : CmdHead) (payload : List Byte) :
    WellFormedness.Statement (.unknownCommand h payload) := by
  intro hw e he
  simp only [entryOfRow, Option.some.injEq] at he
  subst he
  simp only [Instr.wf, CmdHead.wf, Bool.and_eq_true, decide_eq_true_eq] at hw
  refine ⟨hw.1.1.1, hw.1.1.2, hw.1.2, ?_⟩
  cases payload with
  | nil => rfl
  | cons b bs =>
    have hk : entryKind ⟨h.port, h.level, h.wantsReply, h.source, b :: bs⟩ = none :=
      WellFormedness.kindOfCode_none b (by simpa using hw.2)
    simp only [instrOf, hk]

end Sys2Proof.Laws
end

