-- ==== Sys2Proof/Laws/Sequence.lean ====
section
/-! SUPPORT. What the shared operations of SEQ come to: entering a state (R64), LOCKOUT (R86), and an
arrival as a whole (R56, R64, R140). -/

namespace Sys2Proof.Machine

/-- What SEQ holds after it has entered a state. -/
def Seq.entered (q : Seq) (st : SeqState) : Seq :=
  { q with
    state := st
    lockReason := none
    manualReclaim := if st.clearsManual then false else q.manualReclaim
    tripCause := if st = .tripping then q.tripCause else none
    closeCause := if st = .closing then q.closeCause else none
    timer := none
    restartMark := if st = .unknown then q.restartMark else none
    episode := if st.followsEpisodes then q.episode else none }

@[simp] theorem State.tellBat_seq (s : State) : s.tellBat.seq = s.seq := by simp

@[simp] theorem State.seqGoto_seq (st : SeqState) (s : State) :
    (s.seqGoto st).seq = s.seq.entered st := by
  simp [State.seqGoto, Seq.entered]

/-- BAT after SEQ has entered a state: a disconnect that waits ends with LOCKOUT and FAILED. -/
theorem State.seqGoto_bat (st : SeqState) (s : State) :
    (s.seqGoto st).bat =
      if awaitsSeq s.bat = true ∧ (st = .lockout ∨ st = .failed)
      then { s.bat with disc := .disconnected, lvdOut := true } else s.bat := by
  simp only [State.seqGoto, State.tellBat, State.assertLvd, State.modSeq_bat, State.modSeq_seq]
  by_cases ha : awaitsSeq s.bat = true <;> cases st <;> simp [ha]

@[simp] theorem State.seqLockout_seq (r : LockReason) (s : State) :
    (s.seqLockout r).seq = { s.seq.entered .lockout with lockReason := some r } := by
  simp [State.seqLockout]

theorem State.seqLockout_bat (r : LockReason) (s : State) :
    (s.seqLockout r).bat =
      if awaitsSeq s.bat = true
      then { s.bat with disc := .disconnected, lvdOut := true } else s.bat := by
  simp [State.seqLockout, State.seqGoto_bat]

/-- R86: LOCKOUT is recorded with its reason and the shot counter. -/
theorem State.seqLockout_emitted (r : LockReason) (s : State) :
    Emitted s (.lockout r s.seq.shot) (s.seqLockout r) := by
  have h : (s.seqGoto .lockout).seq.shot = s.seq.shot := by simp [Seq.entered]
  apply emitted_of_emit
    (s' := (s.seqGoto .lockout).modSeq (fun q => { q with lockReason := some r }))
    (by simp) (by simp) (by simp) (by simp)
  · rw [← h]; rfl
  · rw [← h]; rfl

/-- R56, R64: without a pending selection, a notice to SET is its view of SEQ. -/
theorem State.settleNotice_plain {s : State} (h : s.sets.pendingSel = none) :
    s.settleNotice = s.modSets (fun k => { k with settledView := seqSettled s }) := by
  simp only [State.settleNotice]
  split
  · rename_i hs
    cases s
    simp only [State.modSets] at *
    rw [hs]
  · split
    · simp [State.applyPending, h]
    · rfl

/-- An arrival that leads to no low-battery trip, with no selection pending. -/
theorem State.seqArrive_plain {f : State → State} {s : State}
    (hr : awaitsSeq (f s).bat = true → (f s).seq.state = s.seq.state ∨
      ((f s).seq.state ≠ .ready ∧ (f s).seq.state ≠ .reclaim))
    (hp : (f s).sets.pendingSel = none) :
    s.seqArrive f = (f s).modSets (fun k => { k with settledView := seqSettled (f s) }) := by
  have h : (f s).resendTrip s.seq.state = f s := by
    simp only [State.resendTrip]
    split
    · rename_i hc
      rcases hr hc.1 with h1 | h1
      · exact absurd h1 hc.2.1
      · rcases hc.2.2 with h2 | h2
        · exact absurd h2 h1.1
        · exact absurd h2 h1.2
    · rfl
  simp only [State.seqArrive, h, State.settleNotice_plain hp]

/-- What a loading leaves of SEQ: its state and all that belongs to it (R41, R55, R85). -/
def Seq.sameCourse (a b : Seq) : Prop :=
  a.state = b.state ∧ a.lockReason = b.lockReason ∧ a.manualReclaim = b.manualReclaim ∧
  a.tripCause = b.tripCause ∧ a.closeCause = b.closeCause ∧ a.timer = b.timer ∧
  a.restartMark = b.restartMark

/-- The blocks that nothing in a loading reaches while SEQ is settled. -/
def sameDrive (s t : State) : Prop := t.drv = s.drv ∧ t.bat = s.bat ∧ t.sup = s.sup

/-- A live set is loaded while SEQ is settled: SEQ keeps its course, and neither the drive nor the
battery nor the arbiter is reached; a shot counter within the new N stays. -/
theorem State.takeLive_course {s : State} (h : seqSettled s = true) (l : LiveSet) :
    (s.takeLive l).seq.sameCourse s.seq ∧ sameDrive s (s.takeLive l) ∧
    (s.seq.shot ≤ l.grp.shots → (s.takeLive l).seq.shot = s.seq.shot ∧
      (s.takeLive l).ele.shotCopy = s.ele.shotCopy) := by
  have hst : s.seq.state = .unknown ∨ s.seq.state = .lockout ∨ s.seq.state = .failed ∨
      s.seq.state = .ready := by
    revert h
    cases hs : s.seq.state <;> simp [seqSettled, hs]
  simp only [State.takeLive, Seq.sameCourse, sameDrive]
  split <;> rcases hst with hs | hs | hs | hs <;>
    simp_all [State.seqResult, State.setShot, clearResult, noFlags, Flags4.any,
      State.seqEpisode, clearElements]

/-- R56, R58: a notice to SET leaves SEQ its course, whatever selection is pending. -/
theorem State.settleNotice_course (s : State) :
    s.settleNotice.seq.sameCourse s.seq ∧ sameDrive s s.settleNotice ∧
    (s.seq.shot = 0 → s.settleNotice.seq.shot = 0 ∧
      s.settleNotice.ele.shotCopy = s.ele.shotCopy) := by
  simp only [State.settleNotice]
  split
  · simp [Seq.sameCourse, sameDrive]
  · split
    · rename_i hn
      have hn' : seqSettled (s.modSets (fun k => { k with settledView := seqSettled s })) = true := hn
      simp only [State.applyPending]
      split
      · simp [Seq.sameCourse, sameDrive]
      · split
        · simp [Seq.sameCourse, sameDrive]
        · have h := fun l => State.takeLive_course hn' l
          simp only [sameDrive, State.modSets_seq, State.modSets_drv, State.modSets_bat,
            State.modSets_sup, State.modSets_ele] at h
          simp only [State.applyLoad, sameDrive, State.emit_frame, State.requestStore_frame,
            State.modSets_seq, State.modSets_drv, State.modSets_bat, State.modSets_sup,
            State.modSets_ele]
          refine ⟨(h _).1, (h _).2.1, fun h0 => ?_⟩
          have := (h (liveSetOf (s.modSets fun k => { k with settledView := seqSettled s }).store
            ‹_›)).2.2 (by simp [h0])
          rwa [h0] at this
    · simp [Seq.sameCourse, sameDrive]

/-- An arrival that leads to no low-battery trip leaves SEQ on the course of its action. -/
theorem State.seqArrive_course {f : State → State} {s : State}
    (hr : awaitsSeq (f s).bat = true → (f s).seq.state = s.seq.state ∨
      ((f s).seq.state ≠ .ready ∧ (f s).seq.state ≠ .reclaim)) :
    (s.seqArrive f).seq.sameCourse (f s).seq ∧ sameDrive (f s) (s.seqArrive f) ∧
    ((f s).seq.shot = 0 → (s.seqArrive f).seq.shot = 0 ∧
      (s.seqArrive f).ele.shotCopy = (f s).ele.shotCopy) := by
  have h : (f s).resendTrip s.seq.state = f s := by
    simp only [State.resendTrip]
    split
    · rename_i hc
      rcases hr hc.1 with h1 | h1
      · exact absurd h1 hc.2.1
      · rcases hc.2.2 with h2 | h2
        · exact absurd h2 h1.1
        · exact absurd h2 h1.2
    · rfl
  simp only [State.seqArrive, h]
  exact State.settleNotice_course _

end Sys2Proof.Machine
end

