-- ==== Sys2Proof/Tests/Slice0.lean ====
section
/-! SUPPORT. The model's own tests: the ill-formed terms that WellFormed refuses, the worked examples
and tables of the manual, and for each statement with hypotheses concrete states and operands that
meet them, clause by clause. -/

namespace Sys2Proof.Tests

set_option Elab.async false

open Sys2Proof Sys2Proof.Machine

/-! ## WellFormed -/

/-- A command head of the local port at level 0. -/
def wHead : CmdHead := ⟨.localPort, 0, true, 5⟩

theorem test_wf_empty_reception : (Instr.sampleFrameReceived []).wf = false := by decide
theorem test_wf_crew_zero : (Instr.tagExpiryCountdownEnd 0).wf = false := by decide
theorem test_wf_crew_high : (Instr.tagExpiryCountdownEnd 65536).wf = false := by decide
theorem test_wf_long_frame :
    (Instr.stationFrameReceived .radio (List.replicate 252 0#8)).wf = false := by decide +kernel
theorem test_wf_long_poll : (Instr.poll (List.replicate 241 0#8)).wf = false := by decide +kernel
theorem test_wf_level : (Instr.trip { wHead with level := 4 } []).wf = false := by decide
theorem test_wf_source : (Instr.trip { wHead with source := 65536 } []).wf = false := by decide
theorem test_wf_long_command :
    (Instr.trip wHead (List.replicate 240 0#8)).wf = false := by decide +kernel
theorem test_wf_clear_as_write : (Instr.writeGroup wHead [1#8, 0xFF#8]).wf = false := by decide
theorem test_wf_known_kind : (Instr.unknownCommand wHead [0x16#8]).wf = false := by decide
theorem test_wf_long_unknown :
    (Instr.unknownCommand wHead (List.replicate 241 0#8)).wf = false := by decide +kernel
theorem test_wf_accepts : (Instr.trip wHead []).wf = true ∧
    (Instr.writeGroupClear wHead 3#8).wf = true ∧
    (Instr.unknownCommand wHead [0x17#8]).wf = true := by decide

/-! ## Worked examples of the manual -/

/-- R191: the check value of the CRC over the ASCII bytes "123456789". -/
theorem test_crc : crc16 [0x31#8, 0x32#8, 0x33#8, 0x34#8, 0x35#8, 0x36#8, 0x37#8, 0x38#8, 0x39#8] =
    0x29B1#16 := by decide +kernel

/-- Table 2-2. -/
def curve5 : Curve :=
  { rows := [⟨16, 512⟩, ⟨32, 2048⟩, ⟨48, 4096⟩, ⟨64, 8192⟩, ⟨80, 12288⟩, ⟨96, 16384⟩], decay := none }

/-- Table 2-2, column re at TD 128, and the row of 1,000 A at a pickup of 200 A (2.7.2). -/
theorem test_effective_rates :
    curve5.rows.map (fun r => effectiveRate r.rate 128) = [256, 1024, 2048, 4096, 6144, 8192] ∧
    m16 1000 200 = 80 ∧ curveRate curve5.rows 80 = 12288 := by decide

/-- Table 2-3, E-steps 1, 2, and 171 from 170. -/
theorem test_steady_fault :
    timedStep (some curve5) 200 128 0 1000 ⟨0, 0, false, false⟩ = ⟨6144, 1, true, false⟩ ∧
    timedStep (some curve5) 200 128 0 1000 ⟨6144, 1, true, false⟩ = ⟨12288, 2, true, false⟩ ∧
    timedStep (some curve5) 200 128 0 1000 ⟨1044480, 170, true, false⟩ =
      ⟨1048576, 171, true, true⟩ := by decide

/-- The curve of 2.7.5 with its dip. -/
def curveGt : Curve := { rows := [⟨16, 524288⟩, ⟨32, 524288⟩], decay := some 4096 }

/-- Table 2-5: the steady column at E-steps 5 and 6, the dip at E-step 4, and the return. -/
theorem test_minimum_response :
    timedStep (some curveGt) 100 32 6 150 ⟨1048576, 4, true, false⟩ = ⟨1048576, 5, true, false⟩ ∧
    timedStep (some curveGt) 100 32 6 150 ⟨1048576, 5, true, false⟩ = ⟨1048576, 6, true, true⟩ ∧
    timedStep (some curveGt) 100 32 6 50 ⟨1048576, 3, true, false⟩ = ⟨1044480, 3, false, false⟩ ∧
    timedStep (some curveGt) 100 32 6 150 ⟨1044480, 3, false, false⟩ = ⟨1048576, 4, true, false⟩ := by
  decide

/-- Table 7-5, absorb and float. -/
theorem test_setpoints :
    [-400, -200, 0, 250, 400, 600].map
        (fun t => setpoint factoryBattery 2880 (setpointTemp true (some t))) =
      [3000, 3000, 3000, 2880, 2790, 2730] ∧
    [-400, -200, 0, 250, 400, 600].map
        (fun t => setpoint factoryBattery 2720 (setpointTemp true (some t))) =
      [3000, 2990, 2870, 2720, 2630, 2570] := by decide

/-- R129: the rounding at small corrections. -/
theorem test_rounding : roundHundredth 50 = 1 ∧ roundHundredth (-50) = -1 ∧
    roundHundredth (-33000) = -330 := by decide

/-- R130: the charge of a second, and SoC after an hour at -150. -/
theorem test_charge : chargeStep 200 = 187 ∧ chargeStep (-150) = -150 ∧
    socOf factoryBattery 4320000 = 50 ∧ socOf factoryBattery 3780000 = 43 := by decide

/-- R132: the factory thresholds. -/
theorem test_shed : shedLevel factoryBattery 39 0 = 1 ∧ shedLevel factoryBattery 40 0 = 0 ∧
    shedLevel factoryBattery 19 1 = 2 ∧ shedLevel factoryBattery 9 2 = 3 ∧
    shedLevel factoryBattery 15 3 = 2 ∧ shedLevel factoryBattery 25 2 = 1 ∧
    shedLevel factoryBattery 45 1 = 0 ∧ shedLevel factoryBattery 44 1 = 1 ∧
    shedLevel factoryBattery 15 0 = 2 := by decide

/-- R136: the three verdicts of its example. -/
theorem test_verdicts :
    verdictOf factoryBattery 2500 110 1000 = (.pass, some 110) ∧
    verdictOf factoryBattery 2480 130 1000 = (.fail, some 130) ∧
    verdictOf factoryBattery 2600 10 99 = (.noLoad, none) := by decide

/-- R176: the holdoff lengths run from 50 to 800 ms. -/
theorem test_holdoff : holdoffLength 16 = 50 ∧ holdoffLength 15 = 800 ∧ holdoffLength 1 = 100 := by
  decide

/-- R157: a report of twelve events fills 39 words, a full response 62. -/
theorem test_words : reportWords 12 = 39 ∧ frameWords 240 = 62 := by decide

/-- State.reset is the power-on of a part in the factory state (R189, R190; log entry 6). -/
theorem test_reset_is_power_on :
    exec .powerOn State.reset = .next State.reset := by rfl

/-- R180: a COMMAND frame on the wire, written out byte by byte but for its CRC: destination 1, source
65,534, kind 0x01, control level 1 with a response, length 1, TRIP (R194); whole, and in two parts. -/
theorem test_command_frame :
    let first := [0x00#8, 0x5A#8, 0xA5#8, 0x00#8, 0x01#8, 0xFF#8]
    let second := [0xFE#8, 0x01#8, 0x05#8, 0x01#8, 0x06#8] ++
      crcBytes [0x00#8, 0x01#8, 0xFF#8, 0xFE#8, 0x01#8, 0x05#8, 0x01#8, 0x06#8]
    Receiver.idle.run (first ++ second) =
      (.idle, [.good ⟨1, 65534, 0x01#8, 0x05#8, [0x06#8]⟩]) ∧
    Receiver.idle.run first = (.collect [0x00#8, 0x01#8, 0xFF#8] 101, []) ∧
    Receiver.run (.collect [0x00#8, 0x01#8, 0xFF#8] 1) second =
      (.idle, [.good ⟨1, 65534, 0x01#8, 0x05#8, [0x06#8]⟩]) ∧
    claimedLevel 0x05#8 = 1 ∧ wantsReplyBit 0x05#8 = true ∧ kindOfCode 0x06#8 = some .trip := by decide +kernel

/-! ## Witnesses of the statements: the part as a whole, layouts, arithmetic -/

/-- The state after reset, with its selection record written (log entry 9). -/
def w0 : State := State.reset.modStore (fun st => { st with inFlight := none })

theorem witness_StepTakesTheFront :
    (w0.setPending [.silenceTimerExpiry]).pending = [.silenceTimerExpiry] := by decide

theorem witness_IdleStepRunsTheClock :
    w0.pending = [] ∧ due w0 = none ∧ w0.part.run = .running ∧
    due (w0.modSlr (fun l => { l with silenceLeft := 0 })) = some .silenceTimerExpiry ∧
    (w0.modPart (fun q => { q with run := .held })).part.run ≠ .running := by decide +kernel

theorem witness_QueueLinesAndPowerFrame : ∃ t, exec .powerLoss w0 = .next t := ⟨_, rfl⟩

theorem witness_NothingRunsInReset :
    (w0.modPart (fun q => { q with run := .unpowered })).part.run ≠ .running := by decide +kernel

/-- A sample frame with fields at the ends of their ranges. -/
def wSample : SampleFrame :=
  { seqNo := 255, pos := 31, samples := ⟨-32768, 32767, 0, 1, -1, 0, 0, true, false, true, false⟩
    cap := 65535, aux := 0, closedSide := true, openSide := false, pulled := false, mechReady := true
    headFault := false }

theorem witness_SampleFrameRoundTrip : wSample.inRange := by
  unfold SampleFrame.inRange
  decide +kernel

/-- A station frame with the longest payload. -/
def wStation : Frame := ⟨65535, 0, 0x07#8, 0xFF#8, List.replicate 240 0x5A#8⟩

/-- The longest frame, a wrong CRC, kinds on either side of the seven, a length field of 241, and bytes
without a preamble. -/
theorem witness_StationFrameRoundTrip :
    wStation.inRange ∧ [0#8, 0#8] ≠ crcBytes (frameBody ⟨1, 65534, 0x01#8, 5#8, [6#8]⟩) ∧
    (∀ k ∈ [0#8, 8#8], k.toNat = 0 ∨ 7 < k.toNat) ∧ 240 < (241#8).toNat ∧
    (List.replicate 6 0#8).length = 6 ∧ 0x5A#8 ∉ [0xA5#8, 0#8] := by
  unfold Frame.inRange
  decide +kernel

/-- A settings group with four shots. -/
def wGroup : Group :=
  { ptPickup := 5, gtPickup := 3200, ptDial := 16, gtDial := 1024, ptMin := 400, gtMin := 0
    phPickup := 50, ghPickup := 32768, phDelay := 80, ghDelay := 0, liveV := 32767, deadV := 32766
    shots := 4, rows := List.replicate 4 ⟨15, 0, true, false⟩, intervals := [100, 180000, 100]
    reclaim := 600000, needLive := true, coord := false }

theorem witness_TableRoundTrip :
    curveOk curve5 = true ∧ curveOk curveGt = true ∧ groupOk wGroup = true ∧
    deviceOk factoryDevice = true ∧ batteryOk factoryBattery = true ∧ radioOk factoryRadio = true ∧
    areasOk factoryAreas = true ∧ factoryGates.length = 21 ∧ ∀ e ∈ factoryGates, e.level ≤ 3 := by
  decide +kernel

theorem witness_MagnitudeIsTheFloorRoot :
    0 < (⟨[], 0, 1⟩ : Window).satCount ∧
    (⟨[], 137438953471, 0⟩ : Window).satCount = 0 ∧
    (⟨[], 137438953471, 0⟩ : Window).sum / 32 < 4294967296 := by decide +kernel

/-- Both branches and both reset modes, at a pickup of 5 A. -/
theorem witness_TimedElementStep :
    curveOk curve5 = true ∧ curve5.decay = none ∧ curveOk curveGt = true ∧
    curveGt.decay = some 4096 ∧ (5 : Nat) ≤ 5 ∧ (16 : Nat) ≤ 16 ∧ (1048576 : Nat) ≤ 1048576 ∧
    (4 : Nat) < 5 := by decide +kernel

theorem witness_ElementsOperateOnTime :
    builtinCurve.rows = [⟨16, 4096⟩] ∧ curveOk curve5 = true ∧ (5 : Nat) ≤ 200 ∧ (16 : Nat) ≤ 128 ∧ (0 : Nat) ≤ 400 ∧
    (200 : Nat) ≤ 1000 ∧ (80 : Nat) ≤ 80 ∧ (49 : Nat) < 50 := by decide +kernel

theorem witness_SetpointsFollowTheTemperature :
    batteryOk factoryBattery = true ∧ (-400 : Int) ≤ 600 ∧ (0 : Int) ≤ 0 := by decide +kernel

/-- A rise through every level, and a fall. -/
theorem witness_ShedLevelEvaluation :
    batteryOk factoryBattery = true ∧ 9 < shedThreshold factoryBattery 1 ∧
    shedLevel factoryBattery 9 0 = 3 ∧ ¬ (100 < shedThreshold factoryBattery 3) ∧
    shedLevel factoryBattery 100 3 = 0 := by decide +kernel

/-! ## Witnesses of the invariants -/

/-- A tag of crew 7. -/
def wTag : Tag := ⟨7, .noClose, .radio, 1, ⟨3, 0, false⟩, some 1440⟩

/-- A state in LOCKOUT under a tag, with a command that waits. -/
def wLaw : State :=
  { w0 with
    seq := { w0.seq with
      state := .lockout, lockReason := some .tag, tagPresent := true, noClosePresent := true }
    lku := { w0.lku with inForce := [wTag], staged := [wTag], countdowns := [(7, 86400000)] }
    store := { w0.store with tags := [wTag] }
    pending := [.silenceTimerExpiry] }

/-- A step from `wLaw` answers a next state. -/
theorem witness_steps : ∃ t, step wLaw = .next t := ⟨_, rfl⟩

theorem witness_MeasurementKept : MeasureLaw wLaw := by
  unfold MeasureLaw windowOk
  decide +kernel

theorem witness_CoilsKept : CoilsLaw wLaw := ⟨rfl, rfl, rfl, rfl, rfl⟩

theorem witness_SequenceKept : SequenceLaw wLaw := by
  unfold SequenceLaw
  decide +kernel

theorem witness_ShotCounterKept : SequenceLaw wLaw ∧ ShotLaw wLaw := by
  refine ⟨witness_SequenceKept, ⟨by decide +kernel, ?_⟩, by decide +kernel⟩
  intro op h
  cases (show (none : Option StoreOp) = some op from h)

theorem witness_TagTableKept : TagLaw wLaw := by
  refine ⟨by unfold tagsOk; decide +kernel, by unfold tagsOk; decide +kernel, by decide +kernel,
    by decide +kernel, by decide +kernel,
    by decide +kernel, by decide +kernel, by decide +kernel, ?_⟩
  intro op h
  cases (show (none : Option StoreOp) = some op from h)

theorem witness_QueuesKept : QueueLaw wLaw :=
  ⟨by decide +kernel, by decide +kernel, by decide +kernel, by decide +kernel, by decide +kernel,
    by decide +kernel, trivial, trivial, by decide +kernel⟩

theorem witness_PacketMemoryKept : AreasLaw wLaw := by
  refine ⟨fun a => by cases a <;> decide +kernel, by decide +kernel, by decide +kernel, ?_⟩
  intro op h
  cases (show (none : Option StoreOp) = some op from h)

theorem witness_OutputsKept : OutputsLaw wLaw := by
  unfold OutputsLaw
  decide +kernel

theorem witness_GrantsKept : GrantLaw wLaw := by
  unfold GrantLaw
  decide +kernel

/-- CAP_RECHARGE waits for a radio that is RELEASING; the sent frame brings it to HOLDING. -/
theorem witness_GrantsKept_step :
    let s := { w0 with
      bat := { w0.bat with supply := false }
      sup := { w0.sup with supply := false, cap := .requesting, radio := .releasing }
      rpc := { w0.rpc with supply := false, state := .sending, radioKey := true
                           answer := some ⟨.poll, none, ⟨1, 65534, 2#8, 0#8, []⟩⟩ }
      pending := [Instr.radioFrameSent] }
    GrantLaw s ∧ s.sup.cap ≠ .holding ∧ s.sup.supply = false ∧
    (match step s with
     | .next t => (t.sup.supply, t.sup.cap, t.sup.radio)
     | _ => (true, .idle, .holding)) = (false, .holding, .idle) := by
  unfold GrantLaw
  decide +kernel

theorem witness_ViewsKept : ViewsLaw wLaw := by
  unfold ViewsLaw
  decide +kernel

theorem witness_BatteryKept : BatteryLaw wLaw := by
  refine ⟨by decide +kernel, ?_, by decide +kernel⟩
  intro op h
  cases (show (none : Option StoreOp) = some op from h)

/-! ## Witnesses of the rows -/

/-- A link state with its count of consecutive missing frames and a fill count. -/
def wLink (l : Link) (missing fill : Nat) : State :=
  (w0.modSlr (fun r =>
    { r with link := l, consecMissing := missing, lastSeq := some 254
             prevPosition := some .closed })).modMeu (fun m => { m with fill := fill })

/-- The sample frame as the head sends it. -/
def wBytes : List Byte := encodeSample wSample

/-- A frame in every state of the link, at both sides of a full window; after a gap on either side of
the eighth missing frame in a row; and at both ends of the decimation and the batch. -/
theorem witness_GoodFrameTakesItsSlot :
    sampleFrameOk wBytes = true ∧ (decodeSample wBytes).headFault = false ∧
    (∀ s ∈ [wLink .up 0 32, wLink .holding 7 32, wLink .lost 8 0, wLink .refilling 0 30,
        wLink .refilling 0 31],
      s.part.run = .running ∧ gapFrames s.slr (decodeSample wBytes).seqNo = 0 ∧
      s.slr.decimation = 0) ∧
    (∀ p ∈ [(247, 7), (246, 8)],
      gapFrames ((wLink .up 0 32).modSlr (fun r => { r with lastSeq := some p.1 })).slr
        (decodeSample wBytes).seqNo = p.2) ∧
    (let s := (wLink .up 0 32).modSlr (fun r =>
        { r with decimation := 8, takeCount := 7, batch := List.replicate 7 wSample, runPos := some 31 })
     s.slr.decimation ≠ 0 ∧ s.slr.decimation ≤ s.slr.takeCount + 1 ∧ 7 ≤ s.slr.batch.length ∧
     PlainSlot s wSample ∧ wSample.pos % 4 ≠ 2 ∧ s.sup.supply = true ∧
     s.seq.state ≠ .closeWait ∧ s.fcu.localQ.length < 8) := by
  unfold PlainSlot
  decide +kernel

/-- A frame over open or closed contacts. -/
def wSeen (p : Position) (pulled : Bool) : SampleFrame :=
  { wSample with closedSide := p == .closed, openSide := p == .opened, pulled := pulled, pos := 0 }

/-- A link that is UP with a last frame of these readings, and views of other contacts. -/
def wMoves (f : SampleFrame) (st : SeqState) (d : DriveState) (k : OpKind) : State :=
  let s := (w0.modSlr (fun r =>
    { r with link := .up, lastSeq := some 254, prevPosition := some (readPosition f)
             prevHandle := some (readHandle f), runPos := some 31 })).modSeq (fun q =>
    { q with state := st })
  let u := s.modDrv (fun v => { v with state := d, op := some ⟨k, 5, 3000, ⟨0, 0, false⟩, 60, false, false⟩ })
  u.modSets (fun c => { c with settledView := seqSettled u })

/-- A trip and a close that are confirmed, UNKNOWN, unexpected positions and a pulled handle. -/
theorem witness_GoodFrameTakesItsSlot_delivery :
    (let s := wMoves (wSeen .opened false) .tripping .tripBackup (.trip .command)
     let f := wSeen .opened false
     gapFrames s.slr f.seqNo = 0 ∧ AcceptsPosition s f .opened ∧ HandleStays s f ∧
     s.drv.position ≠ .opened ∧ s.sets.settledView = false ∧ s.drv.op.isSome = true) ∧
    (let s := wMoves (wSeen .closed false) .closing .closeActive (.close .auto)
     let f := wSeen .closed false
     AcceptsPosition s f .closed ∧ HandleStays s f ∧ PlainSlot s f ∧ awaitsSeq s.bat = false) ∧
    (∀ f ∈ [wSeen .opened false, wSeen .closed false, wSeen .indeterminate false,
        wSeen .opened true],
      let s := (wMoves f .unknown .idle (.trip .command)).modSlr (fun r => { r with link := .holding })
      PlainSlot s f ∧ s.seq.state = .unknown ∧ s.slr.link ≠ .up) ∧
    (let s := wMoves (wSeen .opened false) .reclaim .idle (.trip .command)
     AcceptsPosition s (wSeen .opened false) .opened ∧ PlainSlot s (wSeen .opened false) ∧
     s.seq.position ≠ .opened) ∧
    (let s := wMoves (wSeen .closed false) .lockout .idle (.trip .command)
     AcceptsPosition s (wSeen .closed false) .closed ∧ PlainSlot s (wSeen .closed false) ∧
     s.seq.position ≠ .closed) ∧
    (let s := wMoves (wSeen .indeterminate true) .closing .closeActive (.close .auto)
     let f := wSeen .indeterminate true
     s.slr.prevHandle = some .pulled ∧ readHandle f = .pulled ∧ s.slr.handle = .returned ∧
     s.seq.position = s.slr.position ∧ s.seq.handle = .returned ∧ PlainSlot s f) ∧
    (let s := wMoves (wSeen .indeterminate false) .ready .idle (.trip .command)
     endsQuarter (some 6) 7 = true ∧ s.sets.settledView = seqSettled s ∧
     tripAnswer s.drv = .accepted) := by
  unfold AcceptsPosition HandleStays PlainSlot
  decide +kernel

/-- An unexpected CLOSED in CLOSE_WAIT. -/
theorem witness_GoodFrameTakesItsSlot_closeWait :
    let s := (wMoves (wSeen .closed false) .closeWait .idle (.trip .command)).modSeq (fun q =>
      { q with cap := wSample.cap, capStale := false })
    let f := wSeen .closed false
    gapFrames s.slr f.seqNo = 0 ∧ AcceptsPosition s f .closed ∧ HandleStays s f ∧ PlainSlot s f ∧
    awaitsSeq s.bat = false ∧ s.seq.state = .closeWait ∧ s.seq.position ≠ .closed ∧
    f.cap = s.seq.cap ∧ s.seq.capStale = false := by
  unfold AcceptsPosition HandleStays PlainSlot
  decide +kernel

/-- A bad reception, a head fault behind a gap, and the seventh and eighth missing frame in a row. -/
theorem witness_MissingFrameTakesItsSlot :
    sampleFrameOk [0#8] = false ∧
    (let bytes := encodeSample { wSample with headFault := true }
     sampleFrameOk bytes = true ∧ (decodeSample bytes).headFault = true ∧
     gapFrames ((wLink .up 0 32).modSlr (fun r => { r with lastSeq := some 250 })).slr
       (decodeSample bytes).seqNo + 1 = 5) ∧
    ∀ s ∈ [wLink .up 7 32, wLink .up 6 32, wLink .holding 7 32, wLink .lost 8 0,
        wLink .refilling 0 5], s.part.run = .running := by decide +kernel

/-- A drive state with an operation in flight. -/
def wDrive (st : DriveState) (k : OpKind) (extended stale : Bool) : State :=
  w0.modDrv (fun d =>
    { d with state := st, op := some ⟨k, 5, 3000, ⟨0, 0, false⟩, 60, false, extended⟩
             monitor := some 0, stale := stale, recharge := true })

theorem witness_TripIsPlaced :
    tripAnswer w0.drv = .accepted ∧ w0.drv.state = .idle ∧
    tripAnswer (wDrive .closeActive (.close .auto) false false).drv = .accepted := by decide +kernel

/-- A state of SEQ with a timer. -/
def wSeq (st : SeqState) (k : Option SeqTimerKind) : State :=
  w0.modSeq (fun q => { q with state := st, shot := 1, timer := k.map (fun k => ⟨k, 0, false⟩) })

/-- Each reason of a lockout, and none, at the end of a trip; and a report outside TRIPPING. -/
theorem witness_TripEndDecides :
    w0.seq.state ≠ .tripping ∧ (wSeq .tripping none).seq.state = .tripping ∧
    (wSeq .tripping none).seq.shot = (wSeq .tripping none).sets.live.grp.shots ∧
    (w0.modSeq (fun q => { q with state := .tripping })).seq.shot ≠ w0.sets.live.grp.shots := by
  decide +kernel

/-- The open interval with fresh views and a charged capacitor, over open and closed contacts. -/
def wClose (p : Position) : State :=
  ((wSeq .openInterval (some .openInterval)).modSeq (fun q =>
    { q with linkUp := true, cap := 3000, ready := .ready })).modDrv (fun d =>
    { d with position := p, stale := false, capStale := false, cap := 3000, ready := .ready })

theorem witness_OpenIntervalExpires :
    (∀ s ∈ [wSeq .openInterval (some .openInterval), wClose .opened, wClose .closed],
      s.part.run = .running ∧ timerRuns s.seq .openInterval = true) ∧
    closeConditionsMet (wSeq .openInterval (some .openInterval)) = false ∧
    (closeConditionsMet (wClose .opened) = true ∧ closeAnswer (wClose .opened) = .accepted) ∧
    (closeConditionsMet (wClose .closed) = true ∧ closeAnswer (wClose .closed) = .completed ∧
      awaitsSeq (wClose .closed).bat = false) := by decide +kernel

theorem witness_WaitAndReclaimExpire :
    timerRuns (wSeq .closeWait (some .closeWait)).seq .closeWait = true ∧
    timerRuns (wSeq .reclaim (some .reclaim)).seq .reclaim = true ∧
    awaitsSeq w0.bat = false ∧ w0.sets.pendingSel = none ∧ w0.part.run = .running := by
  decide +kernel

/-- The first period on stale and on fresh values, the backup period and the extended one. -/
theorem witness_TripMonitorExpires :
    ∀ s ∈ [wDrive .tripMain (.trip .command) false true, wDrive .tripMain (.trip .command) false false,
        wDrive .tripBackup (.trip .command) false false,
        wDrive .tripMain (.trip .command) true true],
      s.part.run = .running ∧ s.drv.monitor.isSome = true ∧ s.drv.op.isSome = true ∧
      (s.drv.state = .tripMain ∨ s.drv.state = .tripBackup) ∧ s.drv.recharge = true := by
  decide +kernel

theorem witness_CloseMonitorExpires :
    let s := (wDrive .closeActive (.close .auto) false false).modSeq (fun q =>
      { q with state := .closing })
    s.part.run = .running ∧ s.drv.monitor.isSome = true ∧ s.drv.op.isSome = true ∧
    s.drv.state = .closeActive ∧ s.seq.state = .closing := by decide +kernel

/-- A radio response that is owed. -/
def wReply : Reply := ⟨.radio, 0x0E#8, 65534, 1⟩

/-- An operation in flight. -/
def wStored (b : StoreBody) : State :=
  w0.modStore (fun st => { st with inFlight := some ⟨b, some wReply, 0⟩, waitList := [.selection] })

/-- A cleared group with its selection pending, an area partition, a device record, a battery record
of another capacity, a radio record, and a response owed on the local port. -/
theorem witness_StoreOperationCompletes :
    (∀ s ∈ [wStored (.group 3 none), wStored (.areas factoryAreas), wStored (.device factoryDevice),
        wStored (.battery { factoryBattery with capacity := 1, testHours := 1 }),
        wStored (.radio factoryRadio)],
      s.part.run = .running ∧ s.store.inFlight.isSome = true ∧ responseRoom s = true ∧
      s.bat.test = .idle) ∧
    (wStored (.group 3 none)).store.inFlight.map (fun o => o.reply) = some (some wReply) ∧
    62 ≤ factoryAreas.response.depth ∧ (∀ g ∈ w0.rpb.routine, g.entries.length < 10) ∧
    (StoreBody.curve 15 none).names = some (0, 15) ∧ factoryRadio.unsolicited = false ∧
    w0.store.battery.capacity ≠ 1 ∧
    (let s := (wStored (.gates factoryGates)).modFcu (fun f => { f with localQ := [.reservation] })
     .reservation ∈ s.fcu.localQ) ∧
    ((wStored (.group 3 none)).modSets (fun k =>
      { k with pendingSel := some (some 3, .command) })).sets.pendingSel.map Prod.fst =
      some (some 3) := by decide +kernel

/-- A placing whose write is in flight. -/
theorem witness_TagWriteTakesEffect :
    let s := wStored (.tags [wTag] [.place wTag none])
    s.part.run = .running ∧
    s.store.inFlight = some ⟨.tags [wTag] [.place wTag none], some wReply, 0⟩ ∧
    s.seq.tagPresent = anyTag s.lku.inForce ∧
    s.seq.noClosePresent = anyNoClose s.lku.inForce := by decide +kernel

/-- A NO_CLOSE and a NO_RECLOSE tag that end a close and a close wait, a first tag with a tag group,
the end of the last tag with a return group, and the end of one tag of two. -/
theorem witness_TagWriteTakesEffect_notices :
    (let table (c : TagChange) (l : List Tag) : List Tag := (placedNow w0.fcu.time c).apply l
     anyNoClose (table (.place wTag none) []) = true ∧
     anyTag (table (.place { wTag with kind := .noReclose } none) []) = true ∧
     anyNoClose (table (.place { wTag with kind := .noReclose } none) []) = false ∧
     anyTag (table (.expire 7) [wTag]) = false ∧
     anyTag (table (.expire 7) [wTag, { wTag with crew := 8 }]) = true ∧
     tagOf [wTag] 7 = some wTag) ∧
    (∀ st ∈ [SeqState.lockout, .tripping, .openInterval, .closeWait, .closing, .ready, .reclaim],
      let s := w0.modSeq (fun q => { q with state := st })
      let u := s.modSets (fun k => { k with settledView := seqSettled s, ret := some none })
      u.sets.settledView = seqSettled u) ∧
    (let s := w0.modStore (fun st => { st with groups := st.groups.set 3 (some wGroup) })
     s.store.device.tagGroup = some 3 ∧ s.store.groups[3]?.join = some wGroup ∧
     s.sets.active ≠ some 3) ∧
    w0.store.device.tagGroup.all (fun g => w0.store.groups[g]?.join == none) = true ∧
    (wDrive .closeActive (.close .auto) false false).drv.op.isSome = true ∧
    (TagChange.place wTag (some wReply)).reply = some wReply ∧ responseRoom w0 = true := by
  decide +kernel

/-- The countdown of a tag, its removal not staged and staged, the store free and busy. -/
theorem witness_CountdownEnds :
    wLaw.part.run = .running ∧ (wLaw.lku.countdowns.lookup 7).isSome = true ∧
    removalStaged wLaw 7 = false ∧ wLaw.store.inFlight = none ∧
    removalStaged (wLaw.modLku (fun l => { l with staged := [] })) 7 = true ∧
    (wStored (.radio factoryRadio)).store.inFlight ≠ none := by decide +kernel

/-- The supply as seen by BAT and by its line. -/
def wSupply (taken line : Bool) (c : Charger) : State :=
  (w0.modBat (fun b => { b with supply := taken, qualLeft := some 0, charger := c })).modLines
    (fun l => { l with supplyPresent := line })

theorem witness_SupplyIsTaken :
    w0.lines.supplyPresent ≠ false ∧
    (let s := wSupply false true .off
     s.part.run = .running ∧ s.bat.qualLeft.isSome = true ∧ s.lines.supplyPresent = true ∧
     s.bat.charger = .off ∧ faultCause { s.bat with supply := true } = none ∧ s.bat.due = none ∧
     s.bat.test = .idle) ∧
    (let s := wSupply true false .float
     s.bat.qualLeft.isSome = true ∧ s.lines.supplyPresent = false ∧ s.bat.charger ≠ .test ∧
     s.bat.test = .idle ∧ s.bat.due = none) := by decide +kernel

/-- A second at both sides of the sixtieth below the disconnect voltage, on action HOLD. -/
def wSecond (n : Nat) : State :=
  (w0.modBat (fun b =>
    { b with supply := false, charger := .off, qualCount := n, voltSum := 2000, voltCount := 1
             ampSum := -150, ampCount := 1 })).modStore (fun st =>
    { st with battery := { st.battery with action := .hold } })

theorem witness_BatterySecondEnds :
    (∀ s ∈ [wSecond 58, wSecond 59], s.part.run = .running ∧ s.bat.charger ≠ .absorb ∧
      s.bat.supply = false ∧ s.bat.disc = .normal ∧ s.store.battery.action = .hold ∧
      meanOf s.bat.voltSum s.bat.voltCount = some 2000 ∧ (2000 : Int) < s.store.battery.discV ∧
      meanOf s.bat.ampSum s.bat.ampCount = some (-150)) ∧
    (wSecond 58).bat.qualCount < 59 ∧ 59 ≤ (wSecond 59).bat.qualCount ∧
    w0.bat.supply = true := by decide +kernel

/-- A second in BULK on either side of the absorb setpoint, and below the fault voltage. -/
theorem witness_BatterySecondEnds_charger :
    ∀ p ∈ [((2880 : Int), (none : Option FaultCause)), (2879, none), (999, some .openString)],
      let s := w0.modBat (fun b => { b with voltSum := p.1, voltCount := 1 })
      meanOf s.bat.voltSum s.bat.voltCount = some p.1 ∧ s.bat.supply = true ∧ s.bat.due = none ∧
      s.bat.charger = .bulk ∧ s.bat.absorbSet = 2880 ∧
      faultCause { s.bat with lastV := some p.1 } = p.2 := by decide +kernel

/-- The tail current on either side, and a full rebulk count on either side. -/
theorem witness_BatterySecondEnds_float :
    (∀ a ∈ [(49 : Int), 50],
      let s := w0.modBat (fun b =>
        { b with charger := .absorb, absorbMs := some 5, ampSum := a, ampCount := 1 })
      s.bat.supply = true ∧ s.bat.due = none ∧ meanOf s.bat.voltSum s.bat.voltCount = none ∧
      meanOf s.bat.ampSum s.bat.ampCount = some a ∧ s.store.battery.tail = 50 ∧
      s.bat.absorbMs.any (fun m => decide (absorbLimit s.store.battery ≤ m)) = false) ∧
    (∀ n ∈ [58, 59],
      let s := w0.modBat (fun b =>
        { b with charger := .float, rebulk := n, voltSum := 2000, voltCount := 1 })
      s.bat.supply = true ∧ s.bat.due = none ∧
      faultCause { s.bat with lastV := meanOf s.bat.voltSum s.bat.voltCount } = none ∧
      (2000 : Int) < s.bat.floatSet - s.store.battery.rebulkMargin) := by decide +kernel

/-- The sixtieth second with action OPEN_FIRST in each kind of state of SEQ. -/
theorem witness_BatterySecondEnds_openFirst :
    (∀ st ∈ [SeqState.lockout, .failed, .openInterval, .closeWait, .tripping, .ready, .closing, .unknown],
      let s := ((wSecond 59).modStore (fun d =>
        { d with battery := { d.battery with action := .openFirst } })).modSeq (fun q =>
          { q with state := st })
      s.part.run = .running ∧ s.bat.supply = false ∧ s.bat.disc = .normal ∧
      s.store.battery.action = .openFirst ∧ 59 ≤ s.bat.qualCount ∧
      meanOf s.bat.voltSum s.bat.voltCount = some 2000 ∧ (2000 : Int) < s.store.battery.discV ∧
      s.seq.state = st ∧ tripAnswer s.drv = .accepted) := by decide +kernel

/-- The sixtieth second in TRIPPING with no mean current, and the charger in each of its two states
without the supply. -/
theorem witness_BatterySecondEnds_tripping :
    ∀ c ∈ [Charger.off, .test],
      let s := (((wSecond 59).modStore (fun d =>
        { d with battery := { d.battery with action := .openFirst } })).modSeq (fun q =>
          { q with state := .tripping })).modBat (fun b => { b with charger := c, ampCount := 0 })
      s.part.run = .running ∧ s.bat.supply = false ∧ s.bat.disc = .normal ∧
      s.store.battery.action = .openFirst ∧ 59 ≤ s.bat.qualCount ∧
      meanOf s.bat.voltSum s.bat.voltCount = some 2000 ∧ (2000 : Int) < s.store.battery.discV ∧
      meanOf s.bat.ampSum s.bat.ampCount = none ∧ s.seq.state = .tripping ∧
      (s.bat.charger = .off ∨ s.bat.charger = .test) := by decide +kernel

/-- Table 7-3: BULK becomes ABSORB at the setpoint. -/
theorem test_bulk_to_absorb :
    let s := w0.modBat (fun b => { b with voltSum := 2880, voltCount := 1 })
    (match exec .batterySecondEnd s with
     | .next t => (t.bat.charger, t.bat.absorbMs)
     | _ => (.off, none)) = (.absorb, some 0) := by decide +kernel

theorem witness_ChargerTimersExpire :
    let s := w0.modBat (fun b => { b with charger := .absorb, absorbMs := some 14400000 })
    let u := w0.modBat (fun b => { b with charger := .fault, recoveryLeft := some 0 })
    s.part.run = .running ∧ s.bat.due = none ∧ s.bat.charger = .absorb ∧ s.bat.supply = true ∧
    s.slr.link ≠ .up ∧
    (s.modSlr (fun l => { l with link := .up })).slr.link = .up ∧
    u.bat.charger = .fault ∧ u.bat.recoveryLeft.isSome = true ∧ u.bat.due = none := by decide +kernel

theorem witness_TestTimersExpire :
    let s := w0.modBat (fun b => { b with retryLeft := some 0 })
    s.part.run = .running ∧ s.bat.retryLeft.isSome = true ∧ mayStartTest s = true ∧
    s.sup.supply = true ∧ s.sup.load = .idle ∧
    mayStartTest (s.modBat (fun b => { b with shed := 2 })) = false ∧
    (s.modBat (fun b => { b with shed := 2 })).bat.test = .idle ∧
    (s.modBat (fun b => { b with test := .settle })).bat.test ≠ .idle := by decide +kernel

/-- A load test in a phase, with one voltage and one current of the last second. -/
def wTest (st : TestState) (v : List (Nat × Int)) : State :=
  w0.modBat (fun b =>
    { b with test := st, recentV := v, recentI := [(0, -1020)], v0 := some 2610, i0 := some (-20) })

theorem witness_LoadTestPhasesEnd :
    (wTest .settle [(0, 2500)]).bat.test = .settle ∧
    recentMean 0 (wTest .settle [(0, 2500)]).bat.recentV = some 2500 ∧
    recentMean 0 (wTest .load [(0, 2500)]).bat.recentI = some (-1020) ∧
    recentMean 0 (wTest .settle []).bat.recentV = none ∧
    recentMean 0 ((wTest .load [(0, 2500)]).modBat (fun b => { b with recentI := [] })).bat.recentI
      = none ∧
    ((wTest .load [(0, 2500)]).modBat (fun b => { b with v0 := none })).bat.v0 = none ∧
    (wTest .load [(0, 2500)]).bat.test = .load ∧ (wTest .load []).bat.due = none ∧
    (wTest .load []).fcu.running = 0 ∧ (wTest .load []).part.run = .running := by decide +kernel

/-- A gathering record with n entries. -/
def wGather (n : Nat) : Gather := ⟨⟨0, 0, false⟩, 0, 0, List.replicate n ⟨.sequenceReset 0, 0⟩⟩

/-- An open record with eleven and with ten entries. -/
def wRecords (n : Nat) : State :=
  w0.modRpb (fun b => { b with urgent := some (wGather n), routine := some (wGather n) })

theorem witness_EventJoinsItsRecord :
    isClosing (.sequenceReset 0) = false ∧
    (wRecords 10).rpb.gather .routine = some (wGather 10) ∧ w0.rpb.gather .routine = none ∧
    (joined (wRecords 10) (.sequenceReset 0)).entries.length = 11 ∧
    (joined (wRecords 11) (.sequenceReset 0)).entries.length = 12 ∧
    (joined (wRecords 11) (.trip .command 1 noFlags)).entries.length = 12 ∧
    eventClass (.trip .command 1 noFlags) = .urgent ∧ isClosing (.lockout .handle 0) = true ∧
    reportWords 12 ≤ (wRecords 11).store.areas.urgent.depth ∧
    hasRoom (wRecords 11) .routine (reportWords 12) = true ∧
    hasRoom ((wRecords 11).modPkm (fun k =>
      { k with routine := List.replicate 40 (restartReport .powerOn) })) .routine
      (reportWords 12) = false := by
  decide +kernel

theorem witness_ReportTimersExpire :
    (wRecords 11).part.run = .running ∧ (wRecords 11).rpb.urgent = some (wGather 11) ∧
    reportWords 11 ≤ (wRecords 11).store.areas.urgent.depth ∧
    (wRecords 11).rpb.routine = some (wGather 11) ∧
    hasRoom (wRecords 11) .routine (reportWords 11) = true ∧
    hasRoom ((wRecords 11).modPkm (fun k =>
      { k with routine := List.replicate 40 (restartReport .powerOn) })) .routine
      (reportWords 11) = false := by decide +kernel

theorem witness_AcknowledgementRemovesItsReport :
    (1 : Nat) ≤ 1 ∧ (65535 : Nat) ≤ 65535 ∧ (w0.pkm.urgent.map (fun r => r.number)).Nodup ∧
    (∃ r ∈ w0.pkm.urgent, r.number = 1) ∧ ∀ r ∈ w0.pkm.urgent, r.number ≠ 65535 := by decide +kernel

/-- RPC in a state. -/
def wRadio (st : RadioState) : State :=
  w0.modRpc (fun r =>
    { r with state := st, answer := some ⟨.poll, none, nullFrame w0⟩, windowLeft := some 0
             keyLeft := some 0, holdoff := some ⟨100, some 0⟩, confirmLeft := some 0 })

/-- A frame of the master to the station. -/
def wFrame (kind : Byte) : Frame := ⟨1, 65534, kind, 5#8, [6#8]⟩

/-- A frame too long, one with a wrong CRC, good ones of each sort, and receivers in either state. -/
theorem witness_FramesAreSorted :
    EndsFrame .idle [0x5A#8, 0xA5#8, 0#8, 0#8, 0#8, 0#8, 1#8, 0#8, 241#8] .dropped ∧
    EndsFrame .idle ([0x5A#8, 0xA5#8] ++ List.replicate 9 0#8) .dropped ∧
    (∀ k ∈ [0x01#8, 0x04#8, 0x06#8, 0x03#8],
      EndsFrame .idle (encodeFrame (wFrame k)) (.good (wFrame k))) ∧
    (Receiver.idle.run [0x5A#8, 0xA5#8]).2 = [] ∧ w0.serve = w0 ∧
    (∀ p : Port, w0.fcu.rx p = .hunt false) ∧
    (w0.setRx .radio (.collect [1#8] 4)).fcu.rx .radio = .collect [1#8] 4 ∧
    (w0.setRx .radio (.collect [1#8] 0)).fcu.rx .radio = .collect [1#8] 0 ∧
    (w0.setRx .radio (.collect [1#8] 0)).serve = w0.setRx .radio (.collect [1#8] 0) ∧
    EndsFrame (.collect [1#8] 0) [7#8] .dropped ∧
    w0.fcu.localQ = [restartCopy] ∧ (wRadio .listen).rpc.state = .listen ∧
    (wFrame 1#8).dest = w0.store.device.station ∧ (wFrame 1#8).source = w0.store.device.master ∧
    2 + ((wFrame 1#8).payload.length + 3) / 4 ≤ freeWords w0 .forward := by
  unfold EndsFrame
  refine ⟨?_, ?_, ?_, ?_, ?_, fun p => by cases p <;> rfl, ?_⟩ <;> decide +kernel

/-- R180: a gap counts a frame that has begun, and nothing while the receiver hunts. -/
theorem test_gap_counts_a_begun_frame :
    (match exec (.frameByteGapTimeout .radio) (w0.setRx .radio (.collect [1#8] 0)) with
     | .next t => (t.fcu.badRadio, t.fcu.rxRadio)
     | _ => (9, .idle)) = (1, .idle) ∧
    (match exec (.frameByteGapTimeout .radio) w0 with
     | .next t => t.fcu.badRadio
     | _ => 9) = 0 := by decide +kernel

/-- R180: a byte exactly 10 ms after the last one joins its frame; one tick later the frame is counted
as dropped and the byte is hunted. -/
theorem test_byte_after_a_gap :
    let s := w0.setRx .radio (.collect [1#8] Config.byteGapTicks)
    let after (n : Nat) : Nat × Receiver :=
      match exec (.stationFrameReceived .radio [0x5A#8]) (s.countTicks n) with
      | .next t => (t.fcu.badRadio, t.fcu.rxRadio)
      | _ => (9, .idle)
    after 100 = (0, .collect [1#8, 0x5A#8] 101) ∧ after 101 = (1, .hunt true) := by decide +kernel

theorem witness_PollIsAnswered :
    (w0.rpc.state = .waking ∧ w0.part.run = .running) ∧ (wRadio .keying).rpc.state = .keying ∧
    (wRadio .holdoff).rpc.state = .holdoff ∧ (wRadio .holdoff).sup.radio = .idle ∧
    (wRadio .holdoff).sup.supply = true ∧ (wRadio .holdoff).sup.shed ≠ 3 ∧
    (w0.acknowledge (pollAck [0#8, 0#8])).pkm.response = [] ∧
    (w0.acknowledge (pollAck [0#8, 0#8])).pkm.urgent.head? = some (restartReport .powerOn) ∧
    (w0.acknowledge (pollAck [0#8, 1#8])).pkm.urgent = [] ∧ w0.pkm.forward = [] ∧
    w0.pkm.routine = [] ∧
    (let s := (wRadio .listen).modSup (fun u => { u with supply := false, cap := .holding })
     s.sup.supply = false ∧ s.sup.cap = .holding ∧ s.sup.load ≠ .holding) := by decide +kernel

/-- A part in LISTEN on the battery, with a load test in a phase. -/
def wPollTest (test : TestState) (load : ReqState) : State :=
  ((wRadio .listen).modSup (fun u => { u with supply := false, load := load })).modBat (fun b =>
    { b with supply := false, test := test, charger := .test })

/-- The grant on a free battery, and before a load test in each of its two phases. -/
theorem witness_PollIsAnswered_battery :
    ∀ p ∈ [(TestState.idle, ReqState.idle), (.waitGrant, .requesting), (.settle, .holding),
        (.load, .holding)],
      let s := wPollTest p.1 p.2
      s.part.run = .running ∧ s.rpc.state = .listen ∧ s.sup.radio = .idle ∧ s.sup.supply = false ∧
      s.sup.shed ≠ 3 ∧ s.sup.cap = .idle ∧ s.sup.load = p.2 ∧ s.sup.loadAgain = false ∧
      s.bat.test = p.1 ∧ s.bat.supply = s.sup.supply ∧ s.bat.due = none ∧
      s.store.radio.keyMs ≠ 0 ∧
      (s.modStore (fun d => { d with radio := { d.radio with keyMs := 0 } })).store.radio.keyMs = 0 := by
  decide +kernel

/-- One record of each area at the head, in the order of R172, and none. -/
theorem witness_PollIsAnswered_choice :
    let empty := (wRadio .listen).modPkm (fun k => { k with urgent := [] })
    let k (s : State) : Pkm := (s.acknowledge (pollAck [0#8, 0#8])).pkm
    let rec0 : FrameRec := ⟨7, wFrame 0x04#8⟩
    (k (empty.modPkm (fun q => { q with response := [rec0] }))).response.head? = some rec0 ∧
    (k (empty.modPkm (fun q => { q with forward := [rec0] }))).forward.head? = some rec0 ∧
    (k (empty.modPkm (fun q => { q with routine := [restartReport .powerOn] }))).routine.head? =
      some (restartReport .powerOn) ∧
    k empty = ⟨[], [], [], [], 1⟩ ∧ empty.rpc.shed = 0 := by decide +kernel

/-- 7.10, step 2, and R137 in LOAD: a load test on the battery gives way to a poll. -/
theorem test_poll_preempts_load_test :
    [TestState.settle, .load].map (fun ph =>
      match exec (.poll [0#8, 0#8]) (wPollTest ph .holding) with
      | .next t => (t.bat.test, t.sup.radio, t.sup.load, t.rpc.state)
      | _ => (.idle, .idle, .idle, .off)) =
    [(.suspended, .holding, .requesting, .keying), (.idle, .holding, .idle, .keying)] := by
  decide +kernel

theorem witness_AnswerPhasesEnd :
    (wRadio .grantWait).rpc.answer.isSome = true ∧ (wRadio .grantWait).rpc.windowLeft.isSome = true ∧
    ((wRadio .grantWait).modSup (fun u => { u with radio := .requesting })).sup.radio = .requesting ∧
    (wRadio .keying).rpc.keyLeft.isSome = true ∧ (wRadio .sending).rpc.state = .sending ∧
    (wRadio .sending).sup.supply = true ∧ (wRadio .sending).sup.radioAgain = false ∧
    (wRadio .sending).rpc.powerDown = false ∧ (wRadio .sending).store.radio.unsolicited = false ∧
    (∃ r ∈ (wRadio .sending).pkm.urgent, r.id = 0) := by decide +kernel

theorem witness_RadioWaitsEnd :
    ((wRadio .holdoff).rpc.holdoff.bind (fun h => h.left)).isSome = true ∧
    (wRadio .holdoff).sup.radio = .idle ∧ 0 < (wRadio .holdoff).store.radio.keyMs ∧
    (wRadio .holdoff).pkm.urgent = [] ++ restartReport .powerOn :: [] ∧
    (restartReport .powerOn).attempts < 8 ∧ (wRadio .holdoff).rpc.confirmLeft.isSome = true ∧
    (wRadio .waking).lines.modemReady ≠ true ∧
    ((wRadio .listen).modLines (fun l => { l with modemReady := true })).lines.modemReady ≠ false ∧
    (wRadio .holdoff).lines.carrierDet ≠ true ∧
    ((wRadio .off).modFcu (fun f => { f with secondTick := true })).fcu.secondTick = true ∧
    (w0.modRpc (fun r => { r with shed := 2 })).rpc.shed = 2 ∧ w0.fcu.time.secs % 60 ≤ 4 ∧
    4 < (w0.modFcu (fun f => { f with time := ⟨5, 0, false⟩ })).fcu.time.secs % 60 ∧
    w0.fcu.secondTick = false ∧ w0.fcu.time.ms < 1000 ∧
    (∀ st ∈ [RadioState.keying, .sending],
      let s := ((wRadio st).modLines (fun l => { l with modemReady := true })).modSup (fun u =>
        { u with radio := .holding })
      s.lines.modemReady ≠ false ∧ s.rpc.answer.isSome = true ∧ s.sup.supply = true ∧
      s.sup.radioAgain = false ∧ s.rpc.powerDown = false ∧
      (s.modRpc (fun r => { r with powerDown := true })).rpc.powerDown = true) := by
  decide +kernel

/-! ## Witnesses of the commands -/

/-- The entry of a command row of `wHead`. -/
def wEntry (k : CmdKind) (p : List Byte) : IntakeEntry := rowEntry wHead k p

/-- The intake queue holds these entries. -/
def wQueue (q : List IntakeEntry) : State := w0.modFcu (fun f => { f with intake := q })

/-- Four and three that wait, a head whose conditions hold, one without room for its response, one that
waits for the store, and an empty queue. -/
theorem witness_CommandsWaitTheirTurn :
    entryOfRow (.trip wHead []) = some (wEntry .trip []) ∧
    4 ≤ (wQueue (List.replicate 4 (wEntry .close []))).fcu.intake.length ∧
    (wQueue (List.replicate 3 (wEntry .close []))).fcu.intake.length < 4 ∧
    (wQueue [wEntry .trip []]).fcu.outLocal = false ∧
    (wQueue [wEntry .trip []]).fcu.localQ.length < 8 ∧
    (w0.modFcu (fun f => { f with intake := [wEntry .trip []], outLocal := true })).fcu.outLocal = true ∧
    entryKind (wEntry .writeAreas []) = some .writeAreas ∧
    (wStored (.radio factoryRadio)).store.inFlight ≠ none ∧ w0.fcu.intake = [] := by decide +kernel

/-- R183: a command waits behind heads that have no room for their response, and at an empty queue it
is executed in the row of its arrival. -/
theorem test_head_is_served :
    let s := wQueue (List.replicate 3 (wEntry .readStatus [10#8]))
    let u := s.modFcu (fun f => { f with outLocal := true })
    (match exec (.trip { wHead with wantsReply := false } []) u with
     | .next t => (t.fcu.intake.length, t.fcu.dropLocal)
     | _ => (9, 9)) = (4, 0) ∧
    (match exec (.trip { wHead with wantsReply := false } []) w0 with
     | .next t => (t.fcu.intake.length, t.seq.restartMark)
     | _ => (9, none)) = (0, some .command) := by decide +kernel

/-- The gate lets a command of a level-0 local host pass, and refuses one of the radio at level 3, a
radio WRITE_GATES and an unknown kind. -/
theorem witness_GateRefuses :
    Executes w0 (wEntry .trip []) (wEntry .trip []) ∧
    (let e : IntakeEntry := { wEntry .trip [] with port := .radio, level := 3 }
     entryOfRow (.trip ⟨.radio, 3, true, 5⟩ []) = some e ∧ Taken w0 e e ∧
     gateCheck w0.store.gates (entryKind e) e.port e.level = some .authority) ∧
    (let e : IntakeEntry := { wEntry .writeGates [] with port := .radio, level := 1 }
     Taken w0 e e ∧ gateCheck w0.store.gates (entryKind e) e.port e.level = some .port) ∧
    (let e : IntakeEntry := ⟨.localPort, 0, true, 5, []⟩
     entryOfRow (.unknownCommand wHead []) = some e ∧ Taken w0 e e ∧
     (Instr.unknownCommand wHead []).wf = true) := by
  unfold Executes Taken
  decide +kernel

/-- READ_TABLE with the first index and the first kind out of range. -/
theorem witness_ReadsTimeAndSampling_tables :
    w0.store.curves.length = 16 ∧ w0.store.groups.length = 4 ∧
    Executes w0 (wEntry .readTable [0#8, 16#8]) (wEntry .readTable [0#8, 16#8]) ∧
    Executes w0 (wEntry .readTable [1#8, 4#8]) (wEntry .readTable [1#8, 4#8]) ∧
    Executes w0 (wEntry .readTable [2#8, 1#8]) (wEntry .readTable [2#8, 1#8]) ∧
    Executes w0 (wEntry .readTable [10#8, 0#8]) (wEntry .readTable [10#8, 0#8]) := by
  unfold Executes Taken
  decide +kernel

theorem witness_ReadsTimeAndSampling :
    Executes w0 (wEntry .readStatus [10#8]) (wEntry .readStatus [10#8]) ∧
    (statusSection w0 10).isSome = true ∧ ((statusSection w0 10).getD []).length ≤ 238 ∧
    Executes w0 (wEntry .readTable [9#8, 0#8]) (wEntry .readTable [9#8, 0#8]) ∧
    (tableBytes w0 9 0).isSome = true ∧ ((tableBytes w0 9 0).getD []).length ≤ 238 ∧
    Executes w0 (wEntry .setTime (beBytes 4 4294967295 ++ beBytes 2 999))
      (wEntry .setTime (beBytes 4 4294967295 ++ beBytes 2 999)) ∧
    Executes w0 (wEntry .setTime (beBytes 4 0 ++ beBytes 2 1000))
      (wEntry .setTime (beBytes 4 0 ++ beBytes 2 1000)) ∧
    w0.rpc.shed ≤ 1 ∧ w0.rpc.state ≠ .off ∧
    ((wRadio .listen).modRpc (fun r => { r with shed := 2 })).rpc.state = .listen ∧
    Executes w0 (wEntry .sampleForward [8#8]) (wEntry .sampleForward [8#8]) ∧
    (8#8).toNat ∈ [0, 1, 2, 4, 8] ∧ (3#8).toNat ∉ [0, 1, 2, 4, 8] := by
  unfold Executes Taken
  decide +kernel

theorem witness_FlushEmptiesAnArea :
    (∀ n ∈ [0#8, 1#8, 2#8, 3#8, 4#8],
      Executes w0 (wEntry .flushClass [n]) (wEntry .flushClass [n])) ∧
    (let e : IntakeEntry := { wEntry .flushClass [0#8] with port := .radio }
     Executes (w0.modStore (fun st => { st with device := { st.device with radioCeiling := 0 } })) e
       e) := by
  unfold Executes Taken
  decide +kernel

/-- A store that holds a group 0 with its curves 15 and 0. -/
def wTables : State :=
  w0.modStore (fun st =>
    { st with groups := st.groups.set 0 (some wGroup)
              curves := (st.curves.set 0 (some curve5)).set 15 (some curveGt) })

theorem witness_WritesAreChecked :
    (∀ k ∈ [CmdKind.writeCurve, .clearCurve, .writeGroup, .writeDevice, .writeBattery, .writeRadio,
        .writeAreas, .writeGates], Executes wTables (wEntry k [0#8]) (wEntry k [0#8])) ∧
    Executes wTables (wEntry .writeGroup [0#8, 0xFF#8]) (wEntry .writeGroup [0#8, 0xFF#8]) ∧
    (readCurve (curveBytes 15 (some curve5)) = some (15, curve5) ∧ readCurve [0#8] = none) ∧
    (readGroup (groupBytes 3 (some wGroup)) = some (.contents 3 wGroup) ∧
      readGroup [0#8, 0xFF#8] = some (.clear 0) ∧ readGroup [0#8] = none) ∧
    readDevice (deviceBytes factoryDevice) = some factoryDevice ∧
    readBattery (batteryBytes factoryBattery) = some factoryBattery ∧
    readRadio (radioBytes factoryRadio) = some factoryRadio ∧
    readAreas (areasBytes factoryAreas) = some factoryAreas ∧
    readGates ((gatesBytes factoryGates).take 63) = some factoryGates ∧
    wTables.bat.test = .idle ∧ wTables.store.curves[15]?.join ≠ none ∧
    wTables.store.curves[1]?.join = none ∧ wTables.store.groups[1]?.join = none := by
  unfold Executes Taken
  decide +kernel

/-- A settled SEQ, and one that is not, with and without a RETURN pending. -/
theorem witness_SelectionIsDecided :
    (∀ n ∈ [0#8, 1#8, 3#8, 4#8],
      Executes wTables (wEntry .selectGroup [n]) (wEntry .selectGroup [n])) ∧
    wTables.sets.settledView = true ∧ wTables.store.groups[0]?.join = some wGroup ∧
    wTables.lku.inForce = [] ∧ wLaw.lku.inForce ≠ [] ∧
    (let s := wTables.modSets (fun k =>
      { k with settledView := false, pendingSel := some (some 1, .ret), ret := some (some 1) })
     Executes s (wEntry .selectGroup [0#8]) (wEntry .selectGroup [0#8]) ∧
     s.sets.settledView = false ∧ s.sets.pendingSel.map Prod.snd = some .ret) := by
  unfold Executes Taken
  decide +kernel

/-- SEQ in a state, with SET's view of it. -/
def wState (st : SeqState) : State :=
  let s := wSeq st none
  s.modSets (fun k => { k with settledView := seqSettled s })

theorem witness_TripCommandActs :
    (∀ st ∈ [SeqState.ready, .reclaim, .closing, .openInterval, .closeWait, .unknown, .tripping,
        .lockout, .failed],
      Executes (wState st) (wEntry .trip []) (wEntry .trip []) ∧
      (wState st).sets.settledView = seqSettled (wState st) ∧ (wState st).seq.state = st ∧
      (wState st).drv.state = .idle ∧ (wState st).drv.stale = true) ∧
    (let s := (wState .closing).modDrv (fun d => { d with state := .closeActive })
     Executes s (wEntry .trip []) (wEntry .trip []) ∧
     s.sets.settledView = seqSettled s ∧ s.drv.state = .closeActive) ∧
    (∀ st ∈ [SeqState.ready, .reclaim, .unknown],
      let s := (wState st).modDrv (fun d => { d with state := .tripBackup })
      let u := (wState st).modDrv (fun d => { d with position := .opened, stale := false })
      Executes s (wEntry .trip []) (wEntry .trip []) ∧
      s.sets.settledView = seqSettled s ∧ s.drv.state = .tripBackup ∧
      Executes u (wEntry .trip []) (wEntry .trip []) ∧
      u.sets.settledView = seqSettled u ∧ u.drv.state = .idle) := by
  unfold Executes Taken
  decide +kernel

/-- A LOCKOUT ready for a close, over open and over closed contacts. -/
def wReady (p : Position) : State :=
  let s := (wClose p).modSeq (fun q => { q with state := .lockout, timer := none })
  s.modSets (fun k => { k with settledView := seqSettled s })

theorem witness_CloseCommandActs :
    (∀ s ∈ [wState .ready, wReady .opened, wReady .closed],
      Executes s (wEntry .close []) (wEntry .close []) ∧ s.sets.settledView = seqSettled s) ∧
    (∀ p ∈ [Position.opened, .closed], closeOutcome (wReady p) = .done ∧
      (wReady p).drv.position = p) ∧
    awaitsSeq (wReady .closed).bat = false := by
  unfold Executes Taken
  decide +kernel

/-- A placing at the ends of its ranges with no tag in force, an escalation's refusal, a removal. -/
theorem witness_TagCommandsAreDecided :
    (let p := beBytes 2 65535 ++ [codeTagKind .noClose] ++ beBytes 2 1440
     Executes w0 (wEntry .placeTag p) (wEntry .placeTag p)) ∧
    (let p := beBytes 2 7 ++ [codeTagKind .noReclose] ++ beBytes 2 0
     Executes wLaw (wEntry .placeTag p) (wEntry .placeTag p)) ∧
    Executes w0 (wEntry .placeTag [0#8, 0#8, 0#8, 0#8, 0#8])
      (wEntry .placeTag [0#8, 0#8, 0#8, 0#8, 0#8]) ∧
    Executes wLaw (wEntry .removeTag (beBytes 2 7)) (wEntry .removeTag (beBytes 2 7)) ∧
    wLaw.lku.inForce.find? (fun t => t.crew == 7) = some wTag ∧
    Executes wLaw (wEntry .removeTag [0#8, 0#8]) (wEntry .removeTag [0#8, 0#8]) := by
  unfold Executes Taken
  decide +kernel

theorem witness_TestCommandsAct :
    Executes w0 (wEntry .testStart []) (wEntry .testStart []) ∧ w0.bat.test = .idle ∧
    (w0.bat.shed ≤ 1 ∧ w0.bat.charger ≠ .fault ∧ w0.bat.disc = .normal) ∧ w0.sup.supply = true ∧
    w0.sup.load = .idle ∧
    (let s := w0.modSup (fun u => { u with supply := false, cap := .holding })
     Executes s (wEntry .testStart []) (wEntry .testStart []) ∧ s.sup.load = .idle ∧
     s.sup.cap = .holding) ∧
    Executes (wTest .load []) (wEntry .testCancel []) (wEntry .testCancel []) ∧
    (wTest .load []).bat.test ≠ .idle ∧ (wTest .load []).bat.due = none ∧
    ((wTest .load []).modBat (fun b => { b with charger := .test })).bat.charger = .test ∧
    (let s := w0.modSup (fun u => { u with supply := false })
     Executes s (wEntry .testStart []) (wEntry .testStart []) ∧ s.sup.load = .idle ∧
     s.sup.cap = .idle ∧ s.sup.radio = .idle) ∧
    Executes w0 (wEntry .testCancel []) (wEntry .testCancel []) := by
  unfold Executes Taken
  decide +kernel

/-- A halted drive with SEQ in FAILED. -/
def wHalted : State :=
  (w0.modDrv (fun d => { d with state := .halted })).modSeq (fun q => { q with state := .failed })

theorem witness_RestoreAndRestartAct :
    Executes wHalted (wEntry .driveRestore []) (wEntry .driveRestore []) ∧
    wHalted.drv.state = .halted ∧ wHalted.seq.state = .failed ∧ awaitsSeq wHalted.bat = false ∧
    wHalted.sets.pendingSel = none ∧ wHalted.sets.settledView = true ∧
    wHalted.seq.handle = .returned ∧ wHalted.seq.position = .indeterminate ∧
    (let s := wHalted.modBat (fun b => { b with disc := .isPending, discAction := some .openFirst })
     Executes s (wEntry .driveRestore []) (wEntry .driveRestore []) ∧ awaitsSeq s.bat = true ∧
     s.drv.position ≠ .opened ∧
     (s.modSeq (fun q => { q with handle := .pulled })).seq.handle = .pulled ∧
     (s.modSeq (fun q => { q with position := .closed, linkUp := true })).seq.position = .closed) ∧
    Executes w0 (wEntry .driveRestore []) (wEntry .driveRestore []) ∧ w0.drv.state = .idle ∧
    Executes (wDrive .tripMain (.trip .command) false false) (wEntry .driveRestore [])
      (wEntry .driveRestore []) ∧
    Executes w0 (wEntry .restart []) (wEntry .restart []) ∧ w0.store.inFlight = none ∧
    w0.store.waitList = [] ∧
    Executes (wStored (.radio factoryRadio)) (wEntry .restart []) (wEntry .restart []) := by
  unfold Executes Taken
  decide +kernel

theorem witness_ResetAndPowerRows :
    w0.part.run = .running ∧ w0.lines.resetIn = false ∧
    (w0.modPart (fun q => { q with resetQual := some 0 })).part.resetQual.isSome = true ∧
    (w0.modPart (fun q => { q with run := .held })).part.run = .held ∧
    (w0.modPart (fun q => { q with run := .unpowered })).part.run = .unpowered ∧
    (w0.modLines (fun l => { l with resetIn := true })).lines.resetIn = true := by decide +kernel

theorem witness_ResetLeaves :
    areasOk wLaw.store.areas = true ∧ batteryOk wLaw.store.battery = true ∧ wLaw.store.tags ≠ [] ∧
    w0.store.selection.ret = none ∧
    (let s := w0.modStore (fun st => { st with selection := ⟨some 3, some none⟩ })
     s.store.tags = [] ∧ s.store.selection.ret = some none) ∧ w0.lines.supplyPresent = true ∧
    w0.lines.modemReady = false := by decide +kernel

end Sys2Proof.Tests
end

section
/-! The operations that every arrival is made of, walked once: a property of the state that is kept by
the updates of single blocks, by an event, by a response and by a frame for the local port is kept by
every operation of the part that takes no delivery and no sample. -/

namespace Sys2Proof.Machine

/-! ## What an ordinary operation leaves to the sensor link -/

/-- The views that SEQ takes from SLR (R65). -/
def Seq.sameViews (a b : Seq) : Prop :=
  a.position = b.position ∧ a.handle = b.handle ∧ a.ready = b.ready ∧ a.linkUp = b.linkUp ∧
  a.capStale = b.capStale

/-- The views that DRV takes from SLR (R89). -/
def Drv.sameViews (a b : Drv) : Prop :=
  a.position = b.position ∧ a.handle = b.handle ∧ a.ready = b.ready ∧ a.stale = b.stale ∧
  a.capStale = b.capStale

/-- The view that LKU takes from SLR (R117). -/
def Lku.sameViews (a b : Lku) : Prop := a.handle = b.handle ∧ a.handleStale = b.handleStale

/-- The gathering records are the same (R153). -/
def Rpb.sameRecords (a b : Rpb) : Prop := a.urgent = b.urgent ∧ a.routine = b.routine

/-- The queues and the receivers of FCU are the same (R180, R182, R186). -/
def Fcu.sameQueues (a b : Fcu) : Prop :=
  a.rxRadio = b.rxRadio ∧ a.rxLocal = b.rxLocal ∧ a.intake = b.intake ∧ a.outLocal = b.outLocal ∧
  a.localQ = b.localQ

/-- A property that the updates of which the ordinary operations are made keep: SLR's values, the views of
them and the measurement stay as they are, but that the elements may be cleared (R37, R41) and ELE takes
a shot counter (R22). -/
structure Ordinary (P : State → Prop) : Prop where
  store : ∀ {s} (f : Store → Store), P s → P (s.modStore f)
  sets : ∀ {s} (f : Sets → Sets), P s → P (s.modSets f)
  bat : ∀ {s} (f : Bat → Bat), P s → P (s.modBat f)
  sup : ∀ {s} (f : Sup → Sup), P s → P (s.modSup f)
  pkm : ∀ {s} (f : Pkm → Pkm), P s → P (s.modPkm f)
  rpc : ∀ {s} (f : Rpc → Rpc), P s → P (s.modRpc f)
  lines : ∀ {s} (f : Lines → Lines), P s → P (s.modLines f)
  seq : ∀ {s} {f : Seq → Seq}, (∀ q, (f q).sameViews q) → P s → P (s.modSeq f)
  drv : ∀ {s} {f : Drv → Drv}, (∀ d, (f d).sameViews d) → P s → P (s.modDrv f)
  lku : ∀ {s} {f : Lku → Lku}, (∀ l, (f l).sameViews l) → P s → P (s.modLku f)
  rpb : ∀ {s} {f : Rpb → Rpb}, (∀ b, (f b).sameRecords b) → P s → P (s.modRpb f)
  fcu : ∀ {s} {f : Fcu → Fcu}, (∀ c, (f c).sameQueues c) → P s → P (s.modFcu f)
  shot : ∀ {s} (n : Nat), P s → P (s.modEle (fun e => { e with shotCopy := n }))
  clear : ∀ {s}, P s → P (s.modEle clearElements)
  emit : ∀ {s} (e : Event), P s → P (s.emit e)
  sealRec : ∀ {s} (c : ReportClass), P s → P (s.sealClass c)
  localSend : ∀ {s} (k : LocalKind) (f : Frame), P s → P (s.localSend k f)
  answerWith : ∀ {s} (r : Option Reply) (o : CmdOutcome) (data : List Byte),
    P s → P (s.answerWith r o data)

namespace Ordinary

variable {P : State → Prop} {s : State}

/-! ## The radio port controller, below the arbiter -/

theorem rpcGoto (H : Ordinary P) (st : RadioState) (h : P s) : P (s.rpcGoto st) := H.rpc _ h

theorem lookCandidate (H : Ordinary P) (h : P s) : P s.lookCandidate := by
  dsimp only [State.lookCandidate]
  split
  · exact H.rpc _ (H.rpcGoto _ h)
  · exact h

theorem rpcListen (H : Ordinary P) (h : P s) : P s.rpcListen := H.lookCandidate (H.rpcGoto _ h)

theorem setUrgent (H : Ordinary P) (q : List Report) (h : P s) : P (s.setUrgent q) := by
  dsimp only [State.setUrgent]
  split
  · exact H.lookCandidate (H.rpc _ (H.pkm _ h))
  · exact H.lookCandidate (H.pkm _ h)

theorem acknowledge (H : Ordinary P) (n : Nat) (h : P s) : P (s.acknowledge n) := by
  dsimp only [State.acknowledge]
  split
  · exact H.setUrgent _ h
  · exact h

theorem countAbandon (H : Ordinary P) (h : P s) : P s.countAbandon := by
  dsimp only [State.countAbandon]
  split
  · exact H.rpc _ h
  · exact h

theorem rpcRest (H : Ordinary P) (h : P s) : P s.rpcRest := by
  dsimp only [State.rpcRest]
  split
  · exact H.rpc _ (H.rpcGoto _ h)
  · exact H.rpcListen h

/-! ## The supply arbiter and the load test -/

theorem chargerPins (H : Ordinary P) (h : P s) : P s.chargerPins := H.bat _ h

theorem setCharger (H : Ordinary P) (st : Charger) (h : P s) : P (s.setCharger st) :=
  H.chargerPins (H.bat _ h)

theorem enterFault (H : Ordinary P) (h : P s) : P s.enterFault := H.emit _ (H.setCharger _ h)

theorem radioGranted (H : Ordinary P) (h : P s) : P s.radioGranted := by
  dsimp only [State.radioGranted]
  split
  · exact H.rpcGoto _ h
  · exact H.rpc _ (H.rpcGoto _ h)

theorem loadGranted (H : Ordinary P) (h : P s) : P s.loadGranted := H.setCharger _ (H.bat _ h)

theorem offer (H : Ordinary P) (r : Requester) (h : P s) : P (s.offer r) := by
  dsimp only [State.offer]
  split
  · cases r
    · exact H.sup _ h
    · exact H.radioGranted (H.sup _ h)
    · exact H.loadGranted (H.sup _ h)
  · exact H.sup _ h

theorem grantDecision (H : Ordinary P) (n : Nat) (h : P s) : P (s.grantDecision n) := by
  induction n generalizing s with
  | zero => exact h
  | succ n ih =>
    dsimp only [State.grantDecision]
    split
    · exact h
    · split
      · exact h
      · split
        · exact H.offer _ h
        · exact ih (H.offer _ h)

theorem decide3 (H : Ordinary P) (h : P s) : P s.decide3 := H.grantDecision 3 h

theorem giveBack (H : Ordinary P) (r : Requester) (h : P s) : P (s.giveBack r) := by
  have h1 : ∀ q : ReqState, P (s.modSup (fun u => (u.setReq r q).setAgain r false)) :=
    fun _ => H.sup _ h
  dsimp only [State.giveBack]
  (repeat' split)
  exacts [H.offer _ (h1 _), H.decide3 (h1 _), h1 _, H.decide3 (h1 _)]

theorem release (H : Ordinary P) (r : Requester) (h : P s) : P (s.release r) := by
  dsimp only [State.release]
  split
  exacts [h, H.sup _ h, H.giveBack _ h, H.giveBack _ h]

theorem ask (H : Ordinary P) (r : Requester) (h : P s) : P (s.ask r) := by
  dsimp only [State.ask]
  split
  · split
    · split
      · exact H.offer _ (H.sup _ h)
      · exact H.sup _ h
    · exact H.decide3 (H.sup _ h)
  · exact h
  · exact h
  · exact H.sup _ h

theorem startTest (H : Ordinary P) (c : StartCause) (h : P s) : P (s.startTest c) :=
  H.ask _ (H.bat _ h)

theorem dueCheck (H : Ordinary P) (h : P s) : P s.dueCheck := by
  dsimp only [State.dueCheck]
  split
  · split
    · exact H.startTest _ h
    · exact h
  · exact h

theorem chargerTo (H : Ordinary P) (st : Charger) (h : P s) : P (s.chargerTo st) :=
  H.dueCheck (H.setCharger _ h)

theorem chargerTestEnded (H : Ordinary P) (h : P s) : P s.chargerTestEnded := by
  dsimp only [State.chargerTestEnded]
  split
  · split
    · exact H.chargerTo _ h
    · split
      · exact H.enterFault h
      · exact H.chargerTo _ h
  · exact h

theorem countVerdict (H : Ordinary P) (v : Verdict) (r : Option Nat) (h : P s) :
    P (s.countVerdict v r) := by
  have hbad : P (if s.bat.badCount = 1 then
        (s.modBat (fun b => { b with badCount := 2 })).emit (.batteryBad r)
      else if s.bat.badCount = 0 then s.modBat (fun b => { b with badCount := 1 }) else s) := by
    split
    · exact H.emit _ (H.bat _ h)
    · split
      · exact H.bat _ h
      · exact h
  cases v
  · exact hbad
  · exact hbad
  · exact H.bat (fun b => { b with badCount := 0, abortCount := 0 }) h
  · exact h
  · exact h

theorem endTest (H : Ordinary P) (v : Verdict) (v1 dI : Option Int) (r : Option Nat) (h : P s) :
    P (s.endTest v v1 dI r) :=
  H.chargerTestEnded (H.bat _ (H.countVerdict _ _ (H.emit _ (H.bat _ h))))

theorem dropLoad (H : Ordinary P) (h : P s) : P s.dropLoad := H.release _ (H.bat _ h)

theorem abortTest (H : Ordinary P) (h : P s) : P s.abortTest := by
  dsimp only [State.abortTest]
  split
  · exact H.bat _ (H.endTest _ _ _ _ (H.bat _ (H.dropLoad h)))
  · exact H.endTest _ _ _ _ (H.bat _ (H.dropLoad h))

theorem suspendTest (H : Ordinary P) (h : P s) : P s.suspendTest :=
  H.ask _ (H.release _ (H.bat _ h))

theorem batAsked (H : Ordinary P) (h : P s) : P s.batAsked := by
  dsimp only [State.batAsked]
  split
  exacts [H.suspendTest h, H.abortTest h, h, h, h]

theorem rpcAsked (H : Ordinary P) (h : P s) : P s.rpcAsked := by
  dsimp only [State.rpcAsked]
  split
  exacts [H.rpcRest (H.release _ (H.rpcGoto _ (H.countAbandon h))), h, h, h, h, h, h]

theorem askRelease (H : Ordinary P) (r : Requester) (h : P s) : P (s.askRelease r) := by
  cases r
  exacts [h, H.rpcAsked (H.sup _ h), H.batAsked (H.sup _ h)]

theorem preempt (H : Ordinary P) (r : Requester) (h : P s) : P (s.preempt r) := by
  dsimp only [State.preempt]
  split
  · cases r
    · dsimp only
      split
      · exact H.askRelease _ h
      · split
        · exact H.askRelease _ h
        · exact h
    · dsimp only
      split
      · exact H.askRelease _ h
      · exact h
    · exact h
  · exact h

theorem request (H : Ordinary P) (r : Requester) (h : P s) : P (s.request r) := by
  dsimp only [State.request]
  split
  exacts [H.preempt _ (H.ask _ h), H.ask _ h, H.ask _ h, H.ask _ h]

theorem supLost (H : Ordinary P) (h : P s) : P s.supLost := by
  have h1 := H.sup (fun u => { u with supply := false }) h
  dsimp only [State.supLost]
  refine H.decide3 ?_
  have hask : ∀ (c : Bool) (r : Requester) (u : State), P u → P (if c then u.askRelease r else u) := by
    intro c r u hu
    split
    exacts [H.askRelease _ hu, hu]
  exact hask _ _ _ (hask _ _ _ h1)

theorem offerWaiting (H : Ordinary P) (r : Requester) (h : P s) : P (s.offerWaiting r) := by
  dsimp only [State.offerWaiting]
  split
  exacts [H.offer _ h, h]

theorem supBack (H : Ordinary P) (h : P s) : P s.supBack :=
  H.offerWaiting _ (H.offerWaiting _ (H.offerWaiting _ (H.sup _ h)))

theorem supSupply (H : Ordinary P) (present : Bool) (h : P s) : P (s.supSupply present) := by
  dsimp only [State.supSupply]
  split
  · exact h
  · split
    exacts [H.supBack h, H.supLost h]

theorem supShed (H : Ordinary P) (level : Nat) (h : P s) : P (s.supShed level) := by
  dsimp only [State.supShed]
  split
  exacts [H.preempt _ (H.decide3 (H.sup _ h)), H.sup _ h]

/-! ## The radio's power and the battery manager -/

theorem rpcWithdraw (H : Ordinary P) (st : RadioState) (h : P s) : P (s.rpcWithdraw st) :=
  H.release _ (H.rpcGoto _ (H.countAbandon h))

theorem rpcWake (H : Ordinary P) (h : P s) : P s.rpcWake := by
  dsimp only [State.rpcWake]
  split
  exacts [H.rpcListen (H.rpcGoto _ h), H.rpcGoto _ h]

theorem rpcPower (H : Ordinary P) (h : P s) : P s.rpcPower := by
  dsimp only [State.rpcPower]
  split
  · split
    exacts [H.rpcWake h, H.rpc _ h]
  · split
    exacts [h, H.rpcGoto _ h, H.rpcGoto _ h, H.rpcGoto _ h, H.rpcWithdraw _ h, H.rpc _ h, H.rpc _ h]

theorem rpcDropUnsolicited (H : Ordinary P) (h : P s) : P s.rpcDropUnsolicited := by
  dsimp only [State.rpcDropUnsolicited]
  split
  · exact H.rpcListen h
  · split
    exacts [H.lookCandidate (H.rpcWithdraw _ h), h]
  all_goals exact h

theorem rpcShed (H : Ordinary P) (level : Nat) (h : P s) : P (s.rpcShed level) := by
  dsimp only [State.rpcShed]
  split
  exacts [H.rpcDropUnsolicited (H.rpcPower (H.rpc _ h)), H.lookCandidate (H.rpcPower (H.rpc _ h))]

theorem modemLost (H : Ordinary P) (h : P s) : P s.modemLost := by
  dsimp only [State.modemLost]
  split
  exacts [H.rpc _ (H.rpcWithdraw _ h), H.rpcWithdraw _ h]

theorem modemChange (H : Ordinary P) (level : Bool) (h : P s) : P (s.modemChange level) := by
  have h1 := H.lines (fun l => { l with modemReady := level }) h
  dsimp only [State.modemChange]
  split
  · exact h
  · split
    · dsimp only [State.modemRise]
      split
      exacts [H.rpcListen h1, h1]
    · dsimp only [State.modemFall]
      split
      exacts [h1, h1, H.rpcWake h1, H.rpcWake h1, H.rpcWithdraw _ h1, H.modemLost h1, H.modemLost h1]

theorem carrierChange (H : Ordinary P) (level : Bool) (h : P s) : P (s.carrierChange level) := by
  dsimp only [State.carrierChange]
  split
  exacts [h, H.rpc _ (H.lines _ h)]

theorem updateSetpoints (H : Ordinary P) (h : P s) : P s.updateSetpoints :=
  H.chargerPins (H.bat _ h)

theorem evalFault (H : Ordinary P) (h : P s) : P s.evalFault := by
  have h1 := H.bat (fun b => { b with fault := faultCause s.bat }) h
  have h2 : ∀ c : Bool, P (if c then
      (s.modBat (fun b => { b with fault := faultCause s.bat })).enterFault
      else s.modBat (fun b => { b with fault := faultCause s.bat })) := by
    intro c
    split
    exacts [H.enterFault h1, h1]
  dsimp only [State.evalFault]
  split
  exacts [h2 _, h2 _, h2 _, H.bat _ h1, h1, h1]

theorem setShed (H : Ordinary P) (level : Nat) (h : P s) : P (s.setShed level) := by
  dsimp only [State.setShed]
  split
  · exact h
  · split
    · exact H.dueCheck (H.emit _ (H.supShed _ (H.rpcShed _ (H.bat _ h))))
    · exact H.dueCheck (H.emit _ (H.rpcShed _ (H.supShed _ (H.bat _ h))))

theorem evalShed (H : Ordinary P) (h : P s) : P s.evalShed := by
  dsimp only [State.evalShed]
  split
  exacts [h, H.setShed _ h]

theorem updateQ (H : Ordinary P) (q : Nat) (h : P s) : P (s.updateQ q) :=
  H.evalShed (H.rpb (fun _ => ⟨rfl, rfl⟩) (H.bat _ h))

theorem chargeSecond (H : Ordinary P) (i : Option Int) (h : P s) : P (s.chargeSecond i) := by
  cases i
  exacts [h, H.updateQ _ h]

theorem enterFloat (H : Ordinary P) (h : P s) : P s.enterFloat := by
  dsimp only [State.enterFloat]
  split
  exacts [H.dueCheck (H.updateQ _ (H.bat _ (H.setCharger _ h))), H.dueCheck (H.setCharger _ h)]

theorem chargerSecond (H : Ordinary P) (v i : Option Int) (h : P s) : P (s.chargerSecond v i) := by
  dsimp only [State.chargerSecond]
  split
  · split
    exacts [H.chargerTo _ h, h]
  · split
    exacts [H.enterFloat h, h]
  · split
    exacts [H.chargerTo _ h, H.bat _ h]
  all_goals exact h

theorem secondMeans (H : Ordinary P) (v i : Option Int) (h : P s) : P (s.secondMeans v i) := by
  dsimp only [State.secondMeans]
  refine H.chargerSecond _ _ ?_
  split
  exacts [H.evalFault (H.chargeSecond _ (H.bat _ h)), H.chargeSecond _ (H.bat _ h)]

theorem absorbDone (H : Ordinary P) (h : P s) : P s.absorbDone := by
  dsimp only [State.absorbDone]
  split
  exacts [H.enterFloat h, h]

theorem recoveryDone (H : Ordinary P) (h : P s) : P s.recoveryDone := by
  dsimp only [State.recoveryDone]
  split
  exacts [H.chargerTo _ h, h]

theorem intervalElapsed (H : Ordinary P) (h : P s) : P s.intervalElapsed := by
  dsimp only [State.intervalElapsed]
  split
  exacts [H.dueCheck (H.bat _ (H.bat _ h)), H.bat _ h]

theorem retryElapsed (H : Ordinary P) (h : P s) : P s.retryElapsed := by
  dsimp only [State.retryElapsed]
  split
  exacts [H.dueCheck (H.bat _ h), h]

theorem settleDone (H : Ordinary P) (h : P s) : P s.settleDone := by
  dsimp only [State.settleDone]
  split
  · split
    exacts [H.bat _ h, H.abortTest h]
  · exact h

theorem cancelTest (H : Ordinary P) (h : P s) : P s.cancelTest := H.endTest _ _ _ _ (H.dropLoad h)

theorem loadDone (H : Ordinary P) (h : P s) : P s.loadDone := by
  dsimp only [State.loadDone]
  split
  · split
    exacts [H.endTest _ _ _ _ (H.dropLoad h), H.abortTest h]
  · exact h

theorem takeAux (H : Ordinary P) (pos raw : Nat) (h : P s) : P (s.takeAux pos raw) := by
  dsimp only [State.takeAux]
  split
  · split
    exacts [H.bat _ h, H.bat _ h, H.evalFault (H.updateSetpoints (H.bat _ h)), H.bat _ h]
  · exact h

theorem notifySupply (H : Ordinary P) (present : Bool) (h : P s) : P (s.notifySupply present) := by
  dsimp only [State.notifySupply]
  split
  exacts [H.supSupply _ (H.rpc _ h), H.rpc _ (H.supSupply _ h)]

theorem takeSupplyAbsent (H : Ordinary P) (h : P s) : P s.takeSupplyAbsent := by
  dsimp only [State.takeSupplyAbsent]
  refine H.notifySupply _ (H.emit _ (H.batAsked (H.evalShed ?_)))
  split
  exacts [H.evalFault (H.bat _ h), H.chargerTo _ (H.evalFault (H.bat _ h))]

theorem cancelDisconnect (H : Ordinary P) (h : P s) : P s.cancelDisconnect := H.dueCheck (H.bat _ h)

theorem takeSupplyPresent (H : Ordinary P) (h : P s) : P s.takeSupplyPresent := by
  have h2 := H.evalFault
    (H.bat (fun b => { b with supply := true, qualLeft := none, absentSince := none }) h)
  dsimp only [State.takeSupplyPresent]
  refine H.notifySupply _ (H.emit _ (H.cancelDisconnect (H.setShed _ ?_)))
  split
  · split
    exacts [H.enterFault h2, H.chargerTo _ h2]
  · exact h2

theorem takeSupply (H : Ordinary P) (h : P s) : P s.takeSupply := by
  dsimp only [State.takeSupply]
  split
  · split
    exacts [H.takeSupplyPresent h, H.takeSupplyAbsent h]
  · exact h

theorem supplyEdge (H : Ordinary P) (level : Bool) (h : P s) : P (s.supplyEdge level) := by
  dsimp only [State.supplyEdge]
  split
  exacts [h, H.bat _ (H.lines _ h)]

theorem enterPending (H : Ordinary P) (h : P s) : P s.enterPending := by
  dsimp only [State.enterPending]
  split
  exacts [H.bat _ (H.emit _ (H.bat _ h)), H.emit _ (H.bat _ h)]

theorem qualify (H : Ordinary P) (v : Option Int) (h : P s) : P (s.qualify v) := by
  dsimp only [State.qualify]
  split
  · split
    exacts [H.enterPending h, H.bat _ h]
  · exact h

/-! ## The durable store's operations -/

theorem startInternal (H : Ordinary P) (t : InternalTable) (r : Option Reply) (h : P s) :
    P (s.startInternal t r) := by
  dsimp only [State.startInternal, State.startStore]
  split
  exacts [H.lku (fun _ => ⟨rfl, rfl⟩) (H.store _ h), H.store _ h, H.store _ h]

theorem requestStore (H : Ordinary P) (t : InternalTable) (r : Option Reply) (h : P s) :
    P (s.requestStore t r) := by
  dsimp only [State.requestStore]
  split
  · exact H.startInternal _ _ h
  · split
    exacts [h, H.store _ h]

theorem storeFree (H : Ordinary P) (h : P s) : P s.storeFree := by
  dsimp only [State.storeFree]
  split
  exacts [H.store _ h, H.startInternal _ _ (H.store _ (H.store _ h))]

/-! ## The mechanism drive -/

theorem raiseRecharge (H : Ordinary P) (h : P s) : P s.raiseRecharge := by
  dsimp only [State.raiseRecharge]
  split
  exacts [h, H.request _ (H.drv (fun _ => ⟨rfl, rfl, rfl, rfl, rfl⟩) h)]

theorem lowerRecharge (H : Ordinary P) (h : P s) : P s.lowerRecharge := by
  dsimp only [State.lowerRecharge]
  split
  exacts [H.release _ (H.drv (fun _ => ⟨rfl, rfl, rfl, rfl, rfl⟩) h), h]

/-- The capacitor voltage sets the recharge request (R104) once DRV holds it. -/
theorem drvCap (H : Ordinary P) {v : Nat} {stale : Bool}
    (h : P (s.modDrv (fun d => { d with cap := v, capStale := stale }))) : P (s.drvCap v stale) := by
  dsimp only [State.drvCap]
  split
  · exact H.raiseRecharge h
  · split
    exacts [H.lowerRecharge h, h]

theorem dropCoils (H : Ordinary P) (h : P s) : P (s.modDrv Drv.dropCoils) :=
  H.drv (fun _ => ⟨rfl, rfl, rfl, rfl, rfl⟩) h

theorem endOp (H : Ordinary P) (st : DriveState) (out : OpOutcome) (c : Coil) (h : P s) :
    P (s.endOp st out c) :=
  H.drv (fun _ => ⟨rfl, rfl, rfl, rfl, rfl⟩) h

theorem snapFailure (H : Ordinary P) (k : FailKind) (h : P s) : P (s.snapFailure k) :=
  H.drv (fun _ => ⟨rfl, rfl, rfl, rfl, rfl⟩) h

theorem startTrip (H : Ordinary P) (c : TripCause) (h : P s) : P (s.startTrip c) := by
  dsimp only [State.startTrip]
  exact H.drv (fun _ => ⟨rfl, rfl, rfl, rfl, rfl⟩) h

theorem abandonClose (H : Ordinary P) (c : AbandonCause) (h : P s) : P (s.abandonClose c) := by
  dsimp only [State.abandonClose]
  split
  exacts [H.raiseRecharge (H.endOp _ _ _ (H.emit _ (H.dropCoils h))), h]

theorem tripFree (H : Ordinary P) (c : TripCause) (h : P s) : P (s.tripFree c) :=
  H.raiseRecharge (H.startTrip _ (H.emit _ (H.endOp _ _ _ h)))

theorem drvTrip (H : Ordinary P) (c : TripCause) (h : P s) : P (s.drvTrip c) := by
  dsimp only [State.drvTrip]
  split
  · split
    exacts [H.drv (fun _ => ⟨rfl, rfl, rfl, rfl, rfl⟩) h, H.startTrip _ h]
  · exact H.tripFree _ h
  all_goals exact h

theorem drvClose (H : Ordinary P) (c : CloseCause) (h : P s) : P (s.drvClose c) := by
  dsimp only [State.drvClose]
  split
  exacts [H.drv (fun _ => ⟨rfl, rfl, rfl, rfl, rfl⟩) h, h, h, h]

theorem drvTripDone (H : Ordinary P) (h : P s) : P s.drvTripDone := by
  dsimp only [State.drvTripDone]
  split
  exacts [H.drv (fun _ => ⟨rfl, rfl, rfl, rfl, rfl⟩) (H.endOp _ _ _ h), H.endOp _ _ _ h]

theorem drvCloseDone (H : Ordinary P) (h : P s) : P s.drvCloseDone := H.endOp _ _ _ h

theorem firstPeriod (H : Ordinary P) (h : P s) : P s.firstPeriod := by
  dsimp only [State.firstPeriod]
  split
  · exact H.requestStore _ _ (H.drv (fun _ => ⟨rfl, rfl, rfl, rfl, rfl⟩)
      (H.snapFailure _ (H.emit _ h)))
  · exact H.requestStore _ _ (H.drv (fun _ => ⟨rfl, rfl, rfl, rfl, rfl⟩)
      (H.raiseRecharge (H.dropCoils (H.snapFailure _ (H.emit _ h)))))

theorem drvHalt (H : Ordinary P) (h : P s) : P s.drvHalt :=
  H.endOp _ _ _ (H.requestStore _ _ (H.snapFailure _ (H.emit _ (H.dropCoils h))))

theorem drvCloseFail (H : Ordinary P) (h : P s) : P s.drvCloseFail :=
  H.endOp _ _ _ (H.requestStore _ _ (H.snapFailure _ (H.emit _ (H.dropCoils h))))

theorem drvRestore (H : Ordinary P) (h : P s) : P s.drvRestore :=
  H.emit _ (H.drv (fun _ => ⟨rfl, rfl, rfl, rfl, rfl⟩) h)

/-! ## The reclose sequence -/

theorem tellBat (H : Ordinary P) (h : P s) : P s.tellBat := by
  dsimp only [State.tellBat]
  split
  exacts [H.bat _ h, h]

theorem seqGoto (H : Ordinary P) (st : SeqState) (h : P s) : P (s.seqGoto st) :=
  H.tellBat (H.seq (fun _ => ⟨rfl, rfl, rfl, rfl, rfl⟩) h)

theorem setShot (H : Ordinary P) (n : Nat) (h : P s) : P (s.setShot n) :=
  H.shot _ (H.seq (fun _ => ⟨rfl, rfl, rfl, rfl, rfl⟩) h)

theorem seqLockout (H : Ordinary P) (r : LockReason) (h : P s) : P (s.seqLockout r) :=
  H.emit _ (H.seq (fun _ => ⟨rfl, rfl, rfl, rfl, rfl⟩) (H.seqGoto _ h))

theorem startSeqTimer (H : Ordinary P) (k : SeqTimerKind) (ms : Nat) (paused : Bool) (h : P s) :
    P (s.startSeqTimer k ms paused) :=
  H.seq (fun _ => ⟨rfl, rfl, rfl, rfl, rfl⟩) h

theorem seqOpenInterval (H : Ordinary P) (h : P s) : P s.seqOpenInterval :=
  H.startSeqTimer _ _ _ (H.seqGoto _ h)

theorem seqReclaim (H : Ordinary P) (h : P s) : P s.seqReclaim :=
  H.startSeqTimer _ _ _ (H.seqGoto _ h)

theorem seqHandClose (H : Ordinary P) (h : P s) : P s.seqHandClose :=
  H.seqReclaim (H.seq (fun _ => ⟨rfl, rfl, rfl, rfl, rfl⟩) (H.setShot _ h))

theorem seqUnexpected (H : Ordinary P) (p : Position) (h : P s) : P (s.seqUnexpected p) := H.emit _ h

theorem seqTripDone (H : Ordinary P) (h : P s) : P s.seqTripDone := by
  dsimp only [State.seqTripDone, State.seqTripEnd]
  (repeat' split)
  exacts [H.seqLockout _ h, H.seqLockout _ h, H.seqLockout _ h, H.seqLockout _ h, H.seqLockout _ h,
    H.seqOpenInterval h, h]

theorem seqCloseDone (H : Ordinary P) (h : P s) : P s.seqCloseDone := by
  dsimp only [State.seqCloseDone]
  split
  · exact H.seqReclaim (H.emit _ h)
  · exact H.seqHandClose (H.seqUnexpected _ h)
  all_goals exact h

theorem seqCloseFailed (H : Ordinary P) (h : P s) : P s.seqCloseFailed := by
  dsimp only [State.seqCloseFailed]
  split
  exacts [H.seqLockout _ h, h]

theorem seqHalted (H : Ordinary P) (h : P s) : P s.seqHalted := H.seqGoto _ h

theorem seqRestored (H : Ordinary P) (h : P s) : P s.seqRestored := by
  dsimp only [State.seqRestored]
  (repeat' split)
  exacts [H.seqLockout _ h, H.seqLockout _ h, H.seqGoto _ (H.setShot _ h), H.seqGoto _ h, h]

theorem placeTrip (H : Ordinary P) (c : TripCause) (announce : Option Flags4) (h : P s) :
    P (s.placeTrip c announce) := by
  have h1 := H.seq (f := fun q => { q with tripCause := some c })
    (fun _ => ⟨rfl, rfl, rfl, rfl, rfl⟩) (H.seqGoto .tripping (H.drvTrip c h))
  have h2 : P (match announce with
      | some f => (((s.drvTrip c).seqGoto .tripping).modSeq
          (fun q => { q with tripCause := some c })).emit (.trip c (((s.drvTrip c).seqGoto
            .tripping).modSeq (fun q => { q with tripCause := some c })).seq.shot f)
      | none => ((s.drvTrip c).seqGoto .tripping).modSeq (fun q => { q with tripCause := some c })) := by
    cases announce
    exacts [h1, H.emit _ h1]
  dsimp only [State.placeTrip]
  split
  · exact h
  · split
    exacts [H.seqTripDone h2, h2]

theorem seqProtect (H : Ordinary P) (h : P s) : P s.seqProtect := by
  dsimp only [State.seqProtect]
  split
  exacts [h, H.placeTrip _ _ (H.setShot _ h)]

theorem seqTripUnknown (H : Ordinary P) (c : TripCause) (m : RestartMark) (h : P s) :
    P (s.seqTripUnknown c m) := by
  dsimp only [State.seqTripUnknown]
  split
  exacts [H.seq (fun _ => ⟨rfl, rfl, rfl, rfl, rfl⟩) (H.drvTrip _ h), h]

theorem seqTripCommand (H : Ordinary P) (h : P s) : P s.seqTripCommand := by
  dsimp only [State.seqTripCommand]
  split
  exacts [H.placeTrip _ _ h, H.placeTrip _ _ h, H.placeTrip _ _ h, H.seqLockout _ h,
    H.seqLockout _ h, h, h, H.seqTripUnknown _ _ h, h]

theorem lowBatteryRequest (H : Ordinary P) (h : P s) : P s.lowBatteryRequest := by
  refine H.tellBat ?_
  dsimp only [State.seqLowBattery]
  split
  exacts [H.placeTrip _ _ h, H.placeTrip _ _ h, H.placeTrip _ _ h,
    H.seq (fun _ => ⟨rfl, rfl, rfl, rfl, rfl⟩) h, H.seqLockout _ h, H.seqLockout _ h,
    H.seqTripUnknown _ _ h, h, h]

theorem placeClose (H : Ordinary P) (c : CloseCause) (ans : CloseAnswer) (h : P s) :
    P (s.placeClose c ans) := by
  have h1 := H.seq (f := fun q => { q with closeCause := some c })
    (fun _ => ⟨rfl, rfl, rfl, rfl, rfl⟩) (H.seqGoto .closing (H.drvClose c h))
  dsimp only [State.placeClose]
  split
  exacts [H.seqCloseDone h1, h1]

theorem checkClose (H : Ordinary P) (h : P s) : P s.checkClose := by
  dsimp only [State.checkClose]
  split
  · split
    exacts [H.placeClose _ _ h, H.placeClose _ _ h, h, h]
  · exact h

theorem seqCloseWait (H : Ordinary P) (h : P s) : P s.seqCloseWait :=
  H.checkClose (H.startSeqTimer _ _ _ (H.seqGoto _ h))

theorem seqCloseCommand (H : Ordinary P) (h : P s) : P s.seqCloseCommand := by
  dsimp only [State.seqCloseCommand]
  split
  exacts [H.placeClose _ _ (H.seq (fun _ => ⟨rfl, rfl, rfl, rfl, rfl⟩) (H.setShot _ h)), h]

theorem seqAdvance (H : Ordinary P) (h : P s) : P s.seqAdvance :=
  H.emit _ (H.seqReclaim (H.setShot _ h))

theorem seqEpisode (H : Ordinary P) (r : ElemResult) (h : P s) : P (s.seqEpisode r) := by
  have h1 : ∀ e : Option Episode, P (s.modSeq (fun q => { q with episode := e })) :=
    fun _ => H.seq (fun _ => ⟨rfl, rfl, rfl, rfl, rfl⟩) h
  dsimp only [State.seqEpisode]
  split
  · exact h1 _
  · split
    · exact H.seq (fun _ => ⟨rfl, rfl, rfl, rfl, rfl⟩) h
    · split
      · exact h
      · split
        exacts [H.seqAdvance (h1 _), h1 _]

theorem seqResult (H : Ordinary P) (r : ElemResult) (h : P s) : P (s.seqResult r) := by
  have h1 := H.seq (f := fun q => { q with lastPickup := r.pickup, lastOperate := r.operate })
    (fun _ => ⟨rfl, rfl, rfl, rfl, rfl⟩) h
  dsimp only [State.seqResult]
  split
  · split
    exacts [H.seqProtect h1, H.seqEpisode _ h1]
  · split
    exacts [H.seqProtect h1, H.seqEpisode _ (H.seq (fun _ => ⟨rfl, rfl, rfl, rfl, rfl⟩) h1)]
  all_goals exact h1

theorem seqTakeResult (H : Ordinary P) (r : ElemResult) (h : P s) : P (s.seqTakeResult r) := by
  dsimp only [State.seqTakeResult]
  split
  exacts [H.checkClose (H.seqResult _ h), H.seqResult _ h]

theorem seqHandle (H : Ordinary P) (before : Handle) (h : P s) : P (s.seqHandle before) := by
  dsimp only [State.seqHandle]
  split
  exacts [H.seqLockout _ h, h]

theorem seqLeaveUnknown (H : Ordinary P) (d : Delivery) (h : P s) : P (s.seqLeaveUnknown d) := by
  dsimp only [State.seqLeaveUnknown]
  split
  · exact H.seqLockout _ h
  · split
    · split
      · exact H.seq (fun _ => ⟨rfl, rfl, rfl, rfl, rfl⟩) (H.seqGoto _ h)
      · exact H.seqGoto _ (H.setShot _ h)
    · exact H.seqLockout _ h
    · exact h

theorem seqPosition (H : Ordinary P) (d : Delivery) (changed : Bool) (h : P s) :
    P (s.seqPosition d changed) := by
  have ho : P (s.seqOpened d changed) := by
    dsimp only [State.seqOpened]
    split
    exacts [H.seqLockout _ (H.seqUnexpected _ h), h]
  have hc : P (s.seqClosed d changed) := by
    dsimp only [State.seqClosed]
    split
    exacts [H.seqHandClose (H.seqUnexpected _ h), h]
  dsimp only [State.seqPosition]
  split
  · exact h
  · split
    exacts [h, ho, ho, hc, hc, hc, h, h, h]

/-- The close conditions are checked (R72) once SEQ holds the new view. -/
theorem seqView (H : Ordinary P) {f : Seq → Seq} (h : P (s.modSeq f)) : P (s.seqView f) := by
  dsimp only [State.seqView]
  split
  exacts [h, H.checkClose h]

theorem seqSource (H : Ordinary P) (live : Bool) (h : P s) : P (s.seqSource live) :=
  H.seqView (H.seq (fun _ => ⟨rfl, rfl, rfl, rfl, rfl⟩) h)

theorem seqNoClose (H : Ordinary P) (h : P s) : P s.seqNoClose := by
  dsimp only [State.seqNoClose]
  split
  · exact H.seqLockout _ (H.abandonClose _ h)
  · exact H.seqLockout _ h
  · exact H.seqLockout _ h
  all_goals exact h

theorem seqAnyTag (H : Ordinary P) (h : P s) : P s.seqAnyTag := by
  dsimp only [State.seqAnyTag]
  split
  · exact H.seqLockout _ h
  · exact H.seqLockout _ h
  · exact H.seq (fun _ => ⟨rfl, rfl, rfl, rfl, rfl⟩) h
  all_goals exact h

theorem seqTags (H : Ordinary P) (present noClose : Bool) (h : P s) :
    P (s.seqTags present noClose) := by
  have h1 := H.seq (f := fun q => { q with tagPresent := present, noClosePresent := noClose })
    (fun _ => ⟨rfl, rfl, rfl, rfl, rfl⟩) h
  dsimp only [State.seqTags]
  split
  · exact H.seqNoClose h1
  · split
    exacts [H.seqAnyTag h1, H.checkClose h1]

theorem seqReclaimEnd (H : Ordinary P) (h : P s) : P s.seqReclaimEnd :=
  H.seqGoto _ (H.seq (fun _ => ⟨rfl, rfl, rfl, rfl, rfl⟩) (H.setShot _ (H.emit _ h)))

theorem takeLive (H : Ordinary P) (l : LiveSet) (h : P s) : P (s.takeLive l) := by
  dsimp only [State.takeLive]
  refine H.seqResult _ ?_
  split
  exacts [H.setShot _ (H.clear (H.sets _ h)), H.clear (H.sets _ h)]

theorem applyLoad (H : Ordinary P) (g : Option Nat) (c : SelCause) (r : Option Reply) (h : P s) :
    P (s.applyLoad g c r) :=
  H.emit _ (H.requestStore _ _ (H.sets _ (H.takeLive _ h)))

theorem completeInPlace (H : Ordinary P) (c : SelCause) (h : P s) : P (s.completeInPlace c) := by
  have h1 : ∀ f : Sets → Sets, P (if (s.modSets f).sets.ret = s.sets.ret then s.modSets f
      else (s.modSets f).requestStore .selection none) := by
    intro f
    split
    exacts [H.sets _ h, H.requestStore _ _ (H.sets _ h)]
  exact h1 _

theorem applyPending (H : Ordinary P) (h : P s) : P s.applyPending := by
  dsimp only [State.applyPending]
  split
  · exact h
  · split
    exacts [H.completeInPlace _ h, H.applyLoad _ _ _ h]

theorem applyIfSettled (H : Ordinary P) (h : P s) : P s.applyIfSettled := by
  dsimp only [State.applyIfSettled]
  split
  exacts [H.applyPending h, h]

theorem setTagged (H : Ordinary P) (h : P s) : P s.setTagged := by
  dsimp only [State.setTagged]
  split
  · exact h
  · split
    · refine H.applyIfSettled ?_
      split
      exacts [H.sets _ h, H.requestStore _ _ (H.sets _ h)]
    · exact h

theorem setUntagged (H : Ordinary P) (h : P s) : P s.setUntagged := by
  dsimp only [State.setUntagged]
  split
  · exact h
  · split
    exacts [H.completeInPlace _ (H.sets _ h), H.applyIfSettled (H.sets _ h)]

theorem settleNotice (H : Ordinary P) (h : P s) : P s.settleNotice := by
  dsimp only [State.settleNotice]
  split
  · exact h
  · split
    exacts [H.applyPending (H.sets _ h), H.sets _ h]

/-- An arrival at SEQ keeps what its action has brought about. -/
theorem seqArrive (H : Ordinary P) {f : State → State} (h : P (f s)) : P (s.seqArrive f) := by
  dsimp only [State.seqArrive]
  refine H.settleNotice ?_
  dsimp only [State.resendTrip]
  split
  exacts [H.lowBatteryRequest h, h]

/-! ## Deliveries, up to their views -/

theorem elePosition (H : Ordinary P) {d : Delivery}
    (h : P (s.modEle (fun e => { e with posView := d.position, posStale := d.stale }))) :
    P (s.elePosition d) := by
  dsimp only [State.elePosition]
  split
  exacts [H.seqTakeResult _ (H.clear h), h]

theorem seqDelivery (H : Ordinary P) {d : Delivery}
    (h : P ((s.modSeq (deliveryViews d)).elePosition d)) : P (s.seqDelivery d) := by
  have h2 : P (if ((s.modSeq (deliveryViews d)).elePosition d).seq.state = .unknown ∧ d.stale = false
      then ((s.modSeq (deliveryViews d)).elePosition d).seqLeaveUnknown d
      else (((s.modSeq (deliveryViews d)).elePosition d).seqHandle s.seq.handle).seqPosition d
        (s.seq.position != d.position)) := by
    split
    exacts [H.seqLeaveUnknown _ h, H.seqPosition _ _ (H.seqHandle _ h)]
  dsimp only [State.seqDelivery]
  split
  exacts [H.checkClose h2, h2]

theorem drvConfirm (H : Ordinary P) (news : Bool) (d : Delivery) (h : P s) :
    P (s.drvConfirm news d) := by
  dsimp only [State.drvConfirm]
  split
  · exact H.raiseRecharge (H.seqArrive (H.seqTripDone (H.drvTripDone h)))
  · split
    exacts [H.raiseRecharge (H.seqArrive (H.seqCloseDone (H.drvCloseDone h))), h]

theorem drvDelivery (H : Ordinary P) {d : Delivery} (h : P (s.drvViews d)) : P (s.drvDelivery d) := by
  dsimp only [State.drvDelivery]
  refine H.drvConfirm _ _ ?_
  split
  exacts [H.abandonClose _ h, h]

theorem lkuHandle (H : Ordinary P) {d : Delivery}
    (h : P (s.modLku (fun l => { l with handle := d.handle, handleStale := d.stale }))) :
    P (s.lkuHandle d) := by
  dsimp only [State.lkuHandle]
  split
  · exact h
  · split
    exacts [H.emit _ h, H.emit _ h]

/-- An E-step (R16, R21) keeps what the measurement and the elements keep. -/
theorem eStep (H : Ordinary P) (hm : ∀ {u} (g : Group), P u → P (u.modMeu (measure g)))
    (he : ∀ {u} (l : LiveSet) (m : Magnitudes), P u → P (u.modEle (eleStep l m))) (h : P s) :
    P s.eStep := by
  have h3 := H.seqArrive (H.seqTakeResult
    (stepResult s.ele (eleStep s.sets.live (measure s.sets.live.grp s.meu).mags s.ele))
    (he s.sets.live (measure s.sets.live.grp s.meu).mags (hm s.sets.live.grp h)))
  dsimp only [State.eStep]
  refine H.rpb (fun _ => ⟨rfl, rfl⟩) ?_
  split
  exacts [h3, H.seqArrive (H.seqSource _ h3)]

/-! ## The crew lockout -/

theorem stageTag (H : Ordinary P) (c : TagChange) (h : P s) : P (s.stageTag c) :=
  H.requestStore _ _ (H.lku (fun _ => ⟨rfl, rfl⟩) h)

theorem effectTag (H : Ordinary P) (c : TagChange) (h : P s) : P (s.effectTag c) := by
  dsimp only [State.effectTag]
  exact H.store _ (H.lku (fun _ => ⟨rfl, rfl⟩) h)

theorem effectTags (H : Ordinary P) (cs : List TagChange) (h : P s) : P (s.effectTags cs) := by
  induction cs generalizing s with
  | nil => exact h
  | cons c cs ih => exact ih (H.effectTag c h)

theorem emitAll (H : Ordinary P) (es : List Event) (h : P s) : P (s.emitAll es) := by
  induction es generalizing s with
  | nil => exact h
  | cons e es ih => exact ih (H.emit _ h)

theorem answer (H : Ordinary P) (r : Option Reply) (o : CmdOutcome) (h : P s) : P (s.answer r o) :=
  H.answerWith _ _ _ h

theorem answerTags (H : Ordinary P) (cs : List TagChange) (h : P s) : P (s.answerTags cs) := by
  induction cs generalizing s with
  | nil => exact h
  | cons c cs ih => exact ih (H.answer _ _ h)

theorem tagNotices (H : Ordinary P) (before : List Tag) (h : P s) : P (s.tagNotices before) := by
  have hset : ∀ (now : List Tag) (u : State), P u → P (if anyTag before = anyTag now then u
      else if anyTag now then u.setTagged else u.setUntagged) := by
    intro now u hu
    split
    · exact hu
    · split
      exacts [H.setTagged hu, H.setUntagged hu]
  have hseq : ∀ (now : List Tag) (u : State), P u →
      P (if anyTag before = anyTag now ∧ anyNoClose before = anyNoClose now then u
        else u.seqArrive (State.seqTags (anyTag now) (anyNoClose now))) := by
    intro now u hu
    split
    exacts [hu, H.seqArrive (H.seqTags _ _ hu)]
  dsimp only [State.tagNotices]
  split
  exacts [hseq _ _ (hset _ _ h), hset _ _ (hseq _ _ h)]

theorem tagsStored (H : Ordinary P) (cs : List TagChange) (h : P s) : P (s.tagsStored cs) :=
  H.answerTags _ (H.emitAll _ (H.tagNotices _ (H.effectTags _ h)))

theorem tagExpires (H : Ordinary P) (crew : Nat) (h : P s) : P (s.tagExpires crew) := by
  dsimp only [State.tagExpires]
  split
  exacts [H.lku (fun _ => ⟨rfl, rfl⟩) h, H.stageTag _ (H.lku (fun _ => ⟨rfl, rfl⟩) h)]

/-! ## The completion of a store operation -/

theorem written (H : Ordinary P) (table index : Nat) (r : Option Reply) (h : P s) :
    P (s.written table index r) := H.emit _ (H.answer _ _ h)

theorem groupStored (H : Ordinary P) (slot : Nat) (g : Option Group) (h : P s) :
    P (s.groupStored slot g) := by
  dsimp only [State.groupStored, State.dropPendingOf]
  (repeat' split)
  exacts [H.emit _ (H.sets _ (H.store _ h)), H.store _ h, H.store _ h]

theorem batteryStored (H : Ordinary P) (b : BatteryRec) (h : P s) : P (s.batteryStored b) := by
  have h1 := H.updateSetpoints (H.store (fun st => { st with battery := b }) h)
  dsimp only [State.batteryStored]
  (repeat' split)
  exacts [h1, H.evalShed (H.bat _ (H.bat _ h1)), H.bat _ h1, H.bat _ (H.evalShed (H.bat _ (H.bat _ h1)))]

theorem radioStored (H : Ordinary P) (r : RadioRec) (h : P s) : P (s.radioStored r) := by
  dsimp only [State.radioStored]
  split
  exacts [H.lookCandidate (H.store _ h), H.rpcDropUnsolicited (H.store _ h)]

theorem emptyArea (H : Ordinary P) (a : Area) (h : P s) : P (s.emptyArea a) := by
  dsimp only [State.emptyArea]
  split
  exacts [H.pkm _ h, H.setUrgent _ (H.rpb (fun _ => ⟨rfl, rfl⟩) h), H.pkm _ h, H.pkm _ h]

theorem areasStored (H : Ordinary P) (p : Partition) (h : P s) : P (s.areasStored p) :=
  H.store _ (H.emptyArea _ (H.emptyArea _ (H.emptyArea _ (H.emptyArea _ h))))

theorem storeComplete (H : Ordinary P) (h : P s) : P s.storeComplete := by
  dsimp only [State.storeComplete]
  split
  · exact h
  · refine H.storeFree ?_
    dsimp only [State.completeStore]
    split
    exacts [H.written _ _ _ (H.store _ h), H.written _ _ _ (H.groupStored _ _ h),
      H.written _ _ _ (H.store _ h), H.answer _ _ (H.store _ h), H.tagsStored _ h,
      H.written _ _ _ (H.store _ h), H.written _ _ _ (H.batteryStored _ h),
      H.written _ _ _ (H.radioStored _ h), H.written _ _ _ (H.areasStored _ h), H.store _ h]

/-! ## The radio channel -/

theorem takeAnswer (H : Ordinary P) (p : Purpose) (rec : Option (Area × Nat)) (f : Frame) (h : P s) :
    P (s.takeAnswer p rec f) := H.request _ (H.rpc _ (H.rpcGoto _ h))

theorem pollTaken (H : Ordinary P) (payload : List Byte) (h : P s) : P (s.pollTaken payload) := by
  dsimp only [State.pollTaken]
  split
  · have h1 := H.acknowledge (pollAck payload)
      (H.rpc (fun r => { r with polls := satAdd 65535 r.polls 1 }) h)
    dsimp only [State.answerPoll]
    split
    exacts [H.takeAnswer _ _ _ h1, h1]
  · exact h

theorem appendForward (H : Ordinary P) (f : Frame) (h : P s) : P (s.appendForward f) := by
  dsimp only [State.appendForward]
  split
  exacts [H.pkm _ h, H.fcu (fun _ => ⟨rfl, rfl, rfl, rfl, rfl⟩) h]

theorem badFrame (H : Ordinary P) (p : Port) (h : P s) : P (s.badFrame p) := by
  dsimp only [State.badFrame]
  split
  exacts [H.fcu (fun _ => ⟨rfl, rfl, rfl, rfl, rfl⟩) h, H.fcu (fun _ => ⟨rfl, rfl, rfl, rfl, rfl⟩) h]

theorem windowExpired (H : Ordinary P) (h : P s) : P s.windowExpired := by
  dsimp only [State.windowExpired]
  split
  exacts [H.lookCandidate (H.rpcWithdraw _ h), h]

theorem keyExpired (H : Ordinary P) (h : P s) : P s.keyExpired := by
  dsimp only [State.keyExpired]
  split
  exacts [H.rpcGoto _ h, h]

theorem settleRecord (H : Ordinary P) (a : Answer) (h : P s) : P (s.settleRecord a) := by
  dsimp only [State.settleRecord, State.markSent]
  (repeat' split)
  exacts [h, H.pkm _ h, H.pkm _ h, H.pkm _ h, H.rpc _ (H.pkm _ h), h, h]

theorem frameSent (H : Ordinary P) (h : P s) : P s.frameSent := by
  have h1 := H.release .radio (H.rpc (fun r => { r with radioKey := false }) h)
  dsimp only [State.frameSent]
  split
  · split
    · refine H.rpcRest ?_
      dsimp only [State.countSent]
      split
      exacts [H.rpc _ (H.settleRecord _ h1), H.rpc _ (H.settleRecord _ h1)]
    · exact H.rpcRest h1
  · exact h

theorem holdoffExpired (H : Ordinary P) (h : P s) : P s.holdoffExpired := by
  dsimp only [State.holdoffExpired]
  split
  · split
    exacts [H.takeAnswer _ _ _ h, H.rpcListen h]
  · exact h

theorem confirmExpired (H : Ordinary P) (h : P s) : P s.confirmExpired := by
  dsimp only [State.confirmExpired]
  split
  exacts [H.lookCandidate (H.rpc _ (H.pkm _ h)), h]

/-! ## Rows of timers -/

theorem seqExpiry (H : Ordinary P) (k : SeqTimerKind) {f : State → State} (hf : P (f s)) (h : P s) :
    P (s.seqExpiry k f) := by
  dsimp only [State.seqExpiry]
  split
  exacts [H.seqArrive hf, h]

theorem tripMonitorEnd (H : Ordinary P) (h : P s) : P s.tripMonitorEnd := by
  have h1 := H.raiseRecharge (H.seqArrive (H.seqHalted (H.drvHalt h)))
  dsimp only [State.tripMonitorEnd]
  split
  · exact h
  · split
    · split
      exacts [h1, H.firstPeriod h]
    · exact h1
    all_goals exact h

theorem closeMonitorEnd (H : Ordinary P) (h : P s) : P s.closeMonitorEnd := by
  dsimp only [State.closeMonitorEnd]
  split
  exacts [H.raiseRecharge (H.seqArrive (H.seqCloseFailed (H.drvCloseFail h))), h]

theorem countdownEnd (H : Ordinary P) (crew : Nat) (h : P s) : P (s.countdownEnd crew) := by
  dsimp only [State.countdownEnd]
  split
  exacts [H.tagExpires _ h, h]

theorem secondEnd (H : Ordinary P) (h : P s) : P s.secondEnd := by
  have h1 := H.qualify (meanOf s.bat.voltSum s.bat.voltCount)
    (H.secondMeans (meanOf s.bat.voltSum s.bat.voltCount) (meanOf s.bat.ampSum s.bat.ampCount) h)
  dsimp only [State.secondEnd, State.sendIfPending]
  split
  exacts [H.seqArrive (H.lowBatteryRequest h1), h1]

theorem hourEnd (H : Ordinary P) (h : P s) : P s.hourEnd := by
  dsimp only [State.hourEnd]
  exact H.rpb (fun _ => ⟨rfl, rfl⟩) (H.emit _ h)

/-! ## What the owners of commands do -/

theorem pendSelection (H : Ordinary P) (g : Nat) (h : P s) : P (s.pendSelection g) := by
  dsimp only [State.pendSelection]
  split
  exacts [H.requestStore _ _ (H.sets _ (H.sets _ h)), H.sets _ h]

theorem clearGroup (H : Ordinary P) (slot : Nat) (r : Option Reply) (h : P s) :
    P (s.clearGroup slot r) := by
  dsimp only [State.clearGroup]
  (repeat' split)
  exacts [H.answer _ _ h, H.answer _ _ h, H.answer _ _ h, H.store _ h]

end Ordinary

end Sys2Proof.Machine
end

section
/-! What every step keeps: a property kept by the ordinary operations, by the receptions of the sensor
link, by the clock, by a reset and by the intake of frames is kept by every row and by every step. -/

namespace Sys2Proof.Machine

/-- A property that every row keeps: beside the ordinary operations, the updates that belong to one row
alone. -/
structure Steady (P : State → Prop) : Prop extends Ordinary P where
  pending : ∀ {s} (q : List Instr), P s → P (s.setPending q)
  part : ∀ {s} (f : Part → Part), P s → P (s.modPart f)
  ticks : ∀ {s} (n : Nat), P s → P (s.countTicks n)
  ms : ∀ {s} (k : Nat), P s → P (s.countMs k)
  blocks : ∀ {s}, P s → P s.resetBlocks
  sample : ∀ {s} (bytes : List Byte), P s → P (s.sampleReceived bytes)
  silence : ∀ {s}, P s → P s.silenceExpired
  decimation : ∀ {s} (d : Nat), P s → P (s.setDecimation d)
  intake : ∀ {s} (e : IntakeEntry), P s → P (s.intakeOffer e)
  rxTake : ∀ {s} (p : Port) (b : Byte), P s → P (s.setRx p ((s.fcu.rx p).take b).1)
  rxIdle : ∀ {s} (p : Port), P s → P (s.setRx p .idle)
  localSent : ∀ {s}, P s → P s.localSent
  begun : ∀ {s} {e : IntakeEntry} {rest : List IntakeEntry}, s.fcu.intake = e :: rest →
    executable s e = true → P s → P (s.begun e)

namespace Steady

variable {P : State → Prop} {s : State}

/-! ## Resets -/

theorem resetAs (H : Steady P) (c : ResetCause) (h : P s) : P (s.resetAs c) := by
  have h1 : P (s.resetBlocks.modPart
      (fun _ => { run := .running, resetQual := startQual s.resetBlocks.lines })).resetSets :=
    H.requestStore _ _ (H.sets _ (H.part _ (H.blocks h)))
  have h2 := H.seq (f := fun q => { q with
      tagPresent := anyTag s.store.tags, noClosePresent := anyNoClose s.store.tags })
    (fun _ => ⟨rfl, rfl, rfl, rfl, rfl⟩) (H.lku (f := fun l => { l with
      inForce := s.store.tags, staged := s.store.tags
      countdowns := s.store.tags.filterMap (fun t => t.expiry.map (fun m => (t.crew, countdownMs m))) })
    (fun _ => ⟨rfl, rfl⟩) h1)
  have h3 : P ((s.resetBlocks.modPart (fun _ =>
      { run := .running, resetQual := startQual s.resetBlocks.lines })).resetSets.resetLku.resetSeq) := by
    have hst : (s.resetBlocks.modPart (fun _ =>
        { run := .running, resetQual := startQual s.resetBlocks.lines })).resetSets.store.tags =
        s.store.tags := by
      simp [State.resetSets, State.requestStore, State.resetBlocks, keptStore, State.startInternal,
        State.startStore]
    simpa only [State.resetLku, State.resetSeq, State.modLku_store, hst] using h2
  exact H.rpcPower (H.emit _ (H.rpc _ (H.sup _ (H.chargerPins (H.bat _ h3)))))

theorem resetTaken (H : Steady P) (h : P s) : P s.resetTaken := by
  dsimp only [State.resetTaken]
  split
  exacts [H.part _ (H.blocks h), h]

theorem resetReleased (H : Steady P) (h : P s) : P s.resetReleased := by
  dsimp only [State.resetReleased]
  split
  exacts [H.resetAs _ (H.lines _ h), H.part _ (H.lines _ h)]

theorem resetAsserted (H : Steady P) (h : P s) : P s.resetAsserted := by
  dsimp only [State.resetAsserted]
  split
  exacts [H.part _ (H.lines _ h), H.lines _ h]

/-! ## The execution of commands (R183) -/

/-- What the owner of a command does with it. -/
theorem body (H : Steady P) (k : Option CmdKind) (e : IntakeEntry) (r : Option Reply) (h : P s) :
    P (bodyOf k e r s) := by
  have ha : ∀ o, P (s.answer r o) := fun o => H.answer r o h
  match k with
  | none => exact ha _
  | some .readStatus =>
    dsimp only [bodyOf, bodyReadStatus]
    split
    exacts [H.answerWith _ _ _ h, ha _]
  | some .readTable =>
    dsimp only [bodyOf, bodyReadTable]
    split
    exacts [H.answerWith _ _ _ h, ha _]
  | some .selectGroup =>
    dsimp only [bodyOf, bodySelectGroup]
    (repeat' split)
    exacts [ha _, ha _, ha _, ha _, H.applyLoad _ _ _ h, H.answer _ _ (H.pendSelection _ h)]
  | some .setTime =>
    dsimp only [bodyOf, bodySetTime]
    split
    exacts [H.answer _ _ (H.rpcPower (H.fcu (fun _ => ⟨rfl, rfl, rfl, rfl, rfl⟩) h)), ha _]
  | some .sampleForward =>
    dsimp only [bodyOf, bodySampleForward]
    split
    exacts [H.answer _ _ (H.decimation _ h), ha _]
  | some .trip =>
    dsimp only [bodyOf, bodyTrip]
    split
    exacts [H.answer _ _ (H.seqArrive (H.seqTripCommand h)), ha _]
  | some .close =>
    dsimp only [bodyOf, bodyClose]
    split
    exacts [H.answer _ _ (H.seqArrive (H.seqCloseCommand h)), ha _]
  | some .placeTag =>
    dsimp only [bodyOf, bodyPlaceTag]
    (repeat' split)
    exacts [ha _, ha _, H.stageTag _ h, ha _, H.stageTag _ h]
  | some .removeTag =>
    dsimp only [bodyOf, bodyRemoveTag]
    (repeat' split)
    exacts [ha _, ha _, H.stageTag _ h, ha _]
  | some .testStart =>
    dsimp only [bodyOf, bodyTestStart]
    (repeat' split)
    exacts [ha _, ha _, H.answer _ _ (H.startTest _ h), ha _]
  | some .testCancel =>
    dsimp only [bodyOf, bodyTestCancel]
    (repeat' split)
    exacts [ha _, ha _, H.answer _ _ (H.cancelTest h)]
  | some .writeCurve =>
    dsimp only [bodyOf, bodyWriteCurve]
    split
    exacts [H.store _ h, ha _]
  | some .clearCurve =>
    dsimp only [bodyOf, bodyClearCurve]
    (repeat' split)
    exacts [ha _, ha _, ha _, ha _, H.store _ h]
  | some .writeGroup =>
    dsimp only [bodyOf, bodyWriteGroup]
    (repeat' split)
    exacts [H.store _ h, ha _, H.clearGroup _ _ h, ha _]
  | some .writeDevice =>
    dsimp only [bodyOf, bodyWriteDevice]
    split
    exacts [H.store _ h, ha _]
  | some .writeBattery =>
    dsimp only [bodyOf, bodyWriteBattery]
    (repeat' split)
    exacts [ha _, ha _, H.store _ h, ha _]
  | some .writeRadio =>
    dsimp only [bodyOf, bodyWriteRadio]
    split
    exacts [H.store _ h, ha _]
  | some .writeAreas =>
    dsimp only [bodyOf, bodyWriteAreas]
    split
    exacts [H.store _ h, ha _]
  | some .flushClass =>
    dsimp only [bodyOf, bodyFlushClass]
    split
    exacts [H.answer _ _ (H.emptyArea _ h), ha _]
  | some .driveRestore =>
    dsimp only [bodyOf, bodyDriveRestore]
    (repeat' split)
    exacts [ha _, H.answer _ _ (H.seqArrive (H.seqRestored (H.drvRestore h))),
      H.answer _ _ (H.drvRestore h), ha _, ha _, ha _]
  | some .restart =>
    dsimp only [bodyOf, bodyRestart]
    (repeat' split)
    exacts [ha _, H.resetAs _ h, ha _]
  | some .writeGates =>
    dsimp only [bodyOf, bodyWriteGates]
    split
    exacts [H.store _ h, ha _]

/-- FCU serves the intake queue. -/
theorem serve (H : Steady P) (h : P s) : P s.serve := by
  refine State.serve_ind (fun u e rest hi hx hu => ?_) h
  rw [State.executeHead_eq hi]
  split
  exacts [H.answer _ _ (H.begun hi hx hu), H.body _ _ _ (H.begun hi hx hu)]

/-- A row that a running part takes. -/
theorem whenRunning (H : Steady P) {f : State → State} (h : P s) (hf : P s → P (f s)) :
    P (whenRunning f s) := by
  dsimp only [Machine.whenRunning]
  split
  exacts [H.serve (hf h), h]

/-! ## Frames from the two ports -/

theorem frameEnded (H : Steady P) (p : Port) (r : Reception) (h : P s) : P (s.frameEnded p r) := by
  dsimp only [State.frameEnded]
  split
  · exact H.badFrame _ h
  · split
    · dsimp only [State.sortRadio]
      (repeat' split)
      exacts [h, h, H.localSend _ _ h, h, H.intake _ h, H.pollTaken _ h, h]
    · dsimp only [State.sortLocal]
      (repeat' split)
      exacts [H.intake _ h, h, H.appendForward _ h]

theorem rxBytes (H : Steady P) (p : Port) (bs : List Byte) (h : P s) : P (s.rxBytes p bs) := by
  induction bs generalizing s with
  | nil => exact h
  | cons b bs ih =>
    refine ih ?_
    dsimp only [State.rxByte]
    split
    exacts [H.rxTake _ _ h, H.serve (H.frameEnded _ _ (H.rxTake _ _ h))]

theorem byteGap (H : Steady P) (p : Port) (h : P s) : P (s.byteGap p) := by
  dsimp only [State.byteGap]
  split
  exacts [h, H.rxIdle _ (H.badFrame _ h)]

/-! ## The clock -/

theorem tick (H : Steady P) (h : P s) : P s.tick := by
  dsimp only [State.tick]
  split
  · exact H.fcu (fun _ => ⟨rfl, rfl, rfl, rfl, rfl⟩) (H.ticks _ h)
  · exact H.fcu (fun _ => ⟨rfl, rfl, rfl, rfl, rfl⟩) (H.ms _ (H.ticks _ h))

theorem partSecond (H : Steady P) (h : P s) : P s.partSecond := by
  dsimp only [State.partSecond]
  refine H.rpcPower (H.fcu (fun _ => ⟨rfl, rfl, rfl, rfl, rfl⟩) ?_)
  split
  exacts [h, H.ms _ (H.ticks _ h)]

/-! ## Rows and steps -/

/-- The arrival of a command row. -/
theorem row (H : Steady P) (e : IntakeEntry) (h : P s) :
    P (Machine.whenRunning (State.offerRow e) s) :=
  H.whenRunning h (H.intake _)

/-- A row that follows an input line in every run state (R189). -/
theorem edge (H : Steady P) {f : State → State} (g : Lines → Lines) (h : P s) (hf : P s → P (f s)) :
    P (if s.part.run = .running then (f s).serve else s.modLines g) := by
  split
  exacts [H.serve (hf h), H.lines _ h]

/-- Every row keeps the property. -/
theorem exec (H : Steady P) (c : Instr) (h : P s) : ∃ t, exec c s = .next t ∧ P t := by
  cases c with
  | sampleFrameReceived bytes => exact ⟨_, rfl, H.whenRunning h (H.sample bytes)⟩
  | silenceTimerExpiry => exact ⟨_, rfl, H.whenRunning h H.silence⟩
  | openIntervalExpiry =>
    exact ⟨_, rfl, H.whenRunning h fun h => H.seqExpiry _ (H.seqCloseWait h) h⟩
  | closeWaitExpiry => exact ⟨_, rfl, H.whenRunning h fun h => H.seqExpiry _ (H.seqLockout _ h) h⟩
  | reclaimExpiry => exact ⟨_, rfl, H.whenRunning h fun h => H.seqExpiry _ (H.seqReclaimEnd h) h⟩
  | tripMonitorExpiry => exact ⟨_, rfl, H.whenRunning h H.tripMonitorEnd⟩
  | closeMonitorExpiry => exact ⟨_, rfl, H.whenRunning h H.closeMonitorEnd⟩
  | storeOperationComplete => exact ⟨_, rfl, H.whenRunning h H.storeComplete⟩
  | tagExpiryCountdownEnd crew => exact ⟨_, rfl, H.whenRunning h (H.countdownEnd crew)⟩
  | supplyPresentEdge level => exact ⟨_, rfl, H.edge _ h (H.supplyEdge level)⟩
  | supplyChangeTaken => exact ⟨_, rfl, H.whenRunning h H.takeSupply⟩
  | batterySecondEnd => exact ⟨_, rfl, H.whenRunning h H.secondEnd⟩
  | absorbTimeLimitReached => exact ⟨_, rfl, H.whenRunning h H.absorbDone⟩
  | faultRecoveryExpiry => exact ⟨_, rfl, H.whenRunning h H.recoveryDone⟩
  | testIntervalElapse => exact ⟨_, rfl, H.whenRunning h H.intervalElapsed⟩
  | testRetryExpiry => exact ⟨_, rfl, H.whenRunning h H.retryElapsed⟩
  | settleEnd => exact ⟨_, rfl, H.whenRunning h H.settleDone⟩
  | loadEnd => exact ⟨_, rfl, H.whenRunning h H.loadDone⟩
  | gatherWindowExpiry cls => exact ⟨_, rfl, H.whenRunning h (H.sealRec cls)⟩
  | profileHourEnd => exact ⟨_, rfl, H.whenRunning h H.hourEnd⟩
  | stationFrameReceived port bytes => exact ⟨_, rfl, H.whenRunning h (H.rxBytes port bytes)⟩
  | frameByteGapTimeout port => exact ⟨_, rfl, H.whenRunning h (H.byteGap port)⟩
  | poll payload => exact ⟨_, rfl, H.whenRunning h (H.pollTaken payload)⟩
  | responseWindowExpiry => exact ⟨_, rfl, H.whenRunning h H.windowExpired⟩
  | keyUpDelayExpiry => exact ⟨_, rfl, H.whenRunning h H.keyExpired⟩
  | radioFrameSent => exact ⟨_, rfl, H.whenRunning h H.frameSent⟩
  | holdoffExpiry => exact ⟨_, rfl, H.whenRunning h H.holdoffExpired⟩
  | confirmTimeout => exact ⟨_, rfl, H.whenRunning h H.confirmExpired⟩
  | modemReadyChange level => exact ⟨_, rfl, H.edge _ h (H.modemChange level)⟩
  | carrierDetChange level => exact ⟨_, rfl, H.edge _ h (H.carrierChange level)⟩
  | partTimeSecond => exact ⟨_, rfl, H.whenRunning h H.partSecond⟩
  | localFrameSent => exact ⟨_, rfl, H.whenRunning h H.localSent⟩
  | resetLine => exact ⟨_, rfl, H.resetTaken h⟩
  | resetInRelease => exact ⟨_, rfl, H.resetReleased h⟩
  | powerOn => exact ⟨_, rfl, H.resetAs .powerOn h⟩
  | resetInAsserted => exact ⟨_, rfl, H.resetAsserted h⟩
  | powerLoss => exact ⟨_, rfl, H.part _ (H.blocks h)⟩
  | frameLengthExceeded port =>
    exact ⟨_, rfl, H.whenRunning h fun h => H.rxIdle port (H.badFrame port h)⟩
  | _ => exact ⟨_, rfl, H.row _ h⟩

/-- Every step keeps the property. -/
theorem kept (H : Steady P) : Kept P := by
  intro s t h ht
  simp only [step] at ht
  split at ht
  · simp only [idle] at ht
    split at ht
    · obtain ⟨u, hu, hP⟩ := H.exec _ h
      obtain rfl : u = t := Host.Outcome.next.inj (hu.symm.trans ht)
      exact hP
    · obtain rfl := Host.Outcome.next.inj ht
      exact H.whenRunning h H.tick
  · obtain ⟨u, hu, hP⟩ := H.exec _ (H.pending _ h)
    obtain rfl : u = t := Host.Outcome.next.inj (hu.symm.trans ht)
    exact hP

end Steady

end Sys2Proof.Machine
end

section
/-! The sensor link for a property that does not look at the views: what the slots of the frames, the
deliveries and the E-steps keep (R1 to R20). -/

namespace Sys2Proof.Machine

/-- A property that looks neither at the views nor at SLR beside its batch: the updates of a slot, of a
delivery and of an E-step keep it. -/
structure Sensing (P : State → Prop) : Prop extends Ordinary P where
  seqAny : ∀ {s} (f : Seq → Seq), P s → P (s.modSeq f)
  drvAny : ∀ {s} (f : Drv → Drv), P s → P (s.modDrv f)
  lkuAny : ∀ {s} (f : Lku → Lku), P s → P (s.modLku f)
  slr : ∀ {s} {f : Slr → Slr}, (∀ r, (f r).batch = r.batch) → P s → P (s.modSlr f)
  view : ∀ {s} (p : Position) (stale : Bool), P s →
    P (s.modEle (fun e => { e with posView := p, posStale := stale }))
  freeze : ∀ {s}, P s → P (s.modEle (fun e => { e with frozen := true }))
  elements : ∀ {s} (l : LiveSet) (m : Magnitudes), P s → P (s.modEle (eleStep l m))
  push : ∀ {s} (x : Samples), P s → P (s.modMeu (fun m => pushSamples m x))
  empty : ∀ {s}, P s → P (s.modMeu clearWindows)
  lost : ∀ {s}, P s → P (s.modMeu (fun m => { clearWindows m with valid := false }))
  measured : ∀ {s} (g : Group), P s → P (s.modMeu (measure g))
  forward : ∀ {s} (f : SampleFrame), P s → P (s.forwardSample f)

namespace Sensing

variable {P : State → Prop} {s : State}

theorem deliver (H : Sensing P) (h : P s) : P s.deliver := by
  have hdrv : ∀ (d : Delivery) (u : State), P u → P (u.drvDelivery d) :=
    fun _ _ hu => H.drvDelivery (H.drvAny _ hu)
  have hseq : ∀ (d : Delivery) (u : State), P u → P (u.seqArrive (State.seqDelivery d)) :=
    fun _ _ hu => H.seqArrive (H.seqDelivery (H.elePosition (H.view _ _ (H.seqAny _ hu))))
  dsimp only [State.deliver]
  refine H.lkuHandle (H.lkuAny _ ?_)
  split
  exacts [hseq _ _ (hdrv _ _ h), hdrv _ _ (hseq _ _ h)]

theorem stepAndDeliver (H : Sensing P) (estep delivery : Bool) (h : P s) :
    P (s.stepAndDeliver estep delivery) := by
  have he : ∀ u, P u → P (if estep then u.eStep else u) := by
    intro u hu
    split
    exacts [H.eStep (fun g => H.measured g) (fun l m => H.elements l m) hu, hu]
  have hd : ∀ u, P u → P (if delivery then u.deliver else u) := by
    intro u hu
    split
    exacts [H.deliver hu, hu]
  dsimp only [State.stepAndDeliver]
  split
  exacts [he _ (hd _ h), hd _ (he _ h)]

theorem loseLink (H : Sensing P) (h : P s) : P s.loseLink :=
  H.updateSetpoints (H.freeze (H.lost (H.slr (fun _ => rfl) h)))

theorem holdSlot (H : Sensing P) (h : P s) : P s.holdSlot := by
  dsimp only [State.holdSlot]
  refine H.slr (fun _ => rfl) ?_
  split
  exacts [H.push _ h, h]

theorem missingSlot (H : Sensing P) (h : P s) : P s.missingSlot := by
  have h1 : P s.countMissing := H.slr (fun _ => rfl) h
  dsimp only [State.missingSlot]
  split
  · split
    · exact H.deliver (H.emit _ (H.loseLink h1))
    · exact H.stepAndDeliver _ _ (H.holdSlot (H.updateSetpoints (H.slr (fun _ => rfl) h1)))
  · split
    · exact H.emit _ (H.loseLink h1)
    · exact H.stepAndDeliver _ _ (H.holdSlot h1)
  · exact h1
  · exact H.empty (H.slr (fun _ => rfl) h1)

theorem missingSlots (H : Sensing P) (n : Nat) (h : P s) : P (s.missingSlots n) := by
  induction n generalizing s with
  | zero => exact h
  | succ n ih => exact ih (H.missingSlot h)

theorem linkUpNotices (H : Sensing P) (before : Link) (h : P s) : P (s.linkUpNotices before) := by
  dsimp only [State.linkUpNotices]
  split
  · refine H.seqArrive (H.seqView (H.seqAny _ (H.updateSetpoints ?_)))
    split
    exacts [h, H.emit _ h]
  · exact h

theorem goodSlot (H : Sensing P) (f : SampleFrame) (h : P s) : P (s.goodSlot f) := by
  have h1 : P (s.goodLink f) := by
    dsimp only [State.goodLink]
    exact H.slr (fun _ => rfl) (H.push _ h)
  have h2 := H.linkUpNotices s.slr.link h1
  dsimp only [State.goodSlot]
  refine H.forward _ (H.takeAux _ _ (H.stepAndDeliver _ _ (H.slr (fun _ => rfl) ?_)))
  exact H.seqArrive (H.seqView (H.seqAny _ (H.drvCap (H.drvAny _ h2))))

theorem declareMissing (H : Sensing P) (h : P s) : P s.declareMissing :=
  H.missingSlot (H.slr (fun _ => rfl) h)

theorem restartSilence (H : Sensing P) (h : P s) : P s.restartSilence := H.slr (fun _ => rfl) h

theorem sampleReceived (H : Sensing P) (bytes : List Byte) (h : P s) : P (s.sampleReceived bytes) := by
  have h1 := H.restartSilence h
  have h2 : P (s.restartSilence.accountSeq (decodeSample bytes).seqNo) :=
    H.slr (fun _ => rfl) (H.missingSlots _ h1)
  dsimp only [State.sampleReceived]
  (repeat' split)
  exacts [H.missingSlot h2, H.goodSlot _ h2, H.declareMissing h1]

theorem silenceExpired (H : Sensing P) (h : P s) : P s.silenceExpired :=
  H.declareMissing (H.restartSilence h)

end Sensing

/-! ## The windows and the elements (R15, R28, R32) -/

/-- R15: the seven windows agree with the fill count. -/
def Meu.windowsOk (m : Meu) : Prop :=
  m.fill ≤ 32 ∧ ∀ w ∈ [m.wIA, m.wIB, m.wIC, m.wIN, m.wVA, m.wVB, m.wVC], windowOk m.fill w

/-- R28, R32: the accumulators and counters are in their ranges. -/
def Ele.countersOk (e : Ele) : Prop :=
  (∀ t ∈ [e.pt, e.gt], t.acc ≤ 1048576 ∧ t.count ≤ 65535) ∧ ∀ h ∈ [e.ph, e.gh], h.count ≤ 65535

theorem measureLaw_iff (s : State) : MeasureLaw s ↔ s.meu.windowsOk ∧ s.ele.countersOk := by
  simp only [MeasureLaw, Meu.windowsOk, Ele.countersOk, and_assoc]

/-- R15: a window that takes one more entry agrees with the new fill count. -/
theorem windowOk_push {fill : Nat} {w : Window} (hf : fill ≤ 32) (h : windowOk fill w) (x : Int)
    (sat : Bool) : windowOk (min 32 (fill + 1)) (pushWindow w x sat) := by
  obtain ⟨hlen, hsum, hsat⟩ := h
  cases he : w.entries with
  | nil =>
    simp only [he, List.length_nil, List.map_nil, List.sum_nil] at hlen hsum hsat
    subst hlen
    simp [windowOk, pushWindow, he, hsum, hsat]
  | cons e rest =>
    simp only [he, List.length_cons, List.map_cons, List.sum_cons] at hlen hsum hsat
    by_cases hfull : 32 ≤ rest.length + 1
    · simp only [windowOk, pushWindow, he, Config.windowSize, List.length_cons, hfull, if_true,
        List.length_append, List.length_nil, List.map_append, List.map_cons, List.map_nil,
        List.sum_append, List.sum_cons, List.sum_nil]
      omega
    · simp only [windowOk, pushWindow, he, Config.windowSize, List.length_cons, hfull, if_false,
        List.length_append, List.length_nil, List.map_append, List.map_cons, List.map_nil,
        List.sum_append, List.sum_cons, List.sum_nil]
      omega

theorem windowOk_empty : windowOk 0 emptyWindow := by simp [windowOk, emptyWindow]

theorem Meu.windowsOk_push {m : Meu} (h : m.windowsOk) (x : Samples) : (pushSamples m x).windowsOk := by
  obtain ⟨hf, hw⟩ := h
  simp only [List.forall_mem_cons, List.not_mem_nil, false_imp_iff, implies_true, and_true] at hw
  obtain ⟨h1, h2, h3, h4, h5, h6, h7⟩ := hw
  refine ⟨Nat.min_le_left _ _, ?_⟩
  simp only [List.forall_mem_cons, List.not_mem_nil, false_imp_iff, implies_true, and_true]
  exact ⟨windowOk_push hf h1 _ _, windowOk_push hf h2 _ _, windowOk_push hf h3 _ _,
    windowOk_push hf h4 _ _, windowOk_push hf h5 _ _, windowOk_push hf h6 _ _,
    windowOk_push hf h7 _ _⟩

theorem Meu.windowsOk_clear (m : Meu) : (clearWindows m).windowsOk := by
  simp [Meu.windowsOk, clearWindows, windowOk_empty]

/-- R28: a step of a timed element keeps its accumulator and its counter in their ranges. -/
theorem timedStep_ok (c : Option Curve) (pickup dial minResp mag : Nat) {t : Timed}
    (h : t.acc ≤ 1048576 ∧ t.count ≤ 65535) :
    (timedStep c pickup dial minResp mag t).acc ≤ 1048576 ∧
      (timedStep c pickup dial minResp mag t).count ≤ 65535 := by
  cases c with
  | none => simp [timedStep]
  | some c =>
    simp only [timedStep, Config.accFull, Config.countTop]
    split
    · exact ⟨Nat.min_le_right _ _, Nat.min_le_right _ _⟩
    · split
      · simp
      · refine ⟨(Nat.sub_le _ _).trans h.1, ?_⟩
        dsimp only
        split
        exacts [Nat.zero_le _, h.2]

/-- R32: a step of a high-set element keeps its counter in its range. -/
theorem highSetStep_ok (en : Bool) (pickup delay mag : Nat) (h : HighSet) :
    (highSetStep en pickup delay mag h).count ≤ 65535 := by
  simp only [highSetStep, Config.countTop]
  split
  exacts [Nat.min_le_right _ _, Nat.zero_le _]

theorem Ele.countersOk_step {e : Ele} (h : e.countersOk) (l : LiveSet) (m : Magnitudes) :
    (eleStep l m e).countersOk := by
  have hev : (evaluate l m e).countersOk := by
    have ht := h.1
    simp only [List.forall_mem_cons, List.not_mem_nil, false_imp_iff, implies_true, and_true] at ht
    simp only [Ele.countersOk, evaluate, List.forall_mem_cons, List.not_mem_nil, false_imp_iff,
      implies_true, and_true]
    exact ⟨⟨timedStep_ok _ _ _ _ _ ht.1, timedStep_ok _ _ _ _ _ ht.2⟩, highSetStep_ok _ _ _ _ _,
      highSetStep_ok _ _ _ _ _⟩
  simp only [eleStep]
  split
  exacts [h, hev]

theorem Ele.countersOk_clear (e : Ele) : (clearElements e).countersOk := by
  simp [Ele.countersOk, clearElements]

theorem measureLaw_ordinary : Ordinary MeasureLaw where
  store _ h := h
  sets _ h := h
  bat _ h := h
  sup _ h := h
  pkm _ h := h
  rpc _ h := h
  lines _ h := h
  seq _ h := h
  drv _ h := h
  lku _ h := h
  rpb _ h := h
  fcu _ h := h
  shot _ h := h
  clear h := (measureLaw_iff _).2 ⟨((measureLaw_iff _).1 h).1, Ele.countersOk_clear _⟩
  emit e h := by simpa [MeasureLaw] using h
  sealRec c h := by simpa [MeasureLaw] using h
  localSend k f h := by simpa [MeasureLaw] using h
  answerWith r o d h := by simpa [MeasureLaw] using h

theorem measureLaw_sensing : Sensing MeasureLaw where
  toOrdinary := measureLaw_ordinary
  seqAny _ h := h
  drvAny _ h := h
  lkuAny _ h := h
  slr _ h := h
  view _ _ h := h
  freeze h := h
  elements l m h := by
    obtain ⟨hm, he⟩ := (measureLaw_iff _).1 h
    exact (measureLaw_iff _).2 ⟨hm, Ele.countersOk_step he l m⟩
  push x h := by
    obtain ⟨hm, he⟩ := (measureLaw_iff _).1 h
    exact (measureLaw_iff _).2 ⟨Meu.windowsOk_push hm x, he⟩
  empty h := (measureLaw_iff _).2 ⟨Meu.windowsOk_clear _, ((measureLaw_iff _).1 h).2⟩
  lost {s} h := (measureLaw_iff _).2 ⟨Meu.windowsOk_clear s.meu, ((measureLaw_iff _).1 h).2⟩
  measured _ h := h
  forward f h := by simpa [MeasureLaw] using h

theorem measureLaw_steady : Steady MeasureLaw where
  toOrdinary := measureLaw_ordinary
  pending _ h := h
  part _ h := h
  ticks _ h := h
  ms _ h := h
  blocks _ := by
    refine (measureLaw_iff _).2 ⟨?_, ?_⟩
    · exact Meu.windowsOk_clear meuReset
    · exact Ele.countersOk_clear eleReset
  sample bytes h := measureLaw_sensing.sampleReceived bytes h
  silence h := measureLaw_sensing.silenceExpired h
  decimation _ h := h
  intake e h := by simpa [MeasureLaw] using h
  rxTake p b h := by simpa [MeasureLaw] using h
  rxIdle p h := by simpa [MeasureLaw] using h
  localSent h := by simpa [MeasureLaw] using h
  begun _ _ h := by simpa [MeasureLaw] using h

/-- Settles O13: every update that a row is made of keeps the windows and the counters. -/
theorem measurementKept : Obligations.MeasurementKept := measureLaw_steady.kept

end Sys2Proof.Machine
end

section
/-! The queues (R20, R153, R180, R182, R183, R186): every update keeps their limits, and after every row
no command whose conditions hold waits at the head of the intake queue. -/

namespace Sys2Proof.Machine

variable {s : State}

/-! ## The local transmit queue -/

/-- R183, R186: at most eight places, one of them reserved exactly while a local response is
outstanding. -/
def State.localOk (s : State) : Prop :=
  s.fcu.localQ.length ≤ 8 ∧ s.reserved = s.fcu.outLocal.toNat

theorem localOk_congr {t : State} (h : t.fcu = s.fcu) : t.localOk ↔ s.localOk := by
  simp only [State.localOk, State.reserved, h]

theorem removeSample_length (q : List LocalItem) :
    ∀ n r, removeSample q = some (n, r) → r.length + 1 = q.length := by
  induction q with
  | nil => simp [removeSample]
  | cons i q ih =>
    intro n r h
    simp only [removeSample] at h
    split at h
    · obtain ⟨-, rfl⟩ : i.carried = n ∧ q = r := by simpa using h
      rfl
    · obtain ⟨⟨m, q'⟩, hr, heq⟩ := Option.map_eq_some_iff.mp h
      obtain ⟨-, rfl⟩ : m = n ∧ i :: q' = r := by simpa using heq
      simpa using ih m q' hr

theorem removeOldestSample_length {q r : List LocalItem} {n : Nat}
    (h : removeOldestSample q = some (n, r)) : r.length + 1 = q.length := by
  cases q with
  | nil => simp [removeOldestSample] at h
  | cons i q =>
    obtain ⟨⟨m, q'⟩, hr, heq⟩ := Option.map_eq_some_iff.mp h
    obtain ⟨-, rfl⟩ : m = n ∧ i :: q' = r := by simpa using heq
    simpa using removeSample_length q m q' hr

theorem State.localPut_length (i : LocalItem) (h : s.fcu.localQ.length ≤ 8) :
    (s.localPut i).fcu.localQ.length ≤ 8 := by
  dsimp only [State.localPut]
  split
  · have hlt : s.fcu.localQ.length < 8 := ‹_›
    simpa using hlt
  · split
    · rename_i hr
      have := removeOldestSample_length hr
      simp
      omega
    · exact h

theorem State.localSend_localOk (k : LocalKind) (f : Frame) (h : s.localOk) :
    (s.localSend k f).localOk := by
  refine ⟨?_, by simpa using h.2⟩
  simp only [State.localSend]
  split
  exacts [State.localPut_length _ h.1, h.1]

theorem State.localSample_localOk (f : Frame) (h : s.localOk) : (s.localSample f).localOk := by
  refine ⟨?_, by simpa using h.2⟩
  dsimp only [State.localSample]
  split
  · have hlt : s.fcu.localQ.length < 8 := ‹_›
    simpa using hlt
  · simpa using h.1

theorem State.localSent_localOk (h : s.localOk) : s.localSent.localOk := by
  refine ⟨?_, by simpa using h.2⟩
  simp only [State.localSent]
  split
  · rename_i hq
    have := h.1
    simp only [hq, List.length_cons] at this
    simp
    omega
  · exact h.1

theorem fillReservation_length (f : Frame) (q : List LocalItem) :
    (fillReservation f q).length = q.length := by
  induction q with
  | nil => rfl
  | cons i q ih =>
    simp only [fillReservation]
    split <;> simp [ih]

theorem fillReservation_count (f : Frame) (q : List LocalItem) :
    (fillReservation f q).count .reservation = q.count .reservation - 1 := by
  induction q with
  | nil => rfl
  | cons i q ih =>
    simp only [fillReservation]
    split
    · rename_i hi
      simp [hi]
    · rename_i hi
      simp [hi, ih]

/-- R184: a local response takes the place that was reserved for it. -/
theorem State.answerWith_localOk (r : Option Reply) (o : CmdOutcome) (data : List Byte)
    (h : s.localOk) : (s.answerWith r o data).localOk := by
  obtain ⟨hlen, hres⟩ := h
  simp only [State.answerWith]
  split
  · exact ⟨hlen, hres⟩
  · split
    · exact ⟨by simpa using hlen, by simpa [State.reserved] using hres⟩
    · refine ⟨by simpa [fillReservation_length] using hlen, ?_⟩
      have hle : s.reserved ≤ 1 := hres ▸ Bool.toNat_le _
      simp only [State.reserved] at hle
      simp [State.reserved, fillReservation_count]
      omega

/-- R183: an entry whose conditions hold finds the room for its response. -/
theorem State.begun_localOk {e : IntakeEntry} (hx : executable s e = true) (h : s.localOk) :
    (s.begun e).localOk := by
  obtain ⟨hlen, hres⟩ := h
  simp only [State.begun, State.markOutstanding]
  split
  · rename_i hw
    split
    · exact ⟨hlen, hres⟩
    · rename_i hp
      simp only [executable, responseFits, hw, hp, Bool.and_eq_true, Bool.not_true, Bool.false_or,
        Bool.not_eq_true'] at hx
      obtain ⟨⟨hout, hroom⟩, -⟩ := hx
      refine ⟨State.localPut_length _ hlen, ?_⟩
      rw [State.localReserve_reserved (by simpa using hroom)]
      simp only [hout, Bool.toNat_false] at hres
      simpa [State.reserved] using hres
  · exact ⟨hlen, hres⟩

/-! ## The gathering records (R153, R154) -/

/-- A gathering record holds 1 to 11 entries: the twelfth seals it. -/
def gatherOk (g : Gather) : Prop := 1 ≤ g.entries.length ∧ g.entries.length ≤ 11

/-- R153: both gathering records keep their limit. -/
def Rpb.recordsOk (b : Rpb) : Prop := ∀ c, ∀ g ∈ b.gather c, gatherOk g

theorem Rpb.recordsOk_iff (b : Rpb) :
    b.recordsOk ↔ (∀ g ∈ b.urgent, gatherOk g) ∧ ∀ g ∈ b.routine, gatherOk g :=
  ⟨fun h => ⟨h .urgent, h .routine⟩, fun h c => by cases c; exacts [h.1, h.2]⟩

@[simp] theorem Rpb.gather_setGather (b : Rpb) (c c' : ReportClass) (g : Option Gather) :
    (b.setGather c g).gather c' = if c' = c then g else b.gather c' := by
  cases c <;> cases c' <;> rfl

/-- R154: a sealed class has no gathering record, and the other class keeps its own. -/
@[simp] theorem State.sealClass_gather (c c' : ReportClass) (s : State) :
    (s.sealClass c).rpb.gather c' = if c' = c then none else s.rpb.gather c' := by
  cases c with
  | urgent =>
    simp only [State.sealClass, State.sealUrgent]
    split
    · cases c' <;> simp [Rpb.gather, *]
    · split <;> cases c' <;> simp [Rpb.gather]
  | routine =>
    simp only [State.sealClass, State.sealRoutine]
    split
    · cases c' <;> simp [Rpb.gather, *]
    · split <;> cases c' <;> simp [Rpb.gather]

theorem State.sealClass_localOk (c : ReportClass) (h : s.localOk) : (s.sealClass c).localOk := by
  cases c with
  | urgent =>
    simp only [State.sealClass, State.sealUrgent]
    split
    · exact h
    · split
      · exact State.localSend_localOk _ _ ((localOk_congr (by simp)).2 h)
      · exact (localOk_congr (by simp)).2 h
  | routine =>
    simp only [State.sealClass, State.sealRoutine]
    split
    · exact h
    · split
      · exact State.localSend_localOk _ _ h
      · exact h

/-- The record that an event joins or opens has at most twelve entries. -/
theorem joined_length (h : s.rpb.recordsOk) (e : Event) :
    1 ≤ (joined s e).entries.length ∧ (joined s e).entries.length ≤ 12 := by
  simp only [joined]
  split
  · simp
  · rename_i g hg
    have := h _ g hg
    simp only [gatherOk] at this
    simp
    omega

theorem State.emit_recordsOk (e : Event) (h : s.rpb.recordsOk) : (s.emit e).rpb.recordsOk := by
  obtain ⟨hlow, hhigh⟩ := joined_length h e
  intro c g hg
  dsimp only [State.emit] at hg
  split at hg
  · rw [State.sealClass_gather] at hg
    split at hg
    · cases hg
    · exact h c g (by simpa [*] using hg)
  · rename_i hseal
    simp [Config.recordTop] at hseal
    simp only [State.modRpb_rpb, Rpb.gather_setGather] at hg
    split at hg
    · obtain rfl : joined s e = g := by simpa using hg
      have hlt := of_decide_eq_false hseal.1
      exact ⟨hlow, by omega⟩
    · exact h c g hg

theorem State.emit_localOk (e : Event) (h : s.localOk) : (s.emit e).localOk := by
  simp only [State.emit]
  split
  exacts [State.sealClass_localOk _ h, h]

/-! ## The receivers (R180) -/

theorem receiverOk_huntByte (half : Bool) (b : Byte) : receiverOk (huntByte half b) := by
  simp only [huntByte]
  split
  · exact ⟨le_rfl, fun h => absurd h (by simp)⟩
  · trivial

theorem receiverOk_take (r : Receiver) (b : Byte) : receiverOk (r.take b).1 := by
  cases r with
  | hunt half => exact receiverOk_huntByte half b
  | collect bs left =>
    cases left with
    | zero => exact receiverOk_huntByte false b
    | succ left =>
      simp only [Receiver.take_collect, collectByte]
      split
      · exact ⟨le_rfl, fun h => by omega⟩
      · split
        · trivial
        · split
          · exact ⟨le_rfl, fun _ => ⟨by omega, by omega⟩⟩
          · trivial

theorem receiverOk_elapse {r : Receiver} (h : receiverOk r) (n : Nat) : receiverOk (r.elapse n) := by
  cases r with
  | hunt half => trivial
  | collect bs left => exact ⟨(Nat.sub_le _ _).trans h.1, h.2⟩

/-! ## The limits -/

/-- R20, R153, R180, R182, R186: the limits of QueueLaw. -/
def State.queuesOk (s : State) : Prop :=
  s.localOk ∧ s.rpb.recordsOk ∧ s.fcu.intake.length ≤ 4 ∧ s.slr.batch.length < 8 ∧
  receiverOk s.fcu.rxRadio ∧ receiverOk s.fcu.rxLocal

/-- R183: no command whose conditions hold waits at the head of the intake queue of a running part. -/
def State.headWaits (s : State) : Prop :=
  s.part.run = .running → ∀ e ∈ s.fcu.intake.head?, executable s e = false

theorem queueLaw_iff (s : State) : QueueLaw s ↔ s.queuesOk ∧ s.headWaits := by
  simp only [QueueLaw, State.queuesOk, State.localOk, State.reserved, Rpb.recordsOk_iff, gatherOk,
    State.headWaits]
  tauto

theorem queuesOk_ordinary : Ordinary State.queuesOk where
  store _ h := h
  sets _ h := h
  bat _ h := h
  sup _ h := h
  pkm _ h := h
  rpc _ h := h
  lines _ h := h
  seq _ h := h
  drv _ h := h
  lku _ h := h
  rpb {s f} hf h := by
    obtain ⟨hu, hr⟩ := hf s.rpb
    refine ⟨h.1, ?_, h.2.2⟩
    rw [Rpb.recordsOk_iff, State.modRpb_rpb, hu, hr, ← Rpb.recordsOk_iff]
    exact h.2.1
  fcu {s f} hf h := by
    obtain ⟨h1, h2, h3, h4, h5⟩ := hf s.fcu
    simpa only [State.queuesOk, State.localOk, State.reserved, State.modFcu_fcu, State.modFcu_rpb,
      State.modFcu_slr, h1, h2, h3, h4, h5] using h
  shot _ h := h
  clear h := h
  emit e h := ⟨State.emit_localOk e h.1, State.emit_recordsOk e h.2.1, by simpa using h.2.2⟩
  sealRec c h := by
    refine ⟨State.sealClass_localOk c h.1, fun c' g hg => ?_, by simpa using h.2.2⟩
    rw [State.sealClass_gather] at hg
    split at hg
    · cases hg
    · exact h.2.1 c' g hg
  localSend k f h := ⟨State.localSend_localOk k f h.1, by simpa using h.2⟩
  answerWith r o d h := ⟨State.answerWith_localOk r o d h.1, by simpa using h.2⟩

/-- R19, R20: the eighth taken frame closes the batch. -/
theorem State.forwardSample_queuesOk (f : SampleFrame) (h : s.queuesOk) :
    (s.forwardSample f).queuesOk := by
  obtain ⟨hl, hr, hi, hb, hx⟩ := h
  simp only [State.forwardSample]
  split
  · exact ⟨hl, hr, hi, hb, hx⟩
  · split
    · exact ⟨hl, hr, hi, hb, hx⟩
    · split
      · exact ⟨hl, hr, hi, by simpa using ‹(s.slr.batch ++ [f]).length < 8›, hx⟩
      · refine ⟨State.localSample_localOk _ hl, by simpa using hr, by simpa using hi, ?_,
          by simpa using hx⟩
        simp

theorem queuesOk_sensing : Sensing State.queuesOk where
  toOrdinary := queuesOk_ordinary
  seqAny _ h := h
  drvAny _ h := h
  lkuAny _ h := h
  slr {s f} hf h := by
    obtain ⟨hl, hr, hi, hb, hx⟩ := h
    exact ⟨hl, hr, hi, by simpa [hf] using hb, hx⟩
  view _ _ h := h
  freeze h := h
  elements _ _ h := h
  push _ h := h
  empty h := h
  lost h := h
  measured _ h := h
  forward f h := State.forwardSample_queuesOk f h

theorem queuesOk_steady : Steady State.queuesOk where
  toOrdinary := queuesOk_ordinary
  pending _ h := h
  part _ h := h
  ticks n h := by
    obtain ⟨hl, hr, hi, hb, hx, hy⟩ := h
    exact ⟨hl, hr, hi, hb, receiverOk_elapse hx n, receiverOk_elapse hy n⟩
  ms k h := by
    obtain ⟨hl, hr, hi, hb, hx⟩ := h
    refine ⟨hl, (Rpb.recordsOk_iff _).2 ?_, hi, hb, hx⟩
    obtain ⟨hu, ho⟩ := (Rpb.recordsOk_iff _).1 hr
    simpa [State.countMs, Rpb.elapse, Gather.elapse, gatherOk] using And.intro hu ho
  blocks {s} _ := by
    simp [State.queuesOk, State.localOk, State.reserved, Rpb.recordsOk_iff, State.resetBlocks, fcuReset,
      rpbReset, slrReset, receiverOk]
  sample bytes h := queuesOk_sensing.sampleReceived bytes h
  silence h := queuesOk_sensing.silenceExpired h
  decimation d h := by
    obtain ⟨hl, hr, hi, -, hx⟩ := h
    exact ⟨hl, hr, hi, by simp [State.setDecimation], hx⟩
  intake {s} e h := by
    obtain ⟨hl, hr, hi, hb, hx⟩ := h
    refine ⟨⟨by simpa using hl.1, by simpa using hl.2⟩, by simpa using hr, ?_, by simpa using hb,
      by simpa using hx⟩
    dsimp only [State.intakeOffer]
    split
    · have hlt : s.fcu.intake.length < 4 := ‹_›
      simpa using hlt
    · split <;> exact hi
  rxTake p b h := by
    obtain ⟨hl, hr, hi, hb, hx, hy⟩ := h
    have ht := receiverOk_take
    cases p
    exacts [⟨hl, hr, hi, hb, ht _ _, hy⟩, ⟨hl, hr, hi, hb, hx, ht _ _⟩]
  rxIdle p h := by
    obtain ⟨hl, hr, hi, hb, hx, hy⟩ := h
    cases p
    exacts [⟨hl, hr, hi, hb, trivial, hy⟩, ⟨hl, hr, hi, hb, hx, trivial⟩]
  localSent h := ⟨State.localSent_localOk h.1, by simpa using h.2⟩
  begun {s e rest} hi hx h := by
    obtain ⟨hl, hr, hlen, hb, hrx⟩ := h
    refine ⟨State.begun_localOk hx hl, by simpa using hr, ?_, ?_, ?_⟩
    · simp only [hi, List.length_cons] at hlen
      simp [State.begun, hi]
      omega
    · simpa [State.begun] using hb
    · simpa [State.begun] using hrx

/-! ## The head of the intake queue -/

theorem whenRunning_headWaits (f : State → State) (h : s.headWaits) : (whenRunning f s).headWaits := by
  dsimp only [whenRunning]
  split
  exacts [fun _ => State.serve_waits _, h]

theorem edge_headWaits (f : State → State) (g : Lines → Lines) :
    (if s.part.run = .running then (f s).serve else s.modLines g).headWaits := by
  split
  · exact fun _ => State.serve_waits _
  · rename_i hr
    exact fun h => absurd h hr

/-- A part that has just started has nothing to execute. -/
theorem State.resetAs_headWaits (c : ResetCause) (s : State) : (s.resetAs c).headWaits := by
  intro _ e he
  simp [State.resetAs_intake] at he

/-- After every row, no command that could be executed waits at the head (R183, log entry 29). -/
theorem exec_headWaits {c : Instr} {t : State} (h : s.headWaits) (ht : exec c s = .next t) :
    t.headWaits := by
  cases c <;> obtain rfl := Host.Outcome.next.inj ht
  case resetLine =>
    dsimp only [State.resetTaken]
    split
    · intro hr
      simp at hr
    · exact h
  case resetInRelease =>
    dsimp only [State.resetReleased]
    split
    exacts [State.resetAs_headWaits _ _, h]
  case powerOn => exact State.resetAs_headWaits _ _
  case resetInAsserted =>
    dsimp only [State.resetAsserted]
    split <;> exact h
  case powerLoss =>
    intro hr
    simp [State.powerGone] at hr
  case supplyPresentEdge => exact edge_headWaits _ _
  case modemReadyChange => exact edge_headWaits _ _
  case carrierDetChange => exact edge_headWaits _ _
  all_goals exact whenRunning_headWaits _ h

theorem headWaits_kept : Kept State.headWaits := by
  intro s t h ht
  simp only [step] at ht
  split at ht
  · simp only [idle] at ht
    split at ht
    · exact exec_headWaits h ht
    · obtain rfl := Host.Outcome.next.inj ht
      exact whenRunning_headWaits _ h
  · have hp : ∀ q, (s.setPending q).headWaits := fun _ => h
    exact exec_headWaits (hp _) ht

/-- Settles O18: every update that a row is made of keeps the limits, and FCU looks at the head of the
intake queue after every row. -/
theorem queuesKept : Obligations.QueuesKept := by
  intro s t h ht
  obtain ⟨hq, hw⟩ := (queueLaw_iff s).1 h
  exact (queueLaw_iff t).2 ⟨queuesOk_steady.kept s t hq ht, headWaits_kept s t hw ht⟩

end Sys2Proof.Machine
end

section
/-! The views of the accepted values (R12, R24, R65, R89, R117): the ordinary operations leave them, and
a delivery brings all of them to SLR's values. -/

namespace Sys2Proof.Machine

variable {s : State}

/-! ## What the blocks see -/

/-- SLR's accepted values and link, and the views of them. -/
structure Sight where
  position : Position
  handle : Handle
  ready : MechReady
  link : Link
  seq : Position × Handle × MechReady × Bool × Bool
  drv : Position × Handle × MechReady × Bool × Bool
  lku : Handle × Bool
  ele : Position × Bool

/-- The views of a state. -/
def State.sight (s : State) : Sight :=
  { position := s.slr.position, handle := s.slr.handle, ready := s.slr.ready, link := s.slr.link
    seq := (s.seq.position, s.seq.handle, s.seq.ready, s.seq.linkUp, s.seq.capStale)
    drv := (s.drv.position, s.drv.handle, s.drv.ready, s.drv.stale, s.drv.capStale)
    lku := (s.lku.handle, s.lku.handleStale)
    ele := (s.ele.posView, s.ele.posStale) }

/-- Every view is what SLR has accepted. -/
def Sight.agrees (v : Sight) : Prop :=
  v.seq = (v.position, v.handle, v.ready, v.link == .up, v.link != .up) ∧
  v.drv = (v.position, v.handle, v.ready, v.link != .up, v.link != .up) ∧
  v.ele = (v.position, v.link != .up) ∧ v.lku = (v.handle, v.link != .up)

/-- R37, R38: behind open contacts the elements are at rest. -/
def Ele.rests (e : Ele) : Prop := e.posView = .opened → clearElements e = e

theorem viewsLaw_iff (s : State) : ViewsLaw s ↔ s.sight.agrees ∧ s.ele.rests := by
  simp only [ViewsLaw, Sight.agrees, State.sight, linkStale, Ele.rests, Prod.mk.injEq, and_assoc]

theorem Ele.rests_iff (e : Ele) : e.rests ↔ (e.posView = .opened → e.pt = ⟨0, 0, false, false⟩ ∧
    e.gt = ⟨0, 0, false, false⟩ ∧ e.ph = ⟨0, false, false⟩ ∧ e.gh = ⟨0, false, false⟩) := by
  cases e
  simp [Ele.rests, clearElements, eq_comm]

theorem Ele.rests_clear (e : Ele) : (clearElements e).rests := fun _ => rfl

theorem Ele.rests_frozen {e : Ele} (h : e.rests) : Ele.rests { e with frozen := true } :=
  (Ele.rests_iff _).2 ((Ele.rests_iff e).1 h)

theorem Ele.rests_shot {e : Ele} (h : e.rests) (n : Nat) : Ele.rests { e with shotCopy := n } :=
  (Ele.rests_iff _).2 ((Ele.rests_iff e).1 h)

/-- R38: an E-step behind open contacts leaves the elements at rest. -/
theorem Ele.rests_step {e : Ele} (h : e.rests) (l : LiveSet) (m : Magnitudes) :
    (eleStep l m e).rests := by
  refine (Ele.rests_iff _).2 fun hp => ?_
  by_cases ho : e.posView = .opened
  · simpa [eleStep, ho] using (Ele.rests_iff e).1 h ho
  · simp only [eleStep, if_neg ho] at hp
    exact absurd hp ho

@[simp] theorem eleStep_view (l : LiveSet) (m : Magnitudes) (e : Ele) :
    (eleStep l m e).posView = e.posView ∧ (eleStep l m e).posStale = e.posStale := by
  simp only [eleStep]
  split <;> exact ⟨rfl, rfl⟩

/-! ## The ordinary operations -/

theorem rests_ordinary : Ordinary (fun s => s.ele.rests) where
  store _ h := h
  sets _ h := h
  bat _ h := h
  sup _ h := h
  pkm _ h := h
  rpc _ h := h
  lines _ h := h
  seq _ h := h
  drv _ h := h
  lku _ h := h
  rpb _ h := h
  fcu _ h := h
  shot n h := Ele.rests_shot h n
  clear _ := Ele.rests_clear _
  emit e h := by simpa using h
  sealRec c h := by simpa using h
  localSend k f h := by simpa using h
  answerWith r o d h := by simpa using h

/-- What is said of the views alone is kept. -/
theorem sight_ordinary (Q : Sight → Prop) : Ordinary (fun s => Q s.sight) where
  store _ h := h
  sets _ h := h
  bat _ h := h
  sup _ h := h
  pkm _ h := h
  rpc _ h := h
  lines _ h := h
  seq {s f} hf h := by
    obtain ⟨h1, h2, h3, h4, h5⟩ := hf s.seq
    simpa [State.sight, h1, h2, h3, h4, h5] using h
  drv {s f} hf h := by
    obtain ⟨h1, h2, h3, h4, h5⟩ := hf s.drv
    simpa [State.sight, h1, h2, h3, h4, h5] using h
  lku {s f} hf h := by
    obtain ⟨h1, h2⟩ := hf s.lku
    simpa [State.sight, h1, h2] using h
  rpb _ h := h
  fcu _ h := h
  shot _ h := h
  clear h := h
  emit e h := by simpa [State.sight] using h
  sealRec c h := by simpa [State.sight] using h
  localSend k f h := by simpa [State.sight] using h
  answerWith r o d h := by simpa [State.sight] using h

/-- What is said of ELE's view and of its frozen indication alone is kept. -/
theorem eleMarks_ordinary (Q : Position → Bool → Bool → Prop) :
    Ordinary (fun s => Q s.ele.posView s.ele.posStale s.ele.frozen) where
  store _ h := h
  sets _ h := h
  bat _ h := h
  sup _ h := h
  pkm _ h := h
  rpc _ h := h
  lines _ h := h
  seq _ h := h
  drv _ h := h
  lku _ h := h
  rpb _ h := h
  fcu _ h := h
  shot _ h := h
  clear h := h
  emit e h := by simpa using h
  sealRec c h := by simpa using h
  localSend k f h := by simpa using h
  answerWith r o d h := by simpa using h

/-- Two properties kept by the ordinary operations are kept together. -/
theorem Ordinary.and {P Q : State → Prop} (hP : Ordinary P) (hQ : Ordinary Q) :
    Ordinary (fun s => P s ∧ Q s) where
  store f h := ⟨hP.store f h.1, hQ.store f h.2⟩
  sets f h := ⟨hP.sets f h.1, hQ.sets f h.2⟩
  bat f h := ⟨hP.bat f h.1, hQ.bat f h.2⟩
  sup f h := ⟨hP.sup f h.1, hQ.sup f h.2⟩
  pkm f h := ⟨hP.pkm f h.1, hQ.pkm f h.2⟩
  rpc f h := ⟨hP.rpc f h.1, hQ.rpc f h.2⟩
  lines f h := ⟨hP.lines f h.1, hQ.lines f h.2⟩
  seq hf h := ⟨hP.seq hf h.1, hQ.seq hf h.2⟩
  drv hf h := ⟨hP.drv hf h.1, hQ.drv hf h.2⟩
  lku hf h := ⟨hP.lku hf h.1, hQ.lku hf h.2⟩
  rpb hf h := ⟨hP.rpb hf h.1, hQ.rpb hf h.2⟩
  fcu hf h := ⟨hP.fcu hf h.1, hQ.fcu hf h.2⟩
  shot n h := ⟨hP.shot n h.1, hQ.shot n h.2⟩
  clear h := ⟨hP.clear h.1, hQ.clear h.2⟩
  emit e h := ⟨hP.emit e h.1, hQ.emit e h.2⟩
  sealRec c h := ⟨hP.sealRec c h.1, hQ.sealRec c h.2⟩
  localSend k f h := ⟨hP.localSend k f h.1, hQ.localSend k f h.2⟩
  answerWith r o d h := ⟨hP.answerWith r o d h.1, hQ.answerWith r o d h.2⟩

theorem viewsLaw_ordinary : Ordinary ViewsLaw := by
  have h : ViewsLaw = fun s => s.sight.agrees ∧ s.ele.rests := funext fun s => propext (viewsLaw_iff s)
  rw [h]
  exact (sight_ordinary Sight.agrees).and rests_ordinary

/-! ## Deliveries (R12) -/

/-- The delivery that SLR would make (R12). -/
def State.delivery (s : State) : Delivery := ⟨s.slr.position, s.slr.handle, s.slr.ready, linkStale s⟩

@[simp] theorem delivery_of_modSlr (f : Slr → Slr) (s : State) : (s.modSlr f).delivery =
    ⟨(f s.slr).position, (f s.slr).handle, (f s.slr).ready, (f s.slr).link != .up⟩ := rfl

theorem State.deliver_eq (s : State) : s.deliver =
    (if s.order.drvFirst then (s.drvDelivery s.delivery).seqArrive (State.seqDelivery s.delivery)
     else (s.seqArrive (State.seqDelivery s.delivery)).drvDelivery s.delivery).lkuHandle s.delivery :=
  rfl

/-- DRV has its views after a delivery (R89). -/
theorem State.drvDelivery_sight (d : Delivery) (s : State) : (s.drvDelivery d).sight =
    { s.sight with drv := (d.position, d.handle, d.ready, d.stale, d.stale) } :=
  (sight_ordinary (· = _)).drvDelivery rfl

/-- SEQ and ELE have their views after a delivery (R24, R65). -/
theorem State.seqDelivery_sight (d : Delivery) (s : State) :
    (s.seqArrive (State.seqDelivery d)).sight =
    { s.sight with seq := (d.position, d.handle, d.ready, !d.stale, d.stale)
                   ele := (d.position, d.stale) } :=
  (sight_ordinary (· = _)).seqArrive ((sight_ordinary (· = _)).seqDelivery
    ((sight_ordinary (· = _)).elePosition rfl))

theorem State.lkuHandle_sight (d : Delivery) (s : State) :
    (s.lkuHandle d).sight = { s.sight with lku := (d.handle, d.stale) } :=
  (sight_ordinary (· = _)).lkuHandle rfl

/-- R12: after a delivery every view is what SLR has accepted. -/
theorem State.deliver_agrees (s : State) : s.deliver.sight.agrees := by
  rw [State.deliver_eq, State.lkuHandle_sight]
  split <;> simp only [State.drvDelivery_sight, State.seqDelivery_sight] <;>
    simp [Sight.agrees, State.delivery, linkStale, State.sight, bne]

/-- R37: a view that becomes OPEN and fresh clears the elements; one that is OPEN and stale was OPEN
before. -/
theorem State.elePosition_rests {d : Delivery} (h : s.ele.rests)
    (hs : d.position = .opened → d.stale = true → s.ele.posView = .opened) :
    (s.elePosition d).ele.rests := by
  dsimp only [State.elePosition]
  split
  · exact rests_ordinary.seqTakeResult _ (Ele.rests_clear _)
  · rename_i hn
    have ho : d.position = .opened → s.ele.posView = .opened := fun hp => by
      cases hst : d.stale with
      | true => exact hs hp hst
      | false => exact (not_not.mp fun hw => hn ⟨⟨hp, hst⟩, hw⟩).1
    exact (Ele.rests_iff _).2 fun hp => (Ele.rests_iff s.ele).1 h (ho hp)

theorem State.deliver_rests (h : s.ele.rests)
    (hs : s.slr.position = .opened → linkStale s = true → s.ele.posView = .opened) :
    s.deliver.ele.rests := by
  have hseq : ∀ u : State, u.ele.rests → u.ele.posView = s.ele.posView →
      (u.seqArrive (State.seqDelivery s.delivery)).ele.rests := fun u hu hv =>
    rests_ordinary.seqArrive (rests_ordinary.seqDelivery
      (State.elePosition_rests (s := u.modSeq (deliveryViews s.delivery)) hu
        fun hp hst => hv.trans (hs hp hst)))
  have hdrv : ∀ u : State, u.ele.rests → (u.drvDelivery s.delivery).ele.rests :=
    fun u hu => rests_ordinary.drvDelivery hu
  rw [State.deliver_eq]
  refine rests_ordinary.lkuHandle ?_
  split
  · have hv : (s.drvDelivery s.delivery).sight.ele = s.sight.ele := by rw [State.drvDelivery_sight]
    exact hseq _ (hdrv _ h) (congrArg Prod.fst hv)
  · exact hdrv _ (hseq _ h rfl)

theorem State.deliver_viewsLaw (h : s.ele.rests)
    (hs : s.slr.position = .opened → linkStale s = true → s.ele.posView = .opened) :
    ViewsLaw s.deliver :=
  (viewsLaw_iff _).2 ⟨s.deliver_agrees, State.deliver_rests h hs⟩

/-! ## Slots -/

/-- An E-step leaves the views (R16, R21). -/
theorem State.eStep_sight (s : State) : s.eStep.sight = s.sight :=
  (sight_ordinary (· = s.sight)).eStep (fun _ h => h) (fun _ _ h => by simpa [State.sight] using h) rfl

theorem State.eStep_rests (h : s.ele.rests) : s.eStep.ele.rests :=
  rests_ordinary.eStep (fun _ h => h) (fun l m h => Ele.rests_step h l m) h

/-- The E-step and the delivery of a slot meet the law; without a delivery it held before. -/
theorem State.stepAndDeliver_viewsLaw {estep delivery : Bool} (h : s.ele.rests)
    (hs : s.slr.position = .opened → linkStale s = true → s.ele.posView = .opened)
    (hno : delivery = false → ViewsLaw s) : ViewsLaw (s.stepAndDeliver estep delivery) := by
  have hstep : ∀ u, ViewsLaw u → ViewsLaw (if estep then u.eStep else u) := by
    intro u hu
    split
    · obtain ⟨ha, hr⟩ := (viewsLaw_iff u).1 hu
      exact (viewsLaw_iff _).2 ⟨by rwa [State.eStep_sight], State.eStep_rests hr⟩
    · exact hu
  have hr : (if estep then s.eStep else s).ele.rests := by
    split
    exacts [State.eStep_rests h, h]
  have hsight : (if estep then s.eStep else s).sight = s.sight := by
    split
    exacts [s.eStep_sight, rfl]
  dsimp only [State.stepAndDeliver]
  cases delivery with
  | false => cases s.order.deliveryFirst <;> simpa using hstep s (hno rfl)
  | true =>
    split
    · simpa using hstep _ (State.deliver_viewsLaw h hs)
    · refine State.deliver_viewsLaw hr ?_
      intro hp hl
      have hp' : s.slr.position = .opened := (congrArg Sight.position hsight).symm.trans hp
      have hl' : linkStale s = true := by
        have := congrArg Sight.link hsight
        simp only [State.sight] at this
        simpa [linkStale, this] using hl
      exact (congrArg (fun v => v.ele.1) hsight).trans (hs hp' hl')

/-- The law holds on if neither the accepted values nor the link's being UP has changed. -/
theorem viewsLaw_modSlr {f : Slr → Slr} (h : ViewsLaw s) (h1 : (f s.slr).position = s.slr.position)
    (h2 : (f s.slr).handle = s.slr.handle) (h3 : (f s.slr).ready = s.slr.ready)
    (h4 : ((f s.slr).link == .up) = (s.slr.link == .up)) : ViewsLaw (s.modSlr f) := by
  have h5 : ((f s.slr).link != .up) = (s.slr.link != .up) := by simp only [bne, h4]
  simpa only [ViewsLaw, linkStale, State.modSlr_slr, State.modSlr_seq, State.modSlr_drv,
    State.modSlr_lku, State.modSlr_ele, h1, h2, h3, h4, h5] using h

theorem State.opened_of_viewsLaw (h : ViewsLaw s) :
    s.slr.position = .opened → s.ele.posView = .opened := by
  intro hp
  have hv := ((viewsLaw_iff s).1 h).1.2.2.1
  exact (congrArg Prod.fst hv).trans hp

/-- The link is lost (R6): the elements stay at rest. -/
theorem State.loseLink_rests (h : s.ele.rests) : s.loseLink.ele.rests :=
  rests_ordinary.updateSetpoints (Ele.rests_frozen h)

/-- A link that is not UP is lost (R6). -/
theorem State.loseLink_viewsLaw (h : ViewsLaw s) (hl : s.slr.link ≠ .up) : ViewsLaw s.loseLink := by
  obtain ⟨ha, hr⟩ := (viewsLaw_iff s).1 h
  have h1 : ViewsLaw (s.modSlr (fun r => { r with link := .lost, lastGood := none })) :=
    viewsLaw_modSlr h rfl rfl rfl (by simp [hl])
  exact viewsLaw_ordinary.updateSetpoints
    ((viewsLaw_iff _).2 ⟨((viewsLaw_iff _).1 h1).1, Ele.rests_frozen hr⟩)

/-- A held slot (R5) leaves the views. -/
theorem State.holdSlot_viewsLaw (h : ViewsLaw s) : ViewsLaw s.holdSlot := by
  dsimp only [State.holdSlot]
  refine viewsLaw_modSlr ?_ rfl rfl rfl rfl
  split <;> exact h

theorem State.missingSlot_viewsLaw (h : ViewsLaw s) : ViewsLaw s.missingSlot := by
  have h1 : ViewsLaw s.countMissing := viewsLaw_modSlr h rfl rfl rfl rfl
  have hr := ((viewsLaw_iff s).1 h).2
  have hp := State.opened_of_viewsLaw h
  dsimp only [State.missingSlot]
  split
  · split
    · refine State.deliver_viewsLaw (rests_ordinary.emit _ (State.loseLink_rests hr)) ?_
      intro ho _
      simpa [State.loseLink] using hp (by simpa [State.loseLink, State.countMissing] using ho)
    · refine State.stepAndDeliver_viewsLaw (by simpa using hr) ?_ (fun hf => by simp at hf)
      intro ho _
      simpa using hp (by simpa using ho)
  · rename_i hl
    split
    · exact viewsLaw_ordinary.emit _ (State.loseLink_viewsLaw h1 (by rw [hl]; decide))
    · have h2 := State.holdSlot_viewsLaw h1
      refine State.stepAndDeliver_viewsLaw ((viewsLaw_iff _).1 h2).2 ?_ (fun _ => h2)
      exact fun ho _ => State.opened_of_viewsLaw h2 ho
  · exact h1
  · rename_i hl
    have h2 : ViewsLaw (s.countMissing.modSlr (fun r => { r with link := .lost })) :=
      viewsLaw_modSlr h1 rfl rfl rfl (by rw [hl]; rfl)
    exact h2

theorem State.missingSlots_viewsLaw (n : Nat) (h : ViewsLaw s) : ViewsLaw (s.missingSlots n) := by
  induction n generalizing s with
  | zero => exact h
  | succ n ih => exact ih (State.missingSlot_viewsLaw h)

/-! ## Good frames -/

/-- A good frame up to its acceptance check (R5, R7, R8, R13): the link and the windows, the notices of
the link, and the capacitor voltage. -/
def State.capTaken (f : SampleFrame) (s : State) : State :=
  let s1 := (s.goodLink f).linkUpNotices s.slr.link
  (s1.drvCap f.cap (linkStale s1)).seqArrive (State.seqCap f.cap (linkStale s1))

/-- A good frame has been accepted (R10, R11). -/
def State.accepted (f : SampleFrame) (s : State) : State := (s.capTaken f).modSlr (acceptValues f)

/-- R12: the frame brings a delivery. -/
def State.delivers (f : SampleFrame) (s : State) : Bool :=
  ((s.accepted f).slr.link == .up && s.slr.link != .up) ||
    acceptedChange (s.capTaken f).slr (s.accepted f).slr

/-- R14: the frame brings an E-step. -/
def State.stepsAt (f : SampleFrame) (s : State) : Bool :=
  (s.accepted f).slr.link == .up && endsQuarter s.slr.runPos f.pos

@[simp] theorem acceptValues_link (f : SampleFrame) (r : Slr) : (acceptValues f r).link = r.link := rfl

@[simp] theorem State.accepted_ele (f : SampleFrame) (s : State) :
    (s.accepted f).ele = (s.capTaken f).ele := by rw [State.accepted, State.modSlr_ele]

theorem State.goodSlot_eq (f : SampleFrame) (s : State) : s.goodSlot f =
    ((((s.accepted f).stepAndDeliver (s.stepsAt f) (s.delivers f)).takeAux f.pos f.aux).forwardSample
      f) := rfl

@[simp] theorem State.capTaken_slr (f : SampleFrame) (s : State) :
    (s.capTaken f).slr.link = linkAfterGood s.slr.link (pushSamples s.meu f.samples).fill ∧
    (s.capTaken f).slr.position = s.slr.position ∧ (s.capTaken f).slr.handle = s.slr.handle ∧
    (s.capTaken f).slr.ready = s.slr.ready := by
  simp [State.capTaken, State.goodLink]

/-- What the frame does before its acceptance keeps a property that does not look at the views of SEQ and
DRV. -/
theorem State.capTaken_keeps {P : State → Prop} (H : Ordinary P)
    (hs : ∀ {u} (f : Seq → Seq), P u → P (u.modSeq f)) (hd : ∀ {u} (f : Drv → Drv), P u → P (u.modDrv f))
    {f : SampleFrame} (h : P (s.goodLink f)) : P (s.capTaken f) := by
  refine H.seqArrive (H.seqView (hs _ (H.drvCap (hd _ ?_))))
  dsimp only [State.linkUpNotices]
  split
  · refine H.seqArrive (H.seqView (hs _ (H.updateSetpoints ?_)))
    split
    exacts [h, H.emit _ h]
  · exact h

theorem accept_of_not_up {α : Type} [DecidableEq α] (prev : Option α) (reading accepted : α) :
    accept false prev reading accepted = accepted := by simp [accept]

theorem acceptValues_of_not_up {r : Slr} (f : SampleFrame) (h : r.link ≠ .up) :
    acceptedChange r (acceptValues f r) = false := by
  have hl : (r.link == .up) = false := by simpa using h
  simp [acceptedChange, acceptValues, hl, accept_of_not_up]

theorem viewsLaw_modDrv {f : Drv → Drv} (h : ViewsLaw s) (hf : (f s.drv).sameViews s.drv) :
    ViewsLaw (s.modDrv f) := by
  obtain ⟨h1, h2, h3, h4, h5⟩ := hf
  simpa only [ViewsLaw, linkStale, State.modDrv_slr, State.modDrv_seq, State.modDrv_drv,
    State.modDrv_lku, State.modDrv_ele, h1, h2, h3, h4, h5] using h

theorem viewsLaw_modSeq {f : Seq → Seq} (h : ViewsLaw s) (hf : (f s.seq).sameViews s.seq) :
    ViewsLaw (s.modSeq f) := by
  obtain ⟨h1, h2, h3, h4, h5⟩ := hf
  simpa only [ViewsLaw, linkStale, State.modSeq_slr, State.modSeq_seq, State.modSeq_drv,
    State.modSeq_lku, State.modSeq_ele, h1, h2, h3, h4, h5] using h

/-- R13: DRV and SEQ take the capacitor voltage of a good frame with the staleness that they hold. -/
theorem State.capTaken_viewsLaw (cap : Nat) {stale : Bool} (hst : linkStale s = stale)
    (h : ViewsLaw s) : ViewsLaw ((s.drvCap cap stale).seqArrive (State.seqCap cap stale)) := by
  have hcap : ∀ u : State, ViewsLaw u → linkStale u = u.seq.capStale ∧ linkStale u = u.drv.capStale :=
    fun u hu => by simp only [ViewsLaw] at hu; tauto
  have hd : ∀ d : Drv, stale = d.capStale → Drv.sameViews { d with cap := cap, capStale := stale } d :=
    fun _ h => ⟨rfl, rfl, rfl, rfl, h⟩
  have hq : ∀ q : Seq, stale = q.capStale → Seq.sameViews { q with cap := cap, capStale := stale } q :=
    fun _ h => ⟨rfl, rfl, rfl, rfl, h⟩
  have h1 : ViewsLaw (s.drvCap cap stale) := viewsLaw_ordinary.drvCap
    (viewsLaw_modDrv h (hd _ (hst.symm.trans (hcap s h).2)))
  have hst1 : linkStale (s.drvCap cap stale) = stale := by simpa [linkStale] using hst
  exact viewsLaw_ordinary.seqArrive (viewsLaw_ordinary.seqView
    (viewsLaw_modSeq h1 (hq _ (hst1.symm.trans (hcap _ h1).1))))

/-- R11: only a link that is UP accepts a value. -/
theorem up_of_acceptedChange {r : Slr} {f : SampleFrame} (h : acceptedChange r (acceptValues f r) = true) :
    r.link = .up := by
  by_contra hl
  rw [acceptValues_of_not_up f hl] at h
  cases h

/-- A good frame without a delivery leaves the views: the link's being UP has not changed, and nothing
new is accepted. -/
theorem State.accepted_viewsLaw {f : SampleFrame} (h : ViewsLaw s) (hno : s.delivers f = false) :
    ViewsLaw (s.accepted f) := by
  simp only [State.delivers, State.accepted, State.modSlr_slr, Bool.or_eq_false_iff, acceptedChange,
    bne_eq_false_iff_eq] at hno
  obtain ⟨hup, ⟨hpos, hhandle⟩, hready⟩ := hno
  have hlink : (acceptValues f (s.capTaken f).slr).link = (s.goodLink f).slr.link := by
    simp [acceptValues, State.goodLink]
  rw [hlink] at hup
  have hsame : ((s.goodLink f).slr.link == .up) = (s.slr.link == .up) := by
    cases hl : s.slr.link <;> simp [State.goodLink, hl, linkAfterGood] at hup ⊢
    exact hup
  have hgood : ViewsLaw (s.goodLink f) := by
    have h1 : ViewsLaw (s.modMeu (fun m => pushSamples m f.samples)) := h
    exact viewsLaw_modSlr h1 rfl rfl rfl hsame
  have hquiet : (s.goodLink f).linkUpNotices s.slr.link = s.goodLink f := by
    have : ¬ ((s.goodLink f).slr.link = .up ∧ s.slr.link ≠ .up) := by
      rintro ⟨h1, h2⟩
      rw [h1] at hsame
      exact h2 (by simpa using hsame.symm)
    rw [State.linkUpNotices, if_neg this]
  refine viewsLaw_modSlr ?_ hpos.symm hhandle.symm hready.symm (by rw [acceptValues_link])
  dsimp only [State.capTaken]
  rw [hquiet]
  exact State.capTaken_viewsLaw _ rfl hgood

theorem State.goodSlot_viewsLaw (f : SampleFrame) (h : ViewsLaw s) : ViewsLaw (s.goodSlot f) := by
  obtain ⟨ha, hr⟩ := (viewsLaw_iff s).1 h
  have hrest : (s.capTaken f).ele.rests :=
    State.capTaken_keeps rests_ordinary (fun _ h => h) (fun _ h => h) hr
  have hview : (s.capTaken f).ele.posView = s.ele.posView :=
    State.capTaken_keeps (eleMarks_ordinary fun p _ _ => p = s.ele.posView) (fun _ h => h)
      (fun _ h => h) rfl
  have hslot : ViewsLaw ((s.accepted f).stepAndDeliver (s.stepsAt f) (s.delivers f)) := by
    refine State.stepAndDeliver_viewsLaw (by simpa using hrest) (fun hp hst => ?_) (State.accepted_viewsLaw h)
    have hnu : (s.capTaken f).slr.link ≠ .up := by
      simpa [linkStale, State.accepted, acceptValues] using hst
    have hkeep := acceptValues_of_not_up f hnu
    simp only [acceptedChange, Bool.or_eq_false_iff, bne_eq_false_iff_eq] at hkeep
    have hp1 : s.slr.position = .opened :=
      (s.capTaken_slr f).2.1.symm.trans (hkeep.1.1.trans hp)
    simpa using hview.trans (State.opened_of_viewsLaw h hp1)
  have haux : ViewsLaw (((s.accepted f).stepAndDeliver (s.stepsAt f) (s.delivers f)).takeAux
      f.pos f.aux) := viewsLaw_ordinary.takeAux _ _ hslot
  rw [State.goodSlot_eq]
  simpa [ViewsLaw, linkStale] using haux

theorem State.declareMissing_viewsLaw (h : ViewsLaw s) : ViewsLaw s.declareMissing :=
  State.missingSlot_viewsLaw (viewsLaw_modSlr h rfl rfl rfl rfl)

theorem State.sampleReceived_viewsLaw (bytes : List Byte) (h : ViewsLaw s) :
    ViewsLaw (s.sampleReceived bytes) := by
  have h1 : ViewsLaw s.restartSilence := viewsLaw_modSlr h rfl rfl rfl rfl
  have h2 : ViewsLaw (s.restartSilence.accountSeq (decodeSample bytes).seqNo) :=
    viewsLaw_modSlr (State.missingSlots_viewsLaw _ h1) rfl rfl rfl rfl
  dsimp only [State.sampleReceived]
  (repeat' split)
  exacts [State.missingSlot_viewsLaw h2, State.goodSlot_viewsLaw _ h2, State.declareMissing_viewsLaw h1]

/-! ## Every row -/

theorem viewsLaw_steady : Steady ViewsLaw where
  toOrdinary := viewsLaw_ordinary
  pending _ h := h
  part _ h := h
  ticks _ h := h
  ms _ h := h
  blocks {s} _ := by
    simp [ViewsLaw, State.resetBlocks, seqReset, slrReset, drvReset, eleReset, lkuReset, linkStale]
  sample bytes h := State.sampleReceived_viewsLaw bytes h
  silence h := State.declareMissing_viewsLaw (viewsLaw_modSlr h rfl rfl rfl rfl)
  decimation d h := viewsLaw_modSlr h rfl rfl rfl rfl
  intake e h := by simpa [ViewsLaw, linkStale] using h
  rxTake p b h := by simpa [ViewsLaw, linkStale] using h
  rxIdle p h := by simpa [ViewsLaw, linkStale] using h
  localSent h := by simpa [ViewsLaw, linkStale] using h
  begun _ _ h := by simpa [ViewsLaw, linkStale, State.begun] using h

/-- Settles O22: the ordinary operations leave the views, and SLR makes a delivery, or hands over the
staleness, whenever a value that they show changes. -/
theorem viewsKept : Obligations.ViewsKept := viewsLaw_steady.kept

end Sys2Proof.Machine
end

section
/-! The magnitude (R16): the bitwise root is the floor of the square root. -/

namespace Sys2Proof.Machine

/-- A root that is at most r and lies less than 2 ^ n above it is found by the bits below 2 ^ n. -/
theorem sqrtBits_spec (x n : Nat) :
    ∀ r, r * r ≤ x → x < (r + 2 ^ n) * (r + 2 ^ n) →
      sqrtBits x n r * sqrtBits x n r ≤ x ∧ x < (sqrtBits x n r + 1) * (sqrtBits x n r + 1) := by
  induction n with
  | zero => exact fun r hlow hhigh => ⟨hlow, by simpa [sqrtBits] using hhigh⟩
  | succ n ih =>
    intro r hlow hhigh
    have hdouble : r + 2 ^ n + 2 ^ n = r + 2 ^ (n + 1) := by rw [pow_succ]; omega
    simp only [sqrtBits]
    split
    · exact ih _ ‹_› (by rwa [hdouble])
    · exact ih r hlow (by omega)

theorem isqrt_spec {x : Nat} (h : x < 4294967296) :
    isqrt x * isqrt x ≤ x ∧ x < (isqrt x + 1) * (isqrt x + 1) :=
  sqrtBits_spec x 16 0 (Nat.zero_le _) (by simpa using h)

/-- Settles O8: the bits of the root are found from the highest down. -/
theorem magnitudeIsTheFloorRoot : Obligations.MagnitudeIsTheFloorRoot := by
  intro w
  refine ⟨fun h => by simp [windowMag, h, Config.fullScale], fun h hsum => ?_⟩
  have hmag : windowMag w = isqrt (w.sum / 32) := by simp [windowMag, h]
  rw [hmag]
  exact isqrt_spec hsum

end Sys2Proof.Machine
end

section
/-! READ_STATUS, READ_TABLE, SET_TIME and SAMPLE_FORWARD (R19, R63, R168, R185, R187): how their payloads
are read, and what their execution leaves. -/

namespace Sys2Proof.Machine

variable {s : State} {e e' : IntakeEntry}

/-! ## Fields of a payload (R191, R194) -/

theorem beBytes_length (n v : Nat) : (beBytes n v).length = n := by
  induction n with
  | zero => rfl
  | succ n ih => simp [beBytes, ih]

theorem beNat_foldl (bs : List Byte) (a : Nat) :
    bs.foldl (fun a b => a * 256 + b.toNat) a = a * 256 ^ bs.length + beNat bs := by
  induction bs generalizing a with
  | nil => simp [beNat]
  | cons b bs ih =>
    simp only [beNat, List.foldl_cons, List.length_cons] at ih ⊢
    rw [ih, ih (0 * 256 + b.toNat), pow_succ]
    ring

/-- R191: a number that fits its bytes is read back. -/
theorem beNat_beBytes {n v : Nat} (h : v < 256 ^ n) : beNat (beBytes n v) = v := by
  suffices ∀ n v, beNat (beBytes n v) = v % 256 ^ n by rw [this, Nat.mod_eq_of_lt h]
  intro n
  induction n with
  | zero => simp [beBytes, beNat, Nat.mod_one]
  | succ n ih =>
    intro v
    have hcons : beNat (beBytes (n + 1) v) =
        v / 256 ^ n % 256 * 256 ^ n + beNat (beBytes n v) := by
      have := beNat_foldl (beBytes n v) (0 * 256 + (BitVec.ofNat 8 (v / 256 ^ n)).toNat)
      rw [beBytes_length] at this
      simpa [beBytes, beNat] using this
    rw [hcons, ih, pow_succ, Nat.mod_mul]
    ring

/-- Fields are read only from a payload of their length. -/
theorem readFields_length {ns fs : List Nat} {bs : List Byte} (h : readFields ns bs = some fs) :
    bs.length = ns.sum := by
  induction ns generalizing bs fs with
  | nil =>
    cases bs with
    | nil => rfl
    | cons b bs => simp [readFields] at h
  | cons n ns ih =>
    simp only [readFields] at h
    split at h
    · cases h
    · obtain ⟨gs, hg, -⟩ := Option.map_eq_some_iff.mp h
      have := ih hg
      simp only [List.length_drop, List.sum_cons] at this ⊢
      omega

theorem readFields_cons {n : Nat} (ns : List Nat) {a bs : List Byte} (h : a.length = n) :
    readFields (n :: ns) (a ++ bs) = (readFields ns bs).map (fun fs => beNat a :: fs) := by
  subst h
  simp [readFields]

theorem readByte_single (b : Byte) : readByte [b] = some b.toNat := rfl

theorem readByte_of_length {bs : List Byte} (h : bs.length ≠ 1) : readByte bs = none := by
  match bs with
  | [] => rfl
  | [_] => simp at h
  | _ :: _ :: _ => rfl

theorem readTableArgs_pair (k i : Byte) : readTableArgs [k, i] = some (k.toNat, i.toNat) := by
  simp [readTableArgs, readFields, beNat]

theorem readTableArgs_of_length {bs : List Byte} (h : bs.length ≠ 2) : readTableArgs bs = none := by
  simp only [readTableArgs]
  split
  · rename_i hf
    exact absurd (readFields_length hf) h
  · rfl

/-- R187: the seconds and milliseconds of SET_TIME. -/
theorem readSetTime_fields {secs ms : Nat} (hs : secs < 4294967296) (hm : ms < 65536) :
    readSetTime (beBytes 4 secs ++ beBytes 2 ms) = if ms ≤ 999 then some (secs, ms) else none := by
  have h2 : readFields [2] (beBytes 2 ms) = some [ms] := by
    have := readFields_cons (n := 2) [] (a := beBytes 2 ms) (bs := []) (beBytes_length 2 ms)
    simpa [readFields, beNat_beBytes (n := 2) hm] using this
  rw [readSetTime, readFields_cons [2] (beBytes_length 4 secs), h2, beNat_beBytes hs]
  rfl

theorem readSetTime_of_length {bs : List Byte} (h : bs.length ≠ 6) : readSetTime bs = none := by
  simp only [readSetTime]
  split
  · rename_i hf
    exact absurd (readFields_length hf) h
  · rfl

/-- R185: the decimations are off, 1, 2, 4 and 8. -/
theorem readDecimation_of_mem {d : Byte} (h : d.toNat ∈ [0, 1, 2, 4, 8]) :
    readDecimation [d] = some d.toNat := by
  simp only [readDecimation, readByte_single]
  rw [if_pos (by simpa using h)]

theorem readDecimation_none {bs : List Byte} (h : ¬ ∃ d, bs = [d] ∧ d.toNat ∈ [0, 1, 2, 4, 8]) :
    readDecimation bs = none := by
  match bs with
  | [] => rfl
  | [d] =>
    have hd : ¬ d.toNat ∈ [0, 1, 2, 4, 8] := fun hm => h ⟨d, rfl, hm⟩
    simpa [readDecimation, readByte_single] using hd
  | _ :: _ :: _ => rfl

/-! ## Sections and tables (R185, R195) -/

theorem statusSection_none (s : State) {n : Nat} (h : 10 < n) : statusSection s n = none := by
  obtain ⟨k, rfl⟩ := Nat.exists_eq_add_of_lt h
  rw [show 10 + k + 1 = k + 11 by omega]
  rfl

/-- What READ_TABLE sends stands in the store and in LKU. -/
theorem tableBytes_congr {t : State} (hst : t.store = s.store) (hl : t.lku = s.lku) (kind idx : Nat) :
    tableBytes t kind idx = tableBytes s kind idx := by
  simp only [tableBytes, hst, hl]

theorem tableBytes_none {kind idx : Nat} (h : 9 < kind ∨ kind = 0 ∧ s.store.curves.length ≤ idx ∨
    kind = 1 ∧ s.store.groups.length ≤ idx ∨ 2 ≤ kind ∧ idx ≠ 0) : tableBytes s kind idx = none := by
  rcases h with h | ⟨rfl, h⟩ | ⟨rfl, h⟩ | ⟨h2, h⟩
  · obtain ⟨k, rfl⟩ := Nat.exists_eq_add_of_lt h
    rw [show 9 + k + 1 = k + 10 by omega]
    simp [tableBytes]
  · simpa [tableBytes] using h
  · simpa [tableBytes] using h
  · obtain ⟨k, rfl⟩ := Nat.exists_eq_add_of_le' h2
    simp [tableBytes, h]

/-! ## Executed commands whose owner only answers -/

theorem begun_answered (hx : Executes s e e') (o : CmdOutcome) {data : List Byte}
    (hlen : data.length ≤ 238) :
    Answered s e' o data ((s.begun e').answerWith (replyOf s e') o data) :=
  answered_of_executes hx (by simp) (by simp) rfl hlen

theorem begun_allBut (s : State) (e : IntakeEntry) (r : Option Reply) (o : CmdOutcome)
    (data : List Byte) : AllBut [.slr, .pkm, .fcu] s ((s.begun e).answerWith r o data) := by
  simp [allBut_iff]

theorem begun_invalid (hx : Executes s e e') :
    Answered s e' .invalid [] ((s.begun e').answer (replyOf s e') .invalid) :=
  begun_answered hx .invalid (Nat.zero_le _)

theorem readStatus_executes {h : CmdHead} {p : List Byte}
    (hx : Executes s (rowEntry h .readStatus p) e') :
    ∃ t, exec (.readStatus h p) s = .next t ∧ AllBut [.slr, .pkm, .fcu] s t ∧
      (∀ n data, p = [n] → statusSection (s.begun e') n.toNat = some data → data.length ≤ 238 →
        Answered s e' .done data t) ∧
      (∀ n, p = [n] → 10 < n.toNat → Answered s e' .invalid [] t) ∧
      (p.length ≠ 1 → Answered s e' .invalid [] t) := by
  refine ⟨_, commandRow_executes hx, ?_⟩
  simp only [bodyOf, bodyReadStatus, args_of_executes hx]
  refine ⟨?_, ?_, ?_, ?_⟩
  · split <;> exact begun_allBut _ _ _ _ _
  · rintro n data rfl hd hlen
    simp only [readByte_single, Option.bind_some, hd]
    exact begun_answered hx .done hlen
  · rintro n rfl hn
    simp only [readByte_single, Option.bind_some, statusSection_none _ hn]
    exact begun_invalid hx
  · intro hlen
    simp only [readByte_of_length hlen, Option.bind_none]
    exact begun_invalid hx

theorem readTable_executes {h : CmdHead} {p : List Byte}
    (hx : Executes s (rowEntry h .readTable p) e') :
    ∃ t, exec (.readTable h p) s = .next t ∧ AllBut [.slr, .pkm, .fcu] s t ∧
      (∀ k i data, p = [k, i] → tableBytes s k.toNat i.toNat = some data → data.length ≤ 238 →
        Answered s e' .done data t) ∧
      (∀ k i, p = [k, i] →
        9 < k.toNat ∨ k.toNat = 0 ∧ s.store.curves.length ≤ i.toNat ∨
          k.toNat = 1 ∧ s.store.groups.length ≤ i.toNat ∨ 2 ≤ k.toNat ∧ i.toNat ≠ 0 →
        Answered s e' .invalid [] t) ∧
      (p.length ≠ 2 → Answered s e' .invalid [] t) := by
  have htable : ∀ k i, tableBytes (s.begun e') k i = tableBytes s k i :=
    tableBytes_congr (by simp) (by simp)
  refine ⟨_, commandRow_executes hx, ?_⟩
  simp only [bodyOf, bodyReadTable, args_of_executes hx]
  refine ⟨?_, ?_, ?_, ?_⟩
  · split <;> exact begun_allBut _ _ _ _ _
  · rintro k i data rfl hd hlen
    simp only [readTableArgs_pair, Option.bind_some, htable, hd]
    exact begun_answered hx .done hlen
  · rintro k i rfl hn
    simp only [readTableArgs_pair, Option.bind_some, htable, tableBytes_none hn]
    exact begun_invalid hx
  · intro hlen
    simp only [readTableArgs_of_length hlen, Option.bind_none]
    exact begun_invalid hx

theorem sampleForward_executes {h : CmdHead} {p : List Byte}
    (hx : Executes s (rowEntry h .sampleForward p) e') :
    ∃ t, exec (.sampleForward h p) s = .next t ∧ AllBut [.slr, .pkm, .fcu] s t ∧
      (∀ d, p = [d] → d.toNat ∈ [0, 1, 2, 4, 8] →
        Answered s e' .done [] t ∧ t.slr.decimation = d.toNat ∧ t.slr.takeCount = 0 ∧
        t.slr.batch = [] ∧
        t.slr.droppedCount = (if d.toNat = 0 then 0 else
          min 65535 ((s.begun e').slr.droppedCount + s.slr.batch.length))) ∧
      (¬ (∃ d, p = [d] ∧ d.toNat ∈ [0, 1, 2, 4, 8]) →
        Answered s e' .invalid [] t ∧ t.slr.decimation = s.slr.decimation ∧
        t.slr.batch = s.slr.batch) := by
  refine ⟨_, commandRow_executes hx, ?_⟩
  simp only [bodyOf, bodySampleForward, args_of_executes hx]
  refine ⟨?_, ?_, ?_⟩
  · split <;> simp [allBut_iff, State.answer]
  · rintro d rfl hd
    simp only [readDecimation_of_mem hd]
    refine ⟨answered_of_executes hx (by simp) (by simp) (by simp) (Nat.zero_le _), ?_⟩
    simp [State.setDecimation, State.begun, satAdd]
  · intro hd
    simp only [readDecimation_none hd]
    exact ⟨begun_invalid hx, by simp [State.begun], by simp [State.begun]⟩

/-! ## SET_TIME (R168, R187) -/

/-- R168: RPC wants the power it has. -/
theorem State.rpcPower_wanted (hw : wantsPower s = true) (ho : s.rpc.state ≠ .off) :
    s.rpcPower = s.modRpc (fun r => { r with powerDown := false }) := by
  simp [State.rpcPower, hw, ho]

/-- R168: outside the listen window the radio of a part in LISTEN goes to OFF. -/
theorem State.rpcPower_unwanted (hw : wantsPower s = false) (hl : s.rpc.state = .listen) :
    s.rpcPower = s.rpcGoto .off := by
  simp [State.rpcPower, hw, hl]

theorem State.rpcGoto_off (s : State) :
    (s.rpcGoto .off).rpc.state = .off ∧ (s.rpcGoto .off).rpc.radioPwr = false := ⟨rfl, rfl⟩

/-- The state in which RPC looks at its listen window after SET_TIME (R168, R187). -/
def State.timeSet (secs ms : Nat) (s : State) : State :=
  s.modFcu (fun f => { f with time := ⟨secs, ms, true⟩ })

@[simp] theorem State.timeSet_rpc (secs ms : Nat) (s : State) : (s.timeSet secs ms).rpc = s.rpc := rfl

@[simp] theorem State.timeSet_reserved (secs ms : Nat) (s : State) :
    (s.timeSet secs ms).reserved = s.reserved := rfl

theorem timeSet_wantsPower (secs ms : Nat) (s : State) (e : IntakeEntry) :
    wantsPower ((s.begun e).timeSet secs ms) =
      match s.rpc.shed with
      | 0 => true
      | 1 => true
      | 2 => decide (secs % 60 ≤ 4)
      | _ => false := by
  simp only [wantsPower, State.timeSet, State.modFcu_rpc, State.begun_frame]
  rfl

theorem setTime_executes {h : CmdHead} {p : List Byte} (hx : Executes s (rowEntry h .setTime p) e') :
    ∃ t, exec (.setTime h p) s = .next t ∧
      (∀ secs ms, secs < 4294967296 → ms ≤ 999 → p = beBytes 4 secs ++ beBytes 2 ms →
        Answered s e' .done [] t ∧ t.fcu.time = ⟨secs, ms, true⟩ ∧
        t.fcu.running = s.fcu.running ∧ AllBut [.slr, .bat, .sup, .pkm, .rpc, .fcu] s t ∧
        (s.rpc.shed ≤ 1 → s.rpc.state ≠ .off →
          t.rpc = { s.rpc with powerDown := false } ∧ AllBut [.slr, .pkm, .rpc, .fcu] s t) ∧
        (s.rpc.shed = 2 → 4 < secs % 60 → s.rpc.state = .listen →
          t.rpc.state = .off ∧ t.rpc.radioPwr = false ∧ AllBut [.slr, .pkm, .rpc, .fcu] s t)) ∧
      (∀ secs ms, secs < 4294967296 → ms < 65536 → 999 < ms →
        p = beBytes 4 secs ++ beBytes 2 ms →
        Answered s e' .invalid [] t ∧ AllBut [.slr, .pkm, .fcu] s t ∧ t.fcu.time = s.fcu.time) ∧
      (p.length ≠ 6 →
        Answered s e' .invalid [] t ∧ AllBut [.slr, .pkm, .fcu] s t ∧ t.fcu.time = s.fcu.time) := by
  have hinvalid : ∀ t, t = (s.begun e').answer (replyOf s e') .invalid →
      Answered s e' .invalid [] t ∧ AllBut [.slr, .pkm, .fcu] s t ∧ t.fcu.time = s.fcu.time := by
    rintro t rfl
    exact ⟨begun_invalid hx, begun_allBut _ _ _ _ _, by simp [State.begun]⟩
  refine ⟨_, commandRow_executes hx, ?_⟩
  simp only [bodyOf, bodySetTime, args_of_executes hx]
  refine ⟨?_, ?_, ?_⟩
  · rintro secs ms hs hm rfl
    have hm' : ms < 65536 := by omega
    simp only [readSetTime_fields hs hm', if_pos hm]
    have hrpc : ((s.begun e').timeSet secs ms).rpc = s.rpc := by simp
    refine ⟨answered_of_executes (u := ((s.begun e').timeSet secs ms).rpcPower) hx
      (by simp [State.timeSet]) (by simp [State.timeSet]) (by simp) (Nat.zero_le _), by simp, by simp [State.begun],
      by simp [allBut_iff], fun hshed hoff => ?_, fun hshed hsec hl => ?_⟩
    · have hw : wantsPower ((s.begun e').timeSet secs ms) = true := by
        rw [timeSet_wantsPower]
        obtain h0 | h0 : s.rpc.shed = 0 ∨ s.rpc.shed = 1 := by omega
        · simp only [h0]
        · simp only [h0]
      have hp := State.rpcPower_wanted hw (by rwa [hrpc])
      rw [State.timeSet] at hp
      rw [hp]
      simp [allBut_iff]
    · have hw : wantsPower ((s.begun e').timeSet secs ms) = false := by
        rw [timeSet_wantsPower, hshed]
        simpa using hsec
      have hp := State.rpcPower_unwanted hw (by rwa [hrpc])
      rw [State.timeSet] at hp
      rw [hp]
      simp [allBut_iff, State.rpcGoto_off]
  · rintro secs ms hs hm hhigh rfl
    simp only [readSetTime_fields hs hm, if_neg (show ¬ ms ≤ 999 by omega)]
    exact hinvalid _ rfl
  · intro hlen
    simp only [readSetTime_of_length hlen]
    exact hinvalid _ rfl

/-- Settles O50: each of the four is executed in the state `begun`, and its payload decides. -/
theorem readsTimeAndSampling : Obligations.ReadsTimeAndSampling := by
  intro h p s e'
  exact ⟨readStatus_executes, readTable_executes, setTime_executes, sampleForward_executes⟩

end Sys2Proof.Machine
end

section
/-! Missing frames (R2 to R10): what one slot does in each link state, and what a run of them comes to. -/

namespace Sys2Proof.Machine

variable {s u : State} {m : Nat}

/-! ## Windows -/

theorem sameWindows.trans {a b c : Meu} (h : sameWindows a b) (h' : sameWindows b c) :
    sameWindows a c := by
  obtain ⟨h1, h2, h3, h4, h5, h6, h7, h8⟩ := h
  obtain ⟨k1, k2, k3, k4, k5, k6, k7, k8⟩ := h'
  exact ⟨h1.trans k1, h2.trans k2, h3.trans k3, h4.trans k4, h5.trans k5, h6.trans k6, h7.trans k7,
    h8.trans k8⟩

theorem sameWindows_push {a b : Meu} (h : sameWindows a b) (x : Samples) :
    sameWindows (pushSamples a x) (pushSamples b x) := by
  obtain ⟨h1, h2, h3, h4, h5, h6, h7, h8⟩ := h
  simp [sameWindows, pushSamples, h1, h2, h3, h4, h5, h6, h7, h8]

theorem sameWindows_clear (a b : Meu) : sameWindows (clearWindows a) (clearWindows b) := by
  simp [sameWindows, clearWindows]

theorem State.eStep_meu (s : State) : s.eStep.meu = measure s.sets.live.grp s.meu := by
  dsimp only [State.eStep]
  split <;> simp

/-- R16: an E-step and a delivery take no samples. -/
theorem State.stepAndDeliver_windows (estep delivery : Bool) (s : State) :
    sameWindows (s.stepAndDeliver estep delivery).meu s.meu := by
  have he : ∀ u : State, u.meu = s.meu → sameWindows (if estep then u.eStep else u).meu s.meu := by
    intro u hu
    split <;> simp [State.eStep_meu, measure, sameWindows, hu]
  have hd : ∀ u : State, (if delivery then u.deliver else u).meu = u.meu := by
    intro u
    split <;> simp
  dsimp only [State.stepAndDeliver]
  split
  · exact he _ (hd s)
  · rw [hd]
    exact he s rfl

/-- R40: a delivery leaves ELE's frozen indication. -/
theorem State.deliver_frozen (h : s.ele.frozen = true) : s.deliver.ele.frozen = true := by
  have H := eleMarks_ordinary fun _ _ frozen => frozen = true
  have hdrv : ∀ u : State, u.ele.frozen = true → (u.drvDelivery s.delivery).ele.frozen = true :=
    fun u hu => H.drvDelivery hu
  have hseq : ∀ u : State, u.ele.frozen = true →
      (u.seqArrive (State.seqDelivery s.delivery)).ele.frozen = true :=
    fun u hu => H.seqArrive (H.seqDelivery (H.elePosition hu))
  rw [State.deliver_eq]
  refine H.lkuHandle ?_
  split
  exacts [hseq _ (hdrv _ h), hdrv _ (hseq _ h)]

/-! ## One slot -/

theorem State.loseLink_lost (s : State) : s.loseLink.slr.link = .lost ∧ s.loseLink.slr.lastGood = none ∧
    s.loseLink.meu = { clearWindows s.meu with valid := false } ∧ s.loseLink.ele.frozen = true := by
  simp [State.loseLink]

theorem State.missingSlot_counts (s : State) :
    s.missingSlot.slr.consecMissing = min 8 (s.slr.consecMissing + 1) ∧
    s.missingSlot.slr.totalMissing = min 65535 (s.slr.totalMissing + 1) ∧
    s.missingSlot.slr.prevPosition = none ∧ s.missingSlot.slr.prevHandle = none ∧
    s.missingSlot.slr.prevReady = none := by
  dsimp only [State.missingSlot]
  (repeat' split) <;> simp [State.countMissing, satAdd, Config.missingLimit]

theorem State.missingSlot_of_lost (h : s.slr.link = .lost) : s.missingSlot = s.countMissing := by
  have h1 : s.countMissing.slr.link = .lost := by simpa using h
  simp only [State.missingSlot, h1]

theorem State.missingSlot_of_refilling (h : s.slr.link = .refilling) : s.missingSlot =
    (s.countMissing.modSlr (fun r => { r with link := .lost })).modMeu clearWindows := by
  have h1 : s.countMissing.slr.link = .refilling := by simpa using h
  simp only [State.missingSlot, h1]

/-- R6: the link has been lost: the last good samples are gone, the windows empty, the elements
frozen. -/
def State.linkLost (s u : State) : Prop :=
  u.slr.link = .lost ∧ u.slr.lastGood = none ∧ sameWindows u.meu (clearWindows s.meu) ∧
  u.meu.valid = false ∧ u.ele.frozen = true

/-- R5: `m` slots have been held. -/
def State.linkHeld (m : Nat) (s u : State) : Prop :=
  u.slr.link = .holding ∧ u.slr.lastGood = s.slr.lastGood ∧
  u.slr.runPos = s.slr.runPos.map (fun p => (p + m) % 32) ∧
  ∀ x, s.slr.lastGood = some x → sameWindows u.meu ((fun w => pushSamples w x)^[m] s.meu)

theorem State.missingSlot_loses (h : s.slr.link = .up ∨ s.slr.link = .holding)
    (hc : 8 ≤ s.slr.consecMissing + 1) : s.linkLost s.missingSlot := by
  have hc' : Config.missingLimit ≤ s.countMissing.slr.consecMissing := by
    simpa [State.countMissing, satAdd, Config.missingLimit] using hc
  obtain ⟨hlink, hgood, hmeu, hele⟩ := State.loseLink_lost s.countMissing
  have hwin : sameWindows { clearWindows s.meu with valid := false } (clearWindows s.meu) :=
    ⟨rfl, rfl, rfl, rfl, rfl, rfl, rfl, rfl⟩
  rcases h with h | h
  · have h1 : s.countMissing.slr.link = .up := by simpa using h
    simp only [State.missingSlot, h1, if_pos hc']
    refine ⟨by simpa using hlink, by simpa using hgood, ?_, ?_, State.deliver_frozen (by simpa using hele)⟩
    · simpa [hmeu] using hwin
    · simp [hmeu]
  · have h1 : s.countMissing.slr.link = .holding := by simpa using h
    simp only [State.missingSlot, h1, if_pos hc']
    refine ⟨by simpa using hlink, by simpa using hgood, ?_, ?_, by simpa using hele⟩
    · simpa [hmeu] using hwin
    · simp [hmeu]

theorem State.holdSlot_held (s : State) :
    s.holdSlot.slr.runPos = s.slr.runPos.map (fun p => (p + 1) % 32) ∧
    ∀ x, s.slr.lastGood = some x → s.holdSlot.meu = pushSamples s.meu x := by
  constructor
  · dsimp only [State.holdSlot]
    split <;> simp
  · intro x hx
    simp [State.holdSlot, hx]

theorem State.missingSlot_holds (h : s.slr.link = .up ∨ s.slr.link = .holding)
    (hc : s.slr.consecMissing + 1 < 8) : State.linkHeld 1 s s.missingSlot := by
  have hc' : ¬ Config.missingLimit ≤ s.countMissing.slr.consecMissing := by
    simpa [State.countMissing, satAdd, Config.missingLimit] using Nat.lt_of_succ_lt_succ hc
  have key : ∀ (u : State) (e d : Bool), u.slr.link = .holding → u.slr.lastGood = s.slr.lastGood →
      u.slr.runPos = s.slr.runPos → u.meu = s.meu → State.linkHeld 1 s (u.holdSlot.stepAndDeliver e d) := by
    intro u e d hl hg hr hm
    obtain ⟨hrun, hpush⟩ := u.holdSlot_held
    refine ⟨by simpa using hl, by simpa using hg, by simpa [hr] using hrun, fun x hx => ?_⟩
    have hw := u.holdSlot.stepAndDeliver_windows e d
    rwa [hpush x (hg.trans hx), hm] at hw
  rcases h with h | h
  · have h1 : s.countMissing.slr.link = .up := by simpa using h
    simp only [State.missingSlot, h1, if_neg hc']
    exact key _ _ _ (by simp) (by simp) (by simp) (by simp)
  · have h1 : s.countMissing.slr.link = .holding := by simpa using h
    simp only [State.missingSlot, h1, if_neg hc']
    exact key _ _ _ h1 (by simp) (by simp) (by simp)

/-! ## A run of slots -/

/-- What `m` missing frames in a row, one at least, leave of the link and the windows (R5 to R7). -/
def State.slotsMissed (m : Nat) (s u : State) : Prop :=
  match s.slr.link with
  | .up | .holding =>
    if 8 ≤ s.slr.consecMissing + m then s.linkLost u else State.linkHeld m s u
  | .lost => u.slr.link = .lost ∧ u.meu = s.meu ∧ AllBut [.slr] s u
  | .refilling =>
    u.slr.link = .lost ∧ sameWindows u.meu (clearWindows s.meu) ∧ AllBut [.slr, .meu] s u

theorem State.slotsMissed_one (s : State) : State.slotsMissed 1 s s.missingSlot := by
  unfold State.slotsMissed
  cases hl : s.slr.link with
  | up =>
    dsimp only
    split
    exacts [State.missingSlot_loses (.inl hl) ‹_›, State.missingSlot_holds (.inl hl) (by omega)]
  | holding =>
    dsimp only
    split
    exacts [State.missingSlot_loses (.inr hl) ‹_›, State.missingSlot_holds (.inr hl) (by omega)]
  | lost => simp [State.missingSlot_of_lost hl, hl, allBut_iff]
  | refilling =>
    simp [State.missingSlot_of_refilling hl, allBut_iff, sameWindows_clear]

theorem State.missingSlot_keeps_lost (hu : s.linkLost u) : s.linkLost u.missingSlot := by
  obtain ⟨hl, hg, hw, hv, hf⟩ := hu
  rw [State.missingSlot_of_lost hl]
  exact ⟨by simpa using hl, by simpa using hg, by simpa using hw, by simpa using hv, by simpa using hf⟩

/-- One slot more: what it does depends on the counts and the link that the slots before it left. -/
theorem State.slotsMissed_succ (h : State.slotsMissed m s u)
    (hc : u.slr.consecMissing = min 8 (s.slr.consecMissing + m)) :
    State.slotsMissed (m + 1) s u.missingSlot := by
  have hold : ∀ (hs : s.slr.link = .up ∨ s.slr.link = .holding),
      (if 8 ≤ s.slr.consecMissing + m then s.linkLost u else State.linkHeld m s u) →
      if 8 ≤ s.slr.consecMissing + (m + 1) then s.linkLost u.missingSlot
      else State.linkHeld (m + 1) s u.missingSlot := by
    intro hs h
    by_cases hm : 8 ≤ s.slr.consecMissing + m
    · rw [if_pos hm] at h
      rw [if_pos (by omega)]
      exact State.missingSlot_keeps_lost h
    · rw [if_neg hm] at h
      obtain ⟨hl, hg, hr, hw⟩ := h
      by_cases hm' : 8 ≤ s.slr.consecMissing + (m + 1)
      · rw [if_pos hm']
        exact State.missingSlot_loses (.inr hl) (by omega)
      · rw [if_neg hm']
        obtain ⟨hl', hg', hr', hw'⟩ := State.missingSlot_holds (s := u) (.inr hl) (by omega)
        refine ⟨hl', hg'.trans hg, ?_, fun x hx => ?_⟩
        · rw [hr', hr, Option.map_map]
          congr 1
          funext p
          simp only [Function.comp_apply]
          omega
        · rw [Function.iterate_succ_apply']
          have h1 := hw' x (hg.trans hx)
          have h2 := sameWindows_push (hw x hx) x
          rw [Function.iterate_one] at h1
          exact h1.trans h2
  unfold State.slotsMissed at h ⊢
  cases hl : s.slr.link with
  | up => simp only [hl] at h ⊢; exact hold (.inl hl) h
  | holding => simp only [hl] at h ⊢; exact hold (.inr hl) h
  | lost =>
    simp only [hl] at h ⊢
    obtain ⟨h1, h2, h3⟩ := h
    rw [State.missingSlot_of_lost h1]
    refine ⟨by simpa using h1, by simpa using h2, ?_⟩
    simpa [allBut_iff] using h3
  | refilling =>
    simp only [hl] at h ⊢
    obtain ⟨h1, h2, h3⟩ := h
    rw [State.missingSlot_of_lost h1]
    refine ⟨by simpa using h1, by simpa using h2, ?_⟩
    simpa [allBut_iff] using h3

/-- R2, R10: the counts and the previous readings after `m` missing frames in a row, one at least. -/
def State.countsMissed (m : Nat) (s u : State) : Prop :=
  u.slr.consecMissing = min 8 (s.slr.consecMissing + m) ∧
  u.slr.totalMissing = min 65535 (s.slr.totalMissing + m) ∧
  u.slr.prevPosition = none ∧ u.slr.prevHandle = none ∧ u.slr.prevReady = none

/-- `m` missing frames in a row have taken their slots. -/
def State.missed (m : Nat) (s u : State) : Prop := State.countsMissed m s u ∧ State.slotsMissed m s u

theorem State.missed_one (s : State) : State.missed 1 s s.missingSlot :=
  ⟨s.missingSlot_counts, s.slotsMissed_one⟩

theorem State.missed_succ (h : State.missed m s u) : State.missed (m + 1) s u.missingSlot := by
  obtain ⟨⟨hc, ht, -⟩, hs⟩ := h
  obtain ⟨hc', ht', hp⟩ := u.missingSlot_counts
  exact ⟨⟨by omega, by omega, hp⟩, State.slotsMissed_succ hs hc⟩

theorem State.missingSlots_succ (n : Nat) (s : State) :
    s.missingSlots (n + 1) = (s.missingSlots n).missingSlot := by
  induction n generalizing s with
  | zero => rfl
  | succ n ih => exact ih s.missingSlot

theorem State.missingSlots_missed (n : Nat) (s : State) :
    State.missed (n + 1) s (s.missingSlots (n + 1)) := by
  induction n with
  | zero => exact s.missed_one
  | succ n ih =>
    rw [State.missingSlots_succ]
    exact State.missed_succ ih

/-- What the missing frames go by is the same (R4 to R7). -/
def Slr.sameCourse (a b : Slr) : Prop :=
  a.link = b.link ∧ a.consecMissing = b.consecMissing ∧ a.totalMissing = b.totalMissing ∧
  a.lastGood = b.lastGood ∧ a.runPos = b.runPos

theorem State.missed_of_modSlr {f : Slr → Slr} (hf : (f s.slr).sameCourse s.slr)
    (h : State.missed m (s.modSlr f) u) : State.missed m s u := by
  obtain ⟨h1, h2, h3, h4, h5⟩ := hf
  simpa [State.missed, State.countsMissed, State.slotsMissed, State.linkLost, State.linkHeld, allBut_iff,
    h1, h2, h3, h4, h5] using h

theorem State.missed_modSlr {f : Slr → Slr} (hf : (f u.slr).sameCourse u.slr)
    (hp : (f u.slr).prevPosition = u.slr.prevPosition ∧ (f u.slr).prevHandle = u.slr.prevHandle ∧
      (f u.slr).prevReady = u.slr.prevReady)
    (h : State.missed m s u) : State.missed m s (u.modSlr f) := by
  obtain ⟨h1, h2, h3, h4, h5⟩ := hf
  obtain ⟨h6, h7, h8⟩ := hp
  simpa [State.missed, State.countsMissed, State.slotsMissed, State.linkLost, State.linkHeld, allBut_iff,
    h1, h2, h3, h4, h5, h6, h7, h8] using h

/-! ## The rows -/

theorem State.restartSilence_missed (h : State.missed m s.restartSilence u) : State.missed m s u :=
  State.missed_of_modSlr ⟨rfl, rfl, rfl, rfl, rfl⟩ h

theorem State.declareMissing_missed (s : State) : State.missed 1 s s.declareMissing :=
  State.missed_of_modSlr ⟨rfl, rfl, rfl, rfl, rfl⟩ (State.missed_one _)

/-- R2, R7: the frames of the gap, and then the frame with its head fault. -/
theorem State.accountSeq_missed (seqNo : Nat) (s : State) :
    State.missed (gapFrames s.slr seqNo + 1) s (s.accountSeq seqNo).missingSlot := by
  dsimp only [State.accountSeq]
  cases gapFrames s.slr seqNo with
  | zero => exact State.missed_of_modSlr (s := s) ⟨rfl, rfl, rfl, rfl, rfl⟩ (State.missed_one _)
  | succ n =>
    exact State.missed_succ (State.missed_modSlr ⟨rfl, rfl, rfl, rfl, rfl⟩ ⟨rfl, rfl, rfl⟩
      (s.missingSlots_missed n))

theorem State.sampleReceived_bad {bytes : List Byte} (h : sampleFrameOk bytes = false) :
    s.sampleReceived bytes = s.restartSilence.declareMissing := by
  simp [State.sampleReceived, h]

theorem State.sampleReceived_fault {bytes : List Byte} (h : sampleFrameOk bytes = true)
    (hf : (decodeSample bytes).headFault = true) : s.sampleReceived bytes =
    (s.restartSilence.accountSeq (decodeSample bytes).seqNo).missingSlot := by
  simp [State.sampleReceived, h, hf]

theorem State.accountSeq_slr (seqNo : Nat) (s : State) :
    (s.accountSeq seqNo).slr.lastSeq = some seqNo ∧ (s.accountSeq seqNo).slr.gapCount = 0 := ⟨rfl, rfl⟩

/-- A row of the sensor link in a part that runs (R189). -/
theorem whenRunning_running {f : State → State} (h : s.part.run = .running) :
    whenRunning f s = (f s).serve := if_pos h

theorem State.declareMissing_slr (s : State) :
    s.restartSilence.declareMissing.slr.gapCount = s.slr.gapCount + 1 ∧
    s.restartSilence.declareMissing.slr.lastSeq = s.slr.lastSeq ∧
    s.restartSilence.declareMissing.slr.silenceLeft = 7 := by
  simp [State.declareMissing, State.restartSilence, Config.silenceTicks]

theorem State.declareMissing_accepted (s : State) : sameAccepted s s.restartSilence.declareMissing := by
  simp [sameAccepted, State.declareMissing, State.restartSilence]

theorem State.faultSlot_slr (seqNo : Nat) (s : State) :
    (s.restartSilence.accountSeq seqNo).missingSlot.slr.gapCount = 0 ∧
    (s.restartSilence.accountSeq seqNo).missingSlot.slr.lastSeq = some seqNo ∧
    (s.restartSilence.accountSeq seqNo).missingSlot.slr.silenceLeft = 7 := by
  simp [State.accountSeq, State.restartSilence, Config.silenceTicks]

theorem State.faultSlot_accepted (seqNo : Nat) (s : State) :
    sameAccepted s (s.restartSilence.accountSeq seqNo).missingSlot := by
  simp [sameAccepted, State.accountSeq, State.restartSilence]

theorem slotBlocks_of_frame (hl : u.lines = s.lines) (hp : u.part = s.part) (ho : u.order = s.order)
    (hq : u.pending = s.pending) :
    AllBut [.slr, .meu, .ele, .store, .sets, .seq, .drv, .lku, .bat, .sup, .rpb, .pkm, .rpc, .fcu]
      s u := by
  simp [allBut_iff, hl, hp, ho, hq]

/-- The row has run `m` slots of missing frames, and has left the sequence accounting so. -/
def State.rowMissed (m gap : Nat) (lastSeq : Option Nat) (s t : State) : Prop :=
  State.missed m s t ∧ sameAccepted s t ∧ t.slr.silenceLeft = 7 ∧ t.slr.gapCount = gap ∧
  t.slr.lastSeq = lastSeq ∧
  AllBut [.slr, .meu, .ele, .store, .sets, .seq, .drv, .lku, .bat, .sup, .rpb, .pkm, .rpc, .fcu] s t

theorem State.declareMissing_row (s : State) :
    State.rowMissed 1 (s.slr.gapCount + 1) s.slr.lastSeq s s.restartSilence.declareMissing := by
  obtain ⟨hgap, hseq, hsil⟩ := s.declareMissing_slr
  exact ⟨State.restartSilence_missed s.restartSilence.declareMissing_missed, s.declareMissing_accepted,
    hsil, hgap, hseq, slotBlocks_of_frame (by simp) (by simp) (by simp) (by simp)⟩

theorem State.faultSlot_row (seqNo : Nat) (s : State) :
    State.rowMissed (gapFrames s.slr seqNo + 1) 0 (some seqNo) s
      (s.restartSilence.accountSeq seqNo).missingSlot := by
  obtain ⟨hgap, hseq, hsil⟩ := s.faultSlot_slr seqNo
  exact ⟨State.restartSilence_missed (s.restartSilence.accountSeq_missed seqNo),
    s.faultSlot_accepted seqNo, hsil, hgap, hseq,
    slotBlocks_of_frame (by simp) (by simp) (by simp) (by simp)⟩

/-- Settles O26: a row of missing frames is a run of slots, one after another. -/
theorem missingFrameTakesItsSlot : Obligations.MissingFrameTakesItsSlot := by
  intro c s m hrun hrow
  suffices h : ∃ t gap lastSeq, exec c s = .next t.serve ∧ State.rowMissed m gap lastSeq s t ∧
      (∀ bytes, c = .sampleFrameReceived bytes → sampleFrameOk bytes = true →
        gap = 0 ∧ lastSeq = some (decodeSample bytes).seqNo) ∧
      ((∀ bytes, c = .sampleFrameReceived bytes → sampleFrameOk bytes = false) →
        gap = s.slr.gapCount + 1 ∧ lastSeq = s.slr.lastSeq) by
    obtain ⟨t, _, _, hx, ⟨⟨⟨hc, ht, hp1, hp2, hp3⟩, hslots⟩, ⟨hpos, hhandle, hready⟩, hsil, rfl, rfl,
      hframe⟩, hgood, hbad⟩ := h
    exact ⟨t, hx, hsil, hgood, hbad, hc, ht, hp1, hp2, hp3, hpos, hhandle, hready, hslots, hframe⟩
  rcases hrow with ⟨rfl, rfl⟩ | ⟨bytes, rfl, ⟨hbad, rfl⟩ | ⟨hok, hfault, rfl⟩⟩
  · exact ⟨_, _, _, congrArg _ (whenRunning_running hrun), s.declareMissing_row,
      fun _ h => (nomatch h), fun _ => ⟨rfl, rfl⟩⟩
  · refine ⟨_, _, _, congrArg _ ((whenRunning_running hrun).trans (congrArg _ (State.sampleReceived_bad hbad))),
      s.declareMissing_row, ?_, fun _ => ⟨rfl, rfl⟩⟩
    rintro _ ⟨⟩ hok
    rw [hbad] at hok
    cases hok
  · refine ⟨_, _, _, congrArg _ ((whenRunning_running hrun).trans
      (congrArg _ (State.sampleReceived_fault hok hfault))), s.faultSlot_row _, ?_, fun h => ?_⟩
    · rintro _ ⟨⟩ -
      exact ⟨rfl, rfl⟩
    · rw [h bytes rfl] at hok
      cases hok

end Sys2Proof.Machine
end

section
/-! Good frames: the total of missing frames (R4), which O25 bounds in states that no reset reaches. -/

namespace Sys2Proof.Machine

variable {s : State}

/-! ## The total of missing frames -/

theorem State.missingSlots_total (n : Nat) (h : s.slr.totalMissing ≤ 65535) :
    (s.missingSlots n).slr.totalMissing ≤ 65535 := by
  cases n with
  | zero => exact h
  | succ n =>
    obtain ⟨⟨-, ht, -⟩, -⟩ := s.missingSlots_missed n
    omega

theorem State.missingSlot_total (s : State) : s.missingSlot.slr.totalMissing ≤ 65535 := by
  obtain ⟨-, ht, -⟩ := s.missingSlot_counts
  omega

/-- A good frame is no missing frame. -/
theorem State.goodSlot_total (f : SampleFrame) (s : State) :
    (s.goodSlot f).slr.totalMissing = s.slr.totalMissing := by
  simp [State.goodSlot, acceptValues]

theorem State.sampleReceived_total (bytes : List Byte) (h : s.slr.totalMissing ≤ 65535) :
    (s.sampleReceived bytes).slr.totalMissing ≤ 65535 := by
  have h1 := State.missingSlots_total (s := s.restartSilence)
    (gapFrames s.restartSilence.slr (decodeSample bytes).seqNo) h
  dsimp only [State.sampleReceived]
  (repeat' split)
  · exact State.missingSlot_total _
  · rw [State.goodSlot_total]
    exact h1
  · exact State.missingSlot_total _

theorem total_ordinary : Ordinary (fun s => s.slr.totalMissing ≤ 65535) where
  store _ h := h
  sets _ h := h
  bat _ h := h
  sup _ h := h
  pkm _ h := h
  rpc _ h := h
  lines _ h := h
  seq _ h := h
  drv _ h := h
  lku _ h := h
  rpb _ h := h
  fcu _ h := h
  shot _ h := h
  clear h := h
  emit e h := by simpa using h
  sealRec c h := by simpa using h
  localSend k f h := by simpa using h
  answerWith r o d h := by simpa using h

/-- Every row keeps the total in the range of R4's counter. -/
theorem total_steady : Steady (fun s => s.slr.totalMissing ≤ 65535) where
  toOrdinary := total_ordinary
  pending _ h := h
  part _ h := h
  ticks _ h := h
  ms _ h := h
  blocks _ := by simp [State.resetBlocks, slrReset]
  sample bytes h := State.sampleReceived_total bytes h
  silence _ := State.missingSlot_total _
  decimation _ h := h
  intake e h := by simpa using h
  rxTake p b h := by simpa using h
  rxIdle p h := by simpa using h
  localSent h := by simpa using h
  begun _ _ h := by simpa [State.begun] using h

/-! ## The refutation -/

/-- The reset state with a total above the counter's top. -/
def overTotal : State := State.reset.modSlr (fun r => { r with totalMissing := 65536 })

/-- A good sample frame, as the head sends it: all channels at 0, closed contacts. -/
def quietFrame : List Byte :=
  encodeSample
    { seqNo := 0, pos := 0, samples := ⟨0, 0, 0, 0, 0, 0, 0, false, false, false, false⟩, cap := 0
      aux := 0, closedSide := true, openSide := false, pulled := false, mechReady := true
      headFault := false }

theorem quietFrame_good :
    sampleFrameOk quietFrame = true ∧ (decodeSample quietFrame).headFault = false := by decide +kernel

theorem State.sampleReceived_good {bytes : List Byte} (h : sampleFrameOk bytes = true)
    (hf : (decodeSample bytes).headFault = false) : s.sampleReceived bytes =
    (s.restartSilence.accountSeq (decodeSample bytes).seqNo).goodSlot (decodeSample bytes) := by
  simp [State.sampleReceived, h, hf]

theorem exec_sampleFrameReceived (bytes : List Byte) (h : s.part.run = .running) :
    exec (.sampleFrameReceived bytes) s = .next (s.sampleReceived bytes).serve :=
  congrArg _ (whenRunning_running h)

/-- No frame is missing before the first one after a reset (R2). -/
theorem overTotal_kept : (overTotal.sampleReceived quietFrame).slr.totalMissing = 65536 := by
  rw [State.sampleReceived_good quietFrame_good.1 quietFrame_good.2, State.goodSlot_total]
  rfl

theorem overTotal_serve :
    (overTotal.sampleReceived quietFrame).serve = overTotal.sampleReceived quietFrame := by
  have h : (overTotal.sampleReceived quietFrame).fcu.intake = [] :=
    (show _ = overTotal.fcu.intake by simp)
  rw [State.serve, h]
  rfl

/-- Refutes O25: it bounds the total of missing frames by 65535 after any good frame, and it speaks of
every state. In `overTotal`, the reset state with a total of 65536, the first good frame reveals no gap
and leaves the total as it is, which is not `min 65535 65536`. What is missing is the premise that the
total is in its range, which every row keeps (`total_steady`): no run reaches `overTotal`. -/
theorem not_goodFrameTakesItsSlot : ¬ Obligations.GoodFrameTakesItsSlot := by
  intro h
  obtain ⟨t, hx, -, -, -, -, htotal, -⟩ :=
    h quietFrame overTotal rfl quietFrame_good.1 quietFrame_good.2
  have hrow : exec (.sampleFrameReceived quietFrame) overTotal =
      .next (overTotal.sampleReceived quietFrame).serve := exec_sampleFrameReceived quietFrame rfl
  have hserve : t.serve.slr.totalMissing = 65536 := by
    rw [← Host.Outcome.next.inj (hrow.symm.trans hx), overTotal_serve, overTotal_kept]
  have hle : t.slr.totalMissing ≤ 65535 := by
    rw [htotal]
    generalize overTotal.slr.totalMissing + _ = n
    omega
  have hkept : t.serve.slr.totalMissing ≤ 65535 := total_steady.serve hle
  omega

end Sys2Proof.Machine
end

section
/-! The shot counter (R22, R56, R66): SequenceLaw and ShotLaw taken apart, the updates that leave
them, and what SEQ has to bring along when it enters a state (R64). -/

namespace Sys2Proof.Machine

variable {s t : State}

/-! ## What the laws of SEQ look at -/

/-- R64, R77: SEQ holds what belongs to its state. -/
def Seq.held (q : Seq) : Prop :=
  q.lockReason.isSome = (q.state == .lockout) ∧
  q.tripCause.isSome = (q.state == .tripping) ∧
  q.closeCause.isSome = (q.state == .closing) ∧
  q.timer.map (fun t => t.kind) = timerOfState q.state ∧
  (q.timer.any (fun t => t.paused) = true → q.state = .reclaim) ∧
  (q.restartMark.isSome = true → q.state = .unknown) ∧
  (q.episode.isSome = true → q.state = .ready ∨ q.state = .reclaim)

/-- The states in which a trip of the sequence is still to come (R69, R71, R76). -/
def SeqState.leavesTrip (st : SeqState) : Prop :=
  st = .openInterval ∨ st = .closeWait ∨ st = .closing ∨ st = .reclaim

/-- R22, R66: the shot counter is within N, which is at least 1 for every group that may be loaded,
and ELE holds a copy of it. -/
structure State.Bounded (s : State) : Prop where
  groups : groupsOk s.store
  trips : 1 ≤ s.sets.live.grp.shots
  shot_le : s.seq.shot ≤ s.sets.live.grp.shots
  copy : s.ele.shotCopy = s.seq.shot

/-- SequenceLaw and ShotLaw but for SET's view: what every operation of SEQ keeps. -/
structure State.OnCourse (s : State) : Prop extends s.Bounded where
  held : s.seq.held
  halted : s.seq.state = .failed ↔ s.drv.state = .halted
  ready : s.seq.state = .ready → s.seq.shot = 0
  leaves : s.seq.state.leavesTrip → s.seq.shot < s.sets.live.grp.shots

/-- The laws with SET's view of SEQ, which is right between arrivals (R56). -/
structure State.Lawful (s : State) : Prop extends s.OnCourse where
  told : s.sets.settledView = seqSettled s

theorem lawful_iff (s : State) : SequenceLaw s ∧ ShotLaw s ↔ s.Lawful := by
  constructor
  · rintro ⟨⟨h1, h2, h3, h4, h5, h6, h7, h8⟩, hg, hn, hs, hc, hr, hl, hv⟩
    exact { groups := hg, trips := hn, shot_le := hs, copy := hc
            held := ⟨h1, h2, h3, h4, h5, h6, h7⟩, halted := h8, ready := hr, leaves := hl,
            told := hv }
  · intro h
    obtain ⟨h1, h2, h3, h4, h5, h6, h7⟩ := h.held
    exact ⟨⟨h1, h2, h3, h4, h5, h6, h7, h.halted⟩, h.groups, h.trips, h.shot_le, h.copy, h.ready,
      h.leaves, h.told⟩

/-! ## Operations that leave the course of SEQ -/

/-- SEQ, SET and ELE's copy are the same, the drive is halted as before, and no group without a shot
has come into the store. -/
def State.quiet (s t : State) : Prop :=
  t.seq = s.seq ∧ t.sets = s.sets ∧ t.ele.shotCopy = s.ele.shotCopy ∧
  (t.drv.state = .halted ↔ s.drv.state = .halted) ∧ (groupsOk s.store → groupsOk t.store)

theorem State.Bounded.of_quiet (h : s.Bounded) (hq : s.quiet t) : t.Bounded := by
  obtain ⟨hseq, hsets, hele, -, hst⟩ := hq
  exact ⟨hst h.groups, hsets ▸ h.trips, by rw [hseq, hsets]; exact h.shot_le,
    by rw [hseq, hele]; exact h.copy⟩

theorem State.OnCourse.of_quiet (h : s.OnCourse) (hq : s.quiet t) : t.OnCourse := by
  obtain ⟨hseq, hsets, -, hdrv, -⟩ := id hq
  exact { toBounded := h.toBounded.of_quiet hq
          held := hseq ▸ h.held
          halted := by rw [hseq, hdrv]; exact h.halted
          ready := hseq ▸ h.ready
          leaves := by rw [hseq, hsets]; exact h.leaves }

theorem seqSettled_congr (h : t.seq = s.seq) : seqSettled t = seqSettled s := by
  simp only [seqSettled, h]

theorem State.Lawful.of_quiet (h : s.Lawful) (hq : s.quiet t) : t.Lawful :=
  { toOnCourse := h.toOnCourse.of_quiet hq
    told := by rw [hq.2.1, seqSettled_congr hq.1]; exact h.told }

/-- An internal operation is of no group (R51). -/
theorem groupsOk_startInternal (table : InternalTable) (r : Option Reply) (s : State) :
    groupsOk (s.startInternal table r).store ↔ ∀ g ∈ s.store.groups, ∀ k ∈ g, 1 ≤ k.shots := by
  cases table <;> simp [groupsOk, State.startInternal, State.startStore, internalBody]

@[simp] theorem groupsOk_requestStore (table : InternalTable) (r : Option Reply) (s : State) :
    groupsOk (s.requestStore table r).store ↔ groupsOk s.store := by
  dsimp only [State.requestStore]
  split
  · have hidle : s.store.inFlight = none := by simpa using ‹s.store.inFlight.isNone = true›
    rw [groupsOk_startInternal]
    simp [groupsOk, hidle]
  · split <;> simp [groupsOk]

@[simp] theorem State.raiseRecharge_state (s : State) :
    s.raiseRecharge.drv.state = s.drv.state := by
  dsimp only [State.raiseRecharge]
  split <;> simp

@[simp] theorem State.lowerRecharge_state (s : State) :
    s.lowerRecharge.drv.state = s.drv.state := by
  dsimp only [State.lowerRecharge]
  split <;> simp

@[simp] theorem State.drvCap_state (v : Nat) (stale : Bool) (s : State) :
    (s.drvCap v stale).drv.state = s.drv.state := by
  dsimp only [State.drvCap]
  (repeat' split) <;> simp

@[simp] theorem State.endOp_state (st : DriveState) (out : OpOutcome) (c : Coil) (s : State) :
    (s.endOp st out c).drv.state = st := rfl

@[simp] theorem State.snapFailure_state (k : FailKind) (s : State) :
    (s.snapFailure k).drv.state = s.drv.state := rfl

@[simp] theorem State.startTrip_state (c : TripCause) (s : State) :
    (s.startTrip c).drv.state = .tripMain := rfl

@[simp] theorem State.tripAtOnce_state (c : TripCause) (s : State) :
    (s.tripAtOnce c).drv.state = s.drv.state := rfl

/-- R91: DRV takes no trip request while it is halted, and halts at none. -/
@[simp] theorem State.drvTrip_halted (c : TripCause) (s : State) :
    (s.drvTrip c).drv.state = .halted ↔ s.drv.state = .halted := by
  cases hd : s.drv.state
  case idle =>
    simp only [State.drvTrip, hd]
    split <;> simp [hd]
  case closeActive => simp [State.drvTrip, State.tripFree, hd]
  all_goals simp [State.drvTrip, hd]

/-- R97: DRV takes no close request while it is halted, and halts at none. -/
@[simp] theorem State.drvClose_halted (c : CloseCause) (s : State) :
    (s.drvClose c).drv.state = .halted ↔ s.drv.state = .halted := by
  have hacc : closeAnswer s = .accepted → s.drv.state = .idle := by
    intro h
    by_contra hd
    simp [closeAnswer, hd] at h
  dsimp only [State.drvClose]
  split
  · simp [hacc ‹_›]
  all_goals rfl

@[simp] theorem State.abandonClose_halted (c : AbandonCause) (s : State) :
    (s.abandonClose c).drv.state = .halted ↔ s.drv.state = .halted := by
  dsimp only [State.abandonClose]
  split
  · rename_i h
    simp [h]
  · rfl

/-- R93: a confirmed trip has not been halted. -/
theorem State.drvTripDone_state (s : State) : s.drvTripDone.drv.state = .idle := by
  dsimp only [State.drvTripDone]
  split <;> rfl

theorem State.drvTrip_quiet (c : TripCause) (s : State) : s.quiet (s.drvTrip c) := by
  simp [State.quiet]

theorem State.drvClose_quiet (c : CloseCause) (s : State) : s.quiet (s.drvClose c) := by
  simp [State.quiet]

theorem State.abandonClose_quiet (c : AbandonCause) (s : State) : s.quiet (s.abandonClose c) := by
  simp [State.quiet]

theorem State.raiseRecharge_quiet (s : State) : s.quiet s.raiseRecharge := by simp [State.quiet]

theorem State.emit_quiet (e : Event) (s : State) : s.quiet (s.emit e) := by simp [State.quiet]

theorem State.requestStore_quiet (table : InternalTable) (r : Option Reply) (s : State) :
    s.quiet (s.requestStore table r) := by simp [State.quiet]

/-! ## Entering a state, and the shot counter -/

@[simp] theorem State.setShot_shot (n : Nat) (s : State) :
    (s.setShot n).seq = { s.seq with shot := n } ∧ (s.setShot n).ele.shotCopy = n := ⟨rfl, rfl⟩

theorem State.Bounded.setShot (h : s.Bounded) {n : Nat} (hn : n ≤ s.sets.live.grp.shots) :
    (s.setShot n).Bounded :=
  ⟨by simpa using h.groups, by simpa using h.trips, by simpa using hn, by simp⟩

/-- SEQ is in the same state with the same shot counter. -/
def Seq.sameStep (a b : Seq) : Prop := a.state = b.state ∧ a.shot = b.shot

theorem State.Bounded.modSeq (h : s.Bounded) {f : Seq → Seq} (hf : (f s.seq).shot = s.seq.shot) :
    (s.modSeq f).Bounded :=
  ⟨h.groups, h.trips, hf.symm ▸ h.shot_le, hf.symm ▸ h.copy⟩

theorem State.OnCourse.modSeq (h : s.OnCourse) {f : Seq → Seq} (hf : (f s.seq).sameStep s.seq)
    (held : (f s.seq).held) : (s.modSeq f).OnCourse := by
  obtain ⟨hstate, hshot⟩ := hf
  exact { toBounded := h.toBounded.modSeq hshot
          held := held
          halted := hstate.symm ▸ h.halted
          ready := by simpa [hstate, hshot] using h.ready
          leaves := by simpa [hstate, hshot] using h.leaves }

@[simp] theorem Seq.entered_state (q : Seq) (st : SeqState) : (q.entered st).state = st := rfl

@[simp] theorem Seq.entered_shot (q : Seq) (st : SeqState) : (q.entered st).shot = q.shot := rfl

/-- SEQ enters a state: what the state does not have is absent (R64, R77), so that only what `f`
adds has to belong to it. -/
theorem State.Bounded.goto (h : s.Bounded) (st : SeqState) {f : Seq → Seq}
    (halted : st = .failed ↔ s.drv.state = .halted)
    (hf : ∀ q, (f q).sameStep q := by exact fun _ => ⟨rfl, rfl⟩)
    (held : (f (s.seq.entered st)).held := by
      simp [Seq.held, Seq.entered, timerOfState, SeqState.followsEpisodes])
    (ready : st = .ready → s.seq.shot = 0 := by simp)
    (leaves : st.leavesTrip → s.seq.shot < s.sets.live.grp.shots := by simp [SeqState.leavesTrip]) :
    ((s.seqGoto st).modSeq f).OnCourse := by
  obtain ⟨hstate, hshot⟩ := hf (s.seq.entered st)
  have hb : (s.seqGoto st).Bounded :=
    ⟨by simpa using h.groups, by simpa using h.trips, by simpa using h.shot_le,
      by simpa using h.copy⟩
  exact { toBounded := hb.modSeq (by simpa using hshot)
          held := by simpa using held
          halted := by simpa [hstate] using halted
          ready := by simpa [hstate, hshot] using ready
          leaves := by simpa [hstate, hshot] using leaves }

theorem State.Bounded.seqHalted (h : s.Bounded) (hd : s.drv.state = .halted) :
    s.seqHalted.OnCourse :=
  h.goto .failed (f := id) (by simpa using hd)

theorem State.Bounded.gotoUnknown (h : s.Bounded) (hd : s.drv.state ≠ .halted) :
    (s.seqGoto .unknown).OnCourse :=
  h.goto .unknown (f := id) (by simpa using hd)

theorem State.Bounded.gotoReady (h : s.Bounded) (hd : s.drv.state ≠ .halted) (h0 : s.seq.shot = 0) :
    (s.seqGoto .ready).OnCourse :=
  h.goto .ready (f := id) (by simpa using hd) (ready := fun _ => h0)

theorem State.Bounded.seqLockout (h : s.Bounded) (hd : s.drv.state ≠ .halted) (r : LockReason) :
    (s.seqLockout r).OnCourse :=
  (h.goto .lockout (f := fun q => { q with lockReason := some r }) (by simpa using hd)).of_quiet
    (State.emit_quiet _ _)

theorem State.Bounded.gotoTripping (h : s.Bounded) (hd : s.drv.state ≠ .halted) (c : TripCause) :
    ((s.seqGoto .tripping).modSeq (fun q => { q with tripCause := some c })).OnCourse :=
  h.goto .tripping (by simpa using hd)

theorem State.Bounded.gotoClosing (h : s.Bounded) (hd : s.drv.state ≠ .halted)
    (hs : s.seq.shot < s.sets.live.grp.shots) (c : CloseCause) :
    ((s.seqGoto .closing).modSeq (fun q => { q with closeCause := some c })).OnCourse :=
  h.goto .closing (by simpa using hd) (leaves := fun _ => hs)

theorem State.Bounded.seqOpenInterval (h : s.Bounded) (hd : s.drv.state ≠ .halted)
    (hs : s.seq.shot < s.sets.live.grp.shots) : s.seqOpenInterval.OnCourse :=
  h.goto .openInterval (f := fun q => { q with timer := some ⟨.openInterval, _, false⟩ })
    (by simpa using hd) (leaves := fun _ => hs)

theorem State.Bounded.seqReclaim (h : s.Bounded) (hd : s.drv.state ≠ .halted)
    (hs : s.seq.shot < s.sets.live.grp.shots) : s.seqReclaim.OnCourse :=
  h.goto .reclaim (f := fun q => { q with timer := some ⟨.reclaim, _, _⟩ })
    (by simpa using hd) (leaves := fun _ => hs)

/-- Outside FAILED the drive is not halted (R83). -/
theorem State.OnCourse.not_halted (h : s.OnCourse) (hs : s.seq.state ≠ .failed) :
    s.drv.state ≠ .halted := fun hd => hs (h.halted.2 hd)

/-- R76: a manual reclaim leaves the last trip. -/
theorem State.OnCourse.seqHandClose (h : s.OnCourse) (hs : s.seq.state ≠ .failed) :
    s.seqHandClose.OnCourse := by
  have ht := h.trips
  refine ((h.setShot (Nat.sub_le _ 1)).modSeq (f := fun q => { q with manualReclaim := true })
    rfl).seqReclaim ?_ ?_
  · simpa using h.not_halted hs
  · simp
    omega

theorem State.OnCourse.seqUnexpected (h : s.OnCourse) (p : Position) :
    (s.seqUnexpected p).OnCourse :=
  h.of_quiet (State.emit_quiet _ _)

end Sys2Proof.Machine
end

section
/-! The operations of SEQ (R67 to R86) and the selections that SET applies (R55 to R60): each keeps
what SEQ holds and the bounds of its shot counter, and an arrival at SEQ ends with SET's view right
(R56). -/

namespace Sys2Proof.Machine

variable {s t : State}

/-! ## Reports from DRV -/

theorem State.OnCourse.seqTripDone (h : s.OnCourse) : s.seqTripDone.OnCourse := by
  dsimp only [State.seqTripDone]
  split
  · rename_i hs
    have hd := h.not_halted (by simp [hs])
    have hlt : ¬ s.seq.shot = s.sets.live.grp.shots → s.seq.shot < s.sets.live.grp.shots :=
      fun hn => lt_of_le_of_ne h.shot_le hn
    dsimp only [State.seqTripEnd]
    (repeat' split)
    exacts [h.seqLockout hd _, h.seqLockout hd _, h.seqLockout hd _, h.seqLockout hd _,
      h.seqLockout hd _, h.seqOpenInterval hd (hlt ‹_›)]
  · exact h

theorem State.OnCourse.seqCloseDone (h : s.OnCourse) : s.seqCloseDone.OnCourse := by
  dsimp only [State.seqCloseDone]
  split
  case h_1 hs =>
    have he := h.of_quiet (State.emit_quiet (.reclose (s.seq.closeCause.getD .auto) s.seq.shot) s)
    exact he.seqReclaim (he.not_halted (by simp [hs]))
      (he.leaves (by simp [hs, SeqState.leavesTrip]))
  case h_2 hs => exact (h.seqUnexpected .closed).seqHandClose (by simp [hs])
  all_goals exact h

theorem State.OnCourse.seqCloseFailed (h : s.OnCourse) : s.seqCloseFailed.OnCourse := by
  dsimp only [State.seqCloseFailed]
  split
  · rename_i hs
    exact h.seqLockout (h.not_halted (by simp [hs])) _
  · exact h

/-- R83, R102: a restored drive takes SEQ out of FAILED. -/
theorem State.Bounded.seqRestored (h : s.Bounded) (hs : s.seq.state = .failed)
    (hd : s.drv.state ≠ .halted) : s.seqRestored.OnCourse := by
  dsimp only [State.seqRestored]
  rw [if_pos hs]
  (repeat' split)
  exacts [h.seqLockout hd _, h.seqLockout hd _,
    (h.setShot (Nat.zero_le _)).gotoReady (by simpa using hd) rfl, h.gotoUnknown hd]

/-! ## Trips -/

theorem tripAnswer_refused_iff (d : Drv) : tripAnswer d = .refused ↔ d.state = .halted := by
  cases hd : d.state
  case idle =>
    simp only [tripAnswer, hd]
    split <;> simp
  all_goals simp [tripAnswer, hd]

/-- R69, R80, R84: a trip that the drive takes. -/
theorem State.Bounded.placeTrip (h : s.Bounded) (hd : s.drv.state ≠ .halted) (c : TripCause)
    (announce : Option Flags4) : (s.placeTrip c announce).OnCourse := by
  have h1 := (h.of_quiet (State.drvTrip_quiet c s)).gotoTripping (by simpa using hd) c
  have h2 : (match announce with
      | some f => (((s.drvTrip c).seqGoto .tripping).modSeq
          (fun q => { q with tripCause := some c })).emit (.trip c (((s.drvTrip c).seqGoto
            .tripping).modSeq (fun q => { q with tripCause := some c })).seq.shot f)
      | none => ((s.drvTrip c).seqGoto .tripping).modSeq
          (fun q => { q with tripCause := some c })).OnCourse := by
    cases announce
    exacts [h1, h1.of_quiet (State.emit_quiet _ _)]
  dsimp only [State.placeTrip]
  rw [if_neg (by rwa [tripAnswer_refused_iff])]
  split
  exacts [h2.seqTripDone, h2]

/-- R69: a protection trip raises the shot counter, which the states that take one leave below N. -/
theorem State.OnCourse.seqProtect (h : s.OnCourse)
    (hs : s.seq.state = .ready ∨ s.seq.state = .reclaim) : s.seqProtect.OnCourse := by
  have hlt : s.seq.shot + 1 ≤ s.sets.live.grp.shots := by
    rcases hs with hs | hs
    · have h0 := h.ready hs
      have ht := h.trips
      omega
    · exact h.leaves (by simp [hs, SeqState.leavesTrip])
  dsimp only [State.seqProtect]
  split
  · exact h
  · rename_i ha
    rw [tripAnswer_refused_iff] at ha
    exact (h.setShot hlt).placeTrip (by simpa using ha) _ _

theorem State.OnCourse.seqTripUnknown (h : s.OnCourse) (hs : s.seq.state = .unknown) (c : TripCause)
    (m : RestartMark) : (s.seqTripUnknown c m).OnCourse := by
  dsimp only [State.seqTripUnknown]
  split
  · have h1 := h.of_quiet (State.drvTrip_quiet c s)
    refine h1.modSeq ⟨rfl, rfl⟩ ?_
    have hh := h1.held
    simp_all [Seq.held]
  · exact h

theorem State.OnCourse.seqTripCommand (h : s.OnCourse) : s.seqTripCommand.OnCourse := by
  have hd := h.not_halted
  dsimp only [State.seqTripCommand]
  split
  case h_1 hs => exact h.placeTrip (hd (by simp [hs])) _ _
  case h_2 hs => exact h.placeTrip (hd (by simp [hs])) _ _
  case h_3 hs => exact h.placeTrip (hd (by simp [hs])) _ _
  case h_4 hs => exact h.seqLockout (hd (by simp [hs])) _
  case h_5 hs => exact h.seqLockout (hd (by simp [hs])) _
  case h_8 hs => exact h.seqTripUnknown hs _ _
  all_goals exact h

theorem State.tellBat_quiet (s : State) : s.quiet s.tellBat := by simp [State.quiet]

theorem State.OnCourse.lowBatteryRequest (h : s.OnCourse) : s.lowBatteryRequest.OnCourse := by
  have hd := h.not_halted
  refine State.OnCourse.of_quiet ?_ (State.tellBat_quiet _)
  dsimp only [State.seqLowBattery]
  split
  case h_1 hs => exact h.placeTrip (hd (by simp [hs])) _ _
  case h_2 hs => exact h.placeTrip (hd (by simp [hs])) _ _
  case h_3 hs => exact h.placeTrip (hd (by simp [hs])) _ _
  case h_4 hs =>
    refine h.modSeq ⟨rfl, rfl⟩ ?_
    have hh := h.held
    simp_all [Seq.held]
  case h_5 hs => exact h.seqLockout (hd (by simp [hs])) _
  case h_6 hs => exact h.seqLockout (hd (by simp [hs])) _
  case h_7 hs => exact h.seqTripUnknown hs _ _
  all_goals exact h

/-! ## Closes -/

theorem State.Bounded.placeClose (h : s.Bounded) (hd : s.drv.state ≠ .halted)
    (hs : s.seq.shot < s.sets.live.grp.shots) (c : CloseCause) (ans : CloseAnswer) :
    (s.placeClose c ans).OnCourse := by
  have h1 := (h.of_quiet (State.drvClose_quiet c s)).gotoClosing (by simpa using hd)
    (by simpa using hs) c
  dsimp only [State.placeClose]
  split
  exacts [h1.seqCloseDone, h1]

theorem State.OnCourse.checkClose (h : s.OnCourse) : s.checkClose.OnCourse := by
  dsimp only [State.checkClose]
  split
  · obtain ⟨hs, -⟩ := ‹_ ∧ _›
    have hd := h.not_halted (by simp [hs])
    have hl := h.leaves (by simp [hs, SeqState.leavesTrip])
    split
    exacts [h.placeClose hd hl _ _, h.placeClose hd hl _ _, h, h]
  · exact h

/-- R71, R72: the open interval leads to CLOSE_WAIT. -/
theorem State.OnCourse.seqCloseWait (h : s.OnCourse) (hs : s.seq.state = .openInterval) :
    s.seqCloseWait.OnCourse :=
  State.OnCourse.checkClose
    (h.goto .closeWait (f := fun q => { q with timer := some ⟨.closeWait, _, false⟩ })
      (by simpa using h.not_halted (by simp [hs]))
      (leaves := fun _ => h.leaves (by simp [hs, SeqState.leavesTrip])))

theorem closeOutcome_done (h : closeOutcome s = .done) :
    s.seq.state = .lockout ∧ s.drv.state = .idle := by
  simp only [closeOutcome] at h
  split at h
  · cases h
  · split at h
    · cases h
    · split at h
      · cases h
      · split at h
        · cases h
        · exact ⟨by_contra ‹_›, by_contra fun hd => ‹¬ (_ ∨ _ ∨ _)› (.inr (.inr hd))⟩

/-- R76, R81: a CLOSE command leaves the last trip. -/
theorem State.OnCourse.seqCloseCommand (h : s.OnCourse) : s.seqCloseCommand.OnCourse := by
  have ht := h.trips
  dsimp only [State.seqCloseCommand]
  split
  · obtain ⟨-, hd⟩ := closeOutcome_done ‹_›
    refine ((h.setShot (Nat.sub_le _ 1)).modSeq (f := fun q => { q with manualReclaim := true })
      rfl).placeClose ?_ ?_ _ _
    · simp [hd]
    · simp
      omega
  · exact h

/-! ## Results from ELE -/

/-- R77: only SEQ in READY or RECLAIM follows an episode. -/
theorem State.OnCourse.setEpisode (h : s.OnCourse)
    (hs : s.seq.state = .ready ∨ s.seq.state = .reclaim) (e : Option Episode) :
    (s.modSeq (fun q => { q with episode := e })).OnCourse := by
  obtain ⟨h1, h2, h3, h4, h5, h6, -⟩ := h.held
  exact h.modSeq ⟨rfl, rfl⟩ ⟨h1, h2, h3, h4, h5, h6, fun _ => hs⟩

theorem State.OnCourse.seqAdvance (h : s.OnCourse) (hs : s.seq.state ≠ .failed)
    (hn : s.seq.shot + 1 < s.sets.live.grp.shots) : s.seqAdvance.OnCourse :=
  ((h.setShot hn.le).seqReclaim (by simpa using h.not_halted hs) (by simpa using hn)).of_quiet
    (State.emit_quiet _ _)

theorem State.OnCourse.seqEpisode (h : s.OnCourse)
    (hs : s.seq.state = .ready ∨ s.seq.state = .reclaim) (r : ElemResult) :
    (s.seqEpisode r).OnCourse := by
  have hset := h.setEpisode hs
  dsimp only [State.seqEpisode]
  split
  · exact hset _
  · split
    · exact hset _
    · split
      · exact h
      · split
        · rename_i hadv
          simp only [advances, Bool.and_eq_true, decide_eq_true_eq] at hadv
          refine (hset none).seqAdvance ?_ hadv.2
          rcases hs with hs | hs <;> simp [hs]
        · exact hset _

/-- R75: a paused timer is still the timer of RECLAIM. -/
theorem State.OnCourse.pauseReclaim (h : s.OnCourse) (hs : s.seq.state = .reclaim) (pause : Bool) :
    (s.modSeq (fun q => { q with timer := pauseTimer pause q.timer })).OnCourse := by
  obtain ⟨h1, h2, h3, h4, -, h6, h7⟩ := h.held
  refine h.modSeq ⟨rfl, rfl⟩ ⟨h1, h2, h3, ?_, fun _ => hs, h6, h7⟩
  cases htimer : s.seq.timer <;> simpa [pauseTimer, htimer] using h4

theorem State.OnCourse.seqResult (h : s.OnCourse) (r : ElemResult) : (s.seqResult r).OnCourse := by
  have h1 := h.modSeq (f := fun q => { q with lastPickup := r.pickup, lastOperate := r.operate })
    ⟨rfl, rfl⟩ h.held
  dsimp only [State.seqResult]
  split
  case h_1 hs =>
    split
    exacts [h1.seqProtect (.inl hs), h1.seqEpisode (.inl hs) r]
  case h_2 hs =>
    split
    exacts [h1.seqProtect (.inr hs), (h1.pauseReclaim hs _).seqEpisode (.inr hs) r]
  all_goals exact h1

theorem State.OnCourse.seqTakeResult (h : s.OnCourse) (r : ElemResult) :
    (s.seqTakeResult r).OnCourse := by
  dsimp only [State.seqTakeResult]
  split
  exacts [(h.seqResult r).checkClose, h.seqResult r]

/-! ## Deliveries and other views -/

/-- A view that SEQ brings up to date is no part of its course (R65, R72). -/
theorem State.OnCourse.seqView (h : s.OnCourse) {f : Seq → Seq} (hf : (f s.seq).sameStep s.seq)
    (held : (f s.seq).held) : (s.seqView f).OnCourse := by
  dsimp only [State.seqView]
  split
  exacts [h.modSeq hf held, (h.modSeq hf held).checkClose]

theorem State.OnCourse.seqCap (h : s.OnCourse) (v : Nat) (stale : Bool) :
    (s.seqCap v stale).OnCourse :=
  h.seqView ⟨rfl, rfl⟩ h.held

theorem State.OnCourse.seqLinkUp (h : s.OnCourse) : s.seqLinkUp.OnCourse :=
  h.seqView ⟨rfl, rfl⟩ h.held

theorem State.OnCourse.seqSource (h : s.OnCourse) (live : Bool) : (s.seqSource live).OnCourse :=
  h.seqView ⟨rfl, rfl⟩ h.held

theorem clearElements_shotCopy (e : Ele) : (clearElements e).shotCopy = e.shotCopy := rfl

theorem State.OnCourse.elePosition (h : s.OnCourse) (d : Delivery) :
    (s.elePosition d).OnCourse := by
  have h1 : (s.modEle (fun e => { e with posView := d.position, posStale := d.stale })).OnCourse :=
    h.of_quiet (by simp [State.quiet])
  dsimp only [State.elePosition]
  split
  · exact (h1.of_quiet (by simp [State.quiet, clearElements_shotCopy])).seqTakeResult _
  · exact h1

theorem State.OnCourse.seqHandle (h : s.OnCourse) (before : Handle) :
    (s.seqHandle before).OnCourse := by
  dsimp only [State.seqHandle]
  split
  · obtain ⟨-, -, hs⟩ := ‹_ ∧ _›
    exact h.seqLockout (h.not_halted hs) _
  · exact h

theorem State.OnCourse.seqLeaveUnknown (h : s.OnCourse) (hs : s.seq.state = .unknown)
    (d : Delivery) : (s.seqLeaveUnknown d).OnCourse := by
  have hd := h.not_halted (by simp [hs])
  dsimp only [State.seqLeaveUnknown]
  split
  · exact h.seqLockout hd _
  · split
    · split
      exacts [h.gotoTripping hd _, (h.setShot (Nat.zero_le _)).gotoReady (by simpa using hd) rfl]
    · exact h.seqLockout hd _
    · exact h

theorem State.OnCourse.seqOpened (h : s.OnCourse) (hs : s.seq.state ≠ .failed) (d : Delivery)
    (changed : Bool) : (s.seqOpened d changed).OnCourse := by
  dsimp only [State.seqOpened]
  split
  exacts [(h.seqUnexpected .opened).seqLockout (by simpa using h.not_halted hs) _, h]

theorem State.OnCourse.seqClosed (h : s.OnCourse) (hs : s.seq.state ≠ .failed) (d : Delivery)
    (changed : Bool) : (s.seqClosed d changed).OnCourse := by
  dsimp only [State.seqClosed]
  split
  exacts [(h.seqUnexpected .closed).seqHandClose (by simpa using hs), h]

theorem State.OnCourse.seqPosition (h : s.OnCourse) (d : Delivery) (changed : Bool) :
    (s.seqPosition d changed).OnCourse := by
  dsimp only [State.seqPosition]
  split
  · exact h
  · split
    case h_2 hs => exact h.seqOpened (by simp [hs]) _ _
    case h_3 hs => exact h.seqOpened (by simp [hs]) _ _
    case h_4 hs => exact h.seqClosed (by simp [hs]) _ _
    case h_5 hs => exact h.seqClosed (by simp [hs]) _ _
    case h_6 hs => exact h.seqClosed (by simp [hs]) _ _
    all_goals exact h

theorem State.OnCourse.seqDelivery (h : s.OnCourse) (d : Delivery) :
    (s.seqDelivery d).OnCourse := by
  have h1 : ((s.modSeq (deliveryViews d)).elePosition d).OnCourse :=
    (h.modSeq ⟨rfl, rfl⟩ h.held).elePosition d
  have h2 : (if ((s.modSeq (deliveryViews d)).elePosition d).seq.state = .unknown ∧ d.stale = false
      then ((s.modSeq (deliveryViews d)).elePosition d).seqLeaveUnknown d
      else (((s.modSeq (deliveryViews d)).elePosition d).seqHandle s.seq.handle).seqPosition d
        (s.seq.position != d.position)).OnCourse := by
    split
    · obtain ⟨hs, -⟩ := ‹_ ∧ _›
      exact h1.seqLeaveUnknown hs d
    · exact (h1.seqHandle _).seqPosition _ _
  dsimp only [State.seqDelivery]
  split
  exacts [h2.checkClose, h2]

/-! ## Tags and timers -/

theorem State.OnCourse.seqNoClose (h : s.OnCourse) : s.seqNoClose.OnCourse := by
  have hd := h.not_halted
  dsimp only [State.seqNoClose]
  split
  case h_1 hs =>
    exact (h.of_quiet (State.abandonClose_quiet .noClose s)).seqLockout
      (by simpa using hd (by simp [hs])) _
  case h_2 hs => exact h.seqLockout (hd (by simp [hs])) _
  case h_3 hs => exact h.seqLockout (hd (by simp [hs])) _
  all_goals exact h

theorem State.OnCourse.seqAnyTag (h : s.OnCourse) : s.seqAnyTag.OnCourse := by
  have hd := h.not_halted
  dsimp only [State.seqAnyTag]
  split
  case h_1 hs => exact h.seqLockout (hd (by simp [hs])) _
  case h_2 hs => exact h.seqLockout (hd (by simp [hs])) _
  case h_3 hs => exact h.modSeq ⟨rfl, rfl⟩ h.held
  all_goals exact h

theorem State.OnCourse.seqTags (h : s.OnCourse) (present noClose : Bool) :
    (s.seqTags present noClose).OnCourse := by
  have h1 := h.modSeq (f := fun q => { q with tagPresent := present, noClosePresent := noClose })
    ⟨rfl, rfl⟩ h.held
  dsimp only [State.seqTags]
  split
  · exact h1.seqNoClose
  · split
    exacts [h1.seqAnyTag, h1.checkClose]

/-- R75: the reclaim time ends the sequence. -/
theorem State.OnCourse.seqReclaimEnd (h : s.OnCourse) (hs : s.seq.state ≠ .failed) :
    s.seqReclaimEnd.OnCourse :=
  (((h.toBounded.of_quiet (State.emit_quiet _ s)).setShot (Nat.zero_le _)).modSeq
    (f := fun q => { q with manualReclaim := false }) rfl).gotoReady
      (by simpa using h.not_halted hs) rfl

/-- R64: a timer that runs is the timer of the state. -/
theorem Seq.held.timerOf {q : Seq} (h : q.held) {k : SeqTimerKind} (hr : timerRuns q k = true) :
    timerOfState q.state = some k := by
  obtain ⟨-, -, -, htimer, -⟩ := h
  obtain ⟨t, ht, hk⟩ : ∃ t, q.timer = some t ∧ t.kind = k := by
    cases ht : q.timer with
    | none => simp [timerRuns, ht] at hr
    | some t =>
      simp only [timerRuns, ht, Option.any_some, Bool.and_eq_true, beq_iff_eq] at hr
      exact ⟨t, rfl, hr.1⟩
  rw [← htimer, ht, Option.map_some, hk]

/-! ## Selections -/

theorem settled_iff (s : State) : seqSettled s = true ↔ s.seq.state = .unknown ∨
    s.seq.state = .lockout ∨ s.seq.state = .failed ∨
    s.seq.state = .ready ∧ s.seq.lastPickup.any = false := by
  cases hs : s.seq.state <;> simp [seqSettled, hs]

/-- R41: after the cleared result of a loading, a settled SEQ is settled. -/
theorem State.seqResult_settled (h : seqSettled s = true) :
    seqSettled (s.seqResult clearResult) = true := by
  rcases (settled_iff s).1 h with hs | hs | hs | ⟨hs, -⟩ <;>
    simp [State.seqResult, State.seqEpisode, clearResult, noFlags, Flags4.any, seqSettled, hs]

/-- R49, R61: a live set has at least one shot. -/
theorem liveSetOf_shots {st : Store} (h : groupsOk st) (g : Option Nat) :
    1 ≤ (liveSetOf st g).grp.shots := by
  simp only [liveSetOf]
  split
  · decide
  · rename_i n
    split
    · decide
    · rename_i k hk
      obtain ⟨o, ho, rfl⟩ : ∃ o, st.groups[n]? = some o ∧ o = some k := by
        simpa [groupAt, Option.join_eq_some_iff] using hk
      exact h.1 _ (List.mem_of_getElem? ho) k rfl

theorem seqSettled_setShot (n : Nat) (s : State) : seqSettled (s.setShot n) = seqSettled s := rfl

/-- R66: outside the states that leave a trip, a shot counter above the new N is lowered to it. -/
theorem State.OnCourse.lowerShot (h : s.OnCourse) (hs : ¬ s.seq.state.leavesTrip) {l : LiveSet}
    (hl : 1 ≤ l.grp.shots) {f : Sets → Sets} (hf : (f s.sets).live = l) :
    (if l.grp.shots < s.seq.shot then ((s.modSets f).modEle clearElements).setShot l.grp.shots
      else (s.modSets f).modEle clearElements).OnCourse := by
  split
  · rename_i hlt
    exact { groups := h.groups, trips := by simpa [hf] using hl, shot_le := by simp [hf]
            copy := rfl
            held := h.held, halted := h.halted
            ready := fun hr => absurd (h.ready hr) (by omega)
            leaves := fun hr => absurd hr hs }
  · rename_i hle
    exact { groups := h.groups, trips := by simpa [hf] using hl, shot_le := by simpa [hf] using hle
            copy := h.copy, held := h.held, halted := h.halted, ready := h.ready
            leaves := fun hr => absurd hr hs }

/-- R55, R85: a live set is loaded while SEQ is settled, and SEQ stays settled. -/
theorem State.OnCourse.takeLive (h : s.OnCourse) (hs : seqSettled s = true) {l : LiveSet}
    (hl : 1 ≤ l.grp.shots) : (s.takeLive l).OnCourse ∧ seqSettled (s.takeLive l) = true := by
  have hnot : ¬ s.seq.state.leavesTrip := by
    rcases (settled_iff s).1 hs with hst | hst | hst | ⟨hst, -⟩ <;> simp [hst, SeqState.leavesTrip]
  have h3 := h.lowerShot hnot hl (f := fun c => { c with live := l, active := l.source }) rfl
  refine ⟨h3.seqResult _, State.seqResult_settled ?_⟩
  split <;> exact hs

/-- R56: while SEQ is settled, and SET knows it, the laws hold. -/
theorem State.OnCourse.lawful_of_settled (h : s.OnCourse) (hs : seqSettled s = true)
    (hv : s.sets.settledView = true) : s.Lawful := { toOnCourse := h, told := hv.trans hs.symm }

/-- SET has the same live set and the same view of SEQ. -/
def Sets.sameLive (a b : Sets) : Prop := a.live = b.live ∧ a.settledView = b.settledView

theorem State.OnCourse.modSets (h : s.OnCourse) {f : Sets → Sets}
    (hf : (f s.sets).live = s.sets.live) : (s.modSets f).OnCourse :=
  { groups := h.groups, trips := by simpa [hf] using h.trips
    shot_le := by simpa [hf] using h.shot_le
    copy := h.copy, held := h.held, halted := h.halted, ready := h.ready
    leaves := by simpa [hf] using h.leaves }

theorem State.Lawful.modSets (h : s.Lawful) {f : Sets → Sets} (hf : (f s.sets).sameLive s.sets) :
    (s.modSets f).Lawful :=
  { toOnCourse := h.toOnCourse.modSets hf.1, told := hf.2.trans h.told }

theorem State.Lawful.requestStore (h : s.Lawful) (table : InternalTable) (r : Option Reply) :
    (s.requestStore table r).Lawful := h.of_quiet (State.requestStore_quiet table r s)

theorem State.Lawful.emit (h : s.Lawful) (e : Event) : (s.emit e).Lawful :=
  h.of_quiet (State.emit_quiet e s)

theorem State.Lawful.applyLoad (h : s.Lawful) (hs : seqSettled s = true) (g : Option Nat)
    (c : SelCause)
    (r : Option Reply) : (s.applyLoad g c r).Lawful := by
  obtain ⟨hc, hset⟩ := h.toOnCourse.takeLive hs (liveSetOf_shots h.groups g)
  have hview : (s.takeLive (liveSetOf s.store g)).sets.settledView = true := by
    dsimp only [State.takeLive]
    rw [(State.seqResult_frame _ _).2.2.1]
    split <;> exact h.told.trans hs
  exact (((hc.lawful_of_settled hset hview).modSets ⟨rfl, rfl⟩).requestStore _ _).emit _

/-- R58, R59: the selection record is written where the return group has changed. -/
theorem State.Lawful.modRet (h : s.Lawful) {f : Sets → Sets} (hf : (f s.sets).sameLive s.sets) :
    (if (s.modSets f).sets.ret = s.sets.ret then s.modSets f
      else (s.modSets f).requestStore .selection none).Lawful := by
  split
  exacts [h.modSets hf, (h.modSets hf).requestStore _ _]

theorem State.Lawful.completeInPlace (h : s.Lawful) (c : SelCause) : (s.completeInPlace c).Lawful :=
  h.modRet ⟨rfl, rfl⟩

theorem State.Lawful.applyPending (h : s.Lawful) (hs : seqSettled s = true) :
    s.applyPending.Lawful := by
  dsimp only [State.applyPending]
  split
  · exact h
  · split
    exacts [h.completeInPlace _, h.applyLoad hs _ _ _]

theorem State.Lawful.applyIfSettled (h : s.Lawful) : s.applyIfSettled.Lawful := by
  dsimp only [State.applyIfSettled]
  split
  exacts [h.applyPending (h.told.symm.trans ‹_›), h]

theorem State.Lawful.setTagged (h : s.Lawful) : s.setTagged.Lawful := by
  dsimp only [State.setTagged]
  split
  · exact h
  · split
    exacts [State.Lawful.applyIfSettled (h.modRet ⟨rfl, rfl⟩), h]

theorem State.Lawful.setUntagged (h : s.Lawful) : s.setUntagged.Lawful := by
  dsimp only [State.setUntagged]
  split
  · exact h
  · split
    exacts [State.Lawful.completeInPlace (h.modSets ⟨rfl, rfl⟩) _,
      State.Lawful.applyIfSettled (h.modSets ⟨rfl, rfl⟩)]

theorem State.Lawful.pendSelection (h : s.Lawful) (g : Nat) : (s.pendSelection g).Lawful := by
  dsimp only [State.pendSelection]
  split
  exacts [State.Lawful.requestStore ((h.modSets ⟨rfl, rfl⟩).modSets ⟨rfl, rfl⟩) _ _,
    h.modSets ⟨rfl, rfl⟩]

/-! ## An arrival at SEQ as a whole -/

/-- R56: the notice to SET makes its view right, and a selection applied at it leaves SEQ
settled. -/
theorem State.OnCourse.settleNotice (h : s.OnCourse) : s.settleNotice.Lawful := by
  have h1 : (s.modSets (fun k => { k with settledView := seqSettled s })).Lawful :=
    { toOnCourse := h.modSets rfl, told := rfl }
  dsimp only [State.settleNotice]
  split
  · exact { toOnCourse := h, told := Eq.symm ‹_› }
  · split
    exacts [h1.applyPending ‹_›, h1]

/-- An arrival whose action keeps the course of SEQ ends with the laws. -/
theorem State.OnCourse.seqArrive {f : State → State} (h : (f s).OnCourse) :
    (s.seqArrive f).Lawful := by
  dsimp only [State.seqArrive]
  refine State.OnCourse.settleNotice ?_
  dsimp only [State.resendTrip]
  split
  exacts [h.lowBatteryRequest, h]

end Sys2Proof.Machine
end

section
/-! The laws of SEQ through the rows: what a row does to another block leaves them, and what it
brings to SEQ comes as an arrival. -/

namespace Sys2Proof.Machine

variable {s t : State}

/-- R22: an E-step leaves ELE's copy of the shot counter. -/
theorem eleStep_shotCopy (l : LiveSet) (m : Magnitudes) (e : Ele) :
    (eleStep l m e).shotCopy = e.shotCopy := by
  simp only [eleStep]
  split <;> rfl

/-- R49: a group that WRITE_GROUP reads has at least one shot. -/
theorem shots_of_readGroup {bs : List Byte} {slot : Nat} {g : Group}
    (h : readGroup bs = some (.contents slot g)) : 1 ≤ g.shots := by
  have hok : groupOk g = true := by
    cases bs with
    | nil => cases h
    | cons b rest =>
      simp only [readGroup] at h
      split at h
      · cases h
      · split at h
        · split at h
          · rename_i hc
            obtain ⟨-, rfl⟩ := GroupArg.contents.inj (Option.some.inj h)
            exact (Bool.and_eq_true_iff.1 hc).2
          · cases h
        · cases h
  simp only [groupOk, within, Bool.and_eq_true, decide_eq_true_eq] at hok
  tauto

theorem openInterval_of_timer {st : SeqState} (h : timerOfState st = some .openInterval) :
    st = .openInterval := by
  revert h
  cases st <;> simp [timerOfState]

namespace State.Lawful

/-! ## The drive (R93 to R104) -/

theorem raiseRecharge (h : s.Lawful) : s.raiseRecharge.Lawful := h.of_quiet s.raiseRecharge_quiet

/-- R93, R98: a confirmation ends an operation of a drive that is not halted. -/
theorem drvConfirm (h : s.Lawful) (news : Bool) (d : Delivery) : (s.drvConfirm news d).Lawful := by
  dsimp only [State.drvConfirm]
  split
  · rename_i hc
    have hd : s.drv.state ≠ .halted := by
      intro hd
      simp [confirmsTrip, hd] at hc
    have hq : s.quiet s.drvTripDone := by simp [State.quiet, State.drvTripDone_state, hd]
    exact (h.toOnCourse.of_quiet hq).seqTripDone.seqArrive.raiseRecharge
  · split
    · rename_i hc
      have hd : s.drv.state ≠ .halted := by
        intro hd
        simp [confirmsClose, hd] at hc
      have hq : s.quiet s.drvCloseDone := by
        simp [State.quiet, State.drvCloseDone, hd]
      exact (h.toOnCourse.of_quiet hq).seqCloseDone.seqArrive.raiseRecharge
    · exact h

theorem drvDelivery (h : s.Lawful) (d : Delivery) : (s.drvDelivery d).Lawful := by
  have h1 : (s.drvViews d).Lawful := h.of_quiet (by simp [State.quiet, State.drvViews])
  dsimp only [State.drvDelivery]
  refine drvConfirm ?_ _ _
  split
  exacts [h1.of_quiet (State.abandonClose_quiet _ _), h1]

/-- R94: the first period of a trip monitor changes the coil, or is extended. -/
theorem firstPeriod (h : s.Lawful) (hd : s.drv.state = .tripMain) : s.firstPeriod.Lawful := by
  refine h.of_quiet ?_
  dsimp only [State.firstPeriod]
  split <;> simp [State.quiet, hd]

/-- R95: the halted drive is reported to SEQ. -/
theorem drvHalt (h : s.Lawful) : (s.drvHalt.seqArrive State.seqHalted).raiseRecharge.Lawful := by
  have hb : s.drvHalt.Bounded :=
    ⟨by simpa [State.drvHalt] using h.groups, by simpa using h.trips, by simpa using h.shot_le,
      by simpa using h.copy⟩
  exact (State.OnCourse.seqArrive (hb.seqHalted rfl)).raiseRecharge

theorem tripMonitorEnd (h : s.Lawful) : s.tripMonitorEnd.Lawful := by
  dsimp only [State.tripMonitorEnd]
  split
  · exact h
  · split
    case h_1 hd =>
      split
      exacts [h.drvHalt, h.firstPeriod hd]
    case h_2 => exact h.drvHalt
    all_goals exact h

theorem closeMonitorEnd (h : s.Lawful) : s.closeMonitorEnd.Lawful := by
  dsimp only [State.closeMonitorEnd]
  split
  · obtain ⟨-, hd⟩ := ‹_ ∧ _›
    have hq : s.quiet s.drvCloseFail := by simp [State.quiet, State.drvCloseFail, hd]
    exact (h.toOnCourse.of_quiet hq).seqCloseFailed.seqArrive.raiseRecharge
  · exact h

/-- R102: the restore of a halted drive is reported to SEQ, which is in FAILED. -/
theorem drvRestore (h : s.Lawful) (hd : s.drv.state = .halted) :
    (s.drvRestore.seqArrive State.seqRestored).Lawful := by
  have hb : s.drvRestore.Bounded :=
    ⟨by simpa using h.groups, by simpa using h.trips, by simpa using h.shot_le,
      by simpa using h.copy⟩
  exact State.OnCourse.seqArrive (hb.seqRestored (by simpa using h.halted.2 hd)
    (by simp [State.drvRestore]))

/-! ## The sensor link (R1 to R20) -/

theorem deliver (h : s.Lawful) : s.deliver.Lawful := by
  have hseq : ∀ (d : Delivery) (u : State), u.Lawful → (u.seqArrive (State.seqDelivery d)).Lawful :=
    fun d _ hu => (hu.seqDelivery d).seqArrive
  have hlku : ∀ (d : Delivery) (u : State), u.Lawful → (u.lkuHandle d).Lawful :=
    fun d _ hu => hu.of_quiet (by simp [State.quiet])
  dsimp only [State.deliver]
  refine hlku _ _ ?_
  split
  exacts [hseq _ _ (h.drvDelivery _), (hseq _ _ h).drvDelivery _]

theorem eStep (h : s.Lawful) : s.eStep.Lawful := by
  have h2 : ((s.modMeu (measure s.sets.live.grp)).modEle
      (eleStep s.sets.live (measure s.sets.live.grp s.meu).mags)).Lawful :=
    h.of_quiet (by simp [State.quiet, eleStep_shotCopy])
  have h3 := (h2.seqTakeResult (stepResult s.ele
    (eleStep s.sets.live (measure s.sets.live.grp s.meu).mags s.ele))).seqArrive
  have hp : ∀ (m : Nat) (u : State), u.Lawful → (u.profileStep m).Lawful :=
    fun _ _ hu => hu.of_quiet (by simp [State.quiet])
  dsimp only [State.eStep]
  refine hp _ _ ?_
  split
  exacts [h3, (h3.seqSource _).seqArrive]

theorem stepAndDeliver (h : s.Lawful) (estep delivery : Bool) :
    (s.stepAndDeliver estep delivery).Lawful := by
  have he : ∀ u : State, u.Lawful → (if estep then u.eStep else u).Lawful := by
    intro u hu
    split
    exacts [hu.eStep, hu]
  have hd : ∀ u : State, u.Lawful → (if delivery then u.deliver else u).Lawful := by
    intro u hu
    split
    exacts [hu.deliver, hu]
  dsimp only [State.stepAndDeliver]
  split
  exacts [he _ (hd _ h), hd _ (he _ h)]

theorem modSlr (h : s.Lawful) (f : Slr → Slr) : (s.modSlr f).Lawful :=
  h.of_quiet (by simp [State.quiet])

theorem modMeu (h : s.Lawful) (f : Meu → Meu) : (s.modMeu f).Lawful :=
  h.of_quiet (by simp [State.quiet])

theorem loseLink (h : s.Lawful) : s.loseLink.Lawful :=
  h.of_quiet (by simp [State.quiet, State.loseLink])

theorem holdSlot (h : s.Lawful) : s.holdSlot.Lawful := h.of_quiet (by simp [State.quiet])

theorem missingSlot (h : s.Lawful) : s.missingSlot.Lawful := by
  have h1 : s.countMissing.Lawful := h.modSlr _
  have h2 : (s.countMissing.modSlr (fun r => { r with link := .holding })).updateSetpoints.Lawful :=
    h1.of_quiet (by simp [State.quiet])
  dsimp only [State.missingSlot]
  split
  · split
    exacts [(h1.loseLink.emit _).deliver, h2.holdSlot.stepAndDeliver _ _]
  · split
    exacts [h1.loseLink.emit _, h1.holdSlot.stepAndDeliver _ _]
  · exact h1
  · exact (h1.modSlr _).modMeu _

theorem missingSlots (h : s.Lawful) (n : Nat) : (s.missingSlots n).Lawful := by
  induction n generalizing s with
  | zero => exact h
  | succ n ih => exact ih h.missingSlot

theorem linkUpNotices (h : s.Lawful) (before : Link) : (s.linkUpNotices before).Lawful := by
  have hup : ∀ u : State, u.Lawful → (u.updateSetpoints.seqArrive State.seqLinkUp).Lawful := by
    intro u hu
    have h1 : u.updateSetpoints.OnCourse := hu.toOnCourse.of_quiet (by simp [State.quiet])
    exact h1.seqLinkUp.seqArrive
  dsimp only [State.linkUpNotices]
  split
  · refine hup _ ?_
    split
    exacts [h, h.emit _]
  · exact h

theorem accepted (h : s.Lawful) (f : SampleFrame) : (s.accepted f).Lawful := by
  have h1 : (s.goodLink f).Lawful := h.of_quiet (by simp [State.quiet])
  have hcap : ∀ (u : State) (stale : Bool), u.Lawful →
      ((u.drvCap f.cap stale).seqArrive (State.seqCap f.cap stale)).Lawful := by
    intro u stale hu
    have h2 : (u.drvCap f.cap stale).OnCourse := hu.toOnCourse.of_quiet (by simp [State.quiet])
    exact (h2.seqCap _ _).seqArrive
  exact (hcap _ _ (h1.linkUpNotices _)).modSlr _

theorem goodSlot (h : s.Lawful) (f : SampleFrame) : (s.goodSlot f).Lawful := by
  rw [State.goodSlot_eq]
  exact ((h.accepted f).stepAndDeliver (s.stepsAt f) (s.delivers f)).of_quiet
    (by simp [State.quiet])

theorem declareMissing (h : s.Lawful) : s.declareMissing.Lawful := (h.modSlr _).missingSlot

theorem sampleReceived (h : s.Lawful) (bytes : List Byte) : (s.sampleReceived bytes).Lawful := by
  have h1 : s.restartSilence.Lawful := h.modSlr _
  have h2 : (s.restartSilence.accountSeq (decodeSample bytes).seqNo).Lawful :=
    (h1.missingSlots _).modSlr _
  dsimp only [State.sampleReceived]
  (repeat' split)
  exacts [h2.missingSlot, h2.goodSlot _, h1.declareMissing]

/-! ## Timers of SEQ and BAT's request -/

/-- An expiry whose timer runs finds SEQ in the timer's state. -/
theorem seqExpiry (h : s.Lawful) (k : SeqTimerKind) {f : State → State}
    (hf : timerOfState s.seq.state = some k → (f s).OnCourse) : (s.seqExpiry k f).Lawful := by
  dsimp only [State.seqExpiry]
  split
  exacts [(hf (h.held.timerOf ‹_›)).seqArrive, h]

theorem intervalExpiry (h : s.Lawful) : (s.seqExpiry .openInterval State.seqIntervalEnd).Lawful :=
  h.seqExpiry _ fun ht => h.seqCloseWait (openInterval_of_timer ht)

theorem waitExpiry (h : s.Lawful) : (s.seqExpiry .closeWait State.seqWaitEnd).Lawful :=
  h.seqExpiry _ fun ht => h.seqLockout (h.not_halted fun hs => by simp [hs, timerOfState] at ht) _

theorem reclaimExpiry (h : s.Lawful) : (s.seqExpiry .reclaim State.seqReclaimEnd).Lawful :=
  h.seqExpiry _ fun ht => h.seqReclaimEnd fun hs => by simp [hs, timerOfState] at ht

theorem secondEnd (h : s.Lawful) : s.secondEnd.Lawful := by
  have h1 : ((s.secondMeans (meanOf s.bat.voltSum s.bat.voltCount)
      (meanOf s.bat.ampSum s.bat.ampCount)).qualify
        (meanOf s.bat.voltSum s.bat.voltCount)).Lawful :=
    h.of_quiet (by simp [State.quiet])
  dsimp only [State.secondEnd, State.sendIfPending]
  split
  exacts [h1.lowBatteryRequest.seqArrive, h1]

/-! ## Tags -/

theorem tagNotices (h : s.Lawful) (before : List Tag) : (s.tagNotices before).Lawful := by
  have hset : ∀ (now : List Tag) (u : State), u.Lawful → (if anyTag before = anyTag now then u
      else if anyTag now then u.setTagged else u.setUntagged).Lawful := by
    intro now u hu
    split
    · exact hu
    · split
      exacts [hu.setTagged, hu.setUntagged]
  have hseq : ∀ (now : List Tag) (u : State), u.Lawful →
      (if anyTag before = anyTag now ∧ anyNoClose before = anyNoClose now then u
        else u.seqArrive (State.seqTags (anyTag now) (anyNoClose now))).Lawful := by
    intro now u hu
    split
    exacts [hu, (hu.seqTags _ _).seqArrive]
  dsimp only [State.tagNotices]
  split
  exacts [hseq _ _ (hset _ _ h), hset _ _ (hseq _ _ h)]

/-- A change of the store that reaches neither the groups nor the operation in flight. -/
theorem modStore (h : s.Lawful) {f : Store → Store} (hg : (f s.store).groups = s.store.groups)
    (hi : (f s.store).inFlight = s.store.inFlight) : (s.modStore f).Lawful :=
  h.of_quiet (by simp [State.quiet, groupsOk, hg, hi])

theorem modLku (h : s.Lawful) (f : Lku → Lku) : (s.modLku f).Lawful :=
  h.of_quiet (by simp [State.quiet])

theorem effectTags (h : s.Lawful) (cs : List TagChange) : (s.effectTags cs).Lawful := by
  induction cs generalizing s with
  | nil => exact h
  | cons c cs ih => exact ih (h.of_quiet (by simp [State.quiet, State.effectTag, groupsOk]))

theorem tagsStored (h : s.Lawful) (cs : List TagChange) : (s.tagsStored cs).Lawful := by
  dsimp only [State.tagsStored]
  exact ((h.effectTags cs).tagNotices s.lku.inForce).of_quiet (by simp [State.quiet])

theorem stageTag (h : s.Lawful) (c : TagChange) : (s.stageTag c).Lawful :=
  (h.modLku _).requestStore _ _

theorem countdownEnd (h : s.Lawful) (crew : Nat) : (s.countdownEnd crew).Lawful := by
  dsimp only [State.countdownEnd, State.tagExpires]
  (repeat' split)
  exacts [h.modLku _, (h.modLku _).stageTag _, h]

/-! ## Store operations (R51, R52) -/

/-- A write that a command starts is of no group without a shot (R49). -/
theorem startStore (h : s.Lawful) (b : StoreBody) (r : Option Reply)
    (hb : ∀ slot k, b = .group slot (some k) → 1 ≤ k.shots) : (s.startStore b r).Lawful := by
  refine h.of_quiet ?_
  simp only [State.quiet, State.startStore_frame, true_and]
  refine fun hg => ⟨hg.1, ?_⟩
  rintro _ ⟨⟩
  dsimp only
  split
  exacts [hb _ _ rfl, trivial]

theorem written (h : s.Lawful) (table index : Nat) (r : Option Reply) :
    (s.written table index r).Lawful := h.of_quiet (by simp [State.quiet])

theorem groupStored (h : s.Lawful) (slot : Nat) (g : Option Group) (hg : ∀ k ∈ g, 1 ≤ k.shots) :
    (s.groupStored slot g).Lawful := by
  have h1 : (s.modStore (fun st => { st with groups := st.groups.set slot g })).Lawful := by
    refine h.of_quiet ?_
    simp only [State.quiet, State.modStore_seq, State.modStore_sets, State.modStore_ele,
      State.modStore_drv, State.modStore_store, true_and]
    refine fun hst => ⟨fun g' hg' => ?_, hst.2⟩
    rcases List.mem_or_eq_of_mem_set hg' with hm | rfl
    exacts [hst.1 g' hm, hg]
  dsimp only [State.groupStored, State.dropPendingOf]
  (repeat' split)
  exacts [(h1.modSets ⟨rfl, rfl⟩).emit _, h1, h1]

theorem storeFree (h : s.Lawful) : s.storeFree.Lawful := by
  have hg := h.groups.1
  refine h.of_quiet ?_
  simp only [State.quiet, State.storeFree_frame, true_and]
  dsimp only [State.storeFree]
  split
  exacts [fun _ => ⟨hg, by simp⟩, fun _ => (groupsOk_startInternal _ _ _).2 hg]

theorem storeComplete (h : s.Lawful) : s.storeComplete.Lawful := by
  dsimp only [State.storeComplete]
  split
  · exact h
  · rename_i op hop
    refine storeFree ?_
    have hgroup := h.groups.2 op hop
    dsimp only [State.completeStore]
    split
    · exact (h.modStore rfl rfl).written _ _ _
    · rename_i slot g hb
      refine (h.groupStored slot g ?_).written _ _ _
      rintro k rfl
      simpa [hb] using hgroup
    · exact (h.modStore rfl rfl).written _ _ _
    · exact h.of_quiet (by simp [State.quiet, groupsOk])
    · exact h.tagsStored _
    · exact (h.modStore rfl rfl).written _ _ _
    · exact (h.of_quiet (by simp [State.quiet, groupsOk])).written _ _ _
    · exact (h.of_quiet (by simp [State.quiet, groupsOk])).written _ _ _
    · exact (h.of_quiet (by simp [State.quiet, groupsOk])).written _ _ _
    · exact h.modStore rfl rfl

/-! ## Resets (R189, R190) -/

/-- A reset keeps the groups and leaves SEQ in UNKNOWN with a shot counter of 0. -/
theorem resetBlocks (hg : groupsOk s.store) : s.resetBlocks.Lawful where
  groups := ⟨hg.1, by simp [State.resetBlocks, keptStore]⟩
  trips := by simp [State.resetBlocks, setsReset, builtinLive, builtinGroup]
  shot_le := by simp [State.resetBlocks, seqReset]
  copy := rfl
  held := by simp [State.resetBlocks, seqReset, Seq.held, timerOfState]
  halted := by simp [State.resetBlocks, seqReset, drvReset]
  ready := fun _ => rfl
  leaves := by simp [State.resetBlocks, seqReset, SeqState.leavesTrip]
  told := rfl

theorem resetSets (h : s.Lawful) (hs : s.seq.state = .unknown) (h0 : s.seq.shot = 0) :
    s.resetSets.Lawful := by
  have hload : ∀ f : Sets → Sets, (∃ g, (f s.sets).live = liveSetOf s.store g) →
      (f s.sets).settledView = s.sets.settledView → (s.modSets f).Lawful := by
    rintro f ⟨g, hl⟩ hv
    exact { groups := h.groups, trips := by simpa [hl] using liveSetOf_shots h.groups g
            shot_le := by simp [h0], copy := h.copy, held := h.held, halted := h.halted
            ready := h.ready, leaves := by simp [hs, SeqState.leavesTrip], told := hv.trans h.told }
  exact (hload _ ⟨_, rfl⟩ rfl).requestStore _ _

theorem modPart (h : s.Lawful) (f : Part → Part) : (s.modPart f).Lawful :=
  h.of_quiet (by simp [State.quiet])

theorem modLines (h : s.Lawful) (f : Lines → Lines) : (s.modLines f).Lawful :=
  h.of_quiet (by simp [State.quiet])

theorem resetSeq (h : s.Lawful) : s.resetSeq.Lawful :=
  { toOnCourse := h.modSeq ⟨rfl, rfl⟩ h.held, told := h.told }

theorem resetAs (h : s.Lawful) (c : ResetCause) : (s.resetAs c).Lawful := by
  have h1 : (s.resetBlocks.modPart (fun _ =>
      { run := .running, resetQual := startQual s.resetBlocks.lines })).resetSets.Lawful :=
    ((resetBlocks h.groups).modPart _).resetSets rfl rfl
  have h2 : (s.resetBlocks.modPart (fun _ =>
      { run := .running, resetQual := startQual s.resetBlocks.lines })).resetSets.resetLku.Lawful :=
    h1.modLku _
  dsimp only [State.resetAs, State.startPart]
  exact h2.resetSeq.of_quiet (by simp [State.quiet])

theorem resetTaken (h : s.Lawful) : s.resetTaken.Lawful := by
  dsimp only [State.resetTaken]
  split
  exacts [(resetBlocks h.groups).modPart _, h]

theorem resetReleased (h : s.Lawful) : s.resetReleased.Lawful := by
  dsimp only [State.resetReleased]
  split
  exacts [(h.modLines _).resetAs _, (h.modLines _).modPart _]

theorem resetAsserted (h : s.Lawful) : s.resetAsserted.Lawful := by
  dsimp only [State.resetAsserted]
  split
  exacts [(h.modLines _).modPart _, h.modLines _]

/-! ## The clock (R187) -/

theorem countTicks (h : s.Lawful) (n : Nat) : (s.countTicks n).Lawful :=
  h.of_quiet (by simp [State.quiet])

theorem countMs (h : s.Lawful) (k : Nat) : (s.countMs k).Lawful := by
  have hkind : ∀ t : SeqTimer, (t.lessBy k).kind = t.kind ∧ (t.lessBy k).paused = t.paused := by
    intro t
    simp only [SeqTimer.lessBy]
    split <;> exact ⟨rfl, rfl⟩
  have htimer : (s.seq.timer.map (SeqTimer.lessBy k)).map (fun t => t.kind) =
        s.seq.timer.map (fun t => t.kind) ∧
      (s.seq.timer.map (SeqTimer.lessBy k)).any (fun t => t.paused) =
        s.seq.timer.any (fun t => t.paused) := by
    cases s.seq.timer <;> simp [hkind]
  obtain ⟨h1, h2, h3, h4, h5, h6, h7⟩ := h.held
  exact { groups := ⟨h.groups.1, by simpa [State.countMs] using h.groups.2⟩
          trips := h.trips, shot_le := h.shot_le, copy := h.copy
          held := ⟨h1, h2, h3, htimer.1.trans h4, fun hp => h5 (htimer.2.symm.trans hp), h6, h7⟩
          halted := h.halted, ready := h.ready, leaves := h.leaves, told := h.told }

theorem modFcu (h : s.Lawful) (f : Fcu → Fcu) : (s.modFcu f).Lawful :=
  h.of_quiet (by simp [State.quiet])

theorem tick (h : s.Lawful) : s.tick.Lawful := by
  dsimp only [State.tick]
  split
  exacts [(h.countTicks 1).modFcu _, ((h.countTicks 1).countMs 1).modFcu _]

theorem partSecond (h : s.Lawful) : s.partSecond.Lawful := by
  have h1 : ∀ u : State, u.Lawful →
      (u.modFcu (fun f => { f with secondTick := false })).rpcPower.Lawful :=
    fun _ hu => hu.of_quiet (by simp [State.quiet])
  dsimp only [State.partSecond]
  refine h1 _ ?_
  split
  exacts [h, (h.countTicks _).countMs _]

/-! ## The execution of commands (R183) -/

theorem answer (h : s.Lawful) (r : Option Reply) (o : CmdOutcome) : (s.answer r o).Lawful :=
  h.of_quiet (by simp [State.quiet])

theorem selectGroup (h : s.Lawful) (e : IntakeEntry) (r : Option Reply) :
    (bodySelectGroup e r s).Lawful := by
  dsimp only [bodySelectGroup]
  (repeat' split)
  exacts [h.answer _ _, h.answer _ _, h.answer _ _, h.answer _ _,
    h.applyLoad (h.told.symm.trans ‹_›) _ _ _, (h.pendSelection _).answer _ _]

theorem writeGroup (h : s.Lawful) (e : IntakeEntry) (r : Option Reply) :
    (bodyWriteGroup e r s).Lawful := by
  dsimp only [bodyWriteGroup, State.clearGroup]
  split
  · rename_i slot g hg
    split
    · refine h.startStore _ _ ?_
      rintro _ _ ⟨⟩
      exact shots_of_readGroup hg
    · exact h.answer _ _
  · (repeat' split)
    exacts [h.answer _ _, h.answer _ _, h.answer _ _, h.startStore _ _ (by simp)]
  · exact h.answer _ _

/-- What the owner of a command does with it. -/
theorem body (h : s.Lawful) (k : Option CmdKind) (e : IntakeEntry) (r : Option Reply) :
    (bodyOf k e r s).Lawful := by
  have ha := fun o => h.answer r o
  have hstart : ∀ b : StoreBody, (∀ slot g, b ≠ .group slot g) → (s.startStore b r).Lawful :=
    fun b hb => h.startStore b r fun slot k hk => absurd hk (hb slot (some k))
  match k with
  | none => exact ha _
  | some .readStatus =>
    dsimp only [bodyOf, bodyReadStatus]
    split
    exacts [h.of_quiet (by simp [State.quiet]), ha _]
  | some .readTable =>
    dsimp only [bodyOf, bodyReadTable]
    split
    exacts [h.of_quiet (by simp [State.quiet]), ha _]
  | some .selectGroup => exact h.selectGroup e r
  | some .setTime =>
    dsimp only [bodyOf, bodySetTime]
    split
    exacts [h.of_quiet (by simp [State.quiet]), ha _]
  | some .sampleForward =>
    dsimp only [bodyOf, bodySampleForward]
    split
    exacts [h.of_quiet (by simp [State.quiet]), ha _]
  | some .trip =>
    dsimp only [bodyOf, bodyTrip]
    split
    exacts [h.seqTripCommand.seqArrive.answer _ _, ha _]
  | some .close =>
    dsimp only [bodyOf, bodyClose]
    split
    exacts [h.seqCloseCommand.seqArrive.answer _ _, ha _]
  | some .placeTag =>
    dsimp only [bodyOf, bodyPlaceTag]
    (repeat' split)
    exacts [ha _, ha _, h.stageTag _, ha _, h.stageTag _]
  | some .removeTag =>
    dsimp only [bodyOf, bodyRemoveTag]
    (repeat' split)
    exacts [ha _, ha _, h.stageTag _, ha _]
  | some .testStart =>
    dsimp only [bodyOf, bodyTestStart]
    (repeat' split)
    exacts [ha _, ha _, h.of_quiet (by simp [State.quiet]), ha _]
  | some .testCancel =>
    dsimp only [bodyOf, bodyTestCancel]
    (repeat' split)
    exacts [ha _, ha _, h.of_quiet (by simp [State.quiet])]
  | some .writeCurve =>
    dsimp only [bodyOf, bodyWriteCurve]
    split
    exacts [hstart _ (by simp), ha _]
  | some .clearCurve =>
    dsimp only [bodyOf, bodyClearCurve]
    (repeat' split)
    exacts [ha _, ha _, ha _, ha _, hstart _ (by simp)]
  | some .writeGroup => exact h.writeGroup e r
  | some .writeDevice =>
    dsimp only [bodyOf, bodyWriteDevice]
    split
    exacts [hstart _ (by simp), ha _]
  | some .writeBattery =>
    dsimp only [bodyOf, bodyWriteBattery]
    (repeat' split)
    exacts [ha _, ha _, hstart _ (by simp), ha _]
  | some .writeRadio =>
    dsimp only [bodyOf, bodyWriteRadio]
    split
    exacts [hstart _ (by simp), ha _]
  | some .writeAreas =>
    dsimp only [bodyOf, bodyWriteAreas]
    split
    exacts [hstart _ (by simp), ha _]
  | some .flushClass =>
    dsimp only [bodyOf, bodyFlushClass]
    split
    exacts [h.of_quiet (by simp [State.quiet]), ha _]
  | some .driveRestore =>
    dsimp only [bodyOf, bodyDriveRestore]
    (repeat' split)
    exacts [ha _, (h.drvRestore ‹_›).answer _ _,
      h.of_quiet (by simp [State.quiet, State.drvRestore, *]), ha _, ha _, ha _]
  | some .restart =>
    dsimp only [bodyOf, bodyRestart]
    (repeat' split)
    exacts [ha _, h.resetAs _, ha _]
  | some .writeGates =>
    dsimp only [bodyOf, bodyWriteGates]
    split
    exacts [hstart _ (by simp), ha _]

theorem serve (h : s.Lawful) : s.serve.Lawful := by
  refine State.serve_ind (fun u e rest hi _ hu => ?_) h
  have hb : (u.begun e).Lawful := hu.of_quiet (by simp [State.quiet])
  rw [State.executeHead_eq hi]
  split
  exacts [hb.answer _ _, hb.body _ _ _]

/-! ## Rows and steps -/

theorem whenRunning (h : s.Lawful) {f : State → State} (hf : (f s).Lawful) :
    (Machine.whenRunning f s).Lawful := by
  dsimp only [Machine.whenRunning]
  split
  exacts [hf.serve, h]

/-- A row whose own effect leaves the course of SEQ. -/
theorem quietRow (h : s.Lawful) {f : State → State} (hq : s.quiet (f s)) :
    (Machine.whenRunning f s).Lawful := h.whenRunning (h.of_quiet hq)

/-- A row that follows an input line in every run state (R189). -/
theorem edge (h : s.Lawful) {f : State → State} (hq : s.quiet (f s)) (g : Lines → Lines) :
    (if s.part.run = .running then (f s).serve else s.modLines g).Lawful := by
  split
  exacts [(h.of_quiet hq).serve, h.modLines _]

theorem rxBytes (h : s.Lawful) (p : Port) (bs : List Byte) : (s.rxBytes p bs).Lawful := by
  induction bs generalizing s with
  | nil => exact h
  | cons b bs ih =>
    refine ih ?_
    have h1 : (s.setRx p ((s.fcu.rx p).take b).1).Lawful := h.of_quiet (by simp [State.quiet])
    dsimp only [State.rxByte]
    split
    exacts [h1, serve (h1.of_quiet (by simp [State.quiet]))]

theorem exec (h : s.Lawful) (c : Instr) : ∃ t, exec c s = .next t ∧ t.Lawful := by
  cases c with
  | sampleFrameReceived bytes => exact ⟨_, rfl, h.whenRunning (h.sampleReceived bytes)⟩
  | silenceTimerExpiry => exact ⟨_, rfl, h.whenRunning (declareMissing (h.modSlr _))⟩
  | openIntervalExpiry => exact ⟨_, rfl, h.whenRunning h.intervalExpiry⟩
  | closeWaitExpiry => exact ⟨_, rfl, h.whenRunning h.waitExpiry⟩
  | reclaimExpiry => exact ⟨_, rfl, h.whenRunning h.reclaimExpiry⟩
  | tripMonitorExpiry => exact ⟨_, rfl, h.whenRunning h.tripMonitorEnd⟩
  | closeMonitorExpiry => exact ⟨_, rfl, h.whenRunning h.closeMonitorEnd⟩
  | storeOperationComplete => exact ⟨_, rfl, h.whenRunning h.storeComplete⟩
  | tagExpiryCountdownEnd crew => exact ⟨_, rfl, h.whenRunning (h.countdownEnd crew)⟩
  | batterySecondEnd => exact ⟨_, rfl, h.whenRunning h.secondEnd⟩
  | stationFrameReceived port bytes => exact ⟨_, rfl, h.whenRunning (h.rxBytes port bytes)⟩
  | partTimeSecond => exact ⟨_, rfl, h.whenRunning h.partSecond⟩
  | resetLine => exact ⟨_, rfl, h.resetTaken⟩
  | resetInRelease => exact ⟨_, rfl, h.resetReleased⟩
  | powerOn => exact ⟨_, rfl, h.resetAs _⟩
  | resetInAsserted => exact ⟨_, rfl, h.resetAsserted⟩
  | powerLoss => exact ⟨_, rfl, (resetBlocks h.groups).modPart _⟩
  | supplyPresentEdge level => exact ⟨_, rfl, h.edge (by simp [State.quiet]) _⟩
  | modemReadyChange level => exact ⟨_, rfl, h.edge (by simp [State.quiet]) _⟩
  | carrierDetChange level => exact ⟨_, rfl, h.edge (by simp [State.quiet]) _⟩
  | frameByteGapTimeout port =>
    refine ⟨_, rfl, h.quietRow ?_⟩
    dsimp only [State.byteGap]
    split <;> simp [State.quiet]
  | frameLengthExceeded port =>
    exact ⟨_, rfl, h.quietRow (by simp [State.quiet, State.lengthExceeded])⟩
  | supplyChangeTaken | absorbTimeLimitReached | faultRecoveryExpiry | testIntervalElapse
  | testRetryExpiry | settleEnd | loadEnd | gatherWindowExpiry | profileHourEnd | poll
  | responseWindowExpiry | keyUpDelayExpiry | radioFrameSent | holdoffExpiry | confirmTimeout
  | localFrameSent => exact ⟨_, rfl, h.quietRow (by simp [State.quiet])⟩
  | _ => exact ⟨_, rfl, h.quietRow (f := State.offerRow _) (by simp [State.quiet, State.offerRow])⟩

/-- Every step keeps the laws. -/
theorem kept : Kept State.Lawful := by
  intro s t h ht
  simp only [step] at ht
  split at ht
  · simp only [idle] at ht
    split at ht
    · obtain ⟨u, hu, hlaw⟩ := h.exec _
      obtain rfl : u = t := Host.Outcome.next.inj (hu.symm.trans ht)
      exact hlaw
    · obtain rfl := Host.Outcome.next.inj ht
      exact h.whenRunning h.tick
  · have hp : ∀ q, (s.setPending q).Lawful := fun _ => h.of_quiet (by simp [State.quiet])
    obtain ⟨u, hu, hlaw⟩ := (hp _).exec _
    obtain rfl : u = t := Host.Outcome.next.inj (hu.symm.trans ht)
    exact hlaw

end State.Lawful

/-- Settles O16: every operation of SEQ keeps the course of SEQ, every arrival ends with the notice
that makes SET's view right, and no other update reaches either. -/
theorem shotCounterKept : Obligations.ShotCounterKept := by
  intro s t h ht
  exact (lawful_iff t).2 (State.Lawful.kept s t ((lawful_iff s).1 h) ht)

end Sys2Proof.Machine
end

section
/-! Timed and high-set elements (R25 to R33): one E-step in each of its branches, and the E-step at
which an element that starts from rest operates. -/

namespace Sys2Proof.Machine

/-! ## The row of a curve (R26) -/

theorem pairwise_of_risingRows {rows : List CurveRow} (h : risingRows rows = true) :
    rows.Pairwise (fun a b => a.bp < b.bp) := by
  induction rows with
  | nil => exact .nil
  | cons r rest ih =>
    simp only [risingRows, Bool.and_eq_true] at h
    have hrest := ih h.2
    refine List.pairwise_cons.2 ⟨fun b hb => ?_, hrest⟩
    cases rest with
    | nil => cases hb
    | cons q rest =>
      have hq : r.bp < q.bp := by simpa using h.1
      rcases List.mem_cons.1 hb with rfl | hb
      exacts [hq, hq.trans ((List.pairwise_cons.1 hrest).1 b hb)]

theorem curveRate_append (rows : List CurveRow) (r : CurveRow) (m : Nat) :
    curveRate (rows ++ [r]) m = if r.bp ≤ m then r.rate else curveRate rows m := by
  simp [curveRate]

/-- R26: where the breakpoints rise, the last row not above `m` has the largest breakpoint not
above it. -/
theorem curveRate_spec {rows : List CurveRow} {m : Nat}
    (hp : rows.Pairwise (fun a b => a.bp < b.bp)) (hex : ∃ r ∈ rows, r.bp ≤ m) :
    ∃ row ∈ rows, row.bp ≤ m ∧ (∀ r ∈ rows, r.bp ≤ m → r.bp ≤ row.bp) ∧
      curveRate rows m = row.rate := by
  induction rows using List.reverseRecOn with
  | nil => simp at hex
  | append_singleton rows last ih =>
    obtain ⟨hinit, -, hlast⟩ := List.pairwise_append.1 hp
    rw [curveRate_append]
    by_cases hm : last.bp ≤ m
    · refine ⟨last, by simp, hm, fun r hr _ => ?_, by simp [hm]⟩
      rcases List.mem_append.1 hr with hr | hr
      · exact (hlast r hr last (by simp)).le
      · obtain rfl : r = last := by simpa using hr
        exact le_rfl
    · have hnot : ∀ r ∈ rows ++ [last], r.bp ≤ m → r ∈ rows := by
        intro r hr hle
        rcases List.mem_append.1 hr with hr | hr
        · exact hr
        · obtain rfl : r = last := by simpa using hr
          exact absurd hle hm
      obtain ⟨r, hr, hle⟩ := hex
      obtain ⟨row, hrow, hrowm, hmax, hrate⟩ := ih hinit ⟨r, hnot r hr hle, hle⟩
      exact ⟨row, by simp [hrow], hrowm, fun r hr hle => hmax r (hnot r hr hle) hle,
        by simp [hm, hrate]⟩

/-- R46, R61: a stored curve and the built-in one have rising breakpoints from 16 on, and a decay
rate of at least 1 where they have one. -/
theorem curve_wellFormed {c : Curve} (h : curveOk c = true ∨ c = builtinCurve) :
    c.rows.Pairwise (fun a b => a.bp < b.bp) ∧ (∃ r ∈ c.rows, r.bp = 16) ∧
      ∀ d, c.decay = some d → 1 ≤ d := by
  rcases h with h | rfl
  · simp only [curveOk, Bool.and_eq_true] at h
    obtain ⟨⟨⟨⟨-, hhead⟩, hrise⟩, -⟩, hdecay⟩ := h
    refine ⟨pairwise_of_risingRows hrise, ?_, fun d hd => ?_⟩
    · cases hrows : c.rows with
      | nil => simp [hrows] at hhead
      | cons r rest => exact ⟨r, by simp, by simpa [hrows] using hhead⟩
    · simp only [hd, rateOk, Bool.and_eq_true, decide_eq_true_eq] at hdecay
      exact hdecay.1
  · simp [builtinCurve]

/-! ## One E-step (R25 to R32) -/

/-- R25: an element is picked up at its multiple of pickup 16. -/
theorem sixteen_le_m16 {mag pickup : Nat} (hp : 0 < pickup) :
    16 ≤ m16 mag pickup ↔ pickup ≤ mag := by
  have hdiv : 16 ≤ mag * 16 / pickup ↔ pickup ≤ mag := by
    rw [Nat.le_div_iff_mul_le hp]
    omega
  simp only [m16, Config.m16Top]
  omega

theorem effectiveRate_range (r dial : Nat) :
    1 ≤ effectiveRate r dial ∧ effectiveRate r dial ≤ 1048576 := by
  simp only [effectiveRate, clampNat, Config.accFull]
  omega

/-- R26 to R31: an element that is picked up. -/
theorem timedStep_pickedUp {pickup mag : Nat} (hp : 0 < pickup) (h : pickup ≤ mag) (c : Curve)
    (dial minResp : Nat) (e : Timed) :
    timedStep (some c) pickup dial minResp mag e =
      let acc := min (e.acc + effectiveRate (curveRate c.rows (m16 mag pickup)) dial) 1048576
      let count := min (e.count + 1) 65535
      ⟨acc, count, true, e.operate || decide (acc = 1048576 ∧ minResp ≤ count)⟩ := by
  simp only [timedStep, if_pos ((sixteen_le_m16 hp).2 h), Config.accFull, Config.countTop,
    Bool.decide_and, beq_eq_decide]

section

variable {c : Curve} {pickup mag : Nat} (hp : 0 < pickup) (h : mag < pickup) (dial minResp : Nat)
include hp h

/-- R29: below pickup, an element with a definite reset is at rest at once. -/
theorem timedStep_reset (e : Timed) (hd : c.decay = none) :
    timedStep (some c) pickup dial minResp mag e = ⟨0, 0, false, e.operate⟩ := by
  have hm : ¬ 16 ≤ m16 mag pickup := fun h16 => absurd ((sixteen_le_m16 hp).1 h16) h.not_ge
  simp [timedStep, hm, hd, Config.accFull]

/-- R30: below pickup, the accumulator decays, and at rest the counter is cleared. An accumulator
that has decayed is not full. -/
theorem timedStep_decay {e : Timed} {d : Nat} (hd : c.decay = some d) (h1 : 1 ≤ d)
    (hacc : e.acc ≤ 1048576) : timedStep (some c) pickup dial minResp mag e =
      ⟨e.acc - d, if e.acc ≤ d then 0 else e.count, false, e.operate⟩ := by
  have hm : ¬ 16 ≤ m16 mag pickup := fun h16 => absurd ((sixteen_le_m16 hp).1 h16) h.not_ge
  have hnot : ¬ e.acc - d = 1048576 := by omega
  simp [timedStep, hm, hd, Config.accFull, hnot, Nat.sub_eq_zero_iff_le]

end

/-- Settles O9: the two branches of the E-step, with the row that the rising breakpoints give. -/
theorem timedElementStep : Obligations.TimedElementStep := by
  intro c pickup dial minResp mag e hc hp _ hacc u m
  obtain ⟨hrise, ⟨first, hfirst, hbp⟩, hdecay⟩ := curve_wellFormed hc
  have hpos : 0 < pickup := by omega
  constructor
  · intro hup
    have hm : m16 mag pickup = m := Nat.min_comm _ _
    have h16 : 16 ≤ m := hm ▸ (sixteen_le_m16 hpos).2 hup
    obtain ⟨row, hrow, hle, hmax, hrate⟩ := curveRate_spec hrise ⟨first, hfirst, hbp.trans_le h16⟩
    have hu : u = _ := timedStep_pickedUp hpos hup c dial minResp e
    rw [hm, hrate] at hu
    exact ⟨row, hrow, hle, hmax, by simp [hu, effectiveRate, clampNat, Config.accFull],
      by simp [hu], by simp [hu], by simp [hu]⟩
  · intro hdown
    cases hd : c.decay with
    | none =>
      have hu : u = _ := timedStep_reset hpos hdown dial minResp e hd
      simp [hu]
    | some d =>
      have hu : u = _ := timedStep_decay hpos hdown dial minResp hd (hdecay d hd) hacc
      simp [hu]

/-! ## Operation on time (R28, R31, R33) -/

/-- R28: the accumulator is full once `n` times the rate reaches it. -/
theorem ceil_le_iff {re n : Nat} (h : 0 < re) : (1048576 + re - 1) / re ≤ n ↔ 1048576 ≤ n * re := by
  rw [Nat.div_le_iff_le_mul_add_pred h, Nat.mul_comm]
  omega

/-- R31: the E-step after the `n`-th, of a run from rest, is the first at which the accumulator is
full and the minimum response has passed, or a later one. -/
theorem operates_succ_iff {re minResp : Nat} (hre : 0 < re) (hmin : minResp ≤ 400) (n : Nat) :
    (max ((1048576 + re - 1) / re) minResp ≤ n ∨
      min ((n + 1) * re) 1048576 = 1048576 ∧ minResp ≤ min (n + 1) 65535) ↔
      max ((1048576 + re - 1) / re) minResp ≤ n + 1 := by
  have hceil := ceil_le_iff (n := n + 1) hre
  omega

/-- R28, R31: a timed element after `n` E-steps at or above pickup, from rest. -/
theorem timedStep_iterate {c : Curve} {pickup dial minResp mag re : Nat} (hp : 0 < pickup)
    (hmin : minResp ≤ 400) (hup : pickup ≤ mag)
    (hre : effectiveRate (curveRate c.rows (m16 mag pickup)) dial = re) (n : Nat) :
    (timedStep (some c) pickup dial minResp mag)^[n] ⟨0, 0, false, false⟩ =
      ⟨min (n * re) 1048576, min n 65535, decide (0 < n),
        decide (max ((1048576 + re - 1) / re) minResp ≤ n)⟩ := by
  obtain ⟨hpos, hfull⟩ : 1 ≤ re ∧ re ≤ 1048576 := hre ▸ effectiveRate_range _ _
  induction n with
  | zero =>
    have h1 : 1 ≤ (1048576 + re - 1) / re := (Nat.le_div_iff_mul_le hpos).2 (by omega)
    have h0 : ¬ max ((1048576 + re - 1) / re) minResp ≤ 0 := by omega
    rw [decide_eq_false h0]
    simp
  | succ n ih =>
    have hacc : min (min (n * re) 1048576 + re) 1048576 = min ((n + 1) * re) 1048576 := by
      rw [Nat.succ_mul]
      omega
    have hcount : min (min n 65535 + 1) 65535 = min (n + 1) 65535 := by omega
    rw [Function.iterate_succ_apply', ih, timedStep_pickedUp hp hup, hre]
    dsimp only
    rw [hacc, hcount, ← Bool.decide_or, decide_eq_decide.2 (operates_succ_iff hpos hmin n),
      decide_eq_true n.succ_pos]

/-- R32, R33: an enabled high-set element after `n` E-steps at or above pickup, from rest. -/
theorem highSetStep_iterate {pickup delay mag : Nat} (hdelay : delay ≤ 80) (hup : pickup ≤ mag)
    (n : Nat) : (highSetStep true pickup delay mag)^[n] ⟨0, false, false⟩ =
      ⟨min n 65535, decide (0 < n), decide (delay + 1 ≤ n)⟩ := by
  induction n with
  | zero => simp
  | succ n ih =>
    have hcount : min (min n 65535 + 1) 65535 = min (n + 1) 65535 := by omega
    have hop : (delay + 1 ≤ n ∨ delay < min (n + 1) 65535) ↔ delay + 1 ≤ n + 1 := by omega
    rw [Function.iterate_succ_apply', ih]
    simp only [highSetStep, hup, if_true, Config.countTop, hcount, Bool.and_true, decide_true,
      ← Bool.decide_or, hop, HighSet.mk.injEq, true_and, and_true]
    simp

/-- Settles O10: the elements after `n` E-steps are known in closed form. -/
theorem elementsOperateOnTime : Obligations.ElementsOperateOnTime := by
  refine ⟨fun c pickup dial minResp mag n _ hp _ hmin hup => ?_,
    fun pickup delay mag n hd hup => ?_, fun pickup delay mag h hdown => ?_⟩
  · exact congrArg Timed.operate (timedStep_iterate (by omega) hmin hup rfl n)
  · exact congrArg HighSet.operate (highSetStep_iterate hd hup n)
  · have hnot : ¬ pickup ≤ mag := by omega
    simp [highSetStep, hnot]

end Sys2Proof.Machine
end

section
/-! The tag table through the operations (R51, R65, R108 to R114): what an operation that decides,
completes and notifies no change of the table leaves of it, walked through the drive, SEQ, the selections
and the sensor link. -/

namespace Sys2Proof.Machine

-- The many short proofs of the walk would otherwise each hold a waiting thread.
set_option Elab.async false

variable {s t : State}

/-! ## What leaves the tags -/

/-- R51: a request that waits has an operation in flight to wait for. -/
def Store.waitsForOne (st : Store) : Prop := st.waitList ≠ [] → st.inFlight.isSome = true

/-- The tag table, its changes and SEQ's views of it are the same; requests to the store may have come,
but none that writes the tag table. -/
structure State.keepsTags (s t : State) : Prop where
  inForce : t.lku.inForce = s.lku.inForce
  changes : t.lku.changes = s.lku.changes
  present : t.seq.tagPresent = s.seq.tagPresent
  noClose : t.seq.noClosePresent = s.seq.noClosePresent
  stored : t.store.tags = s.store.tags
  run : t.part.run = s.part.run
  waits : s.store.waitList ⊆ t.store.waitList
  busy : s.store.waitsForOne → t.store.waitsForOne
  flight : ∀ op ∈ t.store.inFlight, ∀ ts cs, op.body = .tags ts cs →
    ∃ o ∈ s.store.inFlight, o.body = .tags ts cs

/-- SEQ's views of the tag table are the same (R114). -/
def Seq.sameTags (a b : Seq) : Prop :=
  a.tagPresent = b.tagPresent ∧ a.noClosePresent = b.noClosePresent

/-- All that TagLaw looks at is the same. -/
def State.tagless (s t : State) : Prop :=
  t.seq.sameTags s.seq ∧ t.store.tags = s.store.tags ∧ t.store.inFlight = s.store.inFlight ∧
  t.store.waitList = s.store.waitList ∧ t.lku.inForce = s.lku.inForce ∧
  t.lku.changes = s.lku.changes ∧ t.part.run = s.part.run

namespace State.keepsTags

theorem refl (s : State) : s.keepsTags s :=
  ⟨rfl, rfl, rfl, rfl, rfl, rfl, List.Subset.refl _, id, fun op h _ _ hb => ⟨op, h, hb⟩⟩

theorem trans {u : State} (h : s.keepsTags t) (h' : t.keepsTags u) : s.keepsTags u where
  inForce := h'.inForce.trans h.inForce
  changes := h'.changes.trans h.changes
  present := h'.present.trans h.present
  noClose := h'.noClose.trans h.noClose
  stored := h'.stored.trans h.stored
  run := h'.run.trans h.run
  waits := List.Subset.trans h.waits h'.waits
  busy := h'.busy ∘ h.busy
  flight := fun op hop ts cs hb => by
    obtain ⟨o, ho, hob⟩ := h'.flight op hop ts cs hb
    exact h.flight o ho ts cs hob

theorem ite {p : Prop} [Decidable p] {u v : State} (hu : s.keepsTags u) (hv : s.keepsTags v) :
    s.keepsTags (if p then u else v) := by
  split
  exacts [hu, hv]

variable (h : s.keepsTags t)
include h

theorem aside {u : State} (hu : t.tagless u := by simp [State.tagless, Seq.sameTags]) :
    s.keepsTags u := by
  obtain ⟨⟨hpresent, hnoClose⟩, htags, hflight, hwaits, hforce, hchanges, hrun⟩ := hu
  have hr := refl t
  exact h.trans ⟨hforce, hchanges, hpresent, hnoClose, htags, hrun, hwaits ▸ hr.waits,
    by simp [Store.waitsForOne, hwaits, hflight], hflight ▸ hr.flight⟩

theorem requestStore {table : InternalTable} (r : Option Reply)
    (ht : table ≠ .tags := by decide) : s.keepsTags (t.requestStore table r) := by
  refine h.trans ?_
  have hbody : ∀ ts cs, internalBody t table ≠ .tags ts cs := by
    cases table <;> simp [internalBody] at ht ⊢
  have hstart : t.startInternal table r = t.startStore (internalBody t table) r := by
    cases table
    exacts [rfl, absurd rfl ht, rfl]
  dsimp only [State.requestStore]
  split
  · rw [hstart]
    exact { refl t with
            busy := fun _ _ => rfl
            flight := by
              rintro _ ⟨⟩ ts cs hb
              exact absurd hb (hbody ts cs) }
  · rename_i hbusy
    split
    · exact refl t
    · have hsome : t.store.inFlight.isSome = true := by simpa [Option.isSome_iff_ne_none] using hbusy
      exact { refl t with
              waits := List.subset_append_left _ _
              busy := fun _ _ => hsome }

/-! ## Operations of the other blocks -/

theorem emit (e : Event) : s.keepsTags (t.emit e) := h.aside

theorem answer (r : Option Reply) (o : CmdOutcome) : s.keepsTags (t.answer r o) := h.aside

theorem modSlr (f : Slr → Slr) : s.keepsTags (t.modSlr f) := h.aside

theorem modSets (f : Sets → Sets) : s.keepsTags (t.modSets f) := h.aside

theorem modDrv (f : Drv → Drv) : s.keepsTags (t.modDrv f) := h.aside

theorem modFcu (f : Fcu → Fcu) : s.keepsTags (t.modFcu f) := h.aside

theorem tellBat : s.keepsTags t.tellBat := h.aside

theorem raiseRecharge : s.keepsTags t.raiseRecharge := h.aside

theorem lkuHandle (d : Delivery) : s.keepsTags (t.lkuHandle d) := h.aside

/-! ## SEQ (R64 to R86) -/

theorem seqGoto (st : SeqState) : s.keepsTags (t.seqGoto st) :=
  h.aside (by simp [State.tagless, Seq.sameTags, Seq.entered])

theorem setShot (n : Nat) : s.keepsTags (t.setShot n) := h.aside

theorem seqLockout (r : LockReason) : s.keepsTags (t.seqLockout r) :=
  (h.seqGoto .lockout).aside (by simp [State.tagless, Seq.sameTags, State.seqLockout])

theorem seqOpenInterval : s.keepsTags t.seqOpenInterval :=
  (h.seqGoto .openInterval).aside ⟨⟨rfl, rfl⟩, rfl, rfl, rfl, rfl, rfl, rfl⟩

theorem seqReclaim : s.keepsTags t.seqReclaim :=
  (h.seqGoto .reclaim).aside ⟨⟨rfl, rfl⟩, rfl, rfl, rfl, rfl, rfl, rfl⟩

theorem seqHandClose : s.keepsTags t.seqHandClose :=
  seqReclaim (t := (t.setShot _).modSeq _) h.aside

theorem seqTripDone : s.keepsTags t.seqTripDone := by
  dsimp only [State.seqTripDone, State.seqTripEnd]
  (repeat' split)
  exacts [h.seqLockout _, h.seqLockout _, h.seqLockout _, h.seqLockout _, h.seqLockout _,
    h.seqOpenInterval, h]

theorem seqCloseDone : s.keepsTags t.seqCloseDone := by
  dsimp only [State.seqCloseDone]
  split
  · exact seqReclaim h.aside
  · exact seqHandClose h.aside
  all_goals exact h

theorem seqCloseFailed : s.keepsTags t.seqCloseFailed := by
  dsimp only [State.seqCloseFailed]
  split
  exacts [h.seqLockout _, h]

theorem seqHalted : s.keepsTags t.seqHalted := h.seqGoto .failed

theorem seqRestored : s.keepsTags t.seqRestored := by
  dsimp only [State.seqRestored]
  (repeat' split)
  exacts [h.seqLockout _, h.seqLockout _, (h.setShot 0).seqGoto _, h.seqGoto _, h]

theorem placeTrip (c : TripCause) (announce : Option Flags4) :
    s.keepsTags (t.placeTrip c announce) := by
  have h1 : s.keepsTags (((t.drvTrip c).seqGoto .tripping).modSeq
      (fun q => { q with tripCause := some c })) :=
    (seqGoto (t := t.drvTrip c) h.aside .tripping).aside
  dsimp only [State.placeTrip]
  (repeat' split)
  exacts [h, h1.aside.seqTripDone, h1.seqTripDone, h1.aside, h1]

theorem seqProtect : s.keepsTags t.seqProtect := by
  dsimp only [State.seqProtect]
  split
  exacts [h, (h.setShot _).placeTrip _ _]

theorem seqTripUnknown (c : TripCause) (m : RestartMark) : s.keepsTags (t.seqTripUnknown c m) := by
  dsimp only [State.seqTripUnknown]
  split
  exacts [h.aside, h]

theorem seqTripCommand : s.keepsTags t.seqTripCommand := by
  dsimp only [State.seqTripCommand]
  split
  exacts [h.placeTrip _ _, h.placeTrip _ _, h.placeTrip _ _, h.seqLockout _, h.seqLockout _, h, h,
    h.seqTripUnknown _ _, h]

theorem lowBatteryRequest : s.keepsTags t.lowBatteryRequest := by
  refine tellBat ?_
  dsimp only [State.seqLowBattery]
  split
  exacts [h.placeTrip _ _, h.placeTrip _ _, h.placeTrip _ _, h.aside, h.seqLockout _,
    h.seqLockout _, h.seqTripUnknown _ _, h, h]

theorem placeClose (c : CloseCause) (ans : CloseAnswer) : s.keepsTags (t.placeClose c ans) := by
  have h1 : s.keepsTags (((t.drvClose c).seqGoto .closing).modSeq
      (fun q => { q with closeCause := some c })) :=
    (seqGoto (t := t.drvClose c) h.aside .closing).aside
  dsimp only [State.placeClose]
  split
  exacts [h1.seqCloseDone, h1]

theorem checkClose : s.keepsTags t.checkClose := by
  dsimp only [State.checkClose]
  (repeat' split)
  exacts [h.placeClose _ _, h.placeClose _ _, h, h, h]

theorem seqCloseWait : s.keepsTags t.seqCloseWait :=
  checkClose (t := (t.seqGoto .closeWait).startSeqTimer _ _ _)
    ((h.seqGoto .closeWait).aside ⟨⟨rfl, rfl⟩, rfl, rfl, rfl, rfl, rfl, rfl⟩)

theorem seqCloseCommand : s.keepsTags t.seqCloseCommand := by
  dsimp only [State.seqCloseCommand]
  split
  exacts [placeClose h.aside _ _, h]

theorem seqAdvance : s.keepsTags t.seqAdvance := (h.setShot _).seqReclaim.emit _

theorem seqEpisode (r : ElemResult) : s.keepsTags (t.seqEpisode r) := by
  dsimp only [State.seqEpisode]
  (repeat' split)
  exacts [h.aside, h.aside, h, seqAdvance h.aside, h.aside]

theorem seqResult (r : ElemResult) : s.keepsTags (t.seqResult r) := by
  have h1 : s.keepsTags (t.modSeq (fun q =>
      { q with lastPickup := r.pickup, lastOperate := r.operate })) := h.aside
  dsimp only [State.seqResult]
  split
  · split
    exacts [h1.seqProtect, h1.seqEpisode _]
  · split
    exacts [h1.seqProtect, seqEpisode h1.aside _]
  all_goals exact h1

theorem seqTakeResult (r : ElemResult) : s.keepsTags (t.seqTakeResult r) := by
  dsimp only [State.seqTakeResult]
  split
  exacts [(h.seqResult r).checkClose, h.seqResult r]

theorem seqView {f : Seq → Seq} (hf : (f t.seq).sameTags t.seq) : s.keepsTags (t.seqView f) := by
  have h1 : s.keepsTags (t.modSeq f) := h.aside ⟨hf, rfl, rfl, rfl, rfl, rfl, rfl⟩
  dsimp only [State.seqView]
  split
  exacts [h1, h1.checkClose]

theorem seqCap (v : Nat) (stale : Bool) : s.keepsTags (t.seqCap v stale) := h.seqView ⟨rfl, rfl⟩

theorem seqLinkUp : s.keepsTags t.seqLinkUp := h.seqView ⟨rfl, rfl⟩

theorem seqSource (live : Bool) : s.keepsTags (t.seqSource live) := h.seqView ⟨rfl, rfl⟩

theorem elePosition (d : Delivery) : s.keepsTags (t.elePosition d) := by
  dsimp only [State.elePosition]
  split
  exacts [seqTakeResult h.aside _, h.aside]

theorem seqHandle (before : Handle) : s.keepsTags (t.seqHandle before) := by
  dsimp only [State.seqHandle]
  split
  exacts [h.seqLockout _, h]

theorem seqLeaveUnknown (d : Delivery) : s.keepsTags (t.seqLeaveUnknown d) := by
  dsimp only [State.seqLeaveUnknown]
  (repeat' split)
  exacts [h.seqLockout _, (h.seqGoto .tripping).aside, (h.setShot 0).seqGoto _, h.seqLockout _, h]

theorem seqOpened (d : Delivery) (changed : Bool) : s.keepsTags (t.seqOpened d changed) := by
  dsimp only [State.seqOpened]
  split
  exacts [seqLockout h.aside _, h]

theorem seqClosed (d : Delivery) (changed : Bool) : s.keepsTags (t.seqClosed d changed) := by
  dsimp only [State.seqClosed]
  split
  exacts [seqHandClose h.aside, h]

theorem seqPosition (d : Delivery) (changed : Bool) : s.keepsTags (t.seqPosition d changed) := by
  dsimp only [State.seqPosition]
  (repeat' split)
  exacts [h, h, h.seqOpened _ _, h.seqOpened _ _, h.seqClosed _ _, h.seqClosed _ _,
    h.seqClosed _ _, h, h, h]

theorem seqDelivery (d : Delivery) : s.keepsTags (t.seqDelivery d) := by
  have h1 : s.keepsTags ((t.modSeq (deliveryViews d)).elePosition d) :=
    elePosition (h.aside (by simp [State.tagless, Seq.sameTags, deliveryViews])) d
  dsimp only [State.seqDelivery]
  refine ite (checkClose ?_) ?_
  all_goals exact ite (h1.seqLeaveUnknown d) ((h1.seqHandle _).seqPosition _ _)

theorem seqNoClose : s.keepsTags t.seqNoClose := by
  dsimp only [State.seqNoClose]
  split
  · exact seqLockout h.aside _
  · exact h.seqLockout _
  · exact h.seqLockout _
  all_goals exact h

theorem seqAnyTag : s.keepsTags t.seqAnyTag := by
  dsimp only [State.seqAnyTag]
  split
  · exact h.seqLockout _
  · exact h.seqLockout _
  · exact h.aside
  all_goals exact h

theorem seqReclaimEnd : s.keepsTags t.seqReclaimEnd :=
  seqGoto (t := ((t.emit _).setShot 0).modSeq _) h.aside .ready

/-! ## Selections (R55 to R60) -/

theorem takeLive (l : LiveSet) : s.keepsTags (t.takeLive l) := by
  have h1 : s.keepsTags ((t.modSets (fun c =>
      { c with live := l, active := l.source })).modEle clearElements) := h.aside
  dsimp only [State.takeLive]
  split
  exacts [(h1.setShot _).seqResult _, h1.seqResult _]

theorem applyLoad (g : Option Nat) (c : SelCause) (r : Option Reply) :
    s.keepsTags (t.applyLoad g c r) :=
  (((h.takeLive _).modSets _).requestStore r).emit _

/-- R58, R59: the selection record is written where the return group has changed. -/
theorem modRet (f : Sets → Sets) :
    s.keepsTags (if (t.modSets f).sets.ret = t.sets.ret then t.modSets f
      else (t.modSets f).requestStore .selection none) := by
  split
  exacts [h.modSets f, (h.modSets f).requestStore none]

theorem completeInPlace (c : SelCause) : s.keepsTags (t.completeInPlace c) := h.modRet _

theorem applyPending : s.keepsTags t.applyPending := by
  dsimp only [State.applyPending]
  (repeat' split)
  exacts [h, h.completeInPlace _, h.applyLoad _ _ _]

theorem applyIfSettled : s.keepsTags t.applyIfSettled := by
  dsimp only [State.applyIfSettled]
  split
  exacts [h.applyPending, h]

theorem setTagged : s.keepsTags t.setTagged := by
  dsimp only [State.setTagged]
  split
  · exact h
  · split
    exacts [(h.modRet _).applyIfSettled, h]

theorem setUntagged : s.keepsTags t.setUntagged := by
  dsimp only [State.setUntagged]
  (repeat' split)
  exacts [h, (h.modSets _).completeInPlace _, (h.modSets _).applyIfSettled]

theorem pendSelection (g : Nat) : s.keepsTags (t.pendSelection g) := by
  dsimp only [State.pendSelection]
  split
  exacts [((h.modSets _).modSets _).requestStore _, h.modSets _]

theorem settleNotice : s.keepsTags t.settleNotice := by
  dsimp only [State.settleNotice]
  (repeat' split)
  exacts [h, (h.modSets _).applyPending, h.modSets _]

omit h in
theorem seqArrive {f : State → State} (hf : s.keepsTags (f t)) : s.keepsTags (t.seqArrive f) := by
  dsimp only [State.seqArrive, State.resendTrip]
  refine settleNotice ?_
  split
  exacts [hf.lowBatteryRequest, hf]

/-! ## The drive (R93 to R104) -/

theorem drvConfirm (news : Bool) (d : Delivery) : s.keepsTags (t.drvConfirm news d) := by
  dsimp only [State.drvConfirm]
  (repeat' split)
  exacts [(seqArrive (t := t.drvTripDone) (seqTripDone h.aside)).raiseRecharge,
    (seqArrive (t := t.drvCloseDone) (seqCloseDone h.aside)).raiseRecharge, h]

theorem drvDelivery (d : Delivery) : s.keepsTags (t.drvDelivery d) := by
  dsimp only [State.drvDelivery]
  split
  exacts [drvConfirm h.aside _ _, drvConfirm h.aside _ _]

theorem firstPeriod : s.keepsTags t.firstPeriod := by
  dsimp only [State.firstPeriod]
  split
  exacts [requestStore h.aside _, requestStore h.aside _]

theorem drvHalt : s.keepsTags t.drvHalt := by
  dsimp only [State.drvHalt, State.endOp, State.snapFailure]
  exact modDrv (requestStore (modDrv (emit (modDrv h _) _) _) none) _

theorem drvCloseFail : s.keepsTags t.drvCloseFail := by
  dsimp only [State.drvCloseFail, State.endOp, State.snapFailure]
  exact modDrv (requestStore (modDrv (emit (modDrv h _) _) _) none) _

theorem tripMonitorEnd : s.keepsTags t.tripMonitorEnd := by
  have h1 : s.keepsTags (t.drvHalt.seqArrive State.seqHalted).raiseRecharge :=
    (seqArrive h.drvHalt.seqHalted).raiseRecharge
  dsimp only [State.tripMonitorEnd]
  split
  · exact h
  · split
    · split
      exacts [h1, h.firstPeriod]
    · exact h1
    all_goals exact h

theorem closeMonitorEnd : s.keepsTags t.closeMonitorEnd := by
  dsimp only [State.closeMonitorEnd]
  split
  exacts [(seqArrive h.drvCloseFail.seqCloseFailed).raiseRecharge, h]

/-! ## The sensor link (R1 to R20) -/

theorem deliver : s.keepsTags t.deliver := by
  have hseq : ∀ (d : Delivery) (u : State), s.keepsTags u →
      s.keepsTags (u.seqArrive (State.seqDelivery d)) := fun d _ hu => seqArrive (hu.seqDelivery d)
  dsimp only [State.deliver]
  refine lkuHandle ?_ _
  split
  exacts [hseq _ _ (h.drvDelivery _), (hseq _ _ h).drvDelivery _]

theorem eStep : s.keepsTags t.eStep := by
  have h1 : s.keepsTags (((t.modMeu (measure t.sets.live.grp)).modEle (eleStep t.sets.live
      (measure t.sets.live.grp t.meu).mags)).seqArrive (State.seqTakeResult (stepResult t.ele
        (eleStep t.sets.live (measure t.sets.live.grp t.meu).mags t.ele)))) :=
    seqArrive (seqTakeResult h.aside _)
  dsimp only [State.eStep]
  have hprofile : ∀ (m : Nat) (u : State), s.keepsTags u → s.keepsTags (u.profileStep m) :=
    fun _ _ hu => hu.aside
  refine hprofile _ _ ?_
  split
  exacts [h1, seqArrive (h1.seqSource _)]

theorem stepAndDeliver (estep delivery : Bool) : s.keepsTags (t.stepAndDeliver estep delivery) := by
  have he : ∀ u : State, s.keepsTags u → s.keepsTags (if estep then u.eStep else u) :=
    fun _ hu => ite hu.eStep hu
  have hd : ∀ u : State, s.keepsTags u → s.keepsTags (if delivery then u.deliver else u) :=
    fun _ hu => ite hu.deliver hu
  dsimp only [State.stepAndDeliver]
  split
  exacts [he _ (hd _ h), hd _ (he _ h)]

theorem missingSlot : s.keepsTags t.missingSlot := by
  dsimp only [State.missingSlot]
  (repeat' split)
  exacts [deliver h.aside, stepAndDeliver h.aside _ _, h.aside, stepAndDeliver h.aside _ _, h.aside,
    h.aside]

theorem missingSlots (n : Nat) : s.keepsTags (t.missingSlots n) := by
  induction n generalizing t with
  | zero => exact h
  | succ n ih => exact ih h.missingSlot

theorem linkUpNotices (before : Link) : s.keepsTags (t.linkUpNotices before) := by
  have hup : ∀ u : State, s.keepsTags u →
      s.keepsTags (u.updateSetpoints.seqArrive State.seqLinkUp) :=
    fun u hu => seqArrive (t := u.updateSetpoints) (seqLinkUp hu.aside)
  dsimp only [State.linkUpNotices]
  (repeat' split)
  exacts [hup _ h, hup _ h.aside, h]

theorem goodSlot (f : SampleFrame) : s.keepsTags (t.goodSlot f) := by
  have hcap : ∀ (u : State) (stale : Bool), s.keepsTags u →
      s.keepsTags ((u.drvCap f.cap stale).seqArrive (State.seqCap f.cap stale)) :=
    fun u stale hu => seqArrive (t := u.drvCap f.cap stale) (seqCap hu.aside _ _)
  have h1 : s.keepsTags (t.goodLink f) := h.aside
  rw [State.goodSlot_eq]
  exact aside (t := (t.accepted f).stepAndDeliver (t.stepsAt f) (t.delivers f))
    (stepAndDeliver (modSlr (hcap _ _ (h1.linkUpNotices t.slr.link)) _) _ _)

theorem declareMissing : s.keepsTags t.declareMissing := missingSlot (t := t.modSlr _) h.aside

theorem sampleReceived (bytes : List Byte) : s.keepsTags (t.sampleReceived bytes) := by
  have h1 : s.keepsTags t.restartSilence := h.aside
  have h2 : s.keepsTags (t.restartSilence.accountSeq (decodeSample bytes).seqNo) :=
    (h1.missingSlots _).modSlr _
  dsimp only [State.sampleReceived]
  (repeat' split)
  exacts [h2.missingSlot, h2.goodSlot _, h1.declareMissing]

theorem silenceExpired : s.keepsTags t.silenceExpired :=
  declareMissing (t := t.restartSilence) h.aside

/-! ## Timers (R64, R126, R187) -/

theorem seqExpiry (k : SeqTimerKind) {f : State → State} (hf : s.keepsTags (f t)) :
    s.keepsTags (t.seqExpiry k f) := by
  dsimp only [State.seqExpiry]
  split
  exacts [seqArrive hf, h]

theorem secondEnd : s.keepsTags t.secondEnd := by
  have h1 : s.keepsTags ((t.secondMeans (meanOf t.bat.voltSum t.bat.voltCount)
      (meanOf t.bat.ampSum t.bat.ampCount)).qualify (meanOf t.bat.voltSum t.bat.voltCount)) :=
    h.aside
  dsimp only [State.secondEnd, State.sendIfPending]
  split
  exacts [seqArrive h1.lowBatteryRequest, h1]

/-- R51: time that passes leaves what the operation in flight writes. -/
theorem countMs (k : Nat) : s.keepsTags (t.countMs k) := by
  refine h.trans { refl t with busy := fun hw hne => ?_, flight := fun op hop ts cs hb => ?_ }
  · simpa [State.countMs] using hw hne
  · obtain ⟨o, ho, rfl⟩ := Option.map_eq_some_iff.1 hop
    exact ⟨o, ho, hb⟩

theorem countTicks (n : Nat) : s.keepsTags (t.countTicks n) :=
  h.aside ⟨⟨rfl, rfl⟩, rfl, rfl, rfl, rfl, rfl, rfl⟩

theorem tick : s.keepsTags t.tick := by
  dsimp only [State.tick]
  split
  exacts [(h.countTicks 1).aside, ((h.countTicks 1).countMs 1).aside]

theorem partSecond : s.keepsTags t.partSecond := by
  dsimp only [State.partSecond]
  split
  exacts [h.aside, aside (t := t.elapse (1000 - t.fcu.time.ms)) ((h.countTicks _).countMs _)]

end State.keepsTags

end Sys2Proof.Machine
end

section
/-! The tag table (R65, R108 to R114): its law is kept by what decides a change, by the completion of a
tag table write with its notices, by a reset, and by every other row. -/

namespace Sys2Proof.Machine

variable {s t : State}

/-! ## The law taken apart -/

/-- R108, R109: one tag for each crew in both tables, which agree while the part runs. -/
structure State.tablesAgree (s : State) : Prop where
  inForce : tagsOk s.lku.inForce
  stored : tagsOk s.store.tags
  agree : s.part.run = .running → s.store.tags = s.lku.inForce

/-- TagLaw but for SEQ's views and the operation in flight: what holds between the effect of a write and
its notices too. -/
structure State.tagsSound (s : State) : Prop extends s.tablesAgree where
  expiries : s.lku.changes.all isExpire = true
  waits : s.lku.changes ≠ [] → InternalTable.tags ∈ s.store.waitList
  busy : s.store.waitsForOne

/-- SEQ's views of the tag table are right (R114). -/
def State.tagViews (s : State) : Prop :=
  s.seq.tagPresent = anyTag s.lku.inForce ∧ s.seq.noClosePresent = anyNoClose s.lku.inForce

/-- The tag table write in flight fits the table in force (R109, R110). -/
def State.flightFits (s : State) : Prop :=
  ∀ op ∈ s.store.inFlight, ∀ ts cs, op.body = .tags ts cs → writeOk s.lku.inForce cs

theorem tagLaw_iff (s : State) : TagLaw s ↔ s.tagsSound ∧ s.tagViews ∧ s.flightFits := by
  constructor
  · rintro ⟨h1, h2, h3, h4, h5, h6, h7, h8, h9⟩
    exact ⟨⟨⟨h1, h2, h5⟩, h6, h7, h8⟩, ⟨h3, h4⟩, h9⟩
  · rintro ⟨⟨⟨h1, h2, h5⟩, h6, h7, h8⟩, ⟨h3, h4⟩, h9⟩
    exact ⟨h1, h2, h3, h4, h5, h6, h7, h8, h9⟩

theorem State.tablesAgree.of_same (h : s.tablesAgree) (hforce : t.lku.inForce = s.lku.inForce)
    (hstored : t.store.tags = s.store.tags) (hrun : t.part.run = s.part.run) : t.tablesAgree :=
  ⟨hforce ▸ h.inForce, hstored ▸ h.stored, by rw [hrun, hstored, hforce]; exact h.agree⟩

theorem State.tagsSound.of_keeps (h : s.tagsSound) (k : s.keepsTags t) : t.tagsSound where
  totablesAgree := h.totablesAgree.of_same k.inForce k.stored k.run
  expiries := k.changes ▸ h.expiries
  waits := fun hne => k.waits (h.waits (k.changes ▸ hne))
  busy := k.busy h.busy

/-- What keeps the tags keeps their law. -/
theorem TagLaw.of_keeps (h : TagLaw s) (k : s.keepsTags t) : TagLaw t := by
  obtain ⟨hs, ⟨hp, hn⟩, hf⟩ := (tagLaw_iff s).1 h
  refine (tagLaw_iff t).2 ⟨hs.of_keeps k, ⟨?_, ?_⟩, fun op hop ts cs hb => ?_⟩
  · rw [k.present, k.inForce, hp]
  · rw [k.noClose, k.inForce, hn]
  · obtain ⟨o, ho, hob⟩ := k.flight op hop ts cs hb
    exact k.inForce ▸ hf o ho ts cs hob

/-! ## Changes of a table (R108 to R113) -/

theorem tagsOk_map {ts : List Tag} {f : Tag → Tag} (hf : ∀ t, (f t).crew = t.crew)
    (h : tagsOk ts) : tagsOk (ts.map f) := by
  have hcrews : (ts.map f).map (fun t => t.crew) = ts.map (fun t => t.crew) := by simp [hf]
  exact ⟨by simpa using h.1, hcrews ▸ h.2⟩

theorem tagsOk_sublist {ts us : List Tag} (hsub : us.Sublist ts) (h : tagsOk ts) : tagsOk us :=
  ⟨hsub.length_le.trans h.1, h.2.sublist (hsub.map _)⟩

theorem tagsOk_append {ts : List Tag} {t : Tag} (h : tagsOk ts) (hcrew : tagOf ts t.crew = none)
    (hroom : ts.length < 8) : tagsOk (ts ++ [t]) := by
  refine ⟨by simpa using hroom, ?_⟩
  have hnew : ∀ u ∈ ts, u.crew ≠ t.crew := by simpa [tagOf] using hcrew
  rw [List.map_append, List.nodup_append]
  refine ⟨h.2, List.nodup_singleton _, ?_⟩
  simpa using hnew

@[simp] theorem isPlace_placedNow (now : PartTime) (c : TagChange) :
    isPlace (placedNow now c) = isPlace c := by
  cases c <;> rfl

/-- R111 to R113: a change that places no tag leaves one tag for each crew. -/
theorem tagsOk_apply {c : TagChange} {ts : List Tag} (hc : isPlace c = false) (h : tagsOk ts) :
    tagsOk (c.apply ts) := by
  cases c with
  | place => cases hc
  | escalate crew => exact tagsOk_map (fun t => by split <;> rfl) h
  | remove crew => exact tagsOk_sublist List.filter_sublist h
  | expire crew => exact tagsOk_sublist List.filter_sublist h

theorem isPlace_of_isExpire {c : TagChange} (h : isExpire c = true) : isPlace c = false := by
  cases c with
  | expire => rfl
  | _ => cases h

/-- Expiries alone place no tag, whatever table they meet. -/
theorem writeOk_of_expiries {cs : List TagChange} (h : cs.all isExpire = true) (ts : List Tag) :
    writeOk ts cs := by
  left
  simp only [List.all_eq_true, Bool.not_eq_true'] at h ⊢
  exact fun c hc => isPlace_of_isExpire (h c hc)

/-! ## A change is decided (R109) -/

/-- An idle store has no change waiting (R51, R109). -/
theorem State.tagsSound.changes_of_idle (h : s.tagsSound) (hidle : s.store.inFlight = none) :
    s.lku.changes = [] := by
  by_contra hne
  have hwait : s.store.waitList ≠ [] := List.ne_nil_of_mem (h.waits hne)
  simpa [hidle] using h.busy hwait

/-- R109, R113: an expiry may be decided at any time; any other change finds the store idle, and fits
the table in force. -/
theorem TagLaw.stageTag (h : TagLaw s) {c : TagChange}
    (hc : isExpire c = true ∨ s.store.inFlight = none ∧ writeOk s.lku.inForce [c]) :
    TagLaw (s.stageTag c) := by
  obtain ⟨hs, hv, hf⟩ := (tagLaw_iff s).1 h
  have hok : writeOk s.lku.inForce [c] :=
    hc.elim (fun he => writeOk_of_expiries (by simpa using he) _) And.right
  refine (tagLaw_iff _).2 ?_
  dsimp only [State.stageTag, State.requestStore]
  split
  · rename_i hnone
    have hidle : s.store.inFlight = none := by simpa using hnone
    have hnil := hs.changes_of_idle hidle
    refine ⟨⟨hs.totablesAgree.of_same rfl rfl rfl, rfl, fun hne => absurd rfl hne, fun _ => rfl⟩, hv, ?_⟩
    rintro _ ⟨⟩ ts cs hb
    obtain ⟨-, rfl⟩ := StoreBody.tags.inj hb
    simpa [hnil] using hok
  · rename_i hnone
    have hsome : s.store.inFlight.isSome = true := by
      simpa [Option.isSome_iff_ne_none] using hnone
    have hexp : isExpire c = true := hc.resolve_right fun hi => by simp [hi.1] at hsome
    have hall : (s.lku.changes ++ [c]).all isExpire = true := by
      simp only [List.all_append, hs.expiries, List.all_cons, hexp, List.all_nil, Bool.and_self]
    split
    · rename_i hin
      exact ⟨⟨hs.totablesAgree.of_same rfl rfl rfl, hall, fun _ => by simpa using hin, hs.busy⟩, hv, hf⟩
    · exact ⟨⟨hs.totablesAgree.of_same rfl rfl rfl, hall, fun _ => by simp, fun _ => hsome⟩, hv, hf⟩

/-! ## A tag table write completes (R109, R114) -/

theorem effectTag_tables (c : TagChange) (s : State) :
    (s.effectTag c).lku.inForce = (placedNow s.fcu.time c).apply s.lku.inForce ∧
    (s.effectTag c).store.tags = (placedNow s.fcu.time c).apply s.lku.inForce := ⟨rfl, rfl⟩

theorem State.tablesAgree.effectTag {c : TagChange}
    (hc : tagsOk ((placedNow s.fcu.time c).apply s.lku.inForce)) : (s.effectTag c).tablesAgree := by
  obtain ⟨hforce, hstored⟩ := effectTag_tables c s
  exact ⟨hforce ▸ hc, hstored ▸ hc, fun _ => hstored.trans hforce.symm⟩

theorem State.tablesAgree.effectTags (h : s.tablesAgree) {cs : List TagChange}
    (hcs : writeOk s.lku.inForce cs) : (s.effectTags cs).tablesAgree := by
  rcases hcs with hcs | ⟨tag, r, rfl, hcrew, hroom⟩
  · induction cs generalizing s with
    | nil => exact h
    | cons c cs ih =>
      simp only [List.all_cons, Bool.and_eq_true, Bool.not_eq_true'] at hcs
      exact ih (.effectTag (tagsOk_apply (by simpa using hcs.1) h.inForce)) hcs.2
  · exact .effectTag (tagsOk_append h.inForce hcrew hroom)

theorem effectTags_sound (h : s.tagsSound) {cs : List TagChange}
    (hcs : writeOk s.lku.inForce cs) : (s.effectTags cs).tagsSound where
  totablesAgree := h.totablesAgree.effectTags hcs
  expiries := by simpa using h.expiries
  waits := by simpa using h.waits
  busy := by simpa [Store.waitsForOne] using h.busy

/-- SEQ has these views of the tag table (R114). -/
def State.setTagViews (present noClose : Bool) (s : State) : State :=
  s.modSeq (fun q => { q with tagPresent := present, noClosePresent := noClose })

theorem State.keepsTags.setTagViews (h : s.keepsTags t) (present noClose : Bool) :
    (s.setTagViews present noClose).keepsTags (t.setTagViews present noClose) :=
  { h with present := rfl, noClose := rfl }

theorem State.tagsSound.setTagViews (h : s.tagsSound) (present noClose : Bool) :
    (s.setTagViews present noClose).tagsSound :=
  ⟨⟨h.inForce, h.stored, h.agree⟩, h.expiries, h.waits, h.busy⟩

/-- R78: SEQ takes the notice with its new views, and acts. -/
theorem keepsTags_seqTags (present noClose : Bool) (s : State) :
    (s.setTagViews present noClose).keepsTags (s.seqTags present noClose) := by
  have h := State.keepsTags.refl (s.setTagViews present noClose)
  exact .ite h.seqNoClose (.ite h.seqAnyTag h.checkClose)

section

variable {before now : List Tag} (h : s.keepsTags t)
include h

/-- R59, R60: SET's notice leaves the tags. -/
theorem keepsTags_setNotice : s.keepsTags (if anyTag before = anyTag now then t
    else if anyTag now then t.setTagged else t.setUntagged) :=
  .ite h (.ite h.setTagged h.setUntagged)

/-- R114: SEQ's notice, given where one of its views changes, leaves it with the views of the table
in force. -/
theorem keepsTags_seqNotice (hp : s.seq.tagPresent = anyTag before)
    (hn : s.seq.noClosePresent = anyNoClose before) :
    (s.setTagViews (anyTag now) (anyNoClose now)).keepsTags
      (if anyTag before = anyTag now ∧ anyNoClose before = anyNoClose now then t
        else t.seqArrive (State.seqTags (anyTag now) (anyNoClose now))) := by
  split
  · obtain ⟨hsame, hsame'⟩ := ‹_ ∧ _›
    exact { h with
            present := h.present.trans (hp.trans hsame)
            noClose := h.noClose.trans (hn.trans hsame') }
  · exact (h.setTagViews _ _).trans (.seqArrive (keepsTags_seqTags _ _ t))

end

/-- R114: in either order, the notices leave SEQ with the views of the table in force. -/
theorem keepsTags_tagNotices {before : List Tag} (hp : s.seq.tagPresent = anyTag before)
    (hn : s.seq.noClosePresent = anyNoClose before) :
    (s.setTagViews (anyTag s.lku.inForce) (anyNoClose s.lku.inForce)).keepsTags
      (s.tagNotices before) := by
  have h := State.keepsTags.refl s
  dsimp only [State.tagNotices]
  split
  exacts [keepsTags_seqNotice (keepsTags_setNotice h) hp hn,
    keepsTags_setNotice (keepsTags_seqNotice h hp hn)]

/-- R109, R114: after a tag table write, but for the operation in flight, the law holds. -/
theorem tagsStored_sound (h : TagLaw s) {cs : List TagChange} (hcs : writeOk s.lku.inForce cs) :
    (s.tagsStored cs).tagsSound ∧ (s.tagsStored cs).tagViews := by
  obtain ⟨hs, ⟨hp, hn⟩, -⟩ := (tagLaw_iff s).1 h
  have k : ((s.effectTags cs).setTagViews (anyTag (s.effectTags cs).lku.inForce)
      (anyNoClose (s.effectTags cs).lku.inForce)).keepsTags (s.tagsStored cs) :=
    (keepsTags_tagNotices (before := s.lku.inForce) (by simpa using hp) (by simpa using hn)).aside
      (by simp [State.tagless, Seq.sameTags, State.tagsStored])
  have hsound : ((s.effectTags cs).setTagViews (anyTag (s.effectTags cs).lku.inForce)
      (anyNoClose (s.effectTags cs).lku.inForce)).tagsSound :=
    (effectTags_sound hs hcs).setTagViews _ _
  exact ⟨hsound.of_keeps k, by rw [k.present, k.inForce]; rfl, by rw [k.noClose, k.inForce]; rfl⟩

/-! ## Store operations (R51, R52) -/

/-- A store operation that writes another table leaves the tags. -/
theorem State.keepsTags.startStore (h : s.keepsTags t) (b : StoreBody) (r : Option Reply)
    (hb : ∀ ts cs, b ≠ .tags ts cs := by simp) : s.keepsTags (t.startStore b r) := by
  refine h.trans { refl t with busy := fun _ _ => rfl, flight := ?_ }
  rintro _ ⟨⟩ ts cs hts
  exact absurd hts (hb ts cs)

/-- R52: the contents of another table take effect, and the tags stay. -/
theorem keepsTags_completeStore {b : StoreBody} (hb : ∀ ts cs, b ≠ .tags ts cs) (r : Option Reply)
    (s : State) : s.keepsTags (s.completeStore b r) := by
  have h := State.keepsTags.refl s
  have hw : ∀ (table index : Nat) (u : State), s.keepsTags u → s.keepsTags (u.written table index r) :=
    fun _ _ _ hu => hu.aside
  cases b with
  | tags ts cs => exact absurd rfl (hb ts cs)
  | curve => exact hw _ _ _ h.aside
  | group => exact hw _ _ _ h.aside
  | device => exact hw _ _ _ h.aside
  | selection => exact h.aside (by simp [State.tagless, Seq.sameTags, State.completeStore])
  | gates => exact hw _ _ _ h.aside
  | battery => exact hw _ _ _ h.aside
  | radio => exact hw _ _ _ h.aside
  | areas => exact hw _ _ _ h.aside
  | lastFailure => exact h.aside (by simp [State.tagless, Seq.sameTags, State.completeStore])

/-- R51: the store is free, and the oldest request starts; a tag table write that starts carries the
expiries that have waited. -/
theorem tagLaw_storeFree (h : s.tagsSound) (hv : s.tagViews) : TagLaw s.storeFree := by
  refine (tagLaw_iff _).2 ?_
  dsimp only [State.storeFree]
  cases hw : s.store.waitList with
  | nil =>
    have hnil : s.lku.changes = [] := by
      by_contra hne
      simpa [hw] using h.waits hne
    simp only [State.modStore_store, hw]
    exact ⟨⟨h.totablesAgree.of_same rfl rfl rfl, h.expiries, fun hne => absurd hnil hne,
      fun hne => absurd hw hne⟩, hv, by rintro _ ⟨⟩⟩
  | cons table rest =>
    simp only [State.modStore_store, hw]
    have hother : table ≠ .tags → s.lku.changes ≠ [] → InternalTable.tags ∈ rest := by
      intro ht hne
      have hmem := h.waits hne
      rw [hw] at hmem
      exact (List.mem_cons.1 hmem).resolve_left (Ne.symm ht)
    cases table with
    | tags =>
      refine ⟨⟨h.totablesAgree.of_same rfl rfl rfl, rfl, fun hne => absurd rfl hne,
        fun _ => rfl⟩, hv, ?_⟩
      rintro _ ⟨⟩ ts cs hb
      obtain ⟨-, rfl⟩ := StoreBody.tags.inj hb
      exact writeOk_of_expiries h.expiries _
    | selection =>
      exact ⟨⟨h.totablesAgree.of_same rfl rfl rfl, h.expiries, hother (by decide), fun _ => rfl⟩, hv,
        by rintro _ ⟨⟩ ts cs ⟨⟩⟩
    | lastFailure =>
      exact ⟨⟨h.totablesAgree.of_same rfl rfl rfl, h.expiries, hother (by decide), fun _ => rfl⟩, hv,
        by rintro _ ⟨⟩ ts cs ⟨⟩⟩

theorem TagLaw.storeComplete (h : TagLaw s) : TagLaw s.storeComplete := by
  obtain ⟨-, -, hf⟩ := (tagLaw_iff s).1 h
  dsimp only [State.storeComplete]
  split
  · exact h
  · rename_i op hop
    by_cases hb : ∃ ts cs, op.body = .tags ts cs
    · obtain ⟨ts, cs, hb⟩ := hb
      have hcs : writeOk s.lku.inForce cs := hf op hop ts cs hb
      rw [hb]
      exact tagLaw_storeFree (tagsStored_sound h hcs).1 (tagsStored_sound h hcs).2
    · push Not at hb
      obtain ⟨hs, hv, -⟩ := (tagLaw_iff _).1 (h.of_keeps (keepsTags_completeStore hb op.reply s))
      exact tagLaw_storeFree hs hv

theorem TagLaw.countdownEnd (h : TagLaw s) (crew : Nat) : TagLaw (s.countdownEnd crew) := by
  have h1 : TagLaw (s.modLku (fun l =>
      { l with countdowns := l.countdowns.map (fun p => if p.1 = crew then (p.1, 0) else p) })) :=
    h.of_keeps (State.keepsTags.refl s).aside
  dsimp only [State.countdownEnd, State.tagExpires]
  (repeat' split)
  exacts [h1, h1.stageTag (.inl rfl), h]

/-! ## Resets (R115, R189, R190) -/

/-- R190: a part that does not run has no tag in force, and its stored tags. -/
theorem TagLaw.stopped (h : TagLaw s) {f : Part → Part} (hf : (f s.part).run ≠ .running) :
    TagLaw (s.resetBlocks.modPart f) := by
  obtain ⟨hs, -, -⟩ := (tagLaw_iff s).1 h
  exact (tagLaw_iff _).2 ⟨⟨⟨by simp [State.resetBlocks, lkuReset, tagsOk], hs.stored,
    fun hrun => absurd hrun hf⟩, rfl, fun hne => absurd rfl hne, fun hne => absurd rfl hne⟩,
    ⟨rfl, rfl⟩, by rintro _ ⟨⟩⟩

/-- R87, R115: LKU and SEQ take the stored tags. -/
theorem tagLaw_restored (hs : tagsOk s.store.tags) (hc : s.lku.changes = [])
    (hbusy : s.store.waitsForOne) (hf : ∀ op ∈ s.store.inFlight, ∀ ts cs, op.body ≠ .tags ts cs) :
    TagLaw s.resetLku.resetSeq :=
  (tagLaw_iff _).2 ⟨⟨⟨hs, hs, fun _ => rfl⟩, by simp [hc], by simp [hc],
    by simpa [Store.waitsForOne] using hbusy⟩, ⟨rfl, rfl⟩,
    fun op hop ts cs hb => absurd hb (hf op (by simpa using hop) ts cs)⟩

theorem TagLaw.resetAs (h : TagLaw s) (c : ResetCause) : TagLaw (s.resetAs c) := by
  obtain ⟨hs, -, -⟩ := (tagLaw_iff s).1 h
  have k : (s.resetBlocks.modPart (fun _ =>
      { run := .running, resetQual := startQual s.resetBlocks.lines })).keepsTags
      (s.resetBlocks.modPart (fun _ =>
        { run := .running, resetQual := startQual s.resetBlocks.lines })).resetSets :=
    .requestStore (.modSets (.refl _) _) none
  refine TagLaw.of_keeps (tagLaw_restored (k.stored ▸ hs.stored) k.changes
    (k.busy fun hne => absurd rfl hne) fun op hop ts cs hb => ?_) (.aside (.refl _) ?_)
  · obtain ⟨o, ho, -⟩ := k.flight op hop ts cs hb
    cases ho
  · simp [State.tagless, Seq.sameTags, State.resetAs, State.startPart]

theorem TagLaw.resetTaken (h : TagLaw s) : TagLaw s.resetTaken := by
  dsimp only [State.resetTaken]
  split
  exacts [h.stopped (by simp), h]

theorem TagLaw.resetReleased (h : TagLaw s) : TagLaw s.resetReleased := by
  have h1 : TagLaw (s.modLines (fun l => { l with resetIn := false })) :=
    h.of_keeps (State.keepsTags.refl s).aside
  dsimp only [State.resetReleased]
  split
  exacts [h1.resetAs _, h1.of_keeps (State.keepsTags.refl _).aside]

/-! ## The execution of commands (R183) -/

/-- R183: the store is idle. -/
theorem storeIdle_inFlight {st : Store} (h : storeIdle st = true) : st.inFlight = none := by
  simp only [storeIdle, Bool.and_eq_true, Option.isNone_iff_eq_none] at h
  exact h.1

/-- R110, R111: PLACE_TAG stages an escalation, or a tag for a crew without one, with room for it. -/
theorem TagLaw.placeTag (h : TagLaw s) (hidle : s.store.inFlight = none) (e : IntakeEntry)
    (r : Option Reply) : TagLaw (bodyPlaceTag e r s) := by
  have ha := fun o => h.of_keeps ((State.keepsTags.refl s).answer r o)
  dsimp only [bodyPlaceTag]
  split
  · exact ha _
  · split
    · split
      exacts [ha _, h.stageTag (.inr ⟨hidle, .inl rfl⟩)]
    · rename_i hcrew
      split
      · exact ha _
      · rename_i hroom
        exact h.stageTag (.inr ⟨hidle, .inr ⟨_, _, rfl, hcrew, not_le.1 hroom⟩⟩)

theorem TagLaw.removeTag (h : TagLaw s) (hidle : s.store.inFlight = none) (e : IntakeEntry)
    (r : Option Reply) : TagLaw (bodyRemoveTag e r s) := by
  have ha := fun o => h.of_keeps ((State.keepsTags.refl s).answer r o)
  dsimp only [bodyRemoveTag]
  (repeat' split)
  exacts [ha _, ha _, h.stageTag (.inr ⟨hidle, .inl rfl⟩), ha _]

theorem TagLaw.restart (h : TagLaw s) (e : IntakeEntry) (r : Option Reply) :
    TagLaw (bodyRestart e r s) := by
  have ha := fun o => h.of_keeps ((State.keepsTags.refl s).answer r o)
  dsimp only [bodyRestart]
  (repeat' split)
  exacts [ha _, h.resetAs _, ha _]

/-- A command that neither places nor removes a tag, nor restarts the part, leaves the tags. -/
theorem keepsTags_body {k : Option CmdKind}
    (hk : k ∉ [some .placeTag, some .removeTag, some .restart]) (e : IntakeEntry) (r : Option Reply)
    (s : State) : s.keepsTags (bodyOf k e r s) := by
  have h := State.keepsTags.refl s
  have ha := h.answer r
  match k with
  | none => exact ha _
  | some .readStatus =>
    dsimp only [bodyOf, bodyReadStatus]
    split
    exacts [h.aside, ha _]
  | some .readTable =>
    dsimp only [bodyOf, bodyReadTable]
    split
    exacts [h.aside, ha _]
  | some .selectGroup =>
    dsimp only [bodyOf, bodySelectGroup]
    (repeat' split)
    exacts [ha _, ha _, ha _, ha _, h.applyLoad _ _ _, (h.pendSelection _).answer _ _]
  | some .setTime =>
    dsimp only [bodyOf, bodySetTime]
    split
    exacts [h.aside, ha _]
  | some .sampleForward =>
    dsimp only [bodyOf, bodySampleForward]
    split
    exacts [h.aside, ha _]
  | some .trip =>
    dsimp only [bodyOf, bodyTrip]
    split
    exacts [(State.keepsTags.seqArrive h.seqTripCommand).answer _ _, ha _]
  | some .close =>
    dsimp only [bodyOf, bodyClose]
    split
    exacts [(State.keepsTags.seqArrive h.seqCloseCommand).answer _ _, ha _]
  | some .placeTag => simp at hk
  | some .removeTag => simp at hk
  | some .testStart =>
    dsimp only [bodyOf, bodyTestStart]
    (repeat' split)
    exacts [ha _, ha _, h.aside, ha _]
  | some .testCancel =>
    dsimp only [bodyOf, bodyTestCancel]
    (repeat' split)
    exacts [ha _, ha _, h.aside]
  | some .writeCurve =>
    dsimp only [bodyOf, bodyWriteCurve]
    split
    exacts [h.startStore _ _, ha _]
  | some .clearCurve =>
    dsimp only [bodyOf, bodyClearCurve]
    (repeat' split)
    exacts [ha _, ha _, ha _, ha _, h.startStore _ _]
  | some .writeGroup =>
    dsimp only [bodyOf, bodyWriteGroup, State.clearGroup]
    (repeat' split)
    exacts [h.startStore _ _, ha _, ha _, ha _, ha _, h.startStore _ _, ha _]
  | some .writeDevice =>
    dsimp only [bodyOf, bodyWriteDevice]
    split
    exacts [h.startStore _ _, ha _]
  | some .writeBattery =>
    dsimp only [bodyOf, bodyWriteBattery]
    (repeat' split)
    exacts [ha _, ha _, h.startStore _ _, ha _]
  | some .writeRadio =>
    dsimp only [bodyOf, bodyWriteRadio]
    split
    exacts [h.startStore _ _, ha _]
  | some .writeAreas =>
    dsimp only [bodyOf, bodyWriteAreas]
    split
    exacts [h.startStore _ _, ha _]
  | some .flushClass =>
    dsimp only [bodyOf, bodyFlushClass]
    split
    exacts [h.aside, ha _]
  | some .driveRestore =>
    dsimp only [bodyOf, bodyDriveRestore]
    (repeat' split)
    exacts [ha _, (State.keepsTags.seqArrive (t := s.drvRestore)
      (State.keepsTags.seqRestored h.aside)).answer _ _, h.aside, ha _, ha _, ha _]
  | some .restart => simp at hk
  | some .writeGates =>
    dsimp only [bodyOf, bodyWriteGates]
    split
    exacts [h.startStore _ _, ha _]

/-- R183: a command that writes the tag table finds the store idle. -/
theorem TagLaw.body (h : TagLaw s) {k : Option CmdKind}
    (hidle : k.any needsStore = true → s.store.inFlight = none) (e : IntakeEntry)
    (r : Option Reply) : TagLaw (bodyOf k e r s) := by
  by_cases hk : k ∈ [some .placeTag, some .removeTag, some .restart]
  · simp only [List.mem_cons, List.not_mem_nil, or_false] at hk
    rcases hk with rfl | rfl | rfl
    exacts [h.placeTag (hidle rfl) e r, h.removeTag (hidle rfl) e r, h.restart e r]
  · exact h.of_keeps (keepsTags_body hk e r s)

theorem TagLaw.serve (h : TagLaw s) : TagLaw s.serve := by
  refine State.serve_ind (fun u e rest hi hx hu => ?_) h
  have hb : TagLaw (u.begun e) := hu.of_keeps (State.keepsTags.refl u).aside
  rw [State.executeHead_eq hi]
  split
  · exact hb.of_keeps (State.keepsTags.refl _).aside
  · refine hb.body (fun hk => ?_) _ _
    simp only [executable, storeFits, hk, Bool.and_eq_true] at hx
    simpa using storeIdle_inFlight (by simpa using hx.2)

/-! ## Rows and steps -/

theorem TagLaw.whenRunning (h : TagLaw s) {f : State → State} (hf : TagLaw (f s)) :
    TagLaw (Machine.whenRunning f s) := by
  dsimp only [Machine.whenRunning]
  split
  exacts [hf.serve, h]

/-- A row whose own effect leaves the tags. -/
theorem TagLaw.row (h : TagLaw s) {f : State → State} (k : s.keepsTags (f s)) :
    TagLaw (Machine.whenRunning f s) := h.whenRunning (h.of_keeps k)

/-- A row that follows an input line in every run state (R189). -/
theorem TagLaw.edge (h : TagLaw s) {f : State → State} (k : s.keepsTags (f s)) (g : Lines → Lines) :
    TagLaw (if s.part.run = .running then (f s).serve else s.modLines g) := by
  split
  exacts [(h.of_keeps k).serve, h.of_keeps (State.keepsTags.refl s).aside]

theorem TagLaw.rxBytes (h : TagLaw s) (p : Port) (bs : List Byte) : TagLaw (s.rxBytes p bs) := by
  induction bs generalizing s with
  | nil => exact h
  | cons b bs ih =>
    refine ih ?_
    have h1 : TagLaw (s.setRx p ((s.fcu.rx p).take b).1) :=
      h.of_keeps (State.keepsTags.refl s).aside
    dsimp only [State.rxByte]
    split
    exacts [h1, TagLaw.serve (h1.of_keeps (State.keepsTags.refl _).aside)]

theorem TagLaw.exec (h : TagLaw s) (c : Instr) : ∃ t, exec c s = .next t ∧ TagLaw t := by
  have k := State.keepsTags.refl s
  cases c with
  | sampleFrameReceived bytes => exact ⟨_, rfl, h.row (k.sampleReceived bytes)⟩
  | silenceTimerExpiry => exact ⟨_, rfl, h.row k.silenceExpired⟩
  | openIntervalExpiry => exact ⟨_, rfl, h.row (k.seqExpiry _ k.seqCloseWait)⟩
  | closeWaitExpiry => exact ⟨_, rfl, h.row (k.seqExpiry _ (k.seqLockout _))⟩
  | reclaimExpiry => exact ⟨_, rfl, h.row (k.seqExpiry _ k.seqReclaimEnd)⟩
  | tripMonitorExpiry => exact ⟨_, rfl, h.row k.tripMonitorEnd⟩
  | closeMonitorExpiry => exact ⟨_, rfl, h.row k.closeMonitorEnd⟩
  | storeOperationComplete => exact ⟨_, rfl, h.whenRunning h.storeComplete⟩
  | tagExpiryCountdownEnd crew => exact ⟨_, rfl, h.whenRunning (h.countdownEnd crew)⟩
  | batterySecondEnd => exact ⟨_, rfl, h.row k.secondEnd⟩
  | stationFrameReceived port bytes => exact ⟨_, rfl, h.whenRunning (h.rxBytes port bytes)⟩
  | partTimeSecond => exact ⟨_, rfl, h.row k.partSecond⟩
  | resetLine => exact ⟨_, rfl, h.resetTaken⟩
  | resetInRelease => exact ⟨_, rfl, h.resetReleased⟩
  | powerOn => exact ⟨_, rfl, h.resetAs _⟩
  | powerLoss => exact ⟨_, rfl, h.stopped (by simp)⟩
  | resetInAsserted =>
    refine ⟨_, rfl, h.of_keeps ?_⟩
    dsimp only [State.resetAsserted]
    exact .ite k.aside k.aside
  | supplyPresentEdge level => exact ⟨_, rfl, h.edge k.aside _⟩
  | modemReadyChange level => exact ⟨_, rfl, h.edge k.aside _⟩
  | carrierDetChange level => exact ⟨_, rfl, h.edge k.aside _⟩
  | frameByteGapTimeout port =>
    refine ⟨_, rfl, h.row ?_⟩
    dsimp only [State.byteGap]
    split
    exacts [k, k.aside]
  | frameLengthExceeded port =>
    exact ⟨_, rfl, h.row (k.aside (by simp [State.tagless, Seq.sameTags, State.lengthExceeded]))⟩
  | supplyChangeTaken | absorbTimeLimitReached | faultRecoveryExpiry | testIntervalElapse
  | testRetryExpiry | settleEnd | loadEnd | gatherWindowExpiry | profileHourEnd | poll
  | responseWindowExpiry | keyUpDelayExpiry | radioFrameSent | holdoffExpiry | confirmTimeout
  | localFrameSent => exact ⟨_, rfl, h.row k.aside⟩
  | _ =>
    exact ⟨_, rfl, h.row (f := State.offerRow _)
      (k.aside (by simp [State.tagless, Seq.sameTags, State.offerRow]))⟩

/-- Settles O17: every row but the decision and the completion of a change, and a reset, leaves the tags;
a decided change fits the table in force, and its completion brings the notices that make SEQ's views
right. -/
theorem tagTableKept : Obligations.TagTableKept := by
  intro s t h ht
  simp only [step] at ht
  split at ht
  · simp only [idle] at ht
    split at ht
    · obtain ⟨u, hu, hlaw⟩ := h.exec _
      obtain rfl : u = t := Host.Outcome.next.inj (hu.symm.trans ht)
      exact hlaw
    · obtain rfl := Host.Outcome.next.inj ht
      exact h.row (State.keepsTags.refl s).tick
  · have hp : ∀ q, TagLaw (s.setPending q) := fun _ => h.of_keeps (State.keepsTags.refl s).aside
    obtain ⟨u, hu, hlaw⟩ := (hp _).exec _
    obtain rfl : u = t := Host.Outcome.next.inj (hu.symm.trans ht)
    exact hlaw

end Sys2Proof.Machine
end

section
/-! Writes of settings (R46 to R50, R54, R121, R123, R164, R178): an executed write command is refused with
an outcome, or starts the store operation of its contents, as the checks of its table decide. -/

namespace Sys2Proof.Machine

variable {s : State} {e e' : IntakeEntry} {h : CmdHead} {p : List Byte}

/-! ## What an executed command comes to -/

/-- The row `c` refuses its command with the outcome `o`, and leaves everything else. -/
def Refuses (s : State) (e' : IntakeEntry) (c : Instr) (o : CmdOutcome) : Prop :=
  ∃ t, exec c s = .next t ∧ Answered s e' o [] t ∧ AllBut [.slr, .pkm, .fcu] s t

/-- The row `c` starts the store operation of `b`, which will answer its command (R51). -/
def Starts (s : State) (e' : IntakeEntry) (c : Instr) (b : StoreBody) : Prop :=
  ∃ t, exec c s = .next t ∧ Started (s.begun e') b (replyOf s e') t

/-- The owner of an executed command does `f` with it, in the state `begun`. -/
def Does (s : State) (e' : IntakeEntry) (c : Instr) (f : Option Reply → State → State) : Prop :=
  exec c s = .next (f (replyOf s e') (s.begun e'))

theorem does_of_executes {k : CmdKind} (hx : Executes s (rowEntry h k p) e') {c : Instr}
    (hc : exec c s = commandRow h k p s) : Does s e' c (bodyOf (some k) e') :=
  hc.trans (commandRow_executes hx)

theorem refuses_of_does (hx : Executes s e e') {c : Instr} {o : CmdOutcome}
    (hd : Does s e' c (fun r u => u.answer r o)) : Refuses s e' c o :=
  ⟨_, hd, begun_answered hx o (Nat.zero_le _), begun_allBut _ _ _ _ _⟩

theorem starts_of_does {c : Instr} {b : StoreBody}
    (hd : Does s e' c (fun r u => u.startStore b r)) : Starts s e' c b :=
  ⟨_, hd, rfl, by simp [allBut_iff]⟩

/-! ## Curves and groups (R46 to R50) -/

theorem mem_namedCurves {g : Group} {c : Nat} :
    c ∈ namedCurves g ↔ ∃ r ∈ g.rows, r.ptCurve = c ∨ r.gtCurve = c := by
  simp [namedCurves, eq_comm]

/-- R49: every curve that the group names is present. -/
theorem curvesPresent_iff {st : Store} {g : Group} : curvesPresent st g = true ↔
    ∀ r ∈ g.rows, st.curves[r.ptCurve]?.join.isSome = true ∧
      st.curves[r.gtCurve]?.join.isSome = true := by
  simp only [curvesPresent, List.all_eq_true, mem_namedCurves, curveAt]
  constructor
  · exact fun hall r hr => ⟨hall _ ⟨r, hr, .inl rfl⟩, hall _ ⟨r, hr, .inr rfl⟩⟩
  · rintro hall c ⟨r, hr, rfl | rfl⟩
    exacts [(hall r hr).1, (hall r hr).2]

/-- R47: some group names the curve. -/
theorem curveNamed_iff {st : Store} {c : Nat} : curveNamed st c = true ↔
    ∃ g, some g ∈ st.groups ∧ ∃ r ∈ g.rows, r.ptCurve = c ∨ r.gtCurve = c := by
  simp only [curveNamed, List.any_eq_true, Option.any_eq_true, List.contains_iff_mem,
    mem_namedCurves]
  constructor
  · rintro ⟨o, ho, g, rfl, hr⟩
    exact ⟨g, ho, hr⟩
  · rintro ⟨g, hg, hr⟩
    exact ⟨some g, hg, g, rfl, hr⟩

/-! ## Contents that are read and checked as a whole (R46, R54, R121, R164, R178) -/

/-- A write whose reader makes every check: what it reads is written, and the rest is INVALID. -/
theorem checked_executes {α : Type} (read : List Byte → Option α) (b : α → StoreBody) {k : CmdKind}
    {c : Instr} (hx : Executes s (rowEntry h k p) e') (hc : exec c s = commandRow h k p s)
    (hb : ∀ r u, bodyOf (some k) e' r u =
      (read e'.args).elim (u.answer r .invalid) (fun a => u.startStore (b a) r)) :
    (∀ a, read p = some a → Starts s e' c (b a)) ∧ (read p = none → Refuses s e' c .invalid) := by
  have hd := does_of_executes hx hc
  simp only [Does, hb, args_of_executes hx] at hd
  constructor
  · intro a hr
    rw [hr] at hd
    exact starts_of_does hd
  · intro hr
    rw [hr] at hd
    exact refuses_of_does hx hd

/-! ## Clears (R47, R50) -/

theorem clearCurve_executes (hx : Executes s (rowEntry h .clearCurve p) e') :
    (p.length ≠ 1 → Refuses s e' (.clearCurve h p) .invalid) ∧
    (∀ n : Byte, p = [n] →
      if 15 < n.toNat then Refuses s e' (.clearCurve h p) .invalid
      else if s.store.curves[n.toNat]?.join = none then Refuses s e' (.clearCurve h p) .notFound
      else
        let named := ∃ g, some g ∈ s.store.groups ∧
          ∃ r ∈ g.rows, r.ptCurve = n.toNat ∨ r.gtCurve = n.toNat
        (named → Refuses s e' (.clearCurve h p) .inUse) ∧
        (¬ named → Starts s e' (.clearCurve h p) (.curve n.toNat none))) := by
  have hd : Does s e' (.clearCurve h p) _ := does_of_executes hx rfl
  simp only [Does, bodyOf, bodyClearCurve, args_of_executes hx] at hd
  constructor
  · intro hlen
    simp only [readByte_of_length hlen] at hd
    exact refuses_of_does hx hd
  · rintro n rfl
    simp only [readByte_single, State.begun_frame, curveAt, Option.isNone_iff_eq_none] at hd
    split <;> rename_i hslot
    · rw [if_pos hslot] at hd
      exact refuses_of_does hx hd
    · rw [if_neg hslot] at hd
      split <;> rename_i habsent
      · rw [if_pos habsent] at hd
        exact refuses_of_does hx hd
      · rw [if_neg habsent] at hd
        refine ⟨fun hn => ?_, fun hn => ?_⟩
        · rw [if_pos (curveNamed_iff.2 hn)] at hd
          exact refuses_of_does hx hd
        · rw [if_neg (fun hc => hn (curveNamed_iff.1 hc))] at hd
          exact starts_of_does hd

theorem clearGroup_does {slot : Nat} {c : Instr} (hx : Executes s e e')
    (hd : Does s e' c (fun r u => u.clearGroup slot r)) :
    if 3 < slot then Refuses s e' c .invalid
    else if s.store.groups[slot]?.join = none then Refuses s e' c .notFound
    else if s.sets.active = some slot ∨ s.sets.ret = some (some slot) then Refuses s e' c .inUse
    else Starts s e' c (.group slot none) := by
  simp only [Does, State.clearGroup, State.begun_frame, groupAt, Option.isNone_iff_eq_none] at hd
  (repeat' split) <;> simp only [*, if_true, if_false] at hd
  exacts [refuses_of_does hx hd, refuses_of_does hx hd, refuses_of_does hx hd, starts_of_does hd]

/-! ## Groups and the battery record (R49, R50, R123) -/

theorem writeGroup_executes (hx : Executes s (rowEntry h .writeGroup p) e') {c : Instr}
    (hc : exec c s = commandRow h .writeGroup p s) :
    match readGroup p with
    | some (.contents slot g) =>
      if ∀ r ∈ g.rows, s.store.curves[r.ptCurve]?.join.isSome = true ∧
          s.store.curves[r.gtCurve]?.join.isSome = true then
        Starts s e' c (.group slot (some g))
      else Refuses s e' c .invalid
    | some (.clear slot) =>
      if 3 < slot then Refuses s e' c .invalid
      else if s.store.groups[slot]?.join = none then Refuses s e' c .notFound
      else if s.sets.active = some slot ∨ s.sets.ret = some (some slot) then Refuses s e' c .inUse
      else Starts s e' c (.group slot none)
    | none => Refuses s e' c .invalid := by
  have hd := does_of_executes hx hc
  simp only [Does, bodyOf, bodyWriteGroup, args_of_executes hx, State.begun_frame,
    curvesPresent_iff] at hd
  cases hr : readGroup p with
  | none =>
    simp only [hr] at hd
    exact refuses_of_does hx hd
  | some a =>
    simp only [hr] at hd
    cases a with
    | contents slot g =>
      dsimp only at hd ⊢
      split at hd <;> rename_i hcurves
      · rw [if_pos hcurves]
        exact starts_of_does hd
      · rw [if_neg hcurves]
        exact refuses_of_does hx hd
    | clear slot => exact clearGroup_does hx hd

theorem writeBattery_executes (hx : Executes s (rowEntry h .writeBattery p) e') :
    match readBattery p with
    | some b =>
      if s.bat.test ≠ .idle then Refuses s e' (.writeBattery h p) .busy
      else if batteryOk b = true then Starts s e' (.writeBattery h p) (.battery b)
      else Refuses s e' (.writeBattery h p) .invalid
    | none => Refuses s e' (.writeBattery h p) .invalid := by
  have hd : Does s e' (.writeBattery h p) _ := does_of_executes hx rfl
  simp only [Does, bodyOf, bodyWriteBattery, args_of_executes hx, State.begun_frame] at hd
  cases hr : readBattery p with
  | none =>
    simp only [hr] at hd
    exact refuses_of_does hx hd
  | some b =>
    simp only [hr] at hd
    dsimp only
    (repeat' split) <;> simp only [*, if_true, if_false, ne_eq, not_false_iff] at hd
    exacts [refuses_of_does hx hd, starts_of_does hd, refuses_of_does hx hd]

/-- Settles O52: the owner of each write command, by the checks of its table. -/
theorem writesAreChecked : Obligations.WritesAreChecked := by
  intro h p s e'
  refine ⟨fun hx => ?_, clearCurve_executes, fun hx => writeGroup_executes hx rfl,
    fun slot hx => writeGroup_executes (c := .writeGroupClear h slot) hx rfl, fun hx => ?_,
    writeBattery_executes, fun hx => ?_, fun hx => ?_, fun hx => ?_⟩
  · obtain ⟨hsome, hnone⟩ := checked_executes (c := .writeCurve h p) readCurve
      (fun a => .curve a.1 (some a.2)) hx rfl
      (fun r u => by cases hr : readCurve e'.args <;> simp [bodyOf, bodyWriteCurve, hr])
    split
    exacts [hsome _ ‹_›, hnone ‹_›]
  · obtain ⟨hsome, hnone⟩ := checked_executes (c := .writeDevice h p) readDevice .device hx rfl
      (fun r u => by cases hr : readDevice e'.args <;> simp [bodyOf, bodyWriteDevice, hr])
    split
    exacts [hsome _ ‹_›, hnone ‹_›]
  · obtain ⟨hsome, hnone⟩ := checked_executes (c := .writeRadio h p) readRadio .radio hx rfl
      (fun r u => by cases hr : readRadio e'.args <;> simp [bodyOf, bodyWriteRadio, hr])
    split
    exacts [hsome _ ‹_›, hnone ‹_›]
  · obtain ⟨hsome, hnone⟩ := checked_executes (c := .writeAreas h p) readAreas .areas hx rfl
      (fun r u => by cases hr : readAreas e'.args <;> simp [bodyOf, bodyWriteAreas, hr])
    split
    exacts [hsome _ ‹_›, hnone ‹_›]
  · obtain ⟨hsome, hnone⟩ := checked_executes (c := .writeGates h p) readGates .gates hx rfl
      (fun r u => by cases hr : readGates e'.args <;> simp [bodyOf, bodyWriteGates, hr])
    split
    exacts [hsome _ ‹_›, hnone ‹_›]

end Sys2Proof.Machine
end

section
/-! SELECT_GROUP (R41, R55, R57, R85): what a loading comes to, and the command in its order. -/

namespace Sys2Proof.Machine

variable {s s' : State} {e e' : IntakeEntry} {h : CmdHead} {p : List Byte}

/-! ## Frames -/

theorem AllBut.trans {l l' m : List Block} {u : State} (h : AllBut l s u) (h' : AllBut l' u s')
    (hl : l ⊆ m) (hl' : l' ⊆ m) : AllBut m s s' := by
  intro b hb
  have h1 := h b (fun hm => hb (hl hm))
  have h2 := h' b (fun hm => hb (hl' hm))
  cases b <;> exact Eq.trans h2 h1

/-- The execution of a command begins with FCU and the place of its response (R183). -/
theorem allBut_begun (s : State) (e : IntakeEntry) : AllBut [.slr, .fcu] s (s.begun e) := by
  simp [allBut_iff]

theorem allBut_answer (r : Option Reply) (o : CmdOutcome) (s : State) :
    AllBut [.pkm, .fcu] s (s.answer r o) := by
  simp [allBut_iff]

/-! ## A ROUTINE event (R153, R160) -/

/-- What sealing a ROUTINE record makes of RPB depends on RPB and the room in the area alone. -/
theorem sealRoutine_rpb_congr (hr : s.rpb = s'.rpb)
    (hfree : freeWords s .routine = freeWords s' .routine) :
    s.sealRoutine.rpb = s'.sealRoutine.rpb := by
  have hroom : ∀ n, hasRoom s .routine n = hasRoom s' .routine n := fun n => by
    rw [hasRoom, hasRoom, hfree]
  simp only [State.sealRoutine, hroom, hr]
  cases s'.rpb.routine with
  | none => simp [hr]
  | some g => cases hh : hasRoom s' .routine (reportWords g.entries.length) <;> simp [hr, hh]

/-- What a ROUTINE event makes of RPB depends on the reports, packet memory, FCU, the radio record and
the partition alone. -/
theorem emit_routine_rpb_congr (hr : s.rpb = s'.rpb) (hp : s.pkm = s'.pkm) (hf : s.fcu = s'.fcu)
    (hradio : s.store.radio = s'.store.radio) (hareas : s.store.areas = s'.store.areas) {e : Event}
    (he : eventClass e = .routine) : (s.emit e).rpb = (s'.emit e).rpb := by
  have hj : joined s e = joined s' e := by simp [joined, hr, hf, hradio]
  simp only [State.emit, hj, he, State.sealClass]
  split
  · exact sealRoutine_rpb_congr (by simp [hr]) (by simp [freeWords, hp, hareas])
  · simp [hr]

/-! ## A loading (R41, R55, R85) -/

/-- R41, R77: the cleared result of a loading ends the pickup and its episode, and leaves SEQ where it
is. -/
theorem State.seqResult_clear (s : State) : ∃ f : Seq → Seq,
    s.seqResult clearResult = s.modSeq f ∧ (f s.seq).state = s.seq.state ∧
      (f s.seq).shot = s.seq.shot ∧ (f s.seq).lastPickup = noFlags := by
  have hany : noFlags.any = false := rfl
  cases hs : s.seq.state <;>
    simp only [State.seqResult, State.modSeq_seq, hs, clearResult, State.seqEpisode, hany,
      Bool.false_eq_true, if_false, if_true]
  case ready =>
    exact ⟨fun q => { q with lastPickup := noFlags, lastOperate := noFlags, episode := none },
      rfl, hs, rfl, rfl⟩
  case reclaim =>
    exact ⟨fun q => { q with lastPickup := noFlags, lastOperate := noFlags, episode := none
                             timer := pauseTimer false q.timer }, rfl, hs, rfl, rfl⟩
  all_goals
    exact ⟨fun q => { q with lastPickup := noFlags, lastOperate := noFlags }, rfl, hs, rfl, rfl⟩

/-- A live set is in force: its source is active, the elements are at rest, the shot counter is within
the new N and SEQ is in its state. -/
structure State.Loaded (s : State) (l : LiveSet) (t : State) : Prop where
  frame : AllBut [.ele, .sets, .seq] s t
  sets : t.sets = { s.sets with live := l, active := l.source }
  rest : clearElements t.ele = t.ele
  shot : t.seq.shot = min s.seq.shot l.grp.shots
  state : t.seq.state = s.seq.state

theorem State.Loaded.seqResult {l : LiveSet} {u : State} (hu : s.Loaded l u) :
    s.Loaded l (u.seqResult clearResult) ∧ (u.seqResult clearResult).seq.lastPickup = noFlags := by
  obtain ⟨f, hf, hstate, hshot, hpickup⟩ := u.seqResult_clear
  rw [hf]
  refine ⟨⟨fun b hb => ?_, hu.sets, hu.rest, hshot.trans hu.shot, hstate.trans hu.state⟩, hpickup⟩
  have := hu.frame b hb
  cases b
  case seq => simp at hb
  all_goals exact this

/-- R41, R55, R85: what a loading comes to. -/
theorem State.takeLive_loaded (l : LiveSet) (s : State) :
    s.Loaded l (s.takeLive l) ∧ (s.takeLive l).seq.lastPickup = noFlags := by
  dsimp only [State.takeLive]
  refine State.Loaded.seqResult ?_
  split <;> rename_i hlt
  · exact ⟨by simp [allBut_iff], rfl, rfl, (min_eq_right (le_of_lt hlt)).symm, rfl⟩
  · exact ⟨by simp [allBut_iff], rfl, rfl, (min_eq_left (not_lt.1 hlt)).symm, rfl⟩

theorem liveSetOf_some {st : Store} {n : Nat} {g : Group} (hg : st.groups[n]?.join = some g) :
    liveSetOf st (some n) = { source := some n, grp := g, curves := curveCopies st g } := by
  simp [liveSetOf, groupAt, hg]

/-- R55: the live set holds the curves that its group names, as they stand in the store. -/
theorem mem_curveCopies {st : Store} {g : Group} {c : Nat} {k : Curve} :
    (c, k) ∈ curveCopies st g ↔
      st.curves[c]?.join = some k ∧ ∃ r ∈ g.rows, r.ptCurve = c ∨ r.gtCurve = c := by
  rw [← mem_namedCurves]
  simp only [curveCopies, List.mem_filterMap, Option.map_eq_some_iff, Prod.mk.injEq, curveAt]
  constructor
  · rintro ⟨_, hc, _, hk, rfl, rfl⟩
    exact ⟨hk, hc⟩
  · rintro ⟨hk, hc⟩
    exact ⟨c, hc, k, hk, rfl, rfl⟩

/-! ## A selection by command (R57) -/

/-- R51: an internal request of an idle store starts its operation. -/
theorem State.requestSelection_idle (hidle : s.store.inFlight = none) (r : Option Reply) :
    s.requestStore .selection r =
      s.startStore (.selection ⟨s.sets.active, s.sets.ret⟩) r := by
  simp [State.requestStore, hidle, State.startInternal, internalBody]

/-- R55, R57, R85: a selection by command is applied while the store is idle. -/
theorem State.applyLoad_command {n : Nat} {g : Group} (hg : s.store.groups[n]?.join = some g)
    (hidle : s.store.inFlight = none) (r : Option Reply) {t : State}
    (ht : t = s.applyLoad (some n) .command r) :
    t.sets.live = { source := some n, grp := g, curves := curveCopies s.store g } ∧
    t.sets.active = some n ∧ t.sets.pendingSel = none ∧ t.sets.ret = s.sets.ret ∧
    t.store = { s.store with
      inFlight := some ⟨.selection ⟨some n, s.sets.ret⟩, r, Config.storeMs⟩ } ∧
    clearElements t.ele = t.ele ∧ t.seq.shot = min s.seq.shot g.shots ∧
    t.seq.state = s.seq.state ∧ t.seq.lastPickup = noFlags ∧
    t.rpb = (s.emit (.groupChanged s.sets.active (some n) .command)).rpb ∧
    AllBut (eventBlocks ++ [.ele, .store, .sets, .seq]) s t := by
  obtain ⟨⟨hframe, hsets, hrest, hshot, hstate⟩, hpickup⟩ :=
    s.takeLive_loaded (liveSetOf s.store (some n))
  rw [liveSetOf_some hg] at hframe hsets hrest hshot hstate hpickup
  have hrpb : (s.takeLive _).rpb = s.rpb := hframe .rpb (by simp)
  have hpkm : (s.takeLive _).pkm = s.pkm := hframe .pkm (by simp)
  have hfcu : (s.takeLive _).fcu = s.fcu := hframe .fcu (by simp)
  have happly : t = (((s.takeLive { source := some n, grp := g, curves := curveCopies s.store g }).modSets
      (fun k => { k with pendingSel := none })).startStore (.selection ⟨some n, s.sets.ret⟩) r).emit
      (.groupChanged s.sets.active (some n) .command) := by
    rw [ht]
    dsimp only [State.applyLoad]
    rw [State.requestSelection_idle (by simpa using hidle)]
    simp [liveSetOf_some hg, hsets]
  have hevent : t.rpb = (s.emit (.groupChanged s.sets.active (some n) .command)).rpb := by
    rw [happly]
    exact emit_routine_rpb_congr (by simpa using hrpb) (by simpa using hpkm) (by simpa using hfcu)
      (by simp [State.startStore]) (by simp [State.startStore]) rfl
  have hrest' : AllBut (eventBlocks ++ [.store, .sets]) (s.takeLive
      { source := some n, grp := g, curves := curveCopies s.store g }) t := by
    rw [happly]
    simp [allBut_iff, eventBlocks]
  refine ⟨?_, ?_, ?_, ?_, ?_, ?_, ?_, ?_, ?_, hevent, hframe.trans hrest' (by simp) (by
    simp [eventBlocks])⟩ <;> rw [happly]
  all_goals simp [State.startStore, hsets, hrest, hshot, hstate, hpickup]

/-- R57 step 5: the selection waits, and a RETURN that it replaces gives up the return group. -/
theorem State.pendSelection_spec (n : Nat) (s : State) :
    (s.pendSelection n).sets.pendingSel = some (some n, .command) ∧
    (s.pendSelection n).sets.live = s.sets.live ∧ (s.pendSelection n).sets.active = s.sets.active ∧
    (s.sets.pendingSel.map Prod.snd ≠ some .ret →
      (s.pendSelection n).sets.ret = s.sets.ret ∧ AllBut [.sets] s (s.pendSelection n)) ∧
    (s.sets.pendingSel.map Prod.snd = some .ret → s.store.inFlight = none →
      (s.pendSelection n).sets.ret = none ∧
      (s.pendSelection n).store.inFlight =
        some ⟨.selection ⟨s.sets.active, none⟩, none, Config.storeMs⟩ ∧
      AllBut [.store, .sets] s (s.pendSelection n)) := by
  have hret : s.sets.pendingSel.any (fun p => p.2 == .ret) = true ↔
      s.sets.pendingSel.map Prod.snd = some .ret := by
    cases s.sets.pendingSel <;> simp
  by_cases hr : s.sets.pendingSel.map Prod.snd = some .ret
  · simp only [State.pendSelection, hret.2 hr, if_true]
    refine ⟨by simp, by simp, by simp, fun hn => absurd hr hn, fun _ hidle => ?_⟩
    rw [State.requestSelection_idle (by simpa using hidle)]
    exact ⟨rfl, rfl, by simp [allBut_iff]⟩
  · simp only [State.pendSelection, mt hret.1 hr]
    exact ⟨rfl, rfl, rfl, fun _ => ⟨rfl, by simp [allBut_iff]⟩, fun hn => absurd hn hr⟩

/-- Settles O53: the checks of R57 in their order, then a loading in the settled state, or a selection
that waits. -/
theorem selectionIsDecided : Obligations.SelectionIsDecided := by
  intro h p s e' hx
  have hidle : s.store.inFlight = none :=
    storeIdle_inFlight (storeIdle_of_executes hx (by rw [kind_of_executes hx]; rfl))
  have hd : Does s e' (.selectGroup h p) _ := does_of_executes hx rfl
  simp only [Does, bodyOf, bodySelectGroup, args_of_executes hx, State.begun_frame] at hd
  refine ⟨fun hlen => ?_, ?_⟩
  · simp only [readByte_of_length hlen] at hd
    exact refuses_of_does hx hd
  · rintro n rfl
    simp only [readByte_single] at hd
    split <;> rename_i hslot
    · rw [if_pos hslot] at hd
      exact refuses_of_does hx hd
    rw [if_neg hslot] at hd
    split <;> rename_i htag
    · rw [if_pos (by simpa [anyTag] using htag)] at hd
      exact refuses_of_does hx hd
    rw [if_neg (by simpa [anyTag] using htag)] at hd
    cases hg : s.store.groups[n.toNat]?.join with
    | none =>
      rw [if_pos (by simp [groupAt, hg])] at hd
      exact refuses_of_does hx hd
    | some g =>
      rw [if_neg (by simp [groupAt, hg])] at hd
      dsimp only
      split <;> rename_i hview
      · rw [if_pos hview] at hd
        obtain ⟨hlive, hactive, hsel, hret, hstore, hrest, hshot, hstate, hpickup, hrpb, hframe⟩ :=
          State.applyLoad_command (s := s.begun e') (by simpa using hg) (by simpa using hidle)
            (replyOf s e') rfl
        simp only [State.begun_frame] at hlive hret hstore hshot hstate hrpb
        refine ⟨_, hd, ?_, ?_, ?_, hactive, hsel, hret, ?_, ?_, ?_, ?_, ?_, ?_, hshot, hstate, ?_, hrpb,
          (allBut_begun s e').trans hframe (by simp [eventBlocks]) (by simp)⟩
        · rw [hlive]
        · rw [hlive]
        · intro c k
          rw [hlive]
          exact mem_curveCopies
        · rw [sameTables, hstore]
        · rw [hstore]; rfl
        · rw [← hrest]; rfl
        · rw [← hrest]; rfl
        · rw [← hrest]; rfl
        · rw [← hrest]; rfl
        · rw [hpickup]; rfl
      · rw [if_neg hview] at hd
        obtain ⟨hsel, hlive, hactive, hkeep, hgive⟩ := (s.begun e').pendSelection_spec n.toNat
        simp only [State.begun_frame] at hlive hactive hkeep hgive
        refine ⟨_, hd, answered_of_executes hx (by simp) (by simp) (by simp) (Nat.zero_le _),
          by simpa using hsel, by simpa using hlive, by simpa using hactive, fun hr => ?_, fun hr => ?_⟩
        · obtain ⟨hret, hframe⟩ := hkeep hr
          exact ⟨by simpa using hret, ((allBut_begun s e').trans hframe (by simp) (by simp)).trans
            (allBut_answer _ _ _) (List.Subset.refl _) (by simp)⟩
        · obtain ⟨hret, hflight, hframe⟩ := hgive hr hidle
          exact ⟨by simpa using hret, by simpa [Config.storeMs] using hflight,
            ((allBut_begun s e').trans hframe (by simp) (by simp)).trans (allBut_answer _ _ _)
              (List.Subset.refl _) (by simp)⟩

end Sys2Proof.Machine
end

section
/-! The radio, the arbiter and the load test under a change of the shed level (R133 to R137, R143 to R148,
R168 to R176): what a grant and a release request keep. -/

namespace Sys2Proof.Machine

variable {s : State}

/-! ## The gathering record of the ROUTINE class (R153, R154) -/

/-- The open ROUTINE record, if there is one, has fewer than `n` entries. -/
def Rpb.routineBelow (n : Nat) (b : Rpb) : Prop := ∀ g ∈ b.gather .routine, g.entries.length < n

theorem Rpb.routineBelow.mono {b : Rpb} {n m : Nat} (h : b.routineBelow n) (hnm : n ≤ m) :
    b.routineBelow m := fun g hg => (h g hg).trans_le hnm

/-- The record that a ROUTINE event joins has one entry more. -/
theorem joined_routine_length {e : Event} {n : Nat} (h : s.rpb.routineBelow (n + 1))
    (he : eventClass e = .routine) : (joined s e).entries.length < n + 2 := by
  simp only [joined, he]
  split
  · simp
  · next g hg =>
    have := h g hg
    simp
    omega

/-- The event that joins a record is its last entry. -/
theorem joined_last (s : State) (e : Event) :
    (joined s e).entries.getLast?.map (fun x => x.ev) = some e := by
  simp only [joined]
  split <;> simp

/-- An event is one entry more of the ROUTINE record, or none. -/
theorem emit_routineBelow (e : Event) {n : Nat} (h : s.rpb.routineBelow (n + 1)) :
    (s.emit e).rpb.routineBelow (n + 2) := by
  intro g hg
  dsimp only [State.emit] at hg
  have hjoin : g ∈ (s.rpb.setGather (eventClass e) (some (joined s e))).gather .routine := by
    split at hg
    · rw [State.sealClass_gather] at hg
      split at hg
      exacts [absurd hg (by simp), hg]
    · exact hg
  rw [Rpb.gather_setGather] at hjoin
  split at hjoin
  · next hc =>
    obtain rfl : joined s e = g := by simpa using hjoin
    exact joined_routine_length h hc.symm
  · exact (h g hjoin).trans_le (Nat.le_succ _)

/-- R153: a ROUTINE event that does not fill its record joins it and changes nothing else. -/
theorem emit_unsealed {e : Event} (h : s.rpb.routineBelow 11) (he : eventClass e = .routine)
    (hc : isClosing e = false) :
    s.emit e = s.modRpb (fun b => { b with routine := some (joined s e) }) := by
  have hlen := joined_routine_length h he
  have htop : ¬ Config.recordTop ≤ (joined s e).entries.length := by
    simp only [Config.recordTop]
    omega
  simp [State.emit, he, hc, htop, Rpb.setGather]

/-- A property that RPC and SUP keep, and that a grant of LOAD_TEST keeps while BAT waits for it. -/
structure Granting (P : State → Prop) : Prop where
  sup : ∀ {s} (f : Sup → Sup), P s → P (s.modSup f)
  rpc : ∀ {s} (f : Rpc → Rpc), P s → P (s.modRpc f)
  granted : ∀ {s}, awaitsGrant s .load = true → P s → P s.loadGranted

namespace Granting

variable {P : State → Prop}

/-! ## Grants and releases (R143 to R147, R173) -/

theorem rpcGoto (G : Granting P) (st : RadioState) (h : P s) : P (s.rpcGoto st) := G.rpc _ h

theorem lookCandidate (G : Granting P) (h : P s) : P s.lookCandidate := by
  dsimp only [State.lookCandidate]
  split
  exacts [G.rpc _ (G.rpcGoto _ h), h]

theorem rpcListen (G : Granting P) (h : P s) : P s.rpcListen := G.lookCandidate (G.rpcGoto _ h)

theorem radioGranted (G : Granting P) (h : P s) : P s.radioGranted := by
  dsimp only [State.radioGranted]
  split
  exacts [G.rpcGoto _ h, G.rpc _ (G.rpcGoto _ h)]

theorem offer (G : Granting P) (r : Requester) (h : P s) : P (s.offer r) := by
  dsimp only [State.offer]
  split
  · next hw =>
    cases r
    · exact G.sup _ h
    · exact G.radioGranted (G.sup _ h)
    · exact G.granted hw (G.sup _ h)
  · exact G.sup _ h

theorem grantDecision (G : Granting P) (n : Nat) (h : P s) : P (s.grantDecision n) := by
  induction n generalizing s with
  | zero => exact h
  | succ n ih =>
    dsimp only [State.grantDecision]
    (repeat' split)
    exacts [h, h, G.offer _ h, ih (G.offer _ h)]

theorem decide3 (G : Granting P) (h : P s) : P s.decide3 := G.grantDecision 3 h

theorem giveBack (G : Granting P) (r : Requester) (h : P s) : P (s.giveBack r) := by
  have h1 : ∀ q : ReqState, P (s.modSup (fun u => (u.setReq r q).setAgain r false)) :=
    fun _ => G.sup _ h
  dsimp only [State.giveBack]
  (repeat' split)
  exacts [G.offer _ (h1 _), G.decide3 (h1 _), h1 _, G.decide3 (h1 _)]

theorem release (G : Granting P) (r : Requester) (h : P s) : P (s.release r) := by
  dsimp only [State.release]
  split
  exacts [h, G.sup _ h, G.giveBack _ h, G.giveBack _ h]

theorem ask (G : Granting P) (r : Requester) (h : P s) : P (s.ask r) := by
  dsimp only [State.ask]
  (repeat' split)
  exacts [G.offer _ (G.sup _ h), G.sup _ h, G.decide3 (G.sup _ h), h, h, G.sup _ h]

/-! ## The radio (R168, R174 to R176) -/

theorem countAbandon (G : Granting P) (h : P s) : P s.countAbandon := by
  dsimp only [State.countAbandon]
  split
  exacts [G.rpc _ h, h]

theorem rpcRest (G : Granting P) (h : P s) : P s.rpcRest := by
  dsimp only [State.rpcRest]
  split
  exacts [G.rpc _ (G.rpcGoto _ h), G.rpcListen h]

theorem rpcAsked (G : Granting P) (h : P s) : P s.rpcAsked := by
  dsimp only [State.rpcAsked]
  split
  exacts [G.rpcRest (G.release _ (G.rpcGoto _ (G.countAbandon h))), h, h, h, h, h, h]

theorem rpcWithdraw (G : Granting P) (st : RadioState) (h : P s) : P (s.rpcWithdraw st) :=
  G.release _ (G.rpcGoto _ (G.countAbandon h))

theorem rpcWake (G : Granting P) (h : P s) : P s.rpcWake := by
  dsimp only [State.rpcWake]
  split
  exacts [G.rpcListen (G.rpcGoto _ h), G.rpcGoto _ h]

theorem rpcPower (G : Granting P) (h : P s) : P s.rpcPower := by
  dsimp only [State.rpcPower]
  (repeat' split)
  exacts [G.rpcWake h, G.rpc _ h, h, G.rpcGoto _ h, G.rpcGoto _ h, G.rpcGoto _ h, G.rpcWithdraw _ h,
    G.rpc _ h, G.rpc _ h]

theorem rpcDropUnsolicited (G : Granting P) (h : P s) : P s.rpcDropUnsolicited := by
  dsimp only [State.rpcDropUnsolicited]
  (repeat' split)
  exacts [G.rpcListen h, G.lookCandidate (G.rpcWithdraw _ h), h, h, h, h, h, h]

theorem rpcShed (G : Granting P) (level : Nat) (h : P s) : P (s.rpcShed level) := by
  have h1 := G.rpcPower (G.rpc (fun r => { r with shed := level }) h)
  dsimp only [State.rpcShed]
  split
  exacts [G.rpcDropUnsolicited h1, G.lookCandidate h1]

end Granting

/-! ## Release requests (R137, R146, R148) -/

/-- A granting property that a release request to the load test keeps too. -/
structure Asking (P : State → Prop) : Prop extends Granting P where
  asked : ∀ {s}, P s → P s.batAsked

namespace Asking

variable {P : State → Prop}

theorem askRelease (A : Asking P) (r : Requester) (h : P s) : P (s.askRelease r) := by
  cases r
  exacts [h, A.rpcAsked (A.sup _ h), A.asked (A.sup _ h)]

theorem preempt (A : Asking P) (r : Requester) (h : P s) : P (s.preempt r) := by
  dsimp only [State.preempt]
  split
  · cases r <;> dsimp only <;> (repeat' split)
    exacts [A.askRelease _ h, A.askRelease _ h, h, A.askRelease _ h, h, h]
  · exact h

theorem supShed (A : Asking P) (level : Nat) (h : P s) : P (s.supShed level) := by
  dsimp only [State.supShed]
  split
  exacts [A.preempt _ (A.decide3 (A.sup _ h)), A.sup _ h]

end Asking

/-! ## No test: nothing of a test moves -/

/-- While no test runs, none starts at a grant, and none is there to be asked. -/
theorem asking_idle : Asking (fun t => t.bat.test = .idle) where
  sup _ h := h
  rpc _ h := h
  granted hw h := by simp [awaitsGrant, h] at hw
  asked {t} h := by rw [State.batAsked, h]; exact h

/-- A release request to a load test that is not there reaches nothing (R137). -/
theorem State.askRelease_rpb (r : Requester) (h : s.bat.test = .idle) :
    (s.askRelease r).rpb = s.rpb := by
  cases r <;> simp [State.askRelease, State.batAsked, h]

theorem State.preempt_rpb (r : Requester) (h : s.bat.test = .idle) : (s.preempt r).rpb = s.rpb := by
  cases r <;> dsimp only [State.preempt] <;> (repeat' split) <;> simp [State.askRelease_rpb _ h]

theorem State.supShed_rpb (level : Nat) (h : s.bat.test = .idle) :
    (s.supShed level).rpb = s.rpb := by
  dsimp only [State.supShed]
  split
  · exact (State.preempt_rpb _ (asking_idle.decide3 (asking_idle.sup _ h))).trans (by simp)
  · simp

/-- Without a test, a change of the shed level records at most SHED_CHANGED (R133). -/
theorem State.setShed_routineBelow (level : Nat) {n : Nat} (h : s.bat.test = .idle)
    (hn : s.rpb.routineBelow (n + 1)) : (s.setShed level).rpb.routineBelow (n + 2) := by
  have h1 : (s.modBat (fun b => { b with shed := level })).bat.test = .idle := h
  dsimp only [State.setShed]
  split
  · exact hn.mono (Nat.le_succ _)
  · simp only [State.dueCheck_frame]
    apply emit_routineBelow
    split
    · rw [State.supShed_rpb _ (asking_idle.rpcShed _ h1)]
      simpa using hn
    · simpa [State.supShed_rpb _ h1] using hn

theorem State.evalShed_routineBelow {n : Nat} (h : s.bat.test = .idle)
    (hn : s.rpb.routineBelow (n + 1)) : s.evalShed.rpb.routineBelow (n + 2) := by
  dsimp only [State.evalShed]
  split
  exacts [hn.mono (Nat.le_succ _), State.setShed_routineBelow _ h hn]

/-- The charger's lines follow its state and are no matter of the test (Table 7-4). -/
@[simp] theorem State.chargerPins_test (s : State) : s.chargerPins.bat.test = s.bat.test := by
  cases hk : s.bat.charger <;> simp [State.chargerPins, hk]

@[simp] theorem State.updateSetpoints_test (s : State) :
    s.updateSetpoints.bat.test = s.bat.test := by
  simp [State.updateSetpoints]

/-- Without a test, a battery record records at most SHED_CHANGED (R123, R133). -/
theorem State.batteryStored_routineBelow (b : BatteryRec) {n : Nat} (h : s.bat.test = .idle)
    (hn : s.rpb.routineBelow (n + 1)) : (s.batteryStored b).rpb.routineBelow (n + 2) := by
  let s1 := (s.modStore (fun st => { st with battery := b })).updateSetpoints
  have h1 : s1.rpb.routineBelow (n + 1) := by simpa [s1] using hn
  have h2 : ∀ q, (((s1.modBat (fun k => { k with estimated := true })).setQ q).evalShed).rpb.routineBelow
      (n + 2) := fun q => State.evalShed_routineBelow (by simp [s1, State.setQ, h])
    (by simpa [State.setQ] using h1)
  dsimp only [State.batteryStored]
  (repeat' split)
  exacts [h1.mono (Nat.le_succ _), h2 _, h1.mono (Nat.le_succ _), h2 _]

/-! ## The charge and the setpoints (R129, R130, R134) -/

/-- The setpoints, the charge and the interval of the load test are the same. -/
def Bat.sameCharge (a b : Bat) : Prop :=
  a.absorbSet = b.absorbSet ∧ a.floatSet = b.floatSet ∧ a.intervalLeft = b.intervalLeft ∧
  a.q = b.q ∧ a.soc = b.soc ∧ a.estimated = b.estimated

/-- The charge stands at `b`, and the lowest SoC of the hour at `low` (R130, R152). -/
def State.chargeAt (b : Bat) (low : Option Nat) (s : State) : Prop :=
  s.bat.sameCharge b ∧ s.rpb.profLow = low

/-- An event leaves the lowest SoC of the hour as it is (R152). -/
@[simp] theorem State.emit_profLow (e : Event) (s : State) :
    (s.emit e).rpb.profLow = s.rpb.profLow := by
  have hset : ∀ (b : Rpb) c g, (b.setGather c g).profLow = b.profLow := fun b c g => by
    cases c <;> rfl
  dsimp only [State.emit, State.sealClass, State.sealUrgent, State.sealRoutine]
  (repeat' split) <;> simp [hset]

namespace State.chargeAt

variable {b : Bat} {low : Option Nat}

theorem modBat {f : Bat → Bat} (hf : ∀ k, (f k).sameCharge k) (h : s.chargeAt b low) :
    (s.modBat f).chargeAt b low := by
  obtain ⟨h1, h2, h3, h4, h5, h6⟩ := hf s.bat
  obtain ⟨⟨k1, k2, k3, k4, k5, k6⟩, hlow⟩ := h
  exact ⟨⟨h1.trans k1, h2.trans k2, h3.trans k3, h4.trans k4, h5.trans k5, h6.trans k6⟩, hlow⟩

theorem emit (e : Event) (h : s.chargeAt b low) : (s.emit e).chargeAt b low := by
  simpa [chargeAt] using h

theorem setCharger (st : Charger) (h : s.chargeAt b low) : (s.setCharger st).chargeAt b low :=
  modBat (fun k => by cases k.charger <;> simp [Bat.sameCharge])
    (modBat (s := s) (fun k => by simp [Bat.sameCharge]) h)

/-- Grants leave the charge as it is. -/
theorem granting (b : Bat) (low : Option Nat) : Granting (State.chargeAt b low) where
  sup _ h := h
  rpc _ h := h
  granted _ h := setCharger _ (h.modBat fun _ => ⟨rfl, rfl, rfl, rfl, rfl, rfl⟩)

theorem dueCheck (h : s.chargeAt b low) : s.dueCheck.chargeAt b low := by
  dsimp only [State.dueCheck]
  (repeat' split)
  exacts [(granting b low).ask _ (h.modBat fun _ => ⟨rfl, rfl, rfl, rfl, rfl, rfl⟩), h, h]

theorem chargerTestEnded (h : s.chargeAt b low) : s.chargerTestEnded.chargeAt b low := by
  dsimp only [State.chargerTestEnded]
  (repeat' split)
  exacts [(h.setCharger _).dueCheck, (h.setCharger _).emit _, (h.setCharger _).dueCheck, h]

theorem countVerdict (v : Verdict) (r : Option Nat) (h : s.chargeAt b low) :
    (s.countVerdict v r).chargeAt b low := by
  have hbad : State.chargeAt b low (if s.bat.badCount = 1 then
        (s.modBat (fun k => { k with badCount := 2 })).emit (.batteryBad r)
      else if s.bat.badCount = 0 then s.modBat (fun k => { k with badCount := 1 }) else s) := by
    (repeat' split)
    · exact emit _ (h.modBat fun _ => ⟨rfl, rfl, rfl, rfl, rfl, rfl⟩)
    · exact h.modBat fun _ => ⟨rfl, rfl, rfl, rfl, rfl, rfl⟩
    · exact h
  cases v with
  | fail => exact hbad
  | noLoad => exact hbad
  | pass => exact h.modBat fun _ => ⟨rfl, rfl, rfl, rfl, rfl, rfl⟩
  | aborted => exact h
  | cancelled => exact h

theorem endTest (v : Verdict) (v1 dI : Option Int) (r : Option Nat) (h : s.chargeAt b low) :
    (s.endTest v v1 dI r).chargeAt b low := by
  dsimp only [State.endTest]
  refine chargerTestEnded (modBat (fun _ => ⟨rfl, rfl, rfl, rfl, rfl, rfl⟩) ?_)
  exact countVerdict v r (emit _ (h.modBat fun _ => ⟨rfl, rfl, rfl, rfl, rfl, rfl⟩))

theorem abortTest (h : s.chargeAt b low) : s.abortTest.chargeAt b low := by
  have h1 : s.dropLoad.chargeAt b low :=
    (granting b low).release _ (h.modBat fun _ => ⟨rfl, rfl, rfl, rfl, rfl, rfl⟩)
  have h2 := endTest .aborted none none none
    (h1.modBat (f := fun k => { k with abortCount := k.abortCount + 1 })
      fun _ => ⟨rfl, rfl, rfl, rfl, rfl, rfl⟩)
  dsimp only [State.abortTest]
  split
  exacts [h2.modBat fun _ => ⟨rfl, rfl, rfl, rfl, rfl, rfl⟩, h2]

/-- A release request to the load test leaves the charge as it is. -/
theorem asking (b : Bat) (low : Option Nat) : Asking (State.chargeAt b low) where
  toGranting := granting b low
  asked {t} h := by
    dsimp only [State.batAsked]
    split
    exacts [(granting b low).ask _ ((granting b low).release _
      (h.modBat fun _ => ⟨rfl, rfl, rfl, rfl, rfl, rfl⟩)), h.abortTest, h, h, h]

theorem setShed (level : Nat) (h : s.chargeAt b low) : (s.setShed level).chargeAt b low := by
  have h1 : (s.modBat (fun k => { k with shed := level })).chargeAt b low :=
    h.modBat fun _ => ⟨rfl, rfl, rfl, rfl, rfl, rfl⟩
  dsimp only [State.setShed]
  split
  · exact h
  · split
    · exact (emit _ ((asking b low).supShed _ ((asking b low).rpcShed _ h1))).dueCheck
    · exact (emit _ ((asking b low).rpcShed _ ((asking b low).supShed _ h1))).dueCheck

theorem evalShed (h : s.chargeAt b low) : s.evalShed.chargeAt b low := by
  dsimp only [State.evalShed]
  split
  exacts [h, h.setShed _]

end State.chargeAt

/-! ## A battery record (R123, R129) -/

/-- R129: the setpoints that a battery record gives. -/
def State.newSetpoints (b : BatteryRec) (s : State) : Bat :=
  { s.bat with
    absorbSet := setpoint b b.absorbV (setpointTemp (s.slr.link == .up) s.bat.tempView)
    floatSet := setpoint b b.floatV (setpointTemp (s.slr.link == .up) s.bat.tempView) }

/-- R123: a new capacity limits the charge, which is then estimated. -/
def Bat.newCapacity (old b : BatteryRec) (k : Bat) : Bat :=
  if old.capacity = b.capacity then k
  else { k with estimated := true, q := min k.q (qFull b), soc := socOf b (min k.q (qFull b)) }

/-- R123: a new test interval runs from its start. -/
def Bat.newInterval (old b : BatteryRec) (k : Bat) : Bat :=
  if old.testHours = b.testHours then k else { k with intervalLeft := b.testHours * Config.hourMs }

@[simp] theorem Bat.newCapacity_fields (old b : BatteryRec) (k : Bat) :
    (k.newCapacity old b).absorbSet = k.absorbSet ∧ (k.newCapacity old b).floatSet = k.floatSet ∧
    (k.newCapacity old b).intervalLeft = k.intervalLeft := by
  unfold Bat.newCapacity
  split_ands <;> split <;> rfl

@[simp] theorem Bat.newInterval_fields (old b : BatteryRec) (k : Bat) :
    (k.newInterval old b).absorbSet = k.absorbSet ∧ (k.newInterval old b).floatSet = k.floatSet ∧
    (k.newInterval old b).intervalLeft =
      (if old.testHours = b.testHours then k.intervalLeft else b.testHours * Config.hourMs) ∧
    (k.newInterval old b).q = k.q ∧ (k.newInterval old b).soc = k.soc ∧
    (k.newInterval old b).estimated = k.estimated := by
  unfold Bat.newInterval
  split_ands <;> split <;> rfl

theorem State.chargeAt.newInterval {old b : BatteryRec} {k : Bat} {low : Option Nat}
    (h : s.chargeAt k low) :
    (if old.testHours = b.testHours then s
      else s.modBat (fun k => { k with intervalLeft := b.testHours * Config.hourMs })).chargeAt
      (k.newInterval old b) low := by
  obtain ⟨⟨habs, hfl, hint, hq, hsoc, hest⟩, hlow⟩ := h
  unfold Bat.newInterval
  split
  exacts [⟨⟨habs, hfl, hint, hq, hsoc, hest⟩, hlow⟩, ⟨⟨habs, hfl, rfl, hq, hsoc, hest⟩, hlow⟩]

/-- R129: the setpoints are those of the record, and the charge stays. -/
theorem State.updateSetpoints_chargeAt (b : BatteryRec) (s : State) :
    (s.modStore (fun st => { st with battery := b })).updateSetpoints.chargeAt
      (s.newSetpoints b) s.rpb.profLow := by
  cases hk : s.bat.charger <;>
    simp [State.chargeAt, State.updateSetpoints, State.chargerPins, hk, Bat.sameCharge,
      State.newSetpoints]

/-- R123, R129: what a battery record makes of the setpoints, the charge and the interval. -/
theorem State.batteryStored_chargeAt (b : BatteryRec) (s : State) :
    (s.batteryStored b).chargeAt (((s.newSetpoints b).newCapacity s.store.battery b).newInterval
      s.store.battery b) s.rpb.profLow := by
  have h1 := State.updateSetpoints_chargeAt b s
  dsimp only [State.batteryStored]
  refine State.chargeAt.newInterval ?_
  unfold Bat.newCapacity
  split
  · exact h1
  · refine State.chargeAt.evalShed ?_
    obtain ⟨⟨habs, hfl, hint, hq, -, -⟩, hlow⟩ := h1
    refine ⟨⟨habs, hfl, hint, ?_, ?_, rfl⟩, hlow⟩ <;> simp [State.setQ, hq]

end Sys2Proof.Machine
end

section
/-! The completion of a settings write (R50 to R52, R123, R164, R175, R176, R184). -/

namespace Sys2Proof.Machine

variable {s : State}

/-! ## The parts of a completion: the contents, the response, the event -/

/-- The contents of a write take effect in the block that uses them (R52). -/
def State.takeBody (b : StoreBody) (s : State) : State :=
  match b with
  | .curve slot c => s.curveStored slot c
  | .group slot g => s.groupStored slot g
  | .device d => s.deviceStored d
  | .selection k => s.modStore (fun st => { st with selection := k })
  | .tags _ _ => s
  | .gates t => s.modStore (fun st => { st with gates := t })
  | .battery k => s.batteryStored k
  | .radio k => s.radioStored k
  | .areas p => s.areasStored p
  | .lastFailure f => s.modStore (fun st => { st with lastFailure := f })

/-- The response of a write (R52, R184): the record of the last drive failure is no command's. -/
def State.respond (b : StoreBody) (r : Option Reply) (s : State) : State :=
  match b with
  | .lastFailure _ => s
  | _ => s.answer r .done

/-- The SETTINGS_WRITTEN of a write (R52). -/
def State.announce (b : StoreBody) (s : State) : State :=
  match b.names with
  | some (table, index) => s.emit (.settingsWritten table index)
  | none => s

/-- A body that is no tag table write. -/
def StoreBody.isSetting (b : StoreBody) : Prop := ∀ ts cs, b ≠ .tags ts cs

/-- R52: the contents take effect, then the response is built, then SETTINGS_WRITTEN joins its record. -/
theorem State.completeStore_eq {b : StoreBody} (hb : b.isSetting) (r : Option Reply) (s : State) :
    s.completeStore b r = ((s.takeBody b).respond b r).announce b := by
  cases b with
  | tags ts cs => exact absurd rfl (hb ts cs)
  | _ => rfl

theorem State.respond_eq {b : StoreBody} (hb : ∀ f, b ≠ .lastFailure f) (r : Option Reply)
    (s : State) : s.respond b r = s.answer r .done := by
  cases b with
  | lastFailure f => exact absurd rfl (hb f)
  | _ => rfl

theorem State.announce_eq {b : StoreBody} {table index : Nat} (hb : b.names = some (table, index))
    (s : State) : s.announce b = s.emit (.settingsWritten table index) := by
  rw [State.announce, hb]

@[simp] theorem State.respond_frame (b : StoreBody) (r : Option Reply) (s : State) :
    (s.respond b r).slr = s.slr ∧ (s.respond b r).meu = s.meu ∧ (s.respond b r).ele = s.ele ∧
    (s.respond b r).store = s.store ∧ (s.respond b r).sets = s.sets ∧ (s.respond b r).seq = s.seq ∧
    (s.respond b r).drv = s.drv ∧ (s.respond b r).lku = s.lku ∧ (s.respond b r).bat = s.bat ∧
    (s.respond b r).sup = s.sup ∧ (s.respond b r).rpb = s.rpb ∧ (s.respond b r).rpc = s.rpc ∧
    (s.respond b r).lines = s.lines ∧ (s.respond b r).part = s.part ∧
    (s.respond b r).order = s.order ∧ (s.respond b r).pending = s.pending := by
  dsimp only [State.respond]
  split_ands <;> split <;> simp

@[simp] theorem State.announce_frame (b : StoreBody) (s : State) :
    (s.announce b).meu = s.meu ∧ (s.announce b).ele = s.ele ∧ (s.announce b).store = s.store ∧
    (s.announce b).sets = s.sets ∧ (s.announce b).seq = s.seq ∧ (s.announce b).drv = s.drv ∧
    (s.announce b).lku = s.lku ∧ (s.announce b).bat = s.bat ∧ (s.announce b).sup = s.sup ∧
    (s.announce b).lines = s.lines ∧ (s.announce b).part = s.part ∧
    (s.announce b).order = s.order ∧ (s.announce b).pending = s.pending := by
  dsimp only [State.announce]
  split_ands <;> split <;> simp

@[simp] theorem State.announce_keeps (b : StoreBody) (s : State) :
    (s.announce b).pkm.response = s.pkm.response ∧ (s.announce b).fcu.outRadio = s.fcu.outRadio ∧
    (s.announce b).fcu.outLocal = s.fcu.outLocal ∧
    (s.announce b).rpb.profLow = s.rpb.profLow := by
  dsimp only [State.announce]
  split_ands <;> split <;> simp

/-- A ROUTINE event is no matter of the radio (R160). -/
@[simp] theorem State.announce_rpc (b : StoreBody) (s : State) : (s.announce b).rpc = s.rpc := by
  dsimp only [State.announce]
  split
  · dsimp only [State.emit, eventClass, State.sealClass]
    split <;> simp
  · rfl

/-! ## The free store (R51) -/

/-- R51: the store is free: the tables stay, and the oldest waiting request starts. -/
theorem State.storeFree_store (s : State) : sameTables s.storeFree.store s.store ∧
    s.storeFree.store.waitList = s.store.waitList.tail ∧
    s.storeFree.store.inFlight.isSome = !s.store.waitList.isEmpty ∧
    s.storeFree.lku.inForce = s.lku.inForce := by
  simp only [State.storeFree, State.modStore_store]
  cases hw : s.store.waitList with
  | nil => simp [sameTables, hw]
  | cons t rest => cases t <;> simp [sameTables, State.startInternal, State.startStore]

theorem allBut_storeFree (s : State) : AllBut [.store, .lku] s s.storeFree := by
  simp [allBut_iff]

/-! ## What each table brings -/

/-- R46 to R54: the table of the write has its new contents, and no other. -/
theorem State.takeBody_store (b : StoreBody) (s : State) :
    (s.takeBody b).store = b.into s.store := by
  cases b with
  | group slot g =>
    dsimp only [State.takeBody, State.groupStored, StoreBody.into]
    split <;> simp
  | battery k =>
    dsimp only [State.takeBody, State.batteryStored, StoreBody.into]
    (repeat' split) <;> simp [State.setQ]
  | radio k =>
    dsimp only [State.takeBody, State.radioStored, StoreBody.into]
    split <;> simp
  | areas p => simp [State.takeBody, State.areasStored, StoreBody.into]
  | _ => rfl

/-- The blocks that the contents of a table may reach. -/
def StoreBody.reach : StoreBody → List Block
  | .group .. => .store :: .sets :: eventBlocks
  | .battery _ => .store :: .bat :: .sup :: eventBlocks
  | .radio _ => [.store, .rpc, .bat, .sup]
  | .areas _ => [.store, .rpb, .pkm, .rpc]
  | _ => [.store]

theorem State.takeBody_allBut (b : StoreBody) (s : State) : AllBut b.reach s (s.takeBody b) := by
  cases b <;>
    simp [allBut_iff, State.takeBody, StoreBody.reach, eventBlocks, State.curveStored]

/-- R50, R55: a stored group leaves the live set as it is, and drops a pending selection of the slot
that it clears. -/
theorem State.groupStored_sets (slot : Nat) (g : Option Group) (s : State) :
    (s.groupStored slot g).sets =
      if g = none ∧ s.sets.pendingSel.map Prod.fst = some (some slot) then
        { s.sets with pendingSel := none } else s.sets := by
  have hiff : s.sets.pendingSel.any (fun p => p.1 == some slot) = true ↔
      s.sets.pendingSel.map Prod.fst = some (some slot) := by
    cases s.sets.pendingSel <;> simp
  cases g with
  | some g => simp [State.groupStored]
  | none =>
    by_cases hp : s.sets.pendingSel.map Prod.fst = some (some slot)
    · simp [State.groupStored, State.dropPendingOf, hiff, hp]
    · simp [State.groupStored, State.dropPendingOf, hiff, hp]

/-- No other table reaches the live set or the pending selection. -/
theorem State.takeBody_sets {b : StoreBody} (hb : ∀ slot g, b ≠ .group slot g) (s : State) :
    (s.takeBody b).sets = s.sets := by
  cases b with
  | group slot g => exact absurd rfl (hb slot g)
  | _ => simp [State.takeBody, State.curveStored]

/-- R55: a stored table leaves the live set as it is. -/
theorem State.takeBody_live (b : StoreBody) (s : State) : (s.takeBody b).sets.live = s.sets.live := by
  cases b with
  | group slot g =>
    rw [State.takeBody, State.groupStored_sets]
    split <;> rfl
  | _ => simp [State.takeBody, State.curveStored]

/-- The tags are no matter of a settings table. -/
@[simp] theorem State.takeBody_lku (b : StoreBody) (s : State) : (s.takeBody b).lku = s.lku := by
  cases b <;> simp [State.takeBody, State.curveStored]

/-- R50: a stored group records at most GROUP_REFUSED. -/
theorem State.groupStored_routineBelow (slot : Nat) (g : Option Group) {n : Nat}
    (hn : s.rpb.routineBelow (n + 1)) : (s.groupStored slot g).rpb.routineBelow (n + 2) := by
  dsimp only [State.groupStored, State.dropPendingOf]
  (repeat' split)
  exacts [emit_routineBelow _ hn, hn.mono (Nat.le_succ _), hn.mono (Nat.le_succ _)]

/-- A stored partition opens and closes no record. -/
theorem State.areasStored_routine (p : Partition) (s : State) :
    (s.areasStored p).rpb.routine = s.rpb.routine := by
  simp [State.areasStored, State.emptyArea]

/-- The contents of a table bring at most one event, while no test runs. -/
theorem State.takeBody_routineBelow (b : StoreBody) {n : Nat} (hidle : s.bat.test = .idle)
    (hn : s.rpb.routineBelow (n + 1)) : (s.takeBody b).rpb.routineBelow (n + 2) := by
  have hn' := hn.mono (Nat.le_succ _)
  cases b with
  | group slot g => exact State.groupStored_routineBelow slot g hn
  | battery k => exact State.batteryStored_routineBelow k hidle hn
  | radio k => simpa [State.takeBody] using hn'
  | areas p =>
    intro g hg
    exact hn' g (by simpa only [State.takeBody, Rpb.gather, State.areasStored_routine] using hg)
  | _ => exact hn'

/-! ## The response on the radio port (R158, R184) -/

/-- R157: an area has room for a record that its free words hold. -/
theorem hasRoom_iff {a : Area} {n : Nat} : hasRoom s a n = true ↔ n ≤ freeWords s a :=
  ⟨of_decide_eq_true, decide_eq_true⟩

/-- An area that reports room for a response takes one without data. -/
theorem answer_radio {r : Reply} (hp : r.port = .radio) (hroom : responseRoom s = true) (o : CmdOutcome) :
    (s.answer (some r) o).pkm.response.getLast?.map (fun x => x.frame) =
      some (responseFrame r o []) ∧ (s.answer (some r) o).fcu.outRadio = false := by
  have hfits : hasRoom s .response (frameWords 2) = true :=
    hasRoom_iff.2 (le_trans (by decide) (hasRoom_iff.1 hroom))
  simp [State.answer, State.answerWith, hp, State.appendResponse, responseFrame, hfits]

/-- An answer to another port, or to none, leaves packet memory as it is. -/
theorem answer_notRadio {r : Option Reply} (hr : r.all (fun r => r.port != .radio) = true)
    (o : CmdOutcome) : (s.answer r o).pkm = s.pkm := by
  cases r with
  | none => rfl
  | some r => cases hp : r.port <;> simp_all [State.answer, State.answerWith]

/-- R158: an answer is one record more of the RESPONSE area at most, and no report. -/
theorem answer_pkm (r : Option Reply) (o : CmdOutcome) (s : State) :
    (s.answer r o).pkm.response.length ≤ s.pkm.response.length + 1 ∧
    (s.answer r o).pkm.urgent = s.pkm.urgent := by
  dsimp only [State.answer, State.answerWith, State.appendResponse]
  (repeat' split) <;> simp

/-- R164: all four areas are empty, and the URGENT reports are lost. -/
theorem State.areasStored_pkm (p : Partition) (s : State) :
    (s.areasStored p).pkm.urgent = [] ∧ (s.areasStored p).pkm.routine = [] ∧
    (s.areasStored p).pkm.forward = [] ∧ (s.areasStored p).pkm.response = [] ∧
    (s.areasStored p).rpb.lostUrgent = satAdd 255 s.rpb.lostUrgent s.pkm.urgent.length := by
  simp [State.areasStored, State.emptyArea]

/-- The contents leave the room for a response, but that a partition brings its own. -/
theorem State.takeBody_responseRoom {b : StoreBody} (hroom : responseRoom s = true)
    (hareas : ∀ p, b = .areas p → 62 ≤ p.response.depth) : responseRoom (s.takeBody b) = true := by
  have hsame : ∀ u : State, u.pkm.response = s.pkm.response → u.store.areas = s.store.areas →
      responseRoom u = true := fun u hp ha => by
    rwa [responseRoom, hasRoom, freeWords, areaUsed, hp, ha]
  cases b with
  | areas p =>
    obtain ⟨-, -, -, hresp, -⟩ := State.areasStored_pkm p s
    have hstore := State.takeBody_store (.areas p) s
    simp only [State.takeBody, StoreBody.into] at hstore
    refine hasRoom_iff.2 ?_
    simpa [State.takeBody, freeWords, areaUsed, hresp, hstore, areaSpec, framesUsed,
      Config.responseWords] using hareas p rfl
  | _ =>
    exact hsame _ (by simp [State.takeBody, State.curveStored])
      (by simp [State.takeBody_store, StoreBody.into])

/-! ## The response on the local port (R184, R186) -/

/-- A frame that is no SAMPLE frame stays when one is removed. -/
theorem mem_of_removeSample {i : LocalItem} (hi : i.isSample = false) {q : List LocalItem}
    (hq : i ∈ q) : ∀ {n r}, removeSample q = some (n, r) → i ∈ r := by
  induction q with
  | nil => simp at hq
  | cons j q ih =>
    intro n r h
    simp only [removeSample] at h
    rcases List.mem_cons.1 hq with rfl | hq
    · rw [if_neg (by simp [hi])] at h
      obtain ⟨v, -, hv⟩ := Option.map_eq_some_iff.1 h
      obtain rfl : i :: v.2 = r := congrArg Prod.snd hv
      simp
    · split at h
      · obtain rfl : q = r := congrArg Prod.snd (Option.some.inj h)
        exact hq
      · obtain ⟨v, hv, he⟩ := Option.map_eq_some_iff.1 h
        obtain rfl : j :: v.2 = r := congrArg Prod.snd he
        exact List.mem_cons_of_mem _ (ih hq hv)

theorem mem_of_removeOldestSample {i : LocalItem} (hi : i.isSample = false) {q r : List LocalItem}
    {n : Nat} (hq : i ∈ q) (h : removeOldestSample q = some (n, r)) : i ∈ r := by
  cases q with
  | nil => simp at hq
  | cons j q =>
    obtain ⟨v, hv, he⟩ := Option.map_eq_some_iff.1 h
    obtain rfl : j :: v.2 = r := congrArg Prod.snd he
    rcases List.mem_cons.1 hq with rfl | hq
    exacts [by simp, List.mem_cons_of_mem _ (mem_of_removeSample hi hq hv)]

theorem mem_localSend {i : LocalItem} (hi : i.isSample = false) (hq : i ∈ s.fcu.localQ)
    (k : LocalKind) (f : Frame) : i ∈ (s.localSend k f).fcu.localQ := by
  dsimp only [State.localSend, State.localPut]
  split
  · split
    · simp [hq]
    · split
      · next h => simp [mem_of_removeOldestSample hi hq h]
      · exact hq
  · exact hq

/-- The copy of a sealed report displaces no response (R186). -/
theorem mem_sealClass {i : LocalItem} (hi : i.isSample = false) (hq : i ∈ s.fcu.localQ)
    (c : ReportClass) : i ∈ (s.sealClass c).fcu.localQ := by
  cases c with
  | urgent =>
    simp only [State.sealClass, State.sealUrgent]
    split
    · exact hq
    · split
      exacts [mem_localSend hi (by simpa using hq) _ _, by simpa using hq]
  | routine =>
    simp only [State.sealClass, State.sealRoutine]
    split
    · exact hq
    · split
      exacts [mem_localSend hi (by simpa using hq) _ _, by simpa using hq]

theorem mem_announce {i : LocalItem} (hi : i.isSample = false) (hq : i ∈ s.fcu.localQ)
    (b : StoreBody) : i ∈ (s.announce b).fcu.localQ := by
  dsimp only [State.announce, State.emit]
  (repeat' split)
  exacts [mem_sealClass hi (by simpa using hq) _, hq, hq]

/-- The contents of a table leave the reserved places. -/
@[simp] theorem State.takeBody_reserved (b : StoreBody) (s : State) :
    (s.takeBody b).reserved = s.reserved := by
  cases b <;> simp [State.takeBody, State.curveStored, State.deviceStored]

/-- A response fills the place that is reserved for it. -/
theorem answer_local {r : Reply} (hp : r.port = .localPort) (hres : 1 ≤ s.reserved) (o : CmdOutcome) :
    LocalItem.frame .response (responseFrame r o []) 0 ∈ (s.answer (some r) o).fcu.localQ ∧
    (s.answer (some r) o).fcu.outLocal = false := by
  simpa [State.answer, State.answerWith, hp] using fillReservation_mem _ _ hres

/-! ## The radio (R175, R176) -/

/-- R176: without unsolicited sending a holdoff ends in LISTEN. -/
theorem State.radioStored_rpc {r : RadioRec} (hr : r.unsolicited = false) (hst : s.rpc.state = .holdoff) :
    (s.radioStored r).rpc.state = .listen ∧ (s.radioStored r).rpc.holdoff = none := by
  simp [State.radioStored, hr, State.rpcDropUnsolicited, hst, State.rpcListen, State.lookCandidate,
    State.rpcGoto]

/-! ## The completion (R51, R52) -/

section

variable {b : StoreBody} {r : Option Reply}

/-- What a completed write may reach: the blocks of its table, and those of its response and event. -/
theorem allBut_completeStore (hb : b.isSetting) {m : List Block} (hm : b.reach ++ eventBlocks ⊆ m) :
    AllBut m s (s.completeStore b r) := by
  have hreach : b.reach ⊆ m := fun _ h => hm (List.mem_append_left _ h)
  have hevent : eventBlocks ⊆ m := fun _ h => hm (List.mem_append_right _ h)
  have hrespond : AllBut eventBlocks (s.takeBody b) ((s.takeBody b).respond b r) := by
    simp [allBut_iff, eventBlocks]
  have hannounce : ∀ u : State, AllBut eventBlocks u (u.announce b) := fun u => by
    simp [allBut_iff, eventBlocks]
  rw [State.completeStore_eq hb]
  exact (s.takeBody_allBut b).trans
    (hrespond.trans (hannounce _) (List.Subset.refl _) (List.Subset.refl _)) hreach hevent

/-- R52, R184: the response DONE stands at the tail of the RESPONSE area. -/
theorem completeStore_radio {reply : Reply} (hb : b.isSetting) (hp : reply.port = .radio)
    (hroom : responseRoom s = true) (hf : ∀ f, b ≠ .lastFailure f)
    (hareas : ∀ p, b = .areas p → 62 ≤ p.response.depth) :
    (s.completeStore b (some reply)).pkm.response.getLast?.map (fun x => x.frame) =
      some (responseFrame reply .done []) ∧
    (s.completeStore b (some reply)).fcu.outRadio = false := by
  simpa [State.completeStore_eq hb, State.respond_eq hf] using
    answer_radio hp (State.takeBody_responseRoom hroom hareas) .done

/-- R52, R184: the response DONE stands in the place reserved for it. -/
theorem completeStore_local {reply : Reply} (hb : b.isSetting) (hp : reply.port = .localPort)
    (hres : .reservation ∈ s.fcu.localQ) (hf : ∀ f, b ≠ .lastFailure f) :
    LocalItem.frame .response (responseFrame reply .done []) 0 ∈
      (s.completeStore b (some reply)).fcu.localQ ∧
    (s.completeStore b (some reply)).fcu.outLocal = false := by
  have hone : 1 ≤ (s.takeBody b).reserved := by
    rw [State.takeBody_reserved]
    exact List.count_pos_iff.2 hres
  obtain ⟨hmem, hout⟩ := answer_local (s := s.takeBody b) hp hone .done
  rw [State.completeStore_eq hb, State.respond_eq hf]
  exact ⟨mem_announce rfl hmem b, by simpa using hout⟩

/-- A completed write whose table leaves the ROUTINE record open joins SETTINGS_WRITTEN to it (R52,
R153). -/
theorem completeStore_names {table index : Nat} (hb : b.isSetting) (hn : b.names = some (table, index))
    (hbelow : (s.takeBody b).rpb.routineBelow 11) : ∃ g : Gather,
    g.entries.getLast?.map (fun e => e.ev) = some (.settingsWritten table index) ∧
    s.completeStore b r =
      ((s.takeBody b).respond b r).modRpb (fun k => { k with routine := some g }) := by
  refine ⟨_, joined_last ((s.takeBody b).respond b r) _, ?_⟩
  rw [State.completeStore_eq hb, State.announce_eq hn]
  exact emit_unsealed (by simpa using hbelow) rfl rfl

/-- R52, R153: SETTINGS_WRITTEN is the last entry of the ROUTINE record. -/
theorem completeStore_event {table index : Nat} (hb : b.isSetting) (hn : b.names = some (table, index))
    (hbelow : s.rpb.routineBelow 10) (hidle : s.bat.test = .idle) :
    ((s.completeStore b r).rpb.routine.bind (fun g => g.entries.getLast?)).map (fun e => e.ev) =
      some (.settingsWritten table index) := by
  obtain ⟨g, hlast, hg⟩ :=
    completeStore_names (r := r) hb hn (State.takeBody_routineBelow b hidle hbelow)
  simpa [hg] using hlast

/-- R123, R129: what a battery record makes of the setpoints, the charge and the interval stands. -/
theorem completeStore_battery (k : BatteryRec) :
    (s.completeStore (.battery k) r).chargeAt (((s.newSetpoints k).newCapacity s.store.battery
      k).newInterval s.store.battery k) s.rpb.profLow := by
  have hb : (StoreBody.battery k).isSetting := fun _ _ h => nomatch h
  simpa [State.completeStore_eq hb, State.takeBody, State.chargeAt] using
    State.batteryStored_chargeAt k s

/-- R164: a partition leaves the four areas empty, but for its own response. -/
theorem completeStore_areas (p : Partition) (hbelow : s.rpb.routineBelow 11) :
    (s.completeStore (.areas p) r).pkm.urgent = [] ∧ (s.completeStore (.areas p) r).pkm.routine = [] ∧
    (s.completeStore (.areas p) r).pkm.forward = [] ∧
    (s.completeStore (.areas p) r).pkm.response.length ≤ 1 ∧
    (r.all (fun r => r.port != .radio) = true → (s.completeStore (.areas p) r).pkm.response = []) ∧
    (s.completeStore (.areas p) r).rpb.lostUrgent = min 255 (s.rpb.lostUrgent + s.pkm.urgent.length) := by
  obtain ⟨hu, hro, hf, hre, hlost⟩ := State.areasStored_pkm p s
  have hb : (StoreBody.areas p).isSetting := fun _ _ h => nomatch h
  obtain ⟨g, -, hg⟩ := completeStore_names (s := s) (r := r) hb rfl
    (by simpa [Rpb.routineBelow, Rpb.gather, State.takeBody, State.areasStored_routine] using hbelow)
  rw [State.respond_eq (by simp)] at hg
  obtain ⟨hlen, hurgent⟩ := answer_pkm r .done (s.areasStored p)
  have hno := fun hr => answer_notRadio (s := s.areasStored p) (r := r) hr .done
  simp only [hg, State.takeBody, State.modRpb_pkm, State.modRpb_rpb, State.answer_pkm_fields,
    State.answer_frame, hurgent, hu, hro, hf, hlost]
  refine ⟨trivial, trivial, trivial, by simpa [hre] using hlen, fun hr => ?_, rfl⟩
  rw [hno hr, hre]

end

/-- R51: a write completes, and the store is free. -/
theorem State.storeComplete_eq {op : StoreOp} (hop : s.store.inFlight = some op) :
    s.storeComplete = (s.completeStore op.body op.reply).storeFree := by
  rw [State.storeComplete, hop]

/-- Settles O33: the completion is taken apart into the contents, the response, the event and the free
store, and each clause is a law of one of them. -/
theorem storeOperationCompletes : Obligations.StoreOperationCompletes := by
  unfold Obligations.StoreOperationCompletes
  intro s op hrun hop hb
  have hstore : (s.completeStore op.body op.reply).store = op.body.into s.store := by
    simp [State.completeStore_eq hb, State.takeBody_store]
  have hsets : (s.completeStore op.body op.reply).sets = (s.takeBody op.body).sets := by
    simp [State.completeStore_eq hb]
  have hwait : (op.body.into s.store).waitList = s.store.waitList := by
    cases op.body <;> rfl
  obtain ⟨htables, hlist, hflight, hforce⟩ :=
    State.storeFree_store (s.completeStore op.body op.reply)
  have hframe : ∀ {m : List Block}, [.store, .lku] ++ (op.body.reach ++ eventBlocks) ⊆ m →
      AllBut m s (s.completeStore op.body op.reply).storeFree := fun hm =>
    (allBut_completeStore hb fun _ h => hm (List.mem_append_right _ h)).trans
      (allBut_storeFree _) (List.Subset.refl _) fun _ h => hm (List.mem_append_left _ h)
  refine ⟨s.storeComplete, congrArg Host.Outcome.next (if_pos hrun), ?_⟩
  rw [State.storeComplete_eq hop]
  simp only [State.storeFree_frame, hsets]
  refine ⟨hstore ▸ htables, by rw [hlist, hstore, hwait], by rw [hflight, hstore, hwait],
    hframe ?_, State.takeBody_live _ _, ?_, ?_, ?_, ?_, ?_, ?_, ?_, ?_, ?_⟩
  case refine_1 => cases op.body <;> simp [StoreBody.reach, eventBlocks]
  case refine_2 => rw [hforce, State.completeStore_eq hb]; simp
  case refine_3 =>
    intro slot hbody hp
    rw [hbody, State.takeBody, State.groupStored_sets, if_pos ⟨rfl, hp⟩]
  case refine_4 =>
    intro r hr hp hroom hf hareas
    rw [hr]
    exact completeStore_radio hb hp hroom hf hareas
  case refine_5 =>
    intro r hr hp hres hf
    rw [hr]
    exact completeStore_local hb hp hres hf
  case refine_6 =>
    intro table index hn hbelow hidle
    exact completeStore_event hb hn hbelow hidle
  case refine_7 =>
    intro slot g hbody
    refine ⟨by rw [hbody]; exact State.groupStored_sets slot g s, hframe ?_⟩
    simp [hbody, StoreBody.reach, eventBlocks]
  case refine_8 =>
    intro b hbody
    have hcharge := completeStore_battery (s := s) (r := op.reply) b
    rw [← hbody] at hcharge
    obtain ⟨⟨habs, hfl, hint, hq, hsoc, hest⟩, hlow⟩ := hcharge
    simp only [habs, hfl, hint, hq, hsoc, hest, hlow, Bat.newInterval_fields, Bat.newCapacity_fields]
    refine ⟨rfl, rfl, rfl, fun hcap => ?_, fun hcap => ?_, trivial, ?_⟩
    · rw [Bat.newCapacity, if_pos hcap]
      exact ⟨rfl, rfl, rfl⟩
    · rw [Bat.newCapacity, if_neg hcap]
      exact ⟨rfl, rfl, rfl⟩
    · rw [hbody]
      exact State.takeBody_sets (by simp) s
  case refine_9 =>
    intro r hbody hr hst
    obtain ⟨hlisten, hnone⟩ := State.radioStored_rpc hr hst
    simp only [State.completeStore_eq hb, State.announce_rpc, State.respond_frame]
    rw [hbody]
    exact ⟨hlisten, hnone, State.takeBody_sets (by simp) s⟩
  case refine_10 =>
    intro p hbody hbelow
    obtain ⟨hu, hro, hf, hlen, hre, hlost⟩ := completeStore_areas (r := op.reply) p hbelow
    rw [hbody]
    refine ⟨hu, hro, hf, hlen, hre, hlost, hbody ▸ hframe ?_⟩
    simp [hbody, StoreBody.reach, eventBlocks]

end Sys2Proof.Machine
end

section
/-! The states of SEQ and what belongs to them (R64, R77, R83): SequenceLaw holds of a state whatever
its shot counter is, so it is followed here without ShotLaw. Where SEQ enters a state, what the state
does not have is absent, and only FAILED and a halted drive have to be kept together. -/

namespace Sys2Proof.Machine

-- The many short proofs would otherwise each hold a waiting thread.
set_option Elab.async false

variable {s t : State}

/-! ## The law taken apart -/

/-- R64, R77, R83: SEQ holds what belongs to its state, and is in FAILED while the drive is halted. -/
structure State.InAccord (s : State) : Prop where
  held : s.seq.held
  halted : s.seq.state = .failed ↔ s.drv.state = .halted

theorem sequenceLaw_iff (s : State) : SequenceLaw s ↔ s.InAccord := by
  constructor
  · rintro ⟨h1, h2, h3, h4, h5, h6, h7, h8⟩
    exact ⟨⟨h1, h2, h3, h4, h5, h6, h7⟩, h8⟩
  · rintro ⟨⟨h1, h2, h3, h4, h5, h6, h7⟩, h8⟩
    exact ⟨h1, h2, h3, h4, h5, h6, h7, h8⟩

/-- The drive is not halted, so that SEQ may be in any state but FAILED. -/
abbrev State.driveLives (s : State) : Prop := s.drv.state ≠ .halted

/-- SEQ enters a state: only what `f` adds has to belong to it. -/
theorem State.inAccord_goto (st : SeqState) {f : Seq → Seq}
    (halted : st = .failed ↔ s.drv.state = .halted)
    (hf : ∀ q, (f q).state = q.state := by exact fun _ => rfl)
    (held : (f (s.seq.entered st)).held := by
      simp [Seq.held, Seq.entered, timerOfState, SeqState.followsEpisodes]) :
    ((s.seqGoto st).modSeq f).InAccord :=
  ⟨by simpa using held, by simpa [hf] using halted⟩

theorem State.inAccord_lockout (hd : s.driveLives) (r : LockReason) :
    (s.seqLockout r).InAccord := by
  obtain ⟨held, halted⟩ := State.inAccord_goto (s := s) .lockout
    (f := fun q => { q with lockReason := some r }) (by simpa using hd)
  exact ⟨by simpa using held, by simpa using halted⟩

theorem State.inAccord_ready (hd : s.driveLives) : (s.seqGoto .ready).InAccord :=
  State.inAccord_goto .ready (f := id) (by simpa using hd)

theorem State.inAccord_unknown (hd : s.driveLives) : (s.seqGoto .unknown).InAccord :=
  State.inAccord_goto .unknown (f := id) (by simpa using hd)

theorem State.inAccord_failed (hd : s.drv.state = .halted) : s.seqHalted.InAccord :=
  State.inAccord_goto .failed (f := id) (by simpa using hd)

theorem State.inAccord_tripping (hd : s.driveLives) (c : TripCause) :
    ((s.seqGoto .tripping).modSeq (fun q => { q with tripCause := some c })).InAccord :=
  State.inAccord_goto .tripping (by simpa using hd)

theorem State.inAccord_closing (hd : s.driveLives) (c : CloseCause) :
    ((s.seqGoto .closing).modSeq (fun q => { q with closeCause := some c })).InAccord :=
  State.inAccord_goto .closing (by simpa using hd)

theorem State.inAccord_openInterval (hd : s.driveLives) : s.seqOpenInterval.InAccord :=
  State.inAccord_goto .openInterval (f := fun q => { q with timer := some ⟨.openInterval, _, false⟩ })
    (by simpa using hd)

theorem State.inAccord_reclaim (hd : s.driveLives) : s.seqReclaim.InAccord :=
  State.inAccord_goto .reclaim (f := fun q => { q with timer := some ⟨.reclaim, _, _⟩ })
    (by simpa using hd)

theorem State.inAccord_handClose (hd : s.driveLives) : s.seqHandClose.InAccord :=
  State.inAccord_reclaim (by simpa [State.driveLives] using hd)

namespace State.InAccord

/-- What leaves SEQ, and the drive halted or not, keeps the accord. -/
theorem of_same (h : s.InAccord) (hseq : t.seq = s.seq := by simp)
    (hdrv : t.drv.state = .halted ↔ s.drv.state = .halted := by simp) : t.InAccord :=
  ⟨hseq ▸ h.held, by rw [hseq, hdrv]; exact h.halted⟩

theorem modSeq (h : s.InAccord) {f : Seq → Seq} (hf : (f s.seq).state = s.seq.state)
    (held : (f s.seq).held) : (s.modSeq f).InAccord :=
  ⟨held, by simpa [hf] using h.halted⟩

/-- Outside FAILED the drive is not halted (R83). -/
theorem lives (h : s.InAccord) (hs : s.seq.state ≠ .failed) : s.driveLives :=
  fun hd => hs (h.halted.2 hd)

theorem lives_of_eq (h : s.InAccord) {st : SeqState} (hs : s.seq.state = st)
    (hst : st ≠ .failed := by decide) : s.driveLives := h.lives (hs ▸ hst)

/-! ## Reports from DRV -/

theorem seqTripDone (h : s.InAccord) : s.seqTripDone.InAccord := by
  dsimp only [State.seqTripDone]
  split
  · have hd := h.lives_of_eq ‹_›
    dsimp only [State.seqTripEnd]
    (repeat' split)
    exacts [inAccord_lockout hd _, inAccord_lockout hd _, inAccord_lockout hd _,
      inAccord_lockout hd _, inAccord_lockout hd _, inAccord_openInterval hd]
  · exact h

theorem seqCloseDone (h : s.InAccord) : s.seqCloseDone.InAccord := by
  dsimp only [State.seqCloseDone]
  split
  case h_1 hs => exact inAccord_reclaim (by simpa [driveLives] using h.lives_of_eq hs)
  case h_2 hs =>
    exact inAccord_handClose (by simpa [driveLives, State.seqUnexpected] using h.lives_of_eq hs)
  all_goals exact h

theorem seqCloseFailed (h : s.InAccord) : s.seqCloseFailed.InAccord := by
  dsimp only [State.seqCloseFailed]
  split
  exacts [inAccord_lockout (h.lives_of_eq ‹_›) _, h]

/-- R83, R102: a restored drive takes SEQ out of FAILED. -/
theorem seqRestored (hs : s.seq.state = .failed) (hd : s.driveLives) : s.seqRestored.InAccord := by
  dsimp only [State.seqRestored]
  rw [if_pos hs]
  (repeat' split)
  exacts [inAccord_lockout hd _, inAccord_lockout hd _,
    inAccord_ready (by simpa [driveLives] using hd), inAccord_unknown hd]

/-! ## Trips and closes -/

/-- R69, R80, R84: a trip that the drive takes, from any state of SEQ. -/
theorem placeTrip (hd : s.driveLives) (c : TripCause) (announce : Option Flags4) :
    (s.placeTrip c announce).InAccord := by
  have h1 := inAccord_tripping (s := s.drvTrip c) (by simpa [driveLives] using hd) c
  have h2 : (match announce with
      | some f => (((s.drvTrip c).seqGoto .tripping).modSeq
          (fun q => { q with tripCause := some c })).emit (.trip c (((s.drvTrip c).seqGoto
            .tripping).modSeq (fun q => { q with tripCause := some c })).seq.shot f)
      | none => ((s.drvTrip c).seqGoto .tripping).modSeq
          (fun q => { q with tripCause := some c })).InAccord := by
    cases announce
    exacts [h1, h1.of_same]
  dsimp only [State.placeTrip]
  rw [if_neg (by rwa [tripAnswer_refused_iff])]
  split
  exacts [h2.seqTripDone, h2]

theorem seqProtect (h : s.InAccord) (hd : s.driveLives) : s.seqProtect.InAccord := by
  dsimp only [State.seqProtect]
  split
  exacts [h, placeTrip (by simpa [driveLives] using hd) _ _]

theorem seqTripUnknown (h : s.InAccord) (hs : s.seq.state = .unknown) (c : TripCause)
    (m : RestartMark) : (s.seqTripUnknown c m).InAccord := by
  dsimp only [State.seqTripUnknown]
  split
  · have h1 : (s.drvTrip c).InAccord := h.of_same
    obtain ⟨k1, k2, k3, k4, k5, -, k7⟩ := h1.held
    exact h1.modSeq rfl ⟨k1, k2, k3, k4, k5, fun _ => by simpa using hs, k7⟩
  · exact h

theorem seqTripCommand (h : s.InAccord) : s.seqTripCommand.InAccord := by
  dsimp only [State.seqTripCommand]
  split
  case h_1 hs => exact placeTrip (h.lives_of_eq hs) _ _
  case h_2 hs => exact placeTrip (h.lives_of_eq hs) _ _
  case h_3 hs => exact placeTrip (h.lives_of_eq hs) _ _
  case h_4 hs => exact inAccord_lockout (h.lives_of_eq hs) _
  case h_5 hs => exact inAccord_lockout (h.lives_of_eq hs) _
  case h_8 hs => exact h.seqTripUnknown hs _ _
  all_goals exact h

/-- R84: in TRIPPING the cause of the trip changes, and stays a cause. -/
theorem setTripCause (h : s.InAccord) (hs : s.seq.state = .tripping) (c : TripCause) :
    (s.modSeq (fun q => { q with tripCause := some c })).InAccord := by
  obtain ⟨k1, -, k3, k4, k5, k6, k7⟩ := h.held
  exact h.modSeq rfl ⟨k1, by simp [hs], k3, k4, k5, k6, k7⟩

theorem lowBatteryRequest (h : s.InAccord) : s.lowBatteryRequest.InAccord := by
  have h1 : s.seqLowBattery.InAccord := by
    dsimp only [State.seqLowBattery]
    split
    case h_1 hs => exact placeTrip (h.lives_of_eq hs) _ _
    case h_2 hs => exact placeTrip (h.lives_of_eq hs) _ _
    case h_3 hs => exact placeTrip (h.lives_of_eq hs) _ _
    case h_4 hs => exact h.setTripCause hs _
    case h_5 hs => exact inAccord_lockout (h.lives_of_eq hs) _
    case h_6 hs => exact inAccord_lockout (h.lives_of_eq hs) _
    case h_7 hs => exact h.seqTripUnknown hs _ _
    all_goals exact h
  exact h1.of_same (by simp [State.lowBatteryRequest]) (by simp [State.lowBatteryRequest])

theorem placeClose (hd : s.driveLives) (c : CloseCause) (ans : CloseAnswer) :
    (s.placeClose c ans).InAccord := by
  have h1 := inAccord_closing (s := s.drvClose c) (by simpa [driveLives] using hd) c
  dsimp only [State.placeClose]
  split
  exacts [h1.seqCloseDone, h1]

theorem checkClose (h : s.InAccord) : s.checkClose.InAccord := by
  dsimp only [State.checkClose]
  split
  · obtain ⟨hs, -⟩ := ‹_ ∧ _›
    have hd := h.lives_of_eq hs
    split
    exacts [placeClose hd _ _, placeClose hd _ _, h, h]
  · exact h

/-- R71, R72: the open interval leads to CLOSE_WAIT. -/
theorem seqCloseWait (hd : s.driveLives) : s.seqCloseWait.InAccord :=
  checkClose (inAccord_goto .closeWait
    (f := fun q => { q with timer := some ⟨.closeWait, _, false⟩ }) (by simpa using hd))

theorem seqCloseCommand (h : s.InAccord) : s.seqCloseCommand.InAccord := by
  dsimp only [State.seqCloseCommand]
  split
  · obtain ⟨hs, -⟩ := closeOutcome_done ‹_›
    exact placeClose (by simpa [driveLives] using h.lives_of_eq hs) _ _
  · exact h

/-! ## Results from ELE -/

/-- R77: only SEQ in READY or RECLAIM follows an episode. -/
theorem setEpisode (h : s.InAccord) (hs : s.seq.state = .ready ∨ s.seq.state = .reclaim)
    (e : Option Episode) : (s.modSeq (fun q => { q with episode := e })).InAccord := by
  obtain ⟨k1, k2, k3, k4, k5, k6, -⟩ := h.held
  exact h.modSeq rfl ⟨k1, k2, k3, k4, k5, k6, fun _ => hs⟩

theorem seqAdvance (hd : s.driveLives) : s.seqAdvance.InAccord :=
  of_same (inAccord_reclaim (s := s.setShot (s.seq.shot + 1)) (by simpa [driveLives] using hd))
    (by simp [State.seqAdvance]) (by simp [State.seqAdvance])

theorem seqEpisode (h : s.InAccord) (hs : s.seq.state = .ready ∨ s.seq.state = .reclaim)
    (r : ElemResult) : (s.seqEpisode r).InAccord := by
  have hset := h.setEpisode hs
  have hd : s.driveLives := h.lives (by rcases hs with hs | hs <;> simp [hs])
  dsimp only [State.seqEpisode]
  (repeat' split)
  exacts [hset _, hset _, h, seqAdvance (by simpa [driveLives] using hd), hset _]

/-- R75: a paused timer is still the timer of RECLAIM. -/
theorem pauseReclaim (h : s.InAccord) (hs : s.seq.state = .reclaim) (pause : Bool) :
    (s.modSeq (fun q => { q with timer := pauseTimer pause q.timer })).InAccord := by
  obtain ⟨k1, k2, k3, k4, -, k6, k7⟩ := h.held
  refine h.modSeq rfl ⟨k1, k2, k3, ?_, fun _ => hs, k6, k7⟩
  cases htimer : s.seq.timer <;> simpa [pauseTimer, htimer] using k4

theorem seqResult (h : s.InAccord) (r : ElemResult) : (s.seqResult r).InAccord := by
  have h1 := h.modSeq (f := fun q => { q with lastPickup := r.pickup, lastOperate := r.operate })
    rfl h.held
  dsimp only [State.seqResult]
  split
  case h_1 hs =>
    split
    exacts [h1.seqProtect (h1.lives_of_eq hs), h1.seqEpisode (.inl hs) r]
  case h_2 hs =>
    split
    exacts [h1.seqProtect (h1.lives_of_eq hs), (h1.pauseReclaim hs _).seqEpisode (.inr hs) r]
  all_goals exact h1

theorem seqTakeResult (h : s.InAccord) (r : ElemResult) : (s.seqTakeResult r).InAccord := by
  dsimp only [State.seqTakeResult]
  split
  exacts [(h.seqResult r).checkClose, h.seqResult r]

/-! ## Deliveries, other views and tags -/

/-- A view that SEQ brings up to date belongs to no state (R65, R72). -/
theorem seqView (h : s.InAccord) {f : Seq → Seq} (hf : (f s.seq).state = s.seq.state)
    (held : (f s.seq).held) : (s.seqView f).InAccord := by
  dsimp only [State.seqView]
  split
  exacts [h.modSeq hf held, (h.modSeq hf held).checkClose]

theorem seqCap (h : s.InAccord) (v : Nat) (stale : Bool) : (s.seqCap v stale).InAccord :=
  h.seqView rfl h.held

theorem seqLinkUp (h : s.InAccord) : s.seqLinkUp.InAccord := h.seqView rfl h.held

theorem seqSource (h : s.InAccord) (live : Bool) : (s.seqSource live).InAccord :=
  h.seqView rfl h.held

theorem elePosition (h : s.InAccord) (d : Delivery) : (s.elePosition d).InAccord := by
  dsimp only [State.elePosition]
  split
  exacts [seqTakeResult h.of_same _, h.of_same]

theorem seqHandle (h : s.InAccord) (before : Handle) : (s.seqHandle before).InAccord := by
  dsimp only [State.seqHandle]
  split
  · obtain ⟨-, -, hs⟩ := ‹_ ∧ _›
    exact inAccord_lockout (h.lives hs) _
  · exact h

theorem seqLeaveUnknown (h : s.InAccord) (hs : s.seq.state = .unknown) (d : Delivery) :
    (s.seqLeaveUnknown d).InAccord := by
  have hd := h.lives_of_eq hs
  dsimp only [State.seqLeaveUnknown]
  (repeat' split)
  exacts [inAccord_lockout hd _, inAccord_tripping hd _,
    inAccord_ready (by simpa [driveLives] using hd), inAccord_lockout hd _, h]

theorem seqOpened (h : s.InAccord) (hs : s.seq.state ≠ .failed) (d : Delivery) (changed : Bool) :
    (s.seqOpened d changed).InAccord := by
  dsimp only [State.seqOpened]
  split
  exacts [inAccord_lockout (by simpa [driveLives, State.seqUnexpected] using h.lives hs) _, h]

theorem seqClosed (h : s.InAccord) (hs : s.seq.state ≠ .failed) (d : Delivery) (changed : Bool) :
    (s.seqClosed d changed).InAccord := by
  dsimp only [State.seqClosed]
  split
  exacts [inAccord_handClose (by simpa [driveLives, State.seqUnexpected] using h.lives hs), h]

theorem seqPosition (h : s.InAccord) (d : Delivery) (changed : Bool) :
    (s.seqPosition d changed).InAccord := by
  dsimp only [State.seqPosition]
  split
  · exact h
  · split
    case h_2 hs => exact h.seqOpened (by simp [hs]) _ _
    case h_3 hs => exact h.seqOpened (by simp [hs]) _ _
    case h_4 hs => exact h.seqClosed (by simp [hs]) _ _
    case h_5 hs => exact h.seqClosed (by simp [hs]) _ _
    case h_6 hs => exact h.seqClosed (by simp [hs]) _ _
    all_goals exact h

theorem seqDelivery (h : s.InAccord) (d : Delivery) : (s.seqDelivery d).InAccord := by
  have h1 : ((s.modSeq (deliveryViews d)).elePosition d).InAccord :=
    (h.modSeq rfl h.held).elePosition d
  dsimp only [State.seqDelivery]
  (repeat' split)
  · obtain ⟨hs, -⟩ := ‹_ ∧ _›
    exact (h1.seqLeaveUnknown hs d).checkClose
  · exact ((h1.seqHandle _).seqPosition _ _).checkClose
  · obtain ⟨hs, -⟩ := ‹_ ∧ _›
    exact h1.seqLeaveUnknown hs d
  · exact (h1.seqHandle _).seqPosition _ _

theorem seqNoClose (h : s.InAccord) : s.seqNoClose.InAccord := by
  dsimp only [State.seqNoClose]
  split
  case h_1 hs => exact inAccord_lockout (by simpa [driveLives] using h.lives_of_eq hs) _
  case h_2 hs => exact inAccord_lockout (h.lives_of_eq hs) _
  case h_3 hs => exact inAccord_lockout (h.lives_of_eq hs) _
  all_goals exact h

theorem seqAnyTag (h : s.InAccord) : s.seqAnyTag.InAccord := by
  dsimp only [State.seqAnyTag]
  split
  case h_1 hs => exact inAccord_lockout (h.lives_of_eq hs) _
  case h_2 hs => exact inAccord_lockout (h.lives_of_eq hs) _
  case h_3 => exact h.modSeq rfl h.held
  all_goals exact h

theorem seqTags (h : s.InAccord) (present noClose : Bool) : (s.seqTags present noClose).InAccord := by
  have h1 := h.modSeq (f := fun q => { q with tagPresent := present, noClosePresent := noClose })
    rfl h.held
  dsimp only [State.seqTags]
  (repeat' split)
  exacts [h1.seqNoClose, h1.seqAnyTag, h1.checkClose]

/-! ## Selections and arrivals -/

theorem takeLive (h : s.InAccord) (l : LiveSet) : (s.takeLive l).InAccord := by
  dsimp only [State.takeLive]
  refine seqResult ?_ _
  split
  exacts [⟨h.held, h.halted⟩, h.of_same]

theorem applyLoad (h : s.InAccord) (g : Option Nat) (c : SelCause) (r : Option Reply) :
    (s.applyLoad g c r).InAccord :=
  (h.takeLive (liveSetOf s.store g)).of_same (by simp [State.applyLoad]) (by simp [State.applyLoad])

theorem applyPending (h : s.InAccord) : s.applyPending.InAccord := by
  dsimp only [State.applyPending]
  (repeat' split)
  exacts [h, h.of_same, h.applyLoad _ _ _]

theorem applyIfSettled (h : s.InAccord) : s.applyIfSettled.InAccord := by
  dsimp only [State.applyIfSettled]
  split
  exacts [h.applyPending, h]

theorem setTagged (h : s.InAccord) : s.setTagged.InAccord := by
  dsimp only [State.setTagged]
  (repeat' split)
  exacts [h, applyIfSettled h.of_same, applyIfSettled h.of_same, h]

theorem setUntagged (h : s.InAccord) : s.setUntagged.InAccord := by
  dsimp only [State.setUntagged]
  (repeat' split)
  exacts [h, h.of_same, applyIfSettled h.of_same]

/-- An arrival whose action keeps the accord ends in accord (R56, R64, R140). -/
theorem seqArrive {f : State → State} (h : (f s).InAccord) : (s.seqArrive f).InAccord := by
  have h1 : ((f s).resendTrip s.seq.state).InAccord := by
    dsimp only [State.resendTrip]
    split
    exacts [h.lowBatteryRequest, h]
  dsimp only [State.seqArrive, State.settleNotice]
  (repeat' split)
  exacts [h1, applyPending h1.of_same, h1.of_same]

end State.InAccord

end Sys2Proof.Machine
end

section
/-! The states of SEQ through the rows (R64, R83): what a row does to another block leaves them, and
what it brings to SEQ comes as an arrival. -/

namespace Sys2Proof.Machine

-- The many short proofs would otherwise each hold a waiting thread.
set_option Elab.async false

variable {s t : State}

namespace State.InAccord

/-! ## The drive (R93 to R104) -/

theorem raiseRecharge (h : s.InAccord) : s.raiseRecharge.InAccord := h.of_same

/-- R93, R98: a confirmation ends an operation of a drive that is not halted. -/
theorem drvConfirm (h : s.InAccord) (news : Bool) (d : Delivery) : (s.drvConfirm news d).InAccord := by
  dsimp only [State.drvConfirm]
  split
  · rename_i hc
    have hd : s.driveLives := fun hd => by simp [confirmsTrip, hd] at hc
    have h1 : s.drvTripDone.InAccord := h.of_same (by simp) (by simp [State.drvTripDone_state, hd])
    exact (seqArrive h1.seqTripDone).raiseRecharge
  · split
    · rename_i hc
      have hd : s.driveLives := fun hd => by simp [confirmsClose, hd] at hc
      have h1 : s.drvCloseDone.InAccord := h.of_same (by simp) (by simp [State.drvCloseDone, hd])
      exact (seqArrive h1.seqCloseDone).raiseRecharge
    · exact h

theorem drvDelivery (h : s.InAccord) (d : Delivery) : (s.drvDelivery d).InAccord := by
  have h1 : (s.drvViews d).InAccord := h.of_same (by simp) (by simp [State.drvViews])
  dsimp only [State.drvDelivery]
  refine drvConfirm ?_ _ _
  split
  exacts [h1.of_same, h1]

/-- R94: the first period of a trip monitor changes the coil, or is extended. -/
theorem firstPeriod (h : s.InAccord) (hd : s.drv.state = .tripMain) : s.firstPeriod.InAccord := by
  refine h.of_same (by simp) ?_
  dsimp only [State.firstPeriod]
  split <;> simp [hd]

/-- R95: the halted drive is reported to SEQ, which enters FAILED from any state. -/
theorem drvHalt (s : State) : (s.drvHalt.seqArrive State.seqHalted).raiseRecharge.InAccord :=
  (seqArrive (inAccord_failed rfl)).raiseRecharge

theorem tripMonitorEnd (h : s.InAccord) : s.tripMonitorEnd.InAccord := by
  dsimp only [State.tripMonitorEnd]
  split
  · exact h
  · split
    case h_1 hd =>
      split
      exacts [drvHalt s, h.firstPeriod hd]
    case h_2 => exact drvHalt s
    all_goals exact h

theorem closeMonitorEnd (h : s.InAccord) : s.closeMonitorEnd.InAccord := by
  dsimp only [State.closeMonitorEnd]
  split
  · obtain ⟨-, hd⟩ := ‹_ ∧ _›
    have h1 : s.drvCloseFail.InAccord := h.of_same (by simp) (by simp [State.drvCloseFail, hd])
    exact (seqArrive h1.seqCloseFailed).raiseRecharge
  · exact h

/-- R102: the restore of a halted drive is reported to SEQ, which is in FAILED. -/
theorem drvRestore (h : s.InAccord) (hd : s.drv.state = .halted) :
    (s.drvRestore.seqArrive State.seqRestored).InAccord :=
  seqArrive (seqRestored (by simpa using h.halted.2 hd) (by simp [driveLives, State.drvRestore]))

/-! ## The sensor link (R1 to R20) -/

theorem modSlr (h : s.InAccord) (f : Slr → Slr) : (s.modSlr f).InAccord := h.of_same

theorem deliver (h : s.InAccord) : s.deliver.InAccord := by
  have hlku : ∀ (d : Delivery) (u : State), u.InAccord → (u.lkuHandle d).InAccord :=
    fun _ _ hu => hu.of_same
  dsimp only [State.deliver]
  refine hlku _ _ ?_
  split
  exacts [seqArrive ((h.drvDelivery _).seqDelivery _), (seqArrive (h.seqDelivery _)).drvDelivery _]

theorem eStep (h : s.InAccord) : s.eStep.InAccord := by
  have h1 : ((s.modMeu (measure s.sets.live.grp)).modEle
      (eleStep s.sets.live (measure s.sets.live.grp s.meu).mags)).InAccord := h.of_same
  have h2 := seqArrive (h1.seqTakeResult (stepResult s.ele
    (eleStep s.sets.live (measure s.sets.live.grp s.meu).mags s.ele)))
  have hprof : ∀ (m : Nat) (u : State), u.InAccord → (u.profileStep m).InAccord :=
    fun _ _ hu => hu.of_same
  dsimp only [State.eStep]
  refine hprof _ _ ?_
  split
  exacts [h2, seqArrive (h2.seqSource _)]

theorem stepAndDeliver (h : s.InAccord) (estep delivery : Bool) :
    (s.stepAndDeliver estep delivery).InAccord := by
  dsimp only [State.stepAndDeliver]
  cases estep <;> cases delivery <;> split
  exacts [h, h, h.deliver, h.deliver, h.eStep, h.eStep, h.deliver.eStep, h.eStep.deliver]

theorem missingSlot (h : s.InAccord) : s.missingSlot.InAccord := by
  have hlost : ∀ e, (s.countMissing.loseLink.emit e).InAccord :=
    fun e => h.of_same (by simp [State.loseLink]) (by simp [State.loseLink])
  dsimp only [State.missingSlot]
  (repeat' split)
  exacts [(hlost _).deliver, stepAndDeliver h.of_same _ _, hlost _, stepAndDeliver h.of_same _ _,
    h.of_same, h.of_same]

theorem missingSlots (h : s.InAccord) (n : Nat) : (s.missingSlots n).InAccord := by
  induction n generalizing s with
  | zero => exact h
  | succ n ih => exact ih h.missingSlot

theorem linkUpNotices (h : s.InAccord) (before : Link) : (s.linkUpNotices before).InAccord := by
  have hup : ∀ u : State, u.InAccord → (u.updateSetpoints.seqArrive State.seqLinkUp).InAccord := by
    intro u hu
    have h1 : u.updateSetpoints.InAccord := hu.of_same
    exact seqArrive h1.seqLinkUp
  dsimp only [State.linkUpNotices]
  (repeat' split)
  exacts [hup _ h, hup _ h.of_same, h]

theorem accepted (h : s.InAccord) (f : SampleFrame) : (s.accepted f).InAccord := by
  have hcap : ∀ (u : State) (stale : Bool), u.InAccord →
      ((u.drvCap f.cap stale).seqArrive (State.seqCap f.cap stale)).InAccord := by
    intro u stale hu
    have h1 : (u.drvCap f.cap stale).InAccord := hu.of_same
    exact seqArrive (h1.seqCap _ _)
  have h1 : (s.goodLink f).InAccord := h.of_same
  exact (hcap _ _ (h1.linkUpNotices _)).modSlr _

theorem goodSlot (h : s.InAccord) (f : SampleFrame) : (s.goodSlot f).InAccord := by
  rw [State.goodSlot_eq]
  exact ((h.accepted f).stepAndDeliver (s.stepsAt f) (s.delivers f)).of_same

theorem sampleReceived (h : s.InAccord) (bytes : List Byte) : (s.sampleReceived bytes).InAccord := by
  have h0 : s.restartSilence.InAccord := h.modSlr _
  have h1 : (s.restartSilence.accountSeq (decodeSample bytes).seqNo).InAccord :=
    (h0.missingSlots _).modSlr _
  dsimp only [State.sampleReceived]
  (repeat' split)
  exacts [h1.missingSlot, h1.goodSlot _, missingSlot h.of_same]

/-! ## Timers of SEQ and BAT's request -/

/-- An expiry whose timer runs finds SEQ in the timer's state, which is not FAILED. -/
theorem seqExpiry (h : s.InAccord) (k : SeqTimerKind) {f : State → State}
    (hf : s.driveLives → (f s).InAccord) : (s.seqExpiry k f).InAccord := by
  dsimp only [State.seqExpiry]
  split
  · have ht := h.held.timerOf ‹_›
    exact seqArrive (hf (h.lives fun hs => by simp [hs, timerOfState] at ht))
  · exact h

theorem seqReclaimEnd (hd : s.driveLives) : s.seqReclaimEnd.InAccord :=
  inAccord_ready (by simpa [driveLives] using hd)

theorem secondEnd (h : s.InAccord) : s.secondEnd.InAccord := by
  have h1 : ((s.secondMeans (meanOf s.bat.voltSum s.bat.voltCount)
      (meanOf s.bat.ampSum s.bat.ampCount)).qualify
        (meanOf s.bat.voltSum s.bat.voltCount)).InAccord := h.of_same
  dsimp only [State.secondEnd, State.sendIfPending]
  split
  exacts [seqArrive h1.lowBatteryRequest, h1]

/-! ## The durable store (R51, R52, R109) -/

theorem tagNotices (h : s.InAccord) (before : List Tag) : (s.tagNotices before).InAccord := by
  have hset : ∀ (now : List Tag) (u : State), u.InAccord → (if anyTag before = anyTag now then u
      else if anyTag now then u.setTagged else u.setUntagged).InAccord := by
    intro now u hu
    (repeat' split)
    exacts [hu, hu.setTagged, hu.setUntagged]
  have hseq : ∀ (now : List Tag) (u : State), u.InAccord →
      (if anyTag before = anyTag now ∧ anyNoClose before = anyNoClose now then u
        else u.seqArrive (State.seqTags (anyTag now) (anyNoClose now))).InAccord := by
    intro now u hu
    split
    exacts [hu, seqArrive (hu.seqTags _ _)]
  dsimp only [State.tagNotices]
  split
  exacts [hseq _ _ (hset _ _ h), hset _ _ (hseq _ _ h)]

theorem tagsStored (h : s.InAccord) (cs : List TagChange) : (s.tagsStored cs).InAccord := by
  have h1 : (s.effectTags cs).InAccord := h.of_same
  exact (h1.tagNotices s.lku.inForce).of_same (by simp [State.tagsStored])
    (by simp [State.tagsStored])

theorem completeStore (h : s.InAccord) (b : StoreBody) (r : Option Reply) :
    (s.completeStore b r).InAccord := by
  cases b with
  | tags ts cs => exact h.tagsStored cs
  | _ => exact h.of_same (by simp [State.completeStore]) (by simp [State.completeStore])

theorem storeFree (h : s.InAccord) : s.storeFree.InAccord := h.of_same

theorem storeComplete (h : s.InAccord) : s.storeComplete.InAccord := by
  dsimp only [State.storeComplete]
  split
  exacts [h, storeFree (h.completeStore _ _)]

/-! ## Resets and the clock (R187, R189, R190) -/

theorem of_reset (hseq : t.seq = seqReset) (hdrv : t.drv = drvReset) : t.InAccord :=
  ⟨by simp [hseq, seqReset, Seq.held, timerOfState], by simp [hseq, hdrv, seqReset, drvReset]⟩

theorem resetSeq (h : s.InAccord) : s.resetSeq.InAccord := h.modSeq rfl h.held

theorem resetAs (c : ResetCause) (s : State) : (s.resetAs c).InAccord := by
  have h1 : s.resetBlocks.InAccord := of_reset rfl rfl
  have h2 : (s.resetBlocks.modPart (fun _ =>
      { run := .running, resetQual := startQual s.resetBlocks.lines })).resetSets.resetLku.InAccord :=
    h1.of_same
  have h3 := h2.resetSeq
  exact h3.of_same (by simp [State.resetAs, State.startPart]) (by simp [State.resetAs, State.startPart])

theorem countMs (h : s.InAccord) (k : Nat) : (s.countMs k).InAccord := by
  have hkind : ∀ t : SeqTimer, (t.lessBy k).kind = t.kind ∧ (t.lessBy k).paused = t.paused := by
    intro t
    simp only [SeqTimer.lessBy]
    split <;> exact ⟨rfl, rfl⟩
  obtain ⟨k1, k2, k3, k4, k5, k6, k7⟩ := h.held
  refine ⟨⟨k1, k2, k3, ?_, ?_, k6, k7⟩, h.halted⟩
  · refine Eq.trans ?_ k4
    cases ht : s.seq.timer <;> simp [State.countMs, ht, hkind]
  · intro hp
    refine k5 ?_
    cases ht : s.seq.timer <;> simp_all [State.countMs]

theorem tick (h : s.InAccord) : s.tick.InAccord := by
  have h1 : (s.countTicks 1).InAccord := h.of_same
  dsimp only [State.tick]
  split
  exacts [h1.of_same, (h1.countMs 1).of_same]

theorem partSecond (h : s.InAccord) : s.partSecond.InAccord := by
  have hpower : ∀ u : State, u.InAccord →
      (u.modFcu (fun f => { f with secondTick := false })).rpcPower.InAccord := fun _ hu => hu.of_same
  dsimp only [State.partSecond]
  refine hpower _ ?_
  split
  exacts [h, countMs h.of_same _]

/-! ## The execution of commands (R183) -/

/-- What the owner of a command does with it: SELECT_GROUP, TRIP, CLOSE, DRIVE_RESTORE and RESTART
reach SEQ. -/
theorem body (h : s.InAccord) (k : Option CmdKind) (e : IntakeEntry) (r : Option Reply) :
    (bodyOf k e r s).InAccord := by
  match k with
  | some .selectGroup =>
    dsimp only [bodyOf, bodySelectGroup]
    (repeat' split)
    exacts [h.of_same, h.of_same, h.of_same, h.of_same, h.applyLoad _ _ _, h.of_same]
  | some .trip =>
    dsimp only [bodyOf, bodyTrip]
    split
    exacts [(seqArrive h.seqTripCommand).of_same, h.of_same]
  | some .close =>
    dsimp only [bodyOf, bodyClose]
    split
    exacts [(seqArrive h.seqCloseCommand).of_same, h.of_same]
  | some .driveRestore =>
    dsimp only [bodyOf, bodyDriveRestore]
    (repeat' split)
    exacts [h.of_same, (h.drvRestore ‹_›).of_same, h.of_same (by simp) (by simp [State.drvRestore, *]),
      h.of_same, h.of_same, h.of_same]
  | some .restart =>
    dsimp only [bodyOf, bodyRestart]
    (repeat' split)
    exacts [h.of_same, resetAs _ _, h.of_same]
  | none => exact h.of_same (by simp [bodyOf, bodyUnknown]) (by simp [bodyOf, bodyUnknown])
  | some .readStatus => dsimp only [bodyOf, bodyReadStatus]; split <;> exact h.of_same
  | some .readTable => dsimp only [bodyOf, bodyReadTable]; split <;> exact h.of_same
  | some .setTime => dsimp only [bodyOf, bodySetTime]; split <;> exact h.of_same
  | some .sampleForward => dsimp only [bodyOf, bodySampleForward]; split <;> exact h.of_same
  | some .placeTag => dsimp only [bodyOf, bodyPlaceTag]; (repeat' split) <;> exact h.of_same
  | some .removeTag => dsimp only [bodyOf, bodyRemoveTag]; (repeat' split) <;> exact h.of_same
  | some .testStart => dsimp only [bodyOf, bodyTestStart]; (repeat' split) <;> exact h.of_same
  | some .testCancel => dsimp only [bodyOf, bodyTestCancel]; (repeat' split) <;> exact h.of_same
  | some .writeCurve => dsimp only [bodyOf, bodyWriteCurve]; split <;> exact h.of_same
  | some .clearCurve => dsimp only [bodyOf, bodyClearCurve]; (repeat' split) <;> exact h.of_same
  | some .writeGroup => dsimp only [bodyOf, bodyWriteGroup]; (repeat' split) <;> exact h.of_same
  | some .writeDevice => dsimp only [bodyOf, bodyWriteDevice]; split <;> exact h.of_same
  | some .writeBattery => dsimp only [bodyOf, bodyWriteBattery]; (repeat' split) <;> exact h.of_same
  | some .writeRadio => dsimp only [bodyOf, bodyWriteRadio]; split <;> exact h.of_same
  | some .writeAreas => dsimp only [bodyOf, bodyWriteAreas]; split <;> exact h.of_same
  | some .flushClass => dsimp only [bodyOf, bodyFlushClass]; split <;> exact h.of_same
  | some .writeGates => dsimp only [bodyOf, bodyWriteGates]; split <;> exact h.of_same

theorem serve (h : s.InAccord) : s.serve.InAccord := by
  refine State.serve_ind (fun u e rest hi _ hu => ?_) h
  have hb : (u.begun e).InAccord := hu.of_same
  rw [State.executeHead_eq hi]
  split
  exacts [hb.of_same, hb.body _ _ _]

/-! ## Rows and steps -/

theorem whenRunning (h : s.InAccord) {f : State → State} (hf : (f s).InAccord) :
    (Machine.whenRunning f s).InAccord := by
  dsimp only [Machine.whenRunning]
  split
  exacts [hf.serve, h]

/-- A row that follows an input line in every run state (R189). -/
theorem edge (h : s.InAccord) {f : State → State} (hf : (f s).InAccord) (g : Lines → Lines) :
    (if s.part.run = .running then (f s).serve else s.modLines g).InAccord := by
  split
  exacts [hf.serve, h.of_same]

theorem rxBytes (h : s.InAccord) (p : Port) (bs : List Byte) : (s.rxBytes p bs).InAccord := by
  induction bs generalizing s with
  | nil => exact h
  | cons b bs ih =>
    have h1 : (s.setRx p ((s.fcu.rx p).take b).1).InAccord := h.of_same
    refine ih ?_
    dsimp only [State.rxByte]
    split
    exacts [h1, serve h1.of_same]

theorem resetRows (h : s.InAccord) :
    s.resetTaken.InAccord ∧ s.resetReleased.InAccord ∧ s.resetAsserted.InAccord := by
  dsimp only [State.resetTaken, State.resetReleased, State.resetAsserted]
  refine ⟨?_, ?_, ?_⟩ <;> split
  exacts [of_reset rfl rfl, h, resetAs _ _, h.of_same, h.of_same, h.of_same]

theorem exec (h : s.InAccord) (c : Instr) : ∃ t, exec c s = .next t ∧ t.InAccord := by
  cases c with
  | sampleFrameReceived bytes => exact ⟨_, rfl, h.whenRunning (h.sampleReceived bytes)⟩
  | silenceTimerExpiry => exact ⟨_, rfl, h.whenRunning (missingSlot h.of_same)⟩
  | openIntervalExpiry => exact ⟨_, rfl, h.whenRunning (h.seqExpiry _ seqCloseWait)⟩
  | closeWaitExpiry => exact ⟨_, rfl, h.whenRunning (h.seqExpiry _ fun hd => inAccord_lockout hd _)⟩
  | reclaimExpiry => exact ⟨_, rfl, h.whenRunning (h.seqExpiry _ seqReclaimEnd)⟩
  | tripMonitorExpiry => exact ⟨_, rfl, h.whenRunning h.tripMonitorEnd⟩
  | closeMonitorExpiry => exact ⟨_, rfl, h.whenRunning h.closeMonitorEnd⟩
  | storeOperationComplete => exact ⟨_, rfl, h.whenRunning h.storeComplete⟩
  | tagExpiryCountdownEnd crew =>
    refine ⟨_, rfl, h.whenRunning ?_⟩
    dsimp only [State.countdownEnd, State.tagExpires]
    (repeat' split) <;> exact h.of_same
  | batterySecondEnd => exact ⟨_, rfl, h.whenRunning h.secondEnd⟩
  | stationFrameReceived port bytes => exact ⟨_, rfl, h.whenRunning (h.rxBytes port bytes)⟩
  | partTimeSecond => exact ⟨_, rfl, h.whenRunning h.partSecond⟩
  | resetLine => exact ⟨_, rfl, h.resetRows.1⟩
  | resetInRelease => exact ⟨_, rfl, h.resetRows.2.1⟩
  | powerOn => exact ⟨_, rfl, resetAs _ _⟩
  | resetInAsserted => exact ⟨_, rfl, h.resetRows.2.2⟩
  | powerLoss => exact ⟨_, rfl, of_reset rfl rfl⟩
  | supplyPresentEdge level => exact ⟨_, rfl, h.edge (f := State.supplyEdge level) h.of_same _⟩
  | modemReadyChange level => exact ⟨_, rfl, h.edge (f := State.modemChange level) h.of_same _⟩
  | carrierDetChange level => exact ⟨_, rfl, h.edge (f := State.carrierChange level) h.of_same _⟩
  | frameByteGapTimeout port =>
    refine ⟨_, rfl, h.whenRunning ?_⟩
    dsimp only [State.byteGap]
    split <;> exact h.of_same
  | frameLengthExceeded port =>
    exact ⟨_, rfl, h.whenRunning
      (h.of_same (by simp [State.lengthExceeded]) (by simp [State.lengthExceeded]))⟩
  | supplyChangeTaken | absorbTimeLimitReached | faultRecoveryExpiry | testIntervalElapse
  | testRetryExpiry | settleEnd | loadEnd | gatherWindowExpiry | profileHourEnd | poll
  | responseWindowExpiry | keyUpDelayExpiry | radioFrameSent | holdoffExpiry | confirmTimeout
  | localFrameSent => exact ⟨_, rfl, h.whenRunning h.of_same⟩
  | _ =>
    exact ⟨_, rfl, h.whenRunning (f := State.offerRow _)
      (h.of_same (by simp [State.offerRow]) (by simp [State.offerRow]))⟩

/-- Every step keeps the accord. -/
theorem kept : Kept State.InAccord := by
  intro s t h ht
  simp only [step] at ht
  split at ht
  · simp only [idle] at ht
    split at ht
    · obtain ⟨u, hu, hacc⟩ := h.exec _
      obtain rfl : u = t := Host.Outcome.next.inj (hu.symm.trans ht)
      exact hacc
    · obtain rfl := Host.Outcome.next.inj ht
      exact h.whenRunning h.tick
  · obtain ⟨u, hu, hacc⟩ := exec (h.of_same (t := s.setPending _)) _
    obtain rfl : u = t := Host.Outcome.next.inj (hu.symm.trans ht)
    exact hacc

end State.InAccord

/-- Settles O15: every operation of SEQ enters a state with what belongs to it or keeps the state it is
in, FAILED is entered at a halt of the drive and left at its restore alone, and no other update reaches
either. -/
theorem sequenceKept : Obligations.SequenceKept := by
  intro s t h ht
  exact (sequenceLaw_iff t).2 (State.InAccord.kept s t ((sequenceLaw_iff s).1 h) ht)

end Sys2Proof.Machine
end

section
/-! Trips and arrivals of SEQ (R69 to R71, R80, R84, R92, R99): what a trip that the drive takes comes
to, what its end decides, and what SET's notice at the end of an arrival may add. -/

namespace Sys2Proof.Machine

-- The many short proofs would otherwise each hold a waiting thread.
set_option Elab.async false

variable {s t : State}

theorem AllBut.mono {l m : List Block} (h : AllBut l s t) (hl : l ⊆ m) : AllBut m s t :=
  fun b hb => h b (fun hm => hb (hl hm))

/-! ## Entering a state (R64) -/

/-- BAT is told of LOCKOUT and FAILED alone (R140). -/
theorem State.seqGoto_bat_other {st : SeqState} (hl : st ≠ .lockout) (hf : st ≠ .failed) :
    (s.seqGoto st).bat = s.bat := by
  simp [State.seqGoto_bat, hl, hf]

theorem allBut_seqGoto {st : SeqState} (hl : st ≠ .lockout := by decide)
    (hf : st ≠ .failed := by decide) : AllBut [.seq] s (s.seqGoto st) := by
  simp [allBut_iff, State.seqGoto_bat_other hl hf]

theorem allBut_modSeq (f : Seq → Seq) (s : State) : AllBut [.seq] s (s.modSeq f) := by
  simp [allBut_iff]

theorem allBut_emit (e : Event) (s : State) : AllBut eventBlocks s (s.emit e) := by
  simp [allBut_iff, eventBlocks]

theorem allBut_seqLockout (r : LockReason) (s : State) :
    AllBut (eventBlocks ++ [.seq, .bat]) s (s.seqLockout r) := by
  simp [allBut_iff, eventBlocks]

/-- SEQ enters TRIPPING with the cause of the trip (R69). -/
def State.tripping (c : TripCause) (s : State) : State :=
  (s.seqGoto .tripping).modSeq (fun q => { q with tripCause := some c })

@[simp] theorem State.tripping_seq (c : TripCause) (s : State) :
    (s.tripping c).seq = { s.seq.entered .tripping with tripCause := some c } := by
  simp [State.tripping]

theorem allBut_tripping (c : TripCause) (s : State) : AllBut [.seq] s (s.tripping c) :=
  AllBut.trans allBut_seqGoto (allBut_modSeq _ _) (List.Subset.refl _) (List.Subset.refl _)

/-- The TRIP event, where the rule says that the trip is announced (R69, R80, R84). -/
def State.announced (c : TripCause) (announce : Option Flags4) (s : State) : State :=
  match announce with
  | some f => s.emit (.trip c s.seq.shot f)
  | none => s

theorem allBut_announced (c : TripCause) (announce : Option Flags4) (s : State) :
    AllBut eventBlocks s (s.announced c announce) := by
  cases announce
  exacts [fun b _ => by cases b <;> rfl, allBut_emit _ _]

/-! ## Trips of the drive (R92, R99) -/

/-- The drive trips on its main coil, with a fresh operation and its monitor at the travel limit. -/
def Drv.trips (d : Drv) (c : TripCause) (limit : Nat) : Prop :=
  d.state = .tripMain ∧ d.coilMain = true ∧ d.coilBackup = false ∧ d.coilClose = false ∧
  d.monitor = some limit ∧
  d.op.map (fun o => (o.kind, o.limit, o.extended)) = some (.trip c, limit, false)

theorem State.startTrip_trips (c : TripCause) (s : State) :
    (s.startTrip c).drv.trips c s.store.device.tripLimit := ⟨rfl, rfl, rfl, rfl, rfl, rfl⟩

@[simp] theorem State.raiseRecharge_drv (s : State) :
    s.raiseRecharge.drv = { s.drv with recharge := true } := by
  dsimp only [State.raiseRecharge]
  split
  · rename_i h
    rw [← h]
  · simp

theorem State.drvTrip_idle (hd : s.drv.state = .idle) (ha : tripAnswer s.drv = .accepted)
    (c : TripCause) : s.drvTrip c = s.startTrip c := by
  simp [State.drvTrip, hd, ha]

theorem State.drvTrip_completed (ha : tripAnswer s.drv = .completed) (c : TripCause) :
    s.drvTrip c = s.tripAtOnce c := by
  have hd : s.drv.state = .idle := by
    cases hd : s.drv.state <;> simp_all [tripAnswer]
  simp [State.drvTrip, hd, ha]

theorem State.drvTrip_inFlight (ha : tripAnswer s.drv = .inFlight) (c : TripCause) :
    s.drvTrip c = s := by
  cases hd : s.drv.state <;> simp [State.drvTrip, hd]
  case idle =>
    simp only [tripAnswer, hd] at ha
    split at ha <;> cases ha
  case closeActive => simp [tripAnswer, hd] at ha

theorem State.drvTrip_closeActive (hd : s.drv.state = .closeActive) (c : TripCause) :
    s.drvTrip c = s.tripFree c := by
  simp [State.drvTrip, hd]

/-- An accepted trip finds the drive idle, or closing (Table 5-3). -/
theorem tripAnswer_accepted {d : Drv} (h : tripAnswer d = .accepted) :
    d.state = .idle ∨ d.state = .closeActive := by
  cases hd : d.state <;> simp_all [tripAnswer]

/-- R92: a trip is accepted on contacts that are not known to be open. -/
theorem tripAnswer_idle {d : Drv} (hd : d.state = .idle) :
    tripAnswer d = if d.position = .opened ∧ d.stale = false then .completed else .accepted := by
  simp [tripAnswer, hd]

theorem State.drvTrip_trips (ha : tripAnswer s.drv = .accepted) (c : TripCause) :
    (s.drvTrip c).drv.trips c s.store.device.tripLimit := by
  rcases tripAnswer_accepted ha with hd | hd
  · rw [State.drvTrip_idle hd ha]
    exact State.startTrip_trips c s
  · rw [State.drvTrip_closeActive hd]
    have h := State.startTrip_trips c
      ((s.endOp .idle .abandoned .noCoil).emit (.closeAbandoned .tripFree))
    simp only [State.emit_frame, State.endOp_frame] at h
    simp only [State.tripFree, State.raiseRecharge_drv]
    exact h

theorem allBut_drvTrip_idle (hd : s.drv.state = .idle) (c : TripCause) :
    AllBut [.drv] s (s.drvTrip c) := by
  simp only [State.drvTrip, hd]
  split <;> simp [allBut_iff]

theorem allBut_drvTrip (c : TripCause) (s : State) :
    AllBut (eventBlocks ++ [.drv, .bat, .sup]) s (s.drvTrip c) := by
  simp [allBut_iff, eventBlocks]

/-! ## Placing a trip (R69, R80, R84) -/

theorem State.placeTrip_eq (ha : tripAnswer s.drv ≠ .refused) (c : TripCause)
    (announce : Option Flags4) : s.placeTrip c announce =
      if tripAnswer s.drv = .completed
      then (((s.drvTrip c).tripping c).announced c announce).seqTripDone
      else ((s.drvTrip c).tripping c).announced c announce := by
  simp only [State.placeTrip, ha, if_false]
  cases announce <;> rfl

/-- A trip is on its way: the drive takes it, SEQ enters TRIPPING, and it may be announced. -/
theorem State.placeTrip_of_not_completed (ha : tripAnswer s.drv = .accepted ∨
    tripAnswer s.drv = .inFlight) (c : TripCause) (announce : Option Flags4) :
    s.placeTrip c announce = ((s.drvTrip c).tripping c).announced c announce := by
  rw [State.placeTrip_eq (by rcases ha with ha | ha <;> simp [ha]),
    if_neg (by rcases ha with ha | ha <;> simp [ha])]

/-- What SEQ and the drive hold while a trip is on its way. -/
theorem State.announced_tripping (c : TripCause) (announce : Option Flags4) (s : State) :
    ((s.tripping c).announced c announce).seq =
        { s.seq.entered .tripping with tripCause := some c } ∧
      ((s.tripping c).announced c announce).drv = s.drv ∧
      AllBut (eventBlocks ++ [.seq]) s ((s.tripping c).announced c announce) := by
  have h1 := allBut_tripping c s
  have h2 := allBut_announced c announce (s.tripping c)
  exact ⟨(h2 .seq (by simp [eventBlocks])).trans (State.tripping_seq c s),
    (h2 .drv (by simp [eventBlocks])).trans (h1 .drv (by simp)), h1.trans h2 (by simp) (by simp)⟩

/-- Settles O27: an accepted trip energises the main coil and brings SEQ into TRIPPING; a protection
trip raises the shot counter before it. -/
theorem tripIsPlaced : Obligations.TripIsPlaced := by
  intro s ha
  refine ⟨fun c announce => ?_, ?_⟩
  · obtain ⟨hseq, hdrv, hframe⟩ := State.announced_tripping c announce (s.drvTrip c)
    obtain ⟨hstate, hmain, hbackup, hclose, hmonitor, hop⟩ := State.drvTrip_trips ha c
    rw [State.placeTrip_of_not_completed (.inl ha)]
    refine ⟨by simp [hseq], by simp [hseq], by simp [hseq], by simp [hseq, Seq.entered],
      by rw [hdrv, hstate], by rw [hdrv, hmain], by rw [hdrv, hbackup], by rw [hdrv, hclose],
      by rw [hdrv, hmonitor], by rw [hdrv, hop],
      (allBut_drvTrip c s).trans hframe (by simp [eventBlocks]) (by simp [eventBlocks]), fun hd => ?_⟩
    exact (allBut_drvTrip_idle hd c).trans hframe (by simp) (by simp [eventBlocks])
  · have hshot : (s.setShot (s.seq.shot + 1)).drv = s.drv := by simp
    have hframe0 : AllBut [.ele, .seq] s (s.setShot (s.seq.shot + 1)) := by simp [allBut_iff]
    obtain ⟨hseq, hdrv, hframe⟩ := State.announced_tripping .protection (some s.seq.lastOperate)
      ((s.setShot (s.seq.shot + 1)).drvTrip .protection)
    obtain ⟨hstate, -⟩ := State.drvTrip_trips (s := s.setShot (s.seq.shot + 1)) (by rwa [hshot])
      .protection
    have hele : ∀ u : State, AllBut (eventBlocks ++ [.seq, .drv, .bat, .sup])
        (s.setShot (s.seq.shot + 1)) u → u.ele = { s.ele with shotCopy := s.seq.shot + 1 } :=
      fun u hu => hu .ele (by simp [eventBlocks])
    have hframe1 := (allBut_drvTrip .protection (s.setShot (s.seq.shot + 1))).trans hframe
      (m := eventBlocks ++ [.seq, .drv, .bat, .sup]) (by simp [eventBlocks]) (by simp [eventBlocks])
    simp only [State.seqProtect, ha]
    rw [if_neg (by simp), State.placeTrip_of_not_completed (.inl (by rwa [hshot]))]
    refine ⟨by simp [hseq], by simp [hseq], by simp [hseq], hele _ hframe1, by rw [hdrv, hstate],
      hframe0.trans hframe1 (by simp) (by simp [eventBlocks])⟩

/-! ## The end of a trip (R70, R71) -/

/-- R70: the reason of the lockout that the end of a trip leads to, if it does. -/
def tripEndReason (s : State) : Option LockReason :=
  if s.seq.tripCause = some .command then some .commandTrip
  else if s.seq.tripCause = some .lowBattery then some .lowBattery
  else if s.seq.tagPresent then some .tag
  else if s.seq.shot = s.sets.live.grp.shots ∨ s.seq.manualReclaim = true then some .shotsExhausted
  else none

theorem State.seqTripDone_eq (hs : s.seq.state = .tripping) :
    s.seqTripDone = match tripEndReason s with
      | some r => s.seqLockout r
      | none => s.seqOpenInterval := by
  simp only [State.seqTripDone, hs, if_true, State.seqTripEnd, tripEndReason]
  split
  · rfl
  · split
    · rfl
    · split
      · rfl
      · by_cases hshot : s.seq.shot = s.sets.live.grp.shots
        · simp [hshot]
        · by_cases hman : s.seq.manualReclaim = true <;> simp [hshot, hman]

@[simp] theorem State.seqOpenInterval_seq (s : State) :
    s.seqOpenInterval.seq = { s.seq.entered .openInterval with
      timer := some ⟨.openInterval, s.sets.live.grp.intervals.getD (s.seq.shot - 1) 0, false⟩ } := by
  simp [State.seqOpenInterval, State.startSeqTimer]

theorem allBut_seqOpenInterval (s : State) : AllBut [.seq] s s.seqOpenInterval :=
  AllBut.trans allBut_seqGoto (allBut_modSeq _ _) (List.Subset.refl _) (List.Subset.refl _)

/-- Settles O28: the reasons of R70 in their order, or the open interval of the trip. -/
theorem tripEndDecides : Obligations.TripEndDecides := by
  intro s
  refine ⟨fun hs => by simp [State.seqTripDone, hs], fun hs => ?_⟩
  intro n reason t
  have hreason : reason = tripEndReason s := rfl
  have ht : t = _ := State.seqTripDone_eq hs
  clear_value reason t
  subst hreason
  cases hr : tripEndReason s with
  | some r =>
    obtain rfl : t = s.seqLockout r := by rw [ht, hr]
    refine ⟨by simp, by simp [Seq.entered], by simp [Seq.entered, SeqState.clearsManual],
      allBut_seqLockout r s, ?_, by simp⟩
    rintro _ ⟨⟩
    exact ⟨by simp, by simp, by simp [Seq.entered], s.seqLockout_emitted r⟩
  | none =>
    obtain rfl : t = s.seqOpenInterval := by rw [ht, hr]
    have hframe := allBut_seqOpenInterval s
    exact ⟨by simp, by simp [Seq.entered], by simp [Seq.entered, SeqState.clearsManual],
      hframe.mono (by simp), by simp,
      fun _ => ⟨by simp, by simp [Seq.entered], by simp, hframe .rpb (by simp)⟩⟩

end Sys2Proof.Machine
end

section
/-! Closes and the timers of SEQ (R71 to R75, R97): an arrival at SEQ with SET's notice at its end (R56),
the check of the close conditions, and what the expiries of the three timers come to. -/

namespace Sys2Proof.Machine

-- The many short proofs would otherwise each hold a waiting thread.
set_option Elab.async false

variable {s t : State}

/-! ## The end of an arrival (R56, R140) -/

/-- R140: BAT sends its request again only where SEQ comes into READY or RECLAIM. -/
theorem State.resendTrip_other {before : SeqState} (h : awaitsSeq s.bat = true →
    s.seq.state = before ∨ (s.seq.state ≠ .ready ∧ s.seq.state ≠ .reclaim)) :
    s.resendTrip before = s := by
  simp only [State.resendTrip]
  refine if_neg ?_
  rintro ⟨ha, hb, hc⟩
  rcases h ha with h | ⟨h1, h2⟩
  · exact hb h
  · rcases hc with hc | hc
    exacts [h1 hc, h2 hc]

theorem State.seqArrive_notice {f : State → State} (h : awaitsSeq (f s).bat = true →
    (f s).seq.state = s.seq.state ∨ ((f s).seq.state ≠ .ready ∧ (f s).seq.state ≠ .reclaim)) :
    s.seqArrive f = (f s).settleNotice := by
  rw [State.seqArrive, State.resendTrip_other h]

/-- SET is told whether SEQ is settled. -/
def State.toldSettled (s : State) (settled : Bool) : State :=
  s.modSets (fun k => { k with settledView := settled })

theorem allBut_toldSettled (s : State) (b : Bool) : AllBut [.sets] s (s.toldSettled b) := by
  simp [allBut_iff, State.toldSettled]

@[simp] theorem State.toldSettled_seq (s : State) (b : Bool) : (s.toldSettled b).seq = s.seq := rfl
@[simp] theorem State.toldSettled_ele (s : State) (b : Bool) : (s.toldSettled b).ele = s.ele := rfl
@[simp] theorem State.toldSettled_drv (s : State) (b : Bool) : (s.toldSettled b).drv = s.drv := rfl
@[simp] theorem State.toldSettled_bat (s : State) (b : Bool) : (s.toldSettled b).bat = s.bat := rfl
@[simp] theorem State.toldSettled_rpb (s : State) (b : Bool) : (s.toldSettled b).rpb = s.rpb := rfl

/-- Without a selection to apply, a notice is SET's view of SEQ: none is pending, or SET knew already
that SEQ was settled, or SEQ is not settled now. -/
theorem State.settleNotice_told (h : s.sets.pendingSel = none ∨ s.sets.settledView = true ∨
    seqSettled s = false) : s.settleNotice = s.toldSettled (seqSettled s) := by
  rcases h with h | h | h
  · exact State.settleNotice_plain h
  all_goals
    simp only [State.settleNotice]
    split
    · rename_i hview
      cases s
      simp only [State.toldSettled, State.modSets] at *
      rw [hview]
    · simp_all [State.toldSettled]

/-- The states in which SEQ is not settled whatever its last result shows (R64). -/
def SeqState.unsettled (st : SeqState) : Prop :=
  st = .tripping ∨ st = .openInterval ∨ st = .closeWait ∨ st = .closing ∨ st = .reclaim

theorem not_settled (h : s.seq.state.unsettled) : seqSettled s = false := by
  rcases h with h | h | h | h | h <;> simp [seqSettled, h]

/-- An arrival that leaves SEQ unsettled, with no request of BAT behind it. -/
theorem State.seqArrive_unsettled {f : State → State} (h : (f s).seq.state.unsettled)
    (hr : awaitsSeq (f s).bat = true → (f s).seq.state ≠ .reclaim) :
    s.seqArrive f = (f s).toldSettled false := by
  have hs := not_settled h
  rw [State.seqArrive_notice, State.settleNotice_told (.inr (.inr hs)), hs]
  refine fun ha => .inr ⟨?_, hr ha⟩
  rcases h with h | h | h | h | h <;> simp [h]

@[simp] theorem State.requestSelection_lku (r : Option Reply) (s : State) :
    (s.requestStore .selection r).lku = s.lku := by
  dsimp only [State.requestStore]
  (repeat' split) <;> simp [State.startInternal]

theorem State.settleNotice_lku (s : State) : s.settleNotice.lku = s.lku := by
  dsimp only [State.settleNotice, State.applyPending, State.applyLoad, State.completeInPlace]
  (repeat' split) <;> simp

/-- What a notice may change: the views and the live set of SET, and what a loading clears and
records. -/
theorem allBut_settleNotice (s : State) :
    AllBut (eventBlocks ++ [.ele, .store, .sets, .seq]) s s.settleNotice := by
  obtain ⟨-, ⟨hdrv, hbat, hsup⟩, -⟩ := s.settleNotice_course
  simp [allBut_iff, eventBlocks, hdrv, hbat, hsup, State.settleNotice_lku]

/-- An idle drive takes a low-battery trip without a word to the supply arbiter. -/
theorem allBut_lowBatteryRequest (hd : s.drv.state = .idle) :
    AllBut (eventBlocks ++ [.seq, .drv, .bat]) s s.lowBatteryRequest := by
  have hplace : ∀ a, (s.placeTrip .lowBattery a).sup = s.sup := by
    intro a
    obtain ⟨-, -, hframe⟩ := State.announced_tripping .lowBattery a (s.drvTrip .lowBattery)
    have h1 : (((s.drvTrip .lowBattery).tripping .lowBattery).announced .lowBattery a).sup = s.sup :=
      (hframe .sup (by simp [eventBlocks])).trans (allBut_drvTrip_idle hd _ .sup (by simp))
    rw [State.placeTrip_eq (by simp [tripAnswer_refused_iff, hd])]
    split <;> simp [h1]
  have hunknown : (s.seqTripUnknown .lowBattery .lowBattery).sup = s.sup := by
    have h1 : (s.drvTrip .lowBattery).sup = s.sup := allBut_drvTrip_idle hd _ .sup (by simp)
    dsimp only [State.seqTripUnknown]
    split <;> simp [h1]
  have hsup : s.lowBatteryRequest.sup = s.sup := by
    cases hs : s.seq.state <;>
      simp [State.lowBatteryRequest, State.seqLowBattery, hs, hplace, hunknown]
  simp [allBut_iff, eventBlocks, hsup]

/-- What the end of an arrival may change while the drive is idle. -/
theorem allBut_seqArrive {f : State → State} (hd : (f s).drv.state = .idle) :
    AllBut (eventBlocks ++ [.ele, .store, .sets, .seq, .drv, .bat]) (f s) (s.seqArrive f) := by
  have h1 : AllBut (eventBlocks ++ [.seq, .drv, .bat]) (f s) ((f s).resendTrip s.seq.state) := by
    simp only [State.resendTrip]
    split
    exacts [allBut_lowBatteryRequest hd, fun b _ => by cases b <;> rfl]
  exact h1.trans (allBut_settleNotice _) (by simp [eventBlocks]) (by simp [eventBlocks])

/-- R86: an arrival that locks SEQ out, and the notice at its end, which may apply a selection. -/
theorem State.seqArrive_lockout {f : State → State} {r : LockReason} (h : f s = t.seqLockout r) :
    (s.seqArrive f).seq.state = .lockout ∧ (s.seqArrive f).seq.lockReason = some r ∧
    (s.seqArrive f).seq.tripCause = none ∧ (s.seqArrive f).seq.timer = none ∧
    (s.seqArrive f).drv = t.drv ∧
    AllBut (eventBlocks ++ [.ele, .store, .sets, .seq, .bat]) t (s.seqArrive f) := by
  have hlock : (t.seqLockout r).seq = { t.seq.entered .lockout with lockReason := some r } := by simp
  rw [State.seqArrive_notice (by simp [h]), h]
  obtain ⟨⟨hst, hreason, -, hcause, -, htime, -⟩, ⟨hdrv, -, -⟩, -⟩ :=
    (t.seqLockout r).settleNotice_course
  rw [hlock] at hst hreason hcause htime
  exact ⟨hst, hreason, hcause, htime, by simpa using hdrv,
    (allBut_seqLockout r t).trans (allBut_settleNotice _) (by simp [eventBlocks])
      (by simp [eventBlocks])⟩

/-! ## Closes (R72, R74, R97) -/

/-- SEQ enters CLOSING with the cause of the close. -/
def State.closing (c : CloseCause) (s : State) : State :=
  (s.seqGoto .closing).modSeq (fun q => { q with closeCause := some c })

@[simp] theorem State.closing_seq (c : CloseCause) (s : State) :
    (s.closing c).seq = { s.seq.entered .closing with closeCause := some c } := by
  simp [State.closing]

theorem allBut_closing (c : CloseCause) (s : State) : AllBut [.seq] s (s.closing c) :=
  AllBut.trans allBut_seqGoto (allBut_modSeq _ _) (List.Subset.refl _) (List.Subset.refl _)

@[simp] theorem State.seqReclaim_seq (s : State) : s.seqReclaim.seq =
    { s.seq.entered .reclaim with
      timer := some ⟨.reclaim, s.sets.live.grp.reclaim, s.seq.lastPickup.any⟩ } := by
  simp [State.seqReclaim, State.startSeqTimer, Seq.entered]

theorem allBut_seqReclaim (s : State) : AllBut [.seq] s s.seqReclaim :=
  AllBut.trans allBut_seqGoto (allBut_modSeq _ _) (List.Subset.refl _) (List.Subset.refl _)

/-- The drive closes on its close coil, with a fresh operation and its monitor at the travel limit. -/
def Drv.closes (d : Drv) (c : CloseCause) (limit : Nat) : Prop :=
  d.state = .closeActive ∧ d.coilClose = true ∧ d.coilMain = false ∧ d.coilBackup = false ∧
  d.monitor = some limit ∧ d.op.map (fun o => o.kind) = some (.close c)

theorem State.drvClose_closes (ha : closeAnswer s = .accepted) (c : CloseCause) :
    (s.drvClose c).drv.closes c s.store.device.closeLimit := by
  simp [State.drvClose, ha, Drv.closes, Drv.energise, Drv.dropCoils, newOp]

theorem State.drvClose_other (ha : closeAnswer s ≠ .accepted) (c : CloseCause) :
    s.drvClose c = s := by
  simp only [State.drvClose]
  split <;> simp_all

theorem allBut_drvClose (c : CloseCause) (s : State) : AllBut [.drv] s (s.drvClose c) := by
  simp [allBut_iff]

/-- R72, R97: an accepted close: SEQ is CLOSING and the close coil is energised. -/
theorem State.placeClose_accepted (ha : closeAnswer s = .accepted) (c : CloseCause) :
    (s.placeClose c .accepted).seq = { s.seq.entered .closing with closeCause := some c } ∧
    (s.placeClose c .accepted).drv.closes c s.store.device.closeLimit ∧
    AllBut [.seq, .drv] s (s.placeClose c .accepted) := by
  have h : s.placeClose c .accepted = (s.drvClose c).closing c := by simp [State.placeClose, State.closing]
  have hframe := allBut_closing c (s.drvClose c)
  rw [h]
  refine ⟨by simp, ?_, (allBut_drvClose c s).trans hframe (by simp) (by simp)⟩
  have hdrv : ((s.drvClose c).closing c).drv = (s.drvClose c).drv := hframe .drv (by simp)
  rw [hdrv]
  exact State.drvClose_closes ha c

/-- R74, R97: a close on closed contacts is completed at once: SEQ has passed CLOSING and is in
RECLAIM. -/
theorem State.placeClose_completed (ha : closeAnswer s = .completed) (c : CloseCause) :
    (s.placeClose c .completed).seq = { (s.seq.entered .closing).entered .reclaim with
      timer := some ⟨.reclaim, s.sets.live.grp.reclaim, s.seq.lastPickup.any⟩ } ∧
    AllBut (eventBlocks ++ [.seq]) s (s.placeClose c .completed) ∧
    Emitted s (.reclose c s.seq.shot) (s.placeClose c .completed) := by
  have hclosing := allBut_closing c s
  have h : s.placeClose c .completed = ((s.closing c).emit (.reclose c s.seq.shot)).seqReclaim := by
    have h1 : s.placeClose c .completed = (s.closing c).seqCloseDone := by
      simp [State.placeClose, State.closing, State.drvClose_other, ha]
    rw [h1]
    simp [State.seqCloseDone]
  have hemit := allBut_emit (.reclose c s.seq.shot) (s.closing c)
  have hreclaim := allBut_seqReclaim ((s.closing c).emit (.reclose c s.seq.shot))
  rw [h]
  refine ⟨?_, (hclosing.trans hemit (m := eventBlocks ++ [.seq]) (by simp) (by simp)).trans hreclaim
    (List.Subset.refl _) (by simp), ?_⟩
  · have hsets : (s.closing c).sets = s.sets := hclosing .sets (by simp)
    simp [hsets, Seq.entered]
  · exact emitted_of_emit (hclosing .rpb (by simp)) (hclosing .pkm (by simp))
      (hclosing .fcu (by simp)) (hclosing .store (by simp)) (hreclaim .rpb (by simp))
      (hreclaim .pkm (by simp))

theorem closeAnswer_congr (hdrv : t.drv = s.drv) (hst : t.store = s.store) :
    closeAnswer t = closeAnswer s := by
  simp only [closeAnswer, hdrv, hst]

theorem closeAnswer_idle (h : closeAnswer s = .accepted ∨ closeAnswer s = .completed) :
    s.drv.state = .idle := by
  by_contra hd
  simp [closeAnswer, hd] at h

/-- SEQ waits for the close conditions, with the close wait timer running (R72). -/
def State.waiting (s : State) : State :=
  (s.seqGoto .closeWait).startSeqTimer .closeWait (s.store.device.closeWait * 1000) false

@[simp] theorem State.waiting_seq (s : State) : s.waiting.seq = { s.seq.entered .closeWait with
    timer := some ⟨.closeWait, s.store.device.closeWait * 1000, false⟩ } := by
  simp [State.waiting, State.startSeqTimer]

theorem allBut_waiting (s : State) : AllBut [.seq] s s.waiting :=
  AllBut.trans allBut_seqGoto (allBut_modSeq _ _) (List.Subset.refl _) (List.Subset.refl _)

/-- R72: the conditions look at views of SEQ that a change of its state leaves. -/
theorem closeConditionsMet_waiting (s : State) :
    closeConditionsMet s.waiting = closeConditionsMet s := by
  have hstore : s.waiting.store = s.store := allBut_waiting s .store (by simp)
  have hsets : s.waiting.sets = s.sets := allBut_waiting s .sets (by simp)
  simp [closeConditionsMet, unmetConditions, hstore, hsets, Seq.entered]

theorem closeAnswer_waiting (s : State) : closeAnswer s.waiting = closeAnswer s :=
  closeAnswer_congr (allBut_waiting s .drv (by simp)) (allBut_waiting s .store (by simp))

/-- R71, R72: what the end of the open interval comes to, by the close conditions and DRV's answer. -/
theorem State.seqCloseWait_eq (s : State) : s.seqCloseWait =
    if closeConditionsMet s = true then
      match closeAnswer s with
      | .accepted => s.waiting.placeClose .auto .accepted
      | .completed => s.waiting.placeClose .auto .completed
      | .refusedState => s.waiting
      | .refusedEnergy => s.waiting
    else s.waiting := by
  have h : s.seqCloseWait = s.waiting.checkClose := rfl
  cases ha : closeAnswer s <;>
    simp [h, State.checkClose, closeConditionsMet_waiting, closeAnswer_waiting, ha]

/-! ## The expiries (R71, R73, R75) -/

theorem State.seqExpiry_runs {k : SeqTimerKind} (h : timerRuns s.seq k = true) (f : State → State) :
    s.seqExpiry k f = s.seqArrive f := by
  simp [State.seqExpiry, h]

/-- Settles O29: the open interval ends in CLOSE_WAIT, in CLOSING, or through CLOSING in RECLAIM. -/
theorem openIntervalExpires : Obligations.OpenIntervalExpires := by
  intro s hrun htimer
  have hexec : exec .openIntervalExpiry s = .next (s.seqArrive State.seqIntervalEnd).serve := by
    rw [← State.seqExpiry_runs htimer]
    exact congrArg Host.Outcome.next (whenRunning_running hrun)
  have hwait := allBut_waiting s
  have hstore : s.waiting.store = s.store := hwait .store (by simp)
  have hsets : s.waiting.sets = s.sets := hwait .sets (by simp)
  refine ⟨_, hexec, ?_⟩
  by_cases hopen : closeConditionsMet s = false ∨ closeAnswer s = .refusedState ∨
      closeAnswer s = .refusedEnergy
  · have hend : s.seqIntervalEnd = s.waiting := by
      rw [State.seqIntervalEnd, State.seqCloseWait_eq]
      rcases hopen with h | h | h <;> simp [h]
    have ht : s.seqArrive State.seqIntervalEnd = s.waiting.toldSettled false := by
      rw [State.seqArrive_unsettled, hend] <;> simp [hend, SeqState.unsettled]
    have hframe := hwait.trans (allBut_toldSettled _ false) (m := [.seq, .sets]) (by simp) (by simp)
    rw [ht]
    refine ⟨hframe.mono (by simp [eventBlocks]), fun _ => ⟨?_, ?_, hframe⟩, ?_, ?_⟩
    · simp [State.toldSettled, Seq.entered, SeqState.clearsManual, SeqState.followsEpisodes]
    · simp [State.toldSettled, hsets]
    all_goals
      rintro ⟨hmet, hans⟩
      rcases hopen with h | h | h <;> simp_all
  · simp only [not_or, Bool.not_eq_false] at hopen
    obtain ⟨hmet, hstate, henergy⟩ := hopen
    cases hans : closeAnswer s with
    | refusedState => exact absurd hans hstate
    | refusedEnergy => exact absurd hans henergy
    | accepted =>
      have hend : s.seqIntervalEnd = s.waiting.placeClose .auto .accepted := by
        rw [State.seqIntervalEnd, State.seqCloseWait_eq]
        simp [hmet, hans]
      obtain ⟨hseq, ⟨hd, hclose, hmain, hbackup, hmon, hop⟩, hframe⟩ := State.placeClose_accepted
        (s := s.waiting) (by rw [closeAnswer_waiting, hans]) .auto
      have ht : s.seqArrive State.seqIntervalEnd =
          (s.waiting.placeClose .auto .accepted).toldSettled false := by
        rw [State.seqArrive_unsettled, hend] <;> simp [hend, hseq, SeqState.unsettled]
      have hall := (hwait.trans hframe (m := [.seq, .sets, .drv]) (by simp) (by simp)).trans
        (allBut_toldSettled _ false) (List.Subset.refl _) (by simp)
      rw [ht]
      refine ⟨hall.mono (by simp [eventBlocks]), by simp [hmet], fun _ => ⟨?_, ?_, ?_, ?_, hd, hclose,
        hmain, hbackup, hstore ▸ hmon, hop, hall⟩, by simp⟩
      all_goals simp [State.toldSettled, hseq, Seq.entered]
    | completed =>
      have hend : s.seqIntervalEnd = s.waiting.placeClose .auto .completed := by
        rw [State.seqIntervalEnd, State.seqCloseWait_eq]
        simp [hmet, hans]
      obtain ⟨hseq, hframe, hemit⟩ := State.placeClose_completed
        (s := s.waiting) (by rw [closeAnswer_waiting, hans]) .auto
      have hall := hwait.trans hframe (m := eventBlocks ++ [.seq]) (by simp) (by simp)
      have hidle : s.seqIntervalEnd.drv.state = .idle := by
        rw [hend, hall .drv (by simp [eventBlocks]), closeAnswer_idle (.inr hans)]
      refine ⟨?_, by simp [hmet], by simp, fun ⟨_, _, hno⟩ => ?_⟩
      · exact AllBut.trans (hend ▸ hall) (allBut_seqArrive hidle) (by simp [eventBlocks])
          (by simp [eventBlocks])
      · have hbat : (s.waiting.placeClose .auto .completed).bat = s.bat :=
          hall .bat (by simp [eventBlocks])
        have ht : s.seqArrive State.seqIntervalEnd =
            (s.waiting.placeClose .auto .completed).toldSettled false := by
          rw [State.seqArrive_unsettled, hend] <;> simp [hend, hseq, SeqState.unsettled, hbat, hno]
        rw [ht]
        obtain ⟨hrpb, hpkm⟩ := hemit
        have hshot : s.waiting.seq.shot = s.seq.shot := by simp
        refine ⟨?_, ?_, ?_, ?_, hall.trans (allBut_toldSettled _ false) (by simp [eventBlocks])
          (by simp [eventBlocks])⟩
        · simp [State.toldSettled, hseq]
        · simp [State.toldSettled, hseq]
        · simp [State.toldSettled, hseq, hsets, Seq.entered]
        · exact emitted_of_emit (hwait .rpb (by simp)) (hwait .pkm (by simp)) (hwait .fcu (by simp))
            hstore (hshot ▸ hrpb) (hshot ▸ hpkm)

/-- R75: the reclaim time ends: the shot counter and the manual-reclaim flag are cleared, and SEQ is
READY. -/
theorem State.seqReclaimEnd_spec (s : State) :
    s.seqReclaimEnd.seq =
      ({ s.seq with shot := 0, manualReclaim := false } : Seq).entered .ready ∧
    s.seqReclaimEnd.ele = { s.ele with shotCopy := 0 } ∧
    Emitted s (.sequenceReset s.seq.shot) s.seqReclaimEnd ∧
    AllBut (eventBlocks ++ [.ele, .seq]) s s.seqReclaimEnd := by
  have hbat : s.seqReclaimEnd.bat = s.bat := by
    simp [State.seqReclaimEnd, State.seqGoto_bat_other]
  refine ⟨by simp [State.seqReclaimEnd], by simp [State.seqReclaimEnd, State.setShot], ?_, ?_⟩
  · exact ⟨by simp [State.seqReclaimEnd], by simp [State.seqReclaimEnd]⟩
  · simp [allBut_iff, eventBlocks, hbat]

/-- Settles O30: the close wait ends in the lockout that a waiting disconnect waits for, the reclaim time
in READY. -/
theorem waitAndReclaimExpire : Obligations.WaitAndReclaimExpire := by
  intro s hrun
  have hexec : ∀ {k : SeqTimerKind}, timerRuns s.seq k = true → ∀ f : State → State,
      whenRunning (State.seqExpiry k f) s = (s.seqArrive f).serve := by
    intro k hk f
    rw [whenRunning_running hrun, State.seqExpiry_runs hk]
  refine ⟨fun htimer => ⟨_, congrArg Host.Outcome.next (hexec htimer _), ?_⟩,
    fun htimer hno => ⟨_, congrArg Host.Outcome.next (hexec htimer _), ?_⟩⟩
  · obtain ⟨hst, hreason, -, htime, -, hall⟩ :=
      State.seqArrive_lockout (s := s) (f := State.seqWaitEnd) rfl
    refine ⟨hst, hreason, htime, hall, fun hpend => ?_⟩
    have hstate : s.seqWaitEnd.seq.state = .lockout := by simp [State.seqWaitEnd]
    have hframe := allBut_seqLockout .closeWaitExpired s
    rw [State.seqArrive_notice (by simp [hstate]),
      State.settleNotice_told (.inl (by simpa using hpend))]
    have hsettled : seqSettled s.seqWaitEnd = true := by simp [seqSettled, hstate]
    refine ⟨by simp [State.toldSettled, State.seqWaitEnd], s.seqLockout_emitted .closeWaitExpired,
      by simp [State.toldSettled, hsettled], s.seqLockout_bat .closeWaitExpired,
      hframe.trans (allBut_toldSettled _ _) (by simp [eventBlocks]) (by simp [eventBlocks])⟩
  · obtain ⟨hseq, hele, hemit, hframe⟩ := s.seqReclaimEnd_spec
    have hstate : s.seqReclaimEnd.seq.state = .ready := by rw [hseq]; rfl
    have hshot : s.seqReclaimEnd.seq.shot = 0 := by rw [hseq]; rfl
    have hbat : s.seqReclaimEnd.bat = s.bat := hframe .bat (by simp [eventBlocks])
    rw [State.seqArrive_notice (by simp [hbat, hno])]
    obtain ⟨⟨hst, -, hman, -, -, htime, -⟩, -, hzero⟩ := s.seqReclaimEnd.settleNotice_course
    obtain ⟨hshot', hcopy⟩ := hzero hshot
    refine ⟨hst.trans hstate, hshot', hcopy.trans (by rw [hele]), hman.trans (by simp [hseq, Seq.entered]),
      htime.trans (by simp [hseq, Seq.entered]),
      hframe.trans (allBut_settleNotice _) (by simp [eventBlocks]) (by simp [eventBlocks]),
      fun hpend => ?_⟩
    have hsets : s.seqReclaimEnd.sets = s.sets := hframe .sets (by simp [eventBlocks])
    have hsettled : seqSettled s.seqReclaimEnd = !s.seq.lastPickup.any := by
      simp [seqSettled, hseq, Seq.entered]
    rw [State.settleNotice_told (.inl (by rw [hsets, hpend]))]
    exact ⟨hemit, by simp [State.toldSettled, hsettled], hele,
      hframe.trans (allBut_toldSettled _ _) (by simp [eventBlocks]) (by simp [eventBlocks])⟩

end Sys2Proof.Machine
end

section
/-! TRIP and CLOSE (R80, R81, R91, R92, R97, R99): what the arrival of a command at SEQ comes to in each
of its states, and the response that goes with it. -/

namespace Sys2Proof.Machine

-- The many short proofs would otherwise each hold a waiting thread.
set_option Elab.async false

variable {s t : State} {e e' : IntakeEntry} {h : CmdHead} {p : List Byte}

/-! ## Arrivals of commands -/

/-- A notice that tells SET nothing new changes nothing (R56). -/
theorem State.settleNotice_same (h : s.sets.settledView = seqSettled s) : s.settleNotice = s := by
  simp [State.settleNotice, h]

/-- A refused request leaves SEQ as it is, and SET with the view it has. -/
theorem State.seqArrive_same {f : State → State} (h : s.sets.settledView = seqSettled s)
    (hf : f s = s) : s.seqArrive f = s := by
  rw [State.seqArrive_notice (fun _ => .inl (by rw [hf])), hf, State.settleNotice_same h]

/-- R92: an idle drive starts a trip on contacts that are not known to be open. -/
theorem tripAnswer_starts {d : Drv} (hd : d.state = .idle)
    (hpos : d.position ≠ .opened ∨ d.stale = true) : tripAnswer d = .accepted := by
  rw [tripAnswer_idle hd, if_neg]
  rintro ⟨h1, h2⟩
  simp [h1, h2] at hpos

@[simp] theorem State.tripAtOnce_drv (c : TripCause) (s : State) : (s.tripAtOnce c).drv =
    { s.drv with summary := some ⟨.trip c, .completed, .noCoil, some false, 0⟩ } := rfl

theorem tripAnswer_inFlight {d : Drv} (h : d.state = .tripMain ∨ d.state = .tripBackup) :
    tripAnswer d = .inFlight := by
  rcases h with h | h <;> simp [tripAnswer, h]

/-- R69, R80, R84: the announcement of a trip, as it would have been without the trip itself. -/
theorem State.announced_emitted (hframe : AllBut [.seq, .drv] s t) (hshot : t.seq.shot = s.seq.shot)
    (c : TripCause) (f : Flags4) : Emitted s (.trip c s.seq.shot f) (t.announced c (some f)) := by
  refine emitted_of_emit (s' := t) (hframe .rpb (by simp)) (hframe .pkm (by simp))
    (hframe .fcu (by simp)) (hframe .store (by simp)) ?_ ?_ <;>
  simp [State.announced, hshot]

/-- A trip on its way within an arrival: SET learns that SEQ is not settled. -/
theorem State.seqArrive_trip {f : State → State} {c : TripCause} {a : Option Flags4}
    (hf : f s = s.placeTrip c a) (ha : tripAnswer s.drv = .accepted ∨ tripAnswer s.drv = .inFlight) :
    s.seqArrive f = (((s.drvTrip c).tripping c).announced c a).toldSettled false := by
  rw [State.placeTrip_of_not_completed ha] at hf
  obtain ⟨hseq, -, -⟩ := State.announced_tripping c a (s.drvTrip c)
  rw [State.seqArrive_unsettled, hf] <;> simp [hf, hseq, SeqState.unsettled]

/-- An announced trip on its way, on a drive that starts it from rest or goes on with the one it has
in flight. -/
theorem State.seqArrive_trip_spec {f : State → State} {c : TripCause} {a : Flags4} {l : List Block}
    (hf : f s = s.placeTrip c (some a))
    (ha : tripAnswer s.drv = .accepted ∨ tripAnswer s.drv = .inFlight)
    (hd : AllBut l s (s.drvTrip c)) (hl : l ⊆ [.drv]) :
    (s.seqArrive f).seq = { s.seq.entered .tripping with tripCause := some c } ∧
    (s.seqArrive f).drv = (s.drvTrip c).drv ∧
    Emitted s (.trip c s.seq.shot a) (s.seqArrive f) ∧
    AllBut (eventBlocks ++ [.sets, .seq] ++ l) s (s.seqArrive f) := by
  have hdrive : AllBut [.seq, .drv] s ((s.drvTrip c).tripping c) :=
    (hd.mono hl).trans (allBut_tripping c _) (by simp) (by simp)
  obtain ⟨hseq, hdrv, hframe⟩ := State.announced_tripping c (some a) (s.drvTrip c)
  have htold := allBut_toldSettled (((s.drvTrip c).tripping c).announced c (some a)) false
  rw [State.seqArrive_trip hf ha]
  exact ⟨(htold .seq (by simp)).trans (by simp [hseq]), (htold .drv (by simp)).trans hdrv,
    State.announced_emitted hdrive (by simp) c a,
    (hd.trans hframe (List.subset_append_right _ _) (by simp)).trans htold (List.Subset.refl _)
      (by simp)⟩

/-- R91, R92: a command trip on contacts known to be open is over at once, and SEQ locks out (R70). -/
theorem State.placeTrip_command_completed (ha : tripAnswer s.drv = .completed) (a : Option Flags4) :
    s.placeTrip .command a =
      (((s.tripAtOnce .command).tripping .command).announced .command a).seqLockout .commandTrip := by
  obtain ⟨hseq, -, -⟩ := State.announced_tripping .command a (s.tripAtOnce .command)
  rw [State.placeTrip_eq (by simp [ha]), if_pos ha, State.drvTrip_completed ha,
    State.seqTripDone_eq (by simp [hseq])]
  simp [tripEndReason, hseq]

/-- R80: a command trip in UNKNOWN leaves the restart trip mark, and SEQ is settled as before. -/
theorem State.seqArrive_tripUnknown (hs : s.seq.state = .unknown)
    (htold : s.sets.settledView = seqSettled s)
    (ha : tripAnswer s.drv = .accepted ∨ tripAnswer s.drv = .completed) :
    s.seqArrive State.seqTripCommand =
      (s.drvTrip .command).modSeq (fun q => { q with restartMark := some .command }) := by
  have hf : s.seqTripCommand =
      (s.drvTrip .command).modSeq (fun q => { q with restartMark := some .command }) := by
    simp [State.seqTripCommand, hs, State.seqTripUnknown, ha]
  rw [State.seqArrive_notice (fun _ => .inl (by simp [hf])), hf]
  exact State.settleNotice_same (by simp [htold, seqSettled, hs])

/-! ## TRIP (R80) -/

/-- An executed TRIP without a payload is an arrival at SEQ and its answer. -/
theorem trip_executes (hx : Executes s (rowEntry h .trip []) e') :
    exec (.trip h []) s = .next (((s.begun e').seqArrive State.seqTripCommand).answer (replyOf s e')
      (tripOutcome (s.begun e'))) := by
  have hd := commandRow_executes hx
  simp only [bodyOf, bodyTrip, args_of_executes hx, noFields] at hd
  exact hd

theorem trip_answered (hx : Executes s e e') (o : CmdOutcome) : Answered s e' o []
    (((s.begun e').seqArrive State.seqTripCommand).answer (replyOf s e') o) :=
  answered_of_executes hx (by simp) (by simp) (by simp) (Nat.zero_le _)

/-- What an arrival in the state `begun` leaves, the answer leaves too. -/
theorem allBut_begun_answer {l m : List Block} {r : Option Reply} {o : CmdOutcome}
    (hu : AllBut l (s.begun e') t) (hl : l ⊆ m) (hm : [Block.slr, .pkm, .fcu] ⊆ m) :
    AllBut m s (t.answer r o) := by
  obtain ⟨hslr, hpkm, hfcu⟩ : .slr ∈ m ∧ .pkm ∈ m ∧ .fcu ∈ m := by simpa using hm
  exact ((allBut_begun s e').trans hu (by simp [hslr, hfcu]) hl).trans (allBut_answer _ _ _)
    (List.Subset.refl _) (by simp [hpkm, hfcu])

/-- Settles O54: in each state of SEQ the trip that the drive's answer leads to, or none. -/
theorem tripCommandActs : Obligations.TripCommandActs := by
  intro h p s e' hx htold
  by_cases hp : p = []
  swap
  · have hd : Does s e' (.trip h p) (bodyOf (some .trip) e') := does_of_executes hx rfl
    simp only [Does, bodyOf, bodyTrip, args_of_executes hx, noFields, List.isEmpty_iff, hp] at hd
    obtain ⟨t, ht, hans, hframe⟩ := refuses_of_does hx hd
    exact ⟨t, ht, fun _ => ⟨hans, hframe⟩, by simp [hp]⟩
  subst hp
  refine ⟨_, trip_executes hx, by simp, ?_⟩
  generalize hu : s.begun e' = u
  have hframe0 : AllBut [.slr, .fcu] s u := hu ▸ allBut_begun s e'
  have hseq : u.seq = s.seq := hframe0 .seq (by simp)
  have hdrv : u.drv = s.drv := hframe0 .drv (by simp)
  have hstore : u.store = s.store := hframe0 .store (by simp)
  have htold' : u.sets.settledView = seqSettled u := by
    rw [hframe0 .sets (by simp), htold, seqSettled_congr hseq]
  have hans : ∀ o, tripOutcome u = o →
      Answered s e' o [] ((u.seqArrive State.seqTripCommand).answer (replyOf s e') (tripOutcome u)) := by
    rintro _ rfl
    exact hu ▸ trip_answered hx _
  have hout : ∀ {l m : List Block}, AllBut l u (u.seqArrive State.seqTripCommand) → l ⊆ m →
      [Block.slr, .pkm, .fcu] ⊆ m → AllBut m s
        ((u.seqArrive State.seqTripCommand).answer (replyOf s e') (tripOutcome u)) :=
    fun hl hm hm' => allBut_begun_answer (e' := e') (by rwa [hu]) hm hm'
  have hplaced : s.seq.state = .ready ∨ s.seq.state = .reclaim →
      u.seqTripCommand = u.placeTrip .command (some noFlags) := by
    rintro (hs | hs) <;> simp [State.seqTripCommand, hseq, hs]
  refine ⟨?_, ?_, ?_, ?_, ?_, ?_, ?_, ?_⟩
  -- READY and RECLAIM, the drive starts the trip
  · intro _ hs hd hpos
    have ha : tripAnswer u.drv = .accepted := by rw [hdrv, tripAnswer_starts hd hpos]
    obtain ⟨hstart, hmain, -, -, hmon, -⟩ := State.drvTrip_trips ha .command
    obtain ⟨hq, hd', ⟨hrpb, -⟩, hall⟩ := State.seqArrive_trip_spec (hplaced hs) (.inl ha)
      (allBut_drvTrip_idle (hdrv ▸ hd) _) (List.Subset.refl _)
    rw [hseq] at hrpb
    refine ⟨hans .done ?_, by simp [hq], by simp [hq], by simp [hq, hseq], ?_, ?_, ?_, by simpa using hrpb,
      hout hall (by simp) (by simp [eventBlocks])⟩
    · rcases hs with hs | hs <;> simp [tripOutcome, hseq, hs, ha]
    · simp [hd', hstart]
    · simp [hd', hmain]
    · simp [hd', hmon, hstore]
  -- READY and RECLAIM, the trip in flight goes on
  · intro _ hs hd
    have ha : tripAnswer u.drv = .inFlight := by rw [hdrv, tripAnswer_inFlight hd]
    obtain ⟨hq, -, ⟨hrpb, -⟩, hall⟩ := State.seqArrive_trip_spec (l := []) (hplaced hs) (.inr ha)
      (by rw [State.drvTrip_inFlight ha]; exact fun b _ => by cases b <;> rfl) (by simp)
    rw [hseq] at hrpb
    refine ⟨hans .done ?_, by simp [hq], by simp [hq], by simp [hq, hseq], by simp [hq, Seq.entered],
      by simpa using hrpb, hout hall (by simp) (by simp [eventBlocks])⟩
    rcases hs with hs | hs <;> simp [tripOutcome, hseq, hs, ha]
  -- READY and RECLAIM, the contacts are open: over at once
  · intro _ hs hd hpos hstale
    have ha : tripAnswer u.drv = .completed := by rw [hdrv, tripAnswer_idle hd, if_pos ⟨hpos, hstale⟩]
    obtain ⟨hst, hreason, hcause, htime, hd', hall⟩ := State.seqArrive_lockout
      ((hplaced hs).trans (State.placeTrip_command_completed ha _))
    obtain ⟨-, hd1, hframe⟩ :=
      State.announced_tripping .command (some noFlags) (u.tripAtOnce .command)
    have hframe1 : AllBut [.drv] u (u.tripAtOnce .command) := by simp [allBut_iff]
    refine ⟨hans .done ?_, by simp [hst], by simp [hreason], by simp [hcause], by simp [htime], ?_,
      hout ((hframe1.trans hframe (m := eventBlocks ++ [.seq, .drv]) (by simp) (by simp)).trans hall
        (m := eventBlocks ++ [.ele, .store, .sets, .seq, .drv, .bat]) (by simp [eventBlocks])
        (by simp [eventBlocks])) (List.Subset.refl _) (by simp [eventBlocks])⟩
    · rcases hs with hs | hs <;> simp [tripOutcome, hseq, hs, ha]
    · simp [hd', hd1, hdrv]
  -- CLOSING: a trip-free trip
  · intro _ hs hd
    have hf : u.seqTripCommand = u.placeTrip .command none := by
      simp [State.seqTripCommand, hseq, hs]
    have ha : tripAnswer u.drv = .accepted := by simp [hdrv, tripAnswer, hd]
    obtain ⟨hstart, hmain, -, hclose, -, -⟩ := State.drvTrip_trips ha .command
    obtain ⟨hq, hd', hframe⟩ := State.announced_tripping .command none (u.drvTrip .command)
    have hall := ((allBut_drvTrip .command u).trans hframe
      (m := eventBlocks ++ [.sets, .seq, .drv, .bat, .sup]) (by simp [eventBlocks])
      (by simp [eventBlocks])).trans (allBut_toldSettled _ false) (List.Subset.refl _) (by simp)
    have harr := State.seqArrive_trip hf (.inl ha)
    rw [← harr] at hall
    have hsum : (u.drvTrip .command).drv.summary = u.drv.op.elim u.drv.summary
        (fun o => some (opSummary u o .abandoned .noCoil)) := by
      rw [State.drvTrip_closeActive (hdrv ▸ hd)]
      cases ho : u.drv.op <;> simp [State.tripFree, State.startTrip, State.endOp, Drv.energise,
        Drv.dropCoils, ho]
    refine ⟨hans .done (by simp [tripOutcome, hseq, hs, ha]), ?_, ?_, ?_, ?_, ?_, ?_,
      hout hall (List.Subset.refl _) (by simp [eventBlocks])⟩
    all_goals
      simp only [State.answer_frame, harr, State.toldSettled, State.modSets_seq, State.modSets_drv, hq,
        hd']
    · rfl
    · exact hstart
    · exact hclose
    · exact hmain
    · rw [hsum, hdrv]
      cases s.drv.op <;> rfl
  -- OPEN_INTERVAL and CLOSE_WAIT: SEQ locks out
  · intro _ hs
    have hf : u.seqTripCommand = u.seqLockout .commandTrip := by
      rcases hs with hs | hs <;> simp [State.seqTripCommand, hseq, hs]
    obtain ⟨hst, hreason, -, htime, -, hall⟩ := State.seqArrive_lockout hf
    refine ⟨hans .done ?_, by simp [hst], by simp [hreason], by simp [htime],
      hout hall (List.Subset.refl _) (by simp [eventBlocks])⟩
    rcases hs with hs | hs <;> simp [tripOutcome, hseq, hs]
  -- UNKNOWN, the drive starts the trip
  · intro _ hs hd hpos
    have ha : tripAnswer u.drv = .accepted := by rw [hdrv, tripAnswer_starts hd hpos]
    obtain ⟨hstart, hmain, -⟩ := State.drvTrip_trips ha .command
    have harr := State.seqArrive_tripUnknown (by rw [hseq, hs]) htold' (.inl ha)
    have hall := (allBut_drvTrip_idle (hdrv ▸ hd) .command).trans (allBut_modSeq
      (fun q => { q with restartMark := some .command }) _) (m := [.seq, .drv]) (by simp) (by simp)
    rw [← harr] at hall
    refine ⟨hans .done (by simp [tripOutcome, hseq, hs, ha]), by simp [harr, hseq], by simp [harr, hstart],
      by simp [harr, hmain], hout hall (by simp) (by simp)⟩
  -- UNKNOWN, the contacts are open: over at once
  · intro _ hs hd hpos hstale
    have ha : tripAnswer u.drv = .completed := by rw [hdrv, tripAnswer_idle hd, if_pos ⟨hpos, hstale⟩]
    have harr := State.seqArrive_tripUnknown (by rw [hseq, hs]) htold' (.inr ha)
    have hall := (allBut_drvTrip_idle (hdrv ▸ hd) .command).trans (allBut_modSeq
      (fun q => { q with restartMark := some .command }) _) (m := [.seq, .drv]) (by simp) (by simp)
    rw [← harr] at hall
    refine ⟨hans .done (by simp [tripOutcome, hseq, hs, ha]), by simp [harr, hseq], ?_,
      hout hall (by simp) (by simp)⟩
    simp [harr, State.drvTrip_completed ha, hdrv]
  -- elsewhere: STATE
  · intro _ hs
    have hnone : u.seqTripCommand = u ∧ tripOutcome u = .state := by
      rcases hs with hs | hs | hs | ⟨hs, hd⟩
      case inr.inr.inr =>
        have ha : tripAnswer u.drv = .inFlight := by rw [hdrv, tripAnswer_inFlight hd]
        simp [State.seqTripCommand, tripOutcome, State.seqTripUnknown, hseq, hs, ha]
      all_goals simp [State.seqTripCommand, tripOutcome, hseq, hs]
    have harr := State.seqArrive_same htold' hnone.1
    exact ⟨hans .state hnone.2, hout (l := []) (by rw [harr]; exact fun b _ => by cases b <;> rfl)
      (by simp) (List.Subset.refl _)⟩

/-! ## CLOSE (R81) -/

/-- R81, R97: SEQ's checks, and DRV's behind them, as one list. -/
theorem closeOutcome_eq (s : State) : closeOutcome s =
    if s.seq.state ≠ .lockout then .state
    else if s.seq.noClosePresent = true ∨ s.seq.handle = .pulled then .tag
    else if s.seq.cap < s.store.device.capReserve then .energy
    else if s.seq.ready = .notReady ∨ s.seq.linkUp = false ∨ s.drv.state ≠ .idle then .state
    else if s.drv.cap < s.store.device.capReserve ∨ s.drv.capStale = true then .energy
    else if s.drv.ready = .notReady ∨ s.drv.handle = .pulled ∨ s.drv.stale = true then .state
    else .done := by
  simp only [closeOutcome]
  by_cases hidle : s.drv.state = .idle
  · simp only [closeAnswer, hidle, ne_eq, not_true_eq_false, or_false, if_false]
    split_ifs <;> rfl
  · simp [hidle]

/-- R97: the close of an accepted command starts the drive, or is over at once on closed contacts. -/
theorem closeAnswer_of_done (h : closeOutcome s = .done) :
    closeAnswer s = if s.drv.position = .closed then .completed else .accepted := by
  simp only [closeOutcome] at h
  split_ifs at h with h1 h2 h3 h4
  simp only [closeAnswer] at h ⊢
  split_ifs at h ⊢ <;> simp_all

/-- SEQ has taken up a CLOSE command: the shot counter leaves the last trip of a manual reclaim (R76,
R81). -/
def State.closeTaken (s : State) : State :=
  (s.setShot (s.sets.live.grp.shots - 1)).modSeq (fun q => { q with manualReclaim := true })

theorem allBut_closeTaken (s : State) : AllBut [.ele, .seq] s s.closeTaken := by
  simp [allBut_iff, State.closeTaken]

theorem closeAnswer_closeTaken (s : State) : closeAnswer s.closeTaken = closeAnswer s :=
  closeAnswer_congr (allBut_closeTaken s .drv (by simp)) (allBut_closeTaken s .store (by simp))

theorem State.seqCloseCommand_done (h : closeOutcome s = .done) :
    s.seqCloseCommand = s.closeTaken.placeClose .command (closeAnswer s) := by
  simp only [State.seqCloseCommand, h, if_true]
  rfl

/-- An executed CLOSE without a payload is an arrival at SEQ and its answer. -/
theorem close_executes (hx : Executes s (rowEntry h .close []) e') :
    exec (.close h []) s = .next (((s.begun e').seqArrive State.seqCloseCommand).answer (replyOf s e')
      (closeOutcome (s.begun e'))) := by
  have hd := commandRow_executes hx
  simp only [bodyOf, bodyClose, args_of_executes hx, noFields] at hd
  exact hd

theorem close_answered (hx : Executes s e e') (o : CmdOutcome) : Answered s e' o []
    (((s.begun e').seqArrive State.seqCloseCommand).answer (replyOf s e') o) :=
  answered_of_executes hx (by simp) (by simp) (by simp) (Nat.zero_le _)

/-- R81, R97: an accepted CLOSE that starts the drive. -/
theorem State.seqArrive_close_accepted (h : closeOutcome s = .done) (hpos : s.drv.position ≠ .closed) :
    (s.seqArrive State.seqCloseCommand).seq =
      { s.closeTaken.seq.entered .closing with closeCause := some .command } ∧
    (s.seqArrive State.seqCloseCommand).ele = s.closeTaken.ele ∧
    (s.seqArrive State.seqCloseCommand).drv.closes .command s.store.device.closeLimit ∧
    AllBut [.ele, .sets, .seq, .drv] s (s.seqArrive State.seqCloseCommand) := by
  have hans : closeAnswer s = .accepted := by rw [closeAnswer_of_done h, if_neg hpos]
  have hf := State.seqCloseCommand_done h
  rw [hans] at hf
  have htaken := allBut_closeTaken s
  obtain ⟨hseq, hdrv, hframe⟩ := State.placeClose_accepted
    (s := s.closeTaken) (by rw [closeAnswer_closeTaken, hans]) .command
  have htold := allBut_toldSettled (s.closeTaken.placeClose .command .accepted) false
  have ht : s.seqArrive State.seqCloseCommand =
      (s.closeTaken.placeClose .command .accepted).toldSettled false := by
    rw [State.seqArrive_unsettled, hf] <;> simp [hf, hseq, SeqState.unsettled]
  rw [ht]
  refine ⟨(htold .seq (by simp)).trans hseq, (htold .ele (by simp)).trans (hframe .ele (by simp)), ?_,
    (htaken.trans hframe (m := [.ele, .sets, .seq, .drv]) (by simp) (by simp)).trans htold
      (List.Subset.refl _) (by simp)⟩
  have hstore : s.closeTaken.store = s.store := htaken .store (by simp)
  rw [htold .drv (by simp), ← hstore]
  exact hdrv

/-- R81, R97: an accepted CLOSE on closed contacts, with no low-battery trip that waits for SEQ. -/
theorem State.seqArrive_close_completed (h : closeOutcome s = .done) (hpos : s.drv.position = .closed)
    (hno : awaitsSeq s.bat = false) :
    (s.seqArrive State.seqCloseCommand).seq =
      { (s.closeTaken.seq.entered .closing).entered .reclaim with
        timer := some ⟨.reclaim, s.sets.live.grp.reclaim, s.seq.lastPickup.any⟩ } ∧
    Emitted s (.reclose .command (s.sets.live.grp.shots - 1)) (s.seqArrive State.seqCloseCommand) ∧
    AllBut (eventBlocks ++ [.ele, .sets, .seq]) s (s.seqArrive State.seqCloseCommand) := by
  have hans : closeAnswer s = .completed := by rw [closeAnswer_of_done h, if_pos hpos]
  have hf := State.seqCloseCommand_done h
  rw [hans] at hf
  have htaken := allBut_closeTaken s
  obtain ⟨hseq, hframe, hrpb, hpkm⟩ := State.placeClose_completed
    (s := s.closeTaken) (by rw [closeAnswer_closeTaken, hans]) .command
  have htold := allBut_toldSettled (s.closeTaken.placeClose .command .completed) false
  have hall := htaken.trans hframe (m := eventBlocks ++ [.ele, .seq]) (by simp) (by simp)
  have hbat : s.seqCloseCommand.bat = s.bat := by rw [hf]; exact hall .bat (by simp [eventBlocks])
  have ht : s.seqArrive State.seqCloseCommand =
      (s.closeTaken.placeClose .command .completed).toldSettled false := by
    rw [State.seqArrive_unsettled, hf]
    · simp [hf, hseq, SeqState.unsettled]
    · simp [hbat, hno]
  have hsets : s.closeTaken.sets = s.sets := htaken .sets (by simp)
  rw [ht]
  refine ⟨(htold .seq (by simp)).trans ?_, ?_, hall.trans htold (by simp) (by simp)⟩
  · rw [hseq, hsets]
    rfl
  · exact emitted_of_emit (htaken .rpb (by simp)) (htaken .pkm (by simp)) (htaken .fcu (by simp))
      (htaken .store (by simp)) hrpb hpkm

/-- Settles O55: the refusals of R81 and R97 in their order, then the close that DRV's answer leads to. -/
theorem closeCommandActs : Obligations.CloseCommandActs := by
  intro h p s e' hx htold reserve n outcome
  by_cases hp : p = []
  swap
  · have hd : Does s e' (.close h p) (bodyOf (some .close) e') := does_of_executes hx rfl
    simp only [Does, bodyOf, bodyClose, args_of_executes hx, noFields, List.isEmpty_iff, hp] at hd
    obtain ⟨t, ht, hans, hframe⟩ := refuses_of_does hx hd
    have hout : outcome = .invalid := by simp [outcome, hp]
    exact ⟨t, ht, hout ▸ hans, fun _ => hframe, by simp [hout], by simp [hout]⟩
  subst hp
  have hframe0 := allBut_begun s e'
  have hseq : (s.begun e').seq = s.seq := hframe0 .seq (by simp)
  have hout : outcome = closeOutcome (s.begun e') := by
    rw [closeOutcome_eq]
    simp [outcome, reserve]
  have htold' : (s.begun e').sets.settledView = seqSettled (s.begun e') := by
    rw [hframe0 .sets (by simp), htold, seqSettled_congr hseq]
  clear_value outcome
  subst hout
  refine ⟨_, close_executes hx, close_answered hx _, fun hno => ?_, fun hdone hpos => ?_,
    fun hdone hpos hwait => ?_⟩
  · have harr := State.seqArrive_same (f := State.seqCloseCommand) htold'
      (by simp [State.seqCloseCommand, hno])
    rw [harr]
    exact begun_allBut _ _ _ _ _
  · obtain ⟨hq, hele, ⟨hst, hclose, hmain, hbackup, hmon, hop⟩, hall⟩ :=
      State.seqArrive_close_accepted hdone (by simpa using hpos)
    refine ⟨?_, ?_, ?_, ?_, ?_, by simpa using hst, by simpa using hclose, by simpa using hmain,
      by simpa using hbackup, by simpa using hmon, by simpa using hop,
      allBut_begun_answer hall (by simp) (by simp)⟩
    · simp [hq]
    · simp [hq]
    · simp [hq, State.closeTaken, n]
    · simp [hele, State.closeTaken, State.setShot, n]
    · simp [hq, State.closeTaken, Seq.entered, SeqState.clearsManual]
  · obtain ⟨hq, ⟨hrpb, -⟩, hall⟩ :=
      State.seqArrive_close_completed hdone (by simpa using hpos) (by simpa using hwait)
    refine ⟨?_, ?_, ?_, ?_, ?_, by simpa [n] using hrpb,
      allBut_begun_answer hall (by simp) (by simp [eventBlocks])⟩
    · simp [hq]
    · simp [hq, State.closeTaken, n]
    · simp [hq, State.closeTaken, Seq.entered, SeqState.clearsManual]
    · simp [hq]
    · exact Eq.trans (by simp) ((hall .drv (by simp [eventBlocks])).trans (hframe0 .drv (by simp)))

end Sys2Proof.Machine
end

section
/-! DRIVE_RESTORE and RESTART (R83, R102, R140, R188): what SEQ makes of a restored drive, by the first
case of R83 that applies, and what BAT adds where its disconnect waits for SEQ. -/

namespace Sys2Proof.Machine

-- The many short proofs would otherwise each hold a waiting thread.
set_option Elab.async false

variable {s t : State} {e e' : IntakeEntry} {h : CmdHead} {p : List Byte}

/-! ## A restored drive (R83, R102) -/

theorem allBut_drvRestore (s : State) : AllBut (eventBlocks ++ [.drv]) s s.drvRestore := by
  simp [allBut_iff, eventBlocks]

theorem State.drvRestore_drv (s : State) :
    s.drvRestore.drv = { s.drv with state := .idle, degraded := false } := by
  simp [State.drvRestore]

theorem State.drvRestore_emitted (s : State) :
    Emitted s (.driveRestored s.drv.state s.drv.degraded) s.drvRestore :=
  emitted_of_emit (s' := s.modDrv (fun d => { d with state := .idle, degraded := false })) (by simp)
    (by simp) (by simp) (by simp) rfl rfl

/-- SEQ has come into READY with a shot counter of 0 (R83). -/
def State.readied (s : State) : State := (s.setShot 0).seqGoto .ready

theorem State.readied_spec (s : State) :
    s.readied.seq = ({ s.seq with shot := 0 } : Seq).entered .ready ∧
    s.readied.ele = { s.ele with shotCopy := 0 } ∧ AllBut [.ele, .seq] s s.readied := by
  refine ⟨by simp [State.readied], by simp [State.readied, State.setShot], ?_⟩
  have h1 : AllBut [.ele, .seq] s (s.setShot 0) := by simp [allBut_iff]
  exact h1.trans (allBut_seqGoto (st := .ready)) (List.Subset.refl _) (by simp)

/-! The four cases of R83, in their order. -/

theorem State.seqRestored_pulled (hs : s.seq.state = .failed) (hh : s.seq.handle = .pulled) :
    s.seqRestored = s.seqLockout .handle := by
  simp [State.seqRestored, hs, hh]

theorem State.seqRestored_opened (hs : s.seq.state = .failed) (hh : s.seq.handle = .returned)
    (hp : s.seq.position = .opened) (hl : s.seq.linkUp = true) :
    s.seqRestored = s.seqLockout .restart := by
  simp [State.seqRestored, hs, hh, hp, hl]

theorem State.seqRestored_closed (hs : s.seq.state = .failed) (hh : s.seq.handle = .returned)
    (hp : s.seq.position = .closed) (hl : s.seq.linkUp = true) : s.seqRestored = s.readied := by
  simp [State.seqRestored, State.readied, hs, hh, hp, hl]

theorem State.seqRestored_other (hs : s.seq.state = .failed) (hh : s.seq.handle = .returned)
    (hp : s.seq.position = .indeterminate ∨ s.seq.linkUp = false) :
    s.seqRestored = s.seqGoto .unknown := by
  rcases hp with hp | hp <;> simp [State.seqRestored, hs, hh, hp]

/-- SEQ's part of a restore leaves the drive, and of the other blocks all but ELE's copy of the shot
counter, the events and BAT's answer. -/
theorem allBut_seqRestored (s : State) :
    AllBut (eventBlocks ++ [.ele, .seq, .bat]) s s.seqRestored := by
  simp [allBut_iff, eventBlocks]

theorem State.seqRestored_bat (hno : awaitsSeq s.bat = false) : s.seqRestored.bat = s.bat := by
  simp only [State.seqRestored]
  split_ifs <;> simp [State.seqLockout_bat, State.seqGoto_bat, hno]

theorem allBut_seqRestored_idle (hno : awaitsSeq s.bat = false) :
    AllBut (eventBlocks ++ [.ele, .seq]) s s.seqRestored := by
  simp [allBut_iff, eventBlocks, State.seqRestored_bat hno]

/-- R83: an arrival of a restore that ends in no trip: SEQ has left FAILED, and SET is told. -/
theorem State.seqArrive_restored (hpend : s.sets.pendingSel = none ∨ s.sets.settledView = true)
    (hr : awaitsSeq s.seqRestored.bat = true →
      s.seqRestored.seq.state ≠ .ready ∧ s.seqRestored.seq.state ≠ .reclaim) :
    s.seqArrive State.seqRestored = s.seqRestored.toldSettled (seqSettled s.seqRestored) := by
  rw [State.seqArrive_notice (fun ha => .inr (hr ha)), State.settleNotice_told]
  rw [← or_assoc]
  exact .inl (by simpa using hpend)

theorem allBut_seqArrive_restored (hd : s.drv.state = .idle)
    (hpend : s.sets.pendingSel = none ∨ s.sets.settledView = true) :
    AllBut (eventBlocks ++ [.ele, .sets, .seq, .drv, .bat]) s (s.seqArrive State.seqRestored) := by
  have h1 : AllBut (eventBlocks ++ [.seq, .drv, .bat]) s.seqRestored
      (s.seqRestored.resendTrip s.seq.state) := by
    simp only [State.resendTrip]
    split
    exacts [allBut_lowBatteryRequest (by simpa using hd), fun b _ => by cases b <;> rfl]
  have h2 := (allBut_seqRestored s).trans h1 (m := eventBlocks ++ [.ele, .sets, .seq, .drv, .bat])
    (by simp [eventBlocks]) (by simp [eventBlocks])
  rw [State.seqArrive, State.settleNotice_told]
  · exact h2.trans (allBut_toldSettled _ _) (List.Subset.refl _) (by simp)
  · rw [← or_assoc]
    exact .inl (by simpa using hpend)

/-- R84, R140: a low-battery trip on its way, and nothing for BAT to act on yet. -/
theorem State.lowBatteryRequest_trip {a : Option Flags4}
    (hf : s.seqLowBattery = s.placeTrip .lowBattery a) (ha : tripAnswer s.drv = .accepted) :
    s.lowBatteryRequest =
      ((s.drvTrip .lowBattery).tripping .lowBattery).announced .lowBattery a := by
  obtain ⟨hseq, -, -⟩ := State.announced_tripping .lowBattery a (s.drvTrip .lowBattery)
  rw [State.placeTrip_of_not_completed (.inl ha)] at hf
  simp [State.lowBatteryRequest, State.tellBat, hf, hseq]

/-- R83, R140: a restore into READY while a disconnect waits for SEQ ends in the low-battery trip. -/
theorem State.seqArrive_restored_trip (hs : s.seq.state = .failed) (hready : s.seqRestored = s.readied)
    (hwait : awaitsSeq s.bat = true) (ha : tripAnswer s.drv = .accepted) :
    s.seqArrive State.seqRestored = (((s.readied.drvTrip .lowBattery).tripping .lowBattery).announced
      .lowBattery (some noFlags)).toldSettled false := by
  obtain ⟨hseq, -, hframe⟩ := s.readied_spec
  have hdrv : s.readied.drv = s.drv := hframe .drv (by simp)
  have hbat : s.readied.bat = s.bat := hframe .bat (by simp)
  have hst : s.readied.seq.state = .ready := by rw [hseq]; rfl
  have hresend : s.readied.resendTrip s.seq.state = s.readied.lowBatteryRequest := by
    simp [State.resendTrip, hbat, hwait, hst, hs]
  have htrip := State.lowBatteryRequest_trip (s := s.readied) (a := some noFlags)
    (by simp [State.seqLowBattery, hst]) (by rw [hdrv, ha])
  obtain ⟨hq, -, -⟩ := State.announced_tripping .lowBattery (some noFlags)
    (s.readied.drvTrip .lowBattery)
  have hnot : seqSettled (((s.readied.drvTrip .lowBattery).tripping .lowBattery).announced .lowBattery
      (some noFlags)) = false := not_settled (.inl (by simp [hq]))
  rw [State.seqArrive, hready, hresend, htrip, State.settleNotice_told (.inr (.inr hnot)), hnot]

/-- What the low-battery trip behind a restore comes to: the main coil, and SEQ in TRIPPING with a shot
counter of 0. -/
theorem State.restored_trip_spec (hd : s.drv.state = .idle) (ha : tripAnswer s.drv = .accepted) :
    let t := ((s.readied.drvTrip .lowBattery).tripping .lowBattery).announced .lowBattery
      (some noFlags)
    t.seq.state = .tripping ∧ t.seq.tripCause = some .lowBattery ∧ t.seq.shot = 0 ∧
    t.drv.state = .tripMain ∧ t.drv.coilMain = true ∧ t.drv.degraded = s.drv.degraded ∧
    t.bat = s.bat := by
  intro t
  obtain ⟨hseq, -, hframe⟩ := s.readied_spec
  have hdrv : s.readied.drv = s.drv := hframe .drv (by simp)
  obtain ⟨hq, hd', hall⟩ := State.announced_tripping .lowBattery (some noFlags)
    (s.readied.drvTrip .lowBattery)
  obtain ⟨hst, hmain, -⟩ := State.drvTrip_trips (s := s.readied) (by rw [hdrv, ha]) .lowBattery
  have hbat : t.bat = s.bat := (hall .bat (by simp [eventBlocks])).trans
    ((allBut_drvTrip_idle (by rw [hdrv, hd]) _ .bat (by simp)).trans (hframe .bat (by simp)))
  have hdeg : (s.readied.drvTrip .lowBattery).drv.degraded = s.drv.degraded := by
    rw [State.drvTrip_idle (by rw [hdrv, hd]) (by rw [hdrv, ha]), ← hdrv]
    rfl
  exact ⟨by simp [t, hq], by simp [t, hq], by simp [t, hq, hseq], by rw [hd', hst], by rw [hd', hmain],
    by rw [hd', hdeg], hbat⟩

/-! ## DRIVE_RESTORE (R102) -/

/-- An executed DRIVE_RESTORE without a payload on a halted drive: the restore, SEQ's part of it, and the
answer. -/
theorem driveRestore_executes (hx : Executes s (rowEntry h .driveRestore []) e')
    (hd : s.drv.state = .halted) : exec (.driveRestore h []) s =
      .next (((s.begun e').drvRestore.seqArrive State.seqRestored).answer (replyOf s e') .done) := by
  have hdoes := commandRow_executes hx
  simp only [bodyOf, bodyDriveRestore, args_of_executes hx, noFields, State.begun_frame, hd] at hdoes
  exact hdoes

theorem driveRestore_answered (hx : Executes s e e') : Answered s e' .done []
    (((s.begun e').drvRestore.seqArrive State.seqRestored).answer (replyOf s e') .done) :=
  answered_of_executes hx (by simp) (by simp) (by simp) (Nat.zero_le _)

/-- R188: what a restart takes over is what the row has not touched. -/
theorem begun_resetAs (s : State) (e : IntakeEntry) (c : ResetCause) :
    (s.begun e).resetAs c = s.resetAs c := by
  simp [State.resetAs, State.resetBlocks]

/-- DRIVE_RESTORE of an idle drive clears its degraded flag alone. -/
theorem driveRestore_idle (hx : Executes s (rowEntry h .driveRestore []) e')
    (hd : s.drv.state = .idle) : ∃ t, exec (.driveRestore h []) s = .next t ∧
      Answered s e' .done [] t ∧ t.drv = { s.drv with degraded := false } ∧
      t.rpb = ((s.begun e').emit (.driveRestored .idle s.drv.degraded)).rpb ∧
      AllBut (eventBlocks ++ [.drv]) s t := by
  have hdoes := commandRow_executes hx
  simp only [bodyOf, bodyDriveRestore, args_of_executes hx, noFields, State.begun_frame, hd] at hdoes
  obtain ⟨hrpb, -⟩ := (s.begun e').drvRestore_emitted
  refine ⟨_, hdoes, answered_of_executes hx (by simp) (by simp) (by simp) (Nat.zero_le _), ?_,
    by simpa [hd] using hrpb,
    allBut_begun_answer (allBut_drvRestore _) (List.Subset.refl _) (by simp [eventBlocks])⟩
  simp [State.drvRestore_drv, ← hd]

/-- DRIVE_RESTORE of a halted drive, whatever SEQ makes of it. -/
theorem driveRestore_halted (hx : Executes s (rowEntry h .driveRestore []) e')
    (hd : s.drv.state = .halted) : ∃ u t, exec (.driveRestore h []) s = .next t ∧
      Answered s e' .done [] t ∧
      u.seq = s.seq ∧ u.ele = s.ele ∧ u.sets = s.sets ∧ u.bat = s.bat ∧
      u.drv = { s.drv with state := .idle, degraded := false } ∧
      u.rpb = ((s.begun e').emit (.driveRestored .halted s.drv.degraded)).rpb ∧
      t.seq = (u.seqArrive State.seqRestored).seq ∧ t.ele = (u.seqArrive State.seqRestored).ele ∧
      t.drv = (u.seqArrive State.seqRestored).drv ∧ t.bat = (u.seqArrive State.seqRestored).bat ∧
      t.rpb = (u.seqArrive State.seqRestored).rpb ∧
      (∀ m, AllBut m u (u.seqArrive State.seqRestored) → eventBlocks ++ [.drv] ⊆ m → AllBut m s t) := by
  obtain ⟨hrpb, -⟩ := (s.begun e').drvRestore_emitted
  refine ⟨(s.begun e').drvRestore, _, driveRestore_executes hx hd, driveRestore_answered hx, by simp,
    by simp, by simp, by simp, by simp [State.drvRestore_drv], by simpa [hd] using hrpb, by simp,
    by simp, by simp, by simp, by simp, fun m hm hsub => ?_⟩
  exact allBut_begun_answer ((allBut_drvRestore _).trans hm hsub (List.Subset.refl _))
    (List.Subset.refl _) (fun b hb => hsub (by revert hb; cases b <;> simp [eventBlocks]))

/-- Settles O58: a restore by the state of the drive, with the cases of R83 and BAT's answer to them, and
a restart by the drive and the store. -/
theorem restoreAndRestartAct : Obligations.RestoreAndRestartAct := by
  intro h p s e'
  refine ⟨fun hx => ?_, fun hx => ⟨fun hp hd hflight hlist => ?_, fun hp hbusy => ?_, fun hp => ?_⟩⟩
  · have hdoes : Does s e' (.driveRestore h p) (bodyOf (some .driveRestore) e') :=
      does_of_executes hx rfl
    simp only [Does, bodyOf, bodyDriveRestore, args_of_executes hx, noFields,
      State.begun_frame] at hdoes
    by_cases hp : p = []
    swap
    · rw [if_pos (by simp [hp])] at hdoes
      obtain ⟨t, ht, hans, hframe⟩ := refuses_of_does hx hdoes
      exact ⟨t, ht, fun _ => ⟨hans, hframe⟩, by simp [hp]⟩
    subst hp
    rw [if_neg (by simp)] at hdoes
    cases hd : s.drv.state
    case idle =>
      obtain ⟨t, ht, hidle⟩ := driveRestore_idle hx hd
      exact ⟨t, ht, by simp, by simp, fun _ _ => hidle, by simp, by simp⟩
    case halted =>
      obtain ⟨u, t, ht, hans, hseq, hele, hsets, hbat, hdrv, hrpb, htseq, htele, htdrv, htbat, htrpb,
        hall⟩ := driveRestore_halted hx hd
      refine ⟨t, ht, by simp, by simp, by simp, fun _ _ hs hno hpend => ⟨hans, ?_⟩,
        fun _ _ hs hwait hpend => ⟨hans, ?_⟩⟩
      · have harr := State.seqArrive_restored (s := u) (by rw [hsets]; exact hpend)
          (by simp [State.seqRestored_bat, hbat, hno])
        have hframe := (allBut_seqRestored_idle (s := u) (by rw [hbat, hno])).trans
          (allBut_toldSettled _ (seqSettled u.seqRestored)) (m := eventBlocks ++ [.ele, .sets, .seq, .drv])
          (by simp [eventBlocks]) (by simp)
        rw [← harr] at hframe
        have hfailed : u.seq.state = .failed := by rw [hseq, hs]
        rw [htdrv, htseq, htele, htrpb, harr]
        refine ⟨by simpa using hdrv, fun hh => ?_, fun hh hp hl => ?_, fun hh hp hl => ?_,
          fun hh hp => ?_, hall _ hframe (by simp)⟩ <;> rw [← hseq] at *
        · simp [State.seqRestored_pulled hfailed hh]
        · simp [State.seqRestored_opened hfailed hh hp hl]
        · obtain ⟨hq, he, hf⟩ := u.readied_spec
          have hsame : u.readied.rpb = u.rpb := hf .rpb (by simp)
          simp [State.seqRestored_closed hfailed hh hp hl, hq, he, hele, hsame, hrpb]
        · simp [State.seqRestored_other hfailed hh hp, hrpb]
      · have hidle : u.drv.state = .idle := by rw [hdrv]
        have hfailed : u.seq.state = .failed := by rw [hseq, hs]
        have hframe := allBut_seqArrive_restored hidle (by rw [hsets]; exact hpend)
        have harr := fun hr => State.seqArrive_restored (s := u) (by rw [hsets]; exact hpend) hr
        have hlocked : ∀ r, u.seqRestored = u.seqLockout r →
            (u.seqArrive State.seqRestored).seq.state = .lockout ∧
            (u.seqArrive State.seqRestored).seq.lockReason = some r ∧
            (u.seqArrive State.seqRestored).bat =
              { s.bat with disc := .disconnected, lvdOut := true } := by
          intro r hr
          rw [harr (by simp [hr]), hr]
          simp [State.seqLockout_bat, hbat, hwait]
        rw [htdrv, htseq, htbat]
        refine ⟨fun hcase => ?_, fun hh hp hl hpos => ?_, fun hh hp => ?_, hall _ hframe (by simp)⟩
          <;> rw [← hseq] at *
        · cases hh : u.seq.handle with
          | pulled => simpa using hlocked _ (State.seqRestored_pulled hfailed hh)
          | returned =>
            obtain ⟨hp, hl⟩ : u.seq.position = .opened ∧ u.seq.linkUp = true := by
              simpa [hh] using hcase
            simpa using hlocked _ (State.seqRestored_opened hfailed hh hp hl)
        · have ha : tripAnswer u.drv = .accepted := tripAnswer_starts hidle (by simpa [hdrv] using hpos)
          have htrip := State.restored_trip_spec hidle ha
          rw [State.seqArrive_restored_trip hfailed (State.seqRestored_closed hfailed hh hp hl)
            (by rw [hbat, hwait]) ha]
          simpa [hdrv, hbat] using htrip
        · rw [harr (by simp [State.seqRestored_other hfailed hh hp]),
            State.seqRestored_other hfailed hh hp]
          simp [State.seqGoto_bat_other, hbat]
    all_goals
      rw [hd] at hdoes
      obtain ⟨t, ht, hbusy⟩ := refuses_of_does hx hdoes
      exact ⟨t, ht, by simp, fun _ _ _ => hbusy, by simp, by simp, by simp⟩
  · subst hp
    have hdoes := commandRow_executes hx
    simp only [bodyOf, bodyRestart, args_of_executes hx, noFields, State.begun_frame, hd, storeIdle,
      hflight, hlist] at hdoes
    exact hdoes.trans (congrArg _ (begun_resetAs s e' .command))
  · subst hp
    have hdoes : Does s e' (.restart h []) (bodyOf (some .restart) e') := does_of_executes hx rfl
    have hnot : ¬ (s.drv.state = .idle ∧ storeIdle s.store = true) := by
      rintro ⟨hd, hidle⟩
      simp only [storeIdle, Bool.and_eq_true, Option.isNone_iff_eq_none, List.isEmpty_iff] at hidle
      simp [hd, hidle] at hbusy
    simp only [Does, bodyOf, bodyRestart, args_of_executes hx, noFields, State.begun_frame] at hdoes
    rw [if_neg (by simp), if_neg hnot] at hdoes
    exact refuses_of_does hx hdoes
  · have hdoes : Does s e' (.restart h p) (bodyOf (some .restart) e') := does_of_executes hx rfl
    simp only [Does, bodyOf, bodyRestart, args_of_executes hx, noFields] at hdoes
    rw [if_pos (by simp [hp])] at hdoes
    exact refuses_of_does hx hdoes

end Sys2Proof.Machine
end

section
/-! What the load test, the charger and a change of the shed level leave of BAT (R126, R127, R132 to R138):
the sums and means of a second, the charge, the supply and the disconnect. -/

namespace Sys2Proof.Machine

-- The many short proofs would otherwise each hold a waiting thread.
set_option Elab.async false

variable {s t : State}

/-- BAT without what belongs to the load test, the charger, the fault condition and the shed level. -/
def Bat.aside (b : Bat) : Bat :=
  { b with
    charger := .off, absorbMs := none, rebulk := 0, fault := none, recoveryLeft := none, shed := 0
    test := .idle, due := none, startCause := none, retryLeft := none, settleLeft := none
    loadLeft := none, recentV := [], recentI := [], v0 := none, i0 := none, abortCount := 0
    badCount := 0, result := none, testLoad := false, chgEn := false, chgVset := 0, chgIlim := 0 }

/-- From `s` to `t` BAT has moved the load test, the charger and the shed level alone, and the charger has
not come into ABSORB. -/
def State.testOnly (s t : State) : Prop :=
  t.bat.aside = s.bat.aside ∧ (t.bat.charger = .absorb → s.bat.charger = .absorb)

theorem State.testOnly.refl (s : State) : s.testOnly s := ⟨rfl, id⟩

namespace State.testOnly

theorem modBat {f : Bat → Bat} (hf : ∀ k : Bat, (f k).aside = k.aside ∧ (f k).charger = k.charger)
    (h : s.testOnly t) : s.testOnly (t.modBat f) :=
  ⟨(hf t.bat).1.trans h.1, fun ha => h.2 ((hf t.bat).2 ▸ ha)⟩

theorem emit (e : Event) (h : s.testOnly t) : s.testOnly (t.emit e) := by
  simpa [State.testOnly] using h

end State.testOnly

/-- The charger's state and lines, its timers and counts are no part of the rest (Table 7-3). -/
@[simp] theorem State.setCharger_aside (st : Charger) (s : State) :
    (s.setCharger st).bat.aside = s.bat.aside := by
  cases st <;> rfl

@[simp] theorem State.setCharger_charger (st : Charger) (s : State) :
    (s.setCharger st).bat.charger = st := by
  cases st <;> rfl

namespace State.testOnly

theorem setCharger {st : Charger} (hst : st ≠ .absorb) (h : s.testOnly t) :
    s.testOnly (t.setCharger st) :=
  ⟨(t.setCharger_aside st).trans h.1, fun ha => absurd ((t.setCharger_charger st).symm.trans ha) hst⟩

theorem enterFault (h : s.testOnly t) : s.testOnly t.enterFault :=
  (h.setCharger (by decide)).emit _

theorem granting (s : State) : Granting s.testOnly where
  sup _ h := h
  rpc _ h := h
  granted _ h := (h.modBat fun _ => ⟨rfl, rfl⟩).setCharger (by decide)

/-! ## The load test (R134 to R138) -/

theorem dueCheck (h : s.testOnly t) : s.testOnly t.dueCheck := by
  dsimp only [State.dueCheck]
  (repeat' split)
  exacts [(granting s).ask _ (h.modBat fun _ => ⟨rfl, rfl⟩), h, h]

theorem chargerTo {st : Charger} (hst : st ≠ .absorb) (h : s.testOnly t) :
    s.testOnly (t.chargerTo st) := (h.setCharger hst).dueCheck

theorem chargerTestEnded (h : s.testOnly t) : s.testOnly t.chargerTestEnded := by
  dsimp only [State.chargerTestEnded]
  (repeat' split)
  exacts [h.chargerTo (by decide), h.enterFault, h.chargerTo (by decide), h]

theorem countVerdict (v : Verdict) (r : Option Nat) (h : s.testOnly t) :
    s.testOnly (t.countVerdict v r) := by
  have hbad : s.testOnly (if t.bat.badCount = 1 then
        (t.modBat (fun k => { k with badCount := 2 })).emit (.batteryBad r)
      else if t.bat.badCount = 0 then t.modBat (fun k => { k with badCount := 1 }) else t) := by
    split
    · exact emit _ (h.modBat fun _ => ⟨rfl, rfl⟩)
    · split
      · exact h.modBat fun _ => ⟨rfl, rfl⟩
      · exact h
  cases v with
  | fail => exact hbad
  | noLoad => exact hbad
  | pass => exact h.modBat fun _ => ⟨rfl, rfl⟩
  | aborted => exact h
  | cancelled => exact h

theorem endTest (v : Verdict) (v1 dI : Option Int) (r : Option Nat) (h : s.testOnly t) :
    s.testOnly (t.endTest v v1 dI r) := by
  dsimp only [State.endTest]
  refine chargerTestEnded (modBat (fun _ => ⟨rfl, rfl⟩) ?_)
  exact countVerdict v r (emit _ (h.modBat fun _ => ⟨rfl, rfl⟩))

theorem abortTest (h : s.testOnly t) : s.testOnly t.abortTest := by
  have h1 : s.testOnly t.dropLoad := (granting s).release _ (h.modBat fun _ => ⟨rfl, rfl⟩)
  have h2 := endTest .aborted none none none
    (h1.modBat (f := fun k => { k with abortCount := k.abortCount + 1 }) fun _ => ⟨rfl, rfl⟩)
  dsimp only [State.abortTest]
  split
  exacts [h2.modBat fun _ => ⟨rfl, rfl⟩, h2]

theorem asking (s : State) : Asking s.testOnly where
  toGranting := granting s
  asked {t} h := by
    dsimp only [State.batAsked]
    split
    exacts [(granting s).ask _ ((granting s).release _ (h.modBat fun _ => ⟨rfl, rfl⟩)), h.abortTest,
      h, h, h]

theorem request (r : Requester) (h : s.testOnly t) : s.testOnly (t.request r) := by
  dsimp only [State.request]
  split
  exacts [(asking s).preempt _ ((granting s).ask _ h), (granting s).ask _ h, (granting s).ask _ h,
    (granting s).ask _ h]

/-! ## The shed level and the fault condition (R127, R132, R133) -/

theorem setShed (level : Nat) (h : s.testOnly t) : s.testOnly (t.setShed level) := by
  have h1 : s.testOnly (t.modBat (fun k => { k with shed := level })) := h.modBat fun _ => ⟨rfl, rfl⟩
  dsimp only [State.setShed]
  split
  · exact h
  · split
    · exact (emit _ ((asking s).supShed _ ((asking s).rpcShed _ h1))).dueCheck
    · exact (emit _ ((asking s).rpcShed _ ((asking s).supShed _ h1))).dueCheck

theorem evalShed (h : s.testOnly t) : s.testOnly t.evalShed := by
  dsimp only [State.evalShed]
  split
  exacts [h, h.setShed _]

theorem evalFault (h : s.testOnly t) : s.testOnly t.evalFault := by
  have h1 : s.testOnly (t.modBat (fun b => { b with fault := faultCause t.bat })) :=
    h.modBat fun _ => ⟨rfl, rfl⟩
  have h2 : ∀ c : Bool, s.testOnly (if c then
      (t.modBat (fun b => { b with fault := faultCause t.bat })).enterFault
      else t.modBat (fun b => { b with fault := faultCause t.bat })) := by
    intro c
    split
    exacts [h1.enterFault, h1]
  dsimp only [State.evalFault]
  split
  exacts [h2 _, h2 _, h2 _, h1.modBat fun _ => ⟨rfl, rfl⟩, h1, h1]

theorem raiseRecharge (h : s.testOnly t) : s.testOnly t.raiseRecharge := by
  dsimp only [State.raiseRecharge]
  split
  exacts [h, request (t := t.modDrv (fun d => { d with recharge := true })) _ h]

end State.testOnly

end Sys2Proof.Machine
end

section
/-! The end of a battery second (R125 to R127, R130, R131, R139, R140, R84): its means and charge, the
charger with the supply present, the qualification, and the low-battery trip request. -/

namespace Sys2Proof.Machine

-- The many short proofs would otherwise each hold a waiting thread.
set_option Elab.async false

variable {s t : State} {v i : Option Int}

/-! ## Low-battery trip requests and BAT (R84, R140) -/

/-- What neither the load test and the charger nor the answer of SEQ moves. -/
def Bat.beyondDisc (b : Bat) : Bat := { b.aside with disc := .normal, lvdOut := false }

theorem Bat.beyondDisc_of_aside {a b : Bat} (h : a.aside = b.aside) : a.beyondDisc = b.beyondDisc := by
  rw [Bat.beyondDisc, h]
  rfl

@[simp] theorem State.seqGoto_beyondDisc (st : SeqState) (s : State) :
    (s.seqGoto st).bat.beyondDisc = s.bat.beyondDisc := by
  rw [State.seqGoto_bat]
  split <;> rfl

@[simp] theorem State.seqLockout_beyondDisc (r : LockReason) (s : State) :
    (s.seqLockout r).bat.beyondDisc = s.bat.beyondDisc := by
  rw [State.seqLockout_bat]
  split <;> rfl

@[simp] theorem State.tellBat_beyondDisc (s : State) :
    s.tellBat.bat.beyondDisc = s.bat.beyondDisc := by
  dsimp only [State.tellBat]
  split <;> rfl

/-- R99, R104: a trip moves BAT only where it ends a close, by its recharge request. -/
theorem State.drvTrip_testOnly (c : TripCause) (s : State) : s.testOnly (s.drvTrip c) := by
  cases hd : s.drv.state with
  | idle =>
    have hbat := allBut_drvTrip_idle hd c .bat (by simp)
    exact ⟨congrArg Bat.aside hbat, fun ha => (congrArg Bat.charger hbat).symm.trans ha⟩
  | closeActive =>
    rw [State.drvTrip_closeActive hd]
    refine State.testOnly.raiseRecharge ?_
    simp [State.testOnly]
  | tripMain => simpa [State.drvTrip, hd] using State.testOnly.refl s
  | tripBackup => simpa [State.drvTrip, hd] using State.testOnly.refl s
  | halted => simpa [State.drvTrip, hd] using State.testOnly.refl s

@[simp] theorem State.drvTrip_beyondDisc (c : TripCause) (s : State) :
    (s.drvTrip c).bat.beyondDisc = s.bat.beyondDisc :=
  Bat.beyondDisc_of_aside (s.drvTrip_testOnly c).1

theorem State.seqTripDone_beyondDisc (s : State) :
    s.seqTripDone.bat.beyondDisc = s.bat.beyondDisc := by
  by_cases hs : s.seq.state = .tripping
  · rw [State.seqTripDone_eq hs]
    cases tripEndReason s with
    | some r => simp
    | none => exact congrArg Bat.beyondDisc (allBut_seqOpenInterval s .bat (by simp))
  · simp [State.seqTripDone, hs]

theorem State.placeTrip_beyondDisc (c : TripCause) (a : Option Flags4) (s : State) :
    (s.placeTrip c a).bat.beyondDisc = s.bat.beyondDisc := by
  by_cases ha : tripAnswer s.drv = .refused
  · simp [State.placeTrip, ha]
  · obtain ⟨-, -, hframe⟩ := State.announced_tripping c a (s.drvTrip c)
    have hbat := hframe .bat (by simp [eventBlocks])
    have h1 : (((s.drvTrip c).tripping c).announced c a).bat.beyondDisc = s.bat.beyondDisc :=
      (congrArg Bat.beyondDisc hbat).trans (by simp)
    rw [State.placeTrip_eq ha]
    split
    exacts [(State.seqTripDone_beyondDisc _).trans h1, h1]

theorem State.lowBatteryRequest_beyondDisc (s : State) :
    s.lowBatteryRequest.bat.beyondDisc = s.bat.beyondDisc := by
  have hunknown : (s.seqTripUnknown .lowBattery .lowBattery).bat.beyondDisc = s.bat.beyondDisc := by
    dsimp only [State.seqTripUnknown]
    split <;> simp
  cases hs : s.seq.state <;>
    simp [State.lowBatteryRequest, State.seqLowBattery, hs, State.placeTrip_beyondDisc, hunknown]

theorem State.seqArrive_beyondDisc {f : State → State} (hf : (f s).bat.beyondDisc = s.bat.beyondDisc) :
    (s.seqArrive f).bat.beyondDisc = s.bat.beyondDisc := by
  obtain ⟨-, ⟨-, hbat, -⟩, -⟩ := ((f s).resendTrip s.seq.state).settleNotice_course
  rw [State.seqArrive, hbat, State.resendTrip]
  split
  exacts [(State.lowBatteryRequest_beyondDisc _).trans hf, hf]

/-! ## The means and the charge (R125, R130) -/

/-- BAT with the means of the second taken, and a new second begun (R125). -/
def Bat.means (v i : Option Int) (b : Bat) : Bat :=
  { b with
    voltSum := 0, voltCount := 0, ampSum := 0, ampCount := 0, secondLeft := Config.secondMs
    lastV := v.orElse (fun _ => b.lastV), lastI := i.orElse (fun _ => b.lastI) }

/-- The charge of a second at its mean current (R130). -/
def Bat.charged (r : BatteryRec) (i : Option Int) (b : Bat) : Bat :=
  match i with
  | none => b
  | some i =>
    { b with
      q := (clampInt 0 (qFull r) (b.q + chargeStep i)).toNat
      soc := socOf r (clampInt 0 (qFull r) (b.q + chargeStep i)).toNat }

/-- The state after the means, the charge and the fault condition of a second, where the charger's other
transitions begin (R126, log entry 17). -/
def State.assessed (v i : Option Int) (s : State) : State :=
  let s2 := (s.modBat (Bat.means v i)).chargeSecond i
  if v.isSome then s2.evalFault else s2

theorem State.secondMeans_eq (v i : Option Int) (s : State) :
    s.secondMeans v i = (s.assessed v i).chargerSecond v i := rfl

/-- R130: the charge moves by the mean current; the shed level follows it. -/
theorem State.chargeSecond_testOnly (i : Option Int) (s : State) :
    (s.modBat (Bat.charged s.store.battery i)).testOnly (s.chargeSecond i) := by
  cases i with
  | none => exact State.testOnly.refl _
  | some i =>
    exact State.testOnly.evalShed ⟨rfl, id⟩

theorem State.assessed_testOnly (v i : Option Int) (s : State) :
    (s.modBat fun b => (b.means v i).charged s.store.battery i).testOnly (s.assessed v i) := by
  have h := State.chargeSecond_testOnly i (s.modBat (Bat.means v i))
  dsimp only [State.assessed]
  split
  exacts [h.evalFault, h]

theorem allBut_assessed (v i : Option Int) (s : State) :
    AllBut (eventBlocks ++ [.bat, .sup]) s (s.assessed v i) := by
  dsimp only [State.assessed]
  split <;> simp [allBut_iff, eventBlocks]

theorem State.assessed_link (v i : Option Int) (s : State) :
    (s.assessed v i).slr.link = s.slr.link := by
  dsimp only [State.assessed]
  split <;> simp

/-! ## The charger at the end of a second (R126, R127, R131) -/

theorem State.dueCheck_undue (h : s.bat.due = none) : s.dueCheck = s := by
  simp [State.dueCheck, h]

theorem State.evalShed_present (h : s.bat.supply = true) : s.evalShed = s := by
  simp [State.evalShed, h]

theorem State.updateQ_present (h : s.bat.supply = true) (q : Nat) :
    s.updateQ q = (s.setQ q).profileSoc (socOf s.store.battery q) :=
  State.evalShed_present h

/-- R130: with the supply present, the charge of a second moves the charge alone. -/
theorem State.chargeSecond_present (h : s.bat.supply = true) (i : Option Int) :
    (s.chargeSecond i).bat = s.bat.charged s.store.battery i := by
  cases i with
  | none => rfl
  | some i => exact congrArg State.bat (State.updateQ_present h _)

/-- R127: an evaluation that finds no cause, the charger not in FAULT. -/
theorem State.evalFault_clear (hc : faultCause s.bat = none) (hf : s.bat.charger ≠ .fault) :
    s.evalFault = s.modBat (fun b => { b with fault := none }) := by
  cases hk : s.bat.charger <;> simp_all [State.evalFault]

/-- R127: an evaluation that finds a cause, the charger at work. -/
theorem State.evalFault_cause {c : FaultCause} (hc : faultCause s.bat = some c)
    (hk : s.bat.charger = .bulk ∨ s.bat.charger = .absorb ∨ s.bat.charger = .float) :
    s.evalFault = (s.modBat (fun b => { b with fault := some c })).enterFault := by
  rcases hk with hk | hk | hk <;> simp [State.evalFault, hk, hc]

@[simp] theorem State.enterFault_bat (s : State) : s.enterFault.bat =
    { s.bat with
      charger := .fault, absorbMs := none, rebulk := 0, recoveryLeft := none
      chgEn := false, chgVset := s.bat.floatSet, chgIlim := 0 } := by
  simp [State.enterFault, State.setCharger, State.chargerPins]

/-- The causes of a fault do not depend on the charge (R127). -/
theorem faultCause_charged (r : BatteryRec) (v i : Option Int) (b : Bat) :
    faultCause ((b.means v i).charged r i) =
      faultCause { b with lastV := v.orElse (fun _ => b.lastV) } := by
  cases i <;> rfl

@[simp] theorem Bat.charged_charger (r : BatteryRec) (b : Bat) :
    (b.charged r i).charger = b.charger := by
  cases i <;> rfl

/-- With the supply present and no fault condition, nothing but the charge precedes the charger's
transitions. -/
theorem State.assessed_clear (hs : s.bat.supply = true) (hk : s.bat.charger ≠ .fault)
    (hc : v.isSome = true → faultCause { s.bat with lastV := v.orElse (fun _ => s.bat.lastV) } = none) :
    ∃ f, (v.isSome = true → f = none) ∧ (s.assessed v i).bat =
      { (s.bat.means v i).charged s.store.battery i with fault := f } := by
  have hbat : ((s.modBat (Bat.means v i)).chargeSecond i).bat =
      (s.bat.means v i).charged s.store.battery i :=
    State.chargeSecond_present (s := s.modBat (Bat.means v i)) hs i
  simp only [State.assessed]
  by_cases hv : v.isSome = true
  · rw [if_pos hv, State.evalFault_clear (by rw [hbat, faultCause_charged, hc hv])
      (by rw [hbat, Bat.charged_charger]; exact hk)]
    exact ⟨none, fun _ => rfl, by rw [State.modBat_bat, hbat]⟩
  · rw [if_neg hv]
    exact ⟨_, fun h => absurd h hv, hbat⟩

/-! ### What the transitions leave -/

/-- What a second leaves of BAT but for its means: neither the charge nor the charger. -/
def Bat.clock (b : Bat) : Bat := { b.aside with q := 0, soc := 0, estimated := false }

theorem Bat.clock_of_aside {a b : Bat} (h : a.aside = b.aside) : a.clock = b.clock := by
  rw [Bat.clock, h]
  rfl

@[simp] theorem Bat.charged_clock (r : BatteryRec) (i : Option Int) (b : Bat) :
    (b.charged r i).clock = b.clock := by
  cases i <;> rfl

theorem State.dueCheck_aside (s : State) : s.dueCheck.bat.aside = s.bat.aside :=
  (State.testOnly.refl s).dueCheck.1

theorem State.chargerTo_aside (st : Charger) (s : State) :
    (s.chargerTo st).bat.aside = s.bat.aside :=
  (State.dueCheck_aside _).trans (s.setCharger_aside st)

theorem State.updateQ_clock (q : Nat) (s : State) : (s.updateQ q).bat.clock = s.bat.clock :=
  (Bat.clock_of_aside (State.testOnly.refl ((s.setQ q).profileSoc _)).evalShed.1).trans rfl

theorem State.enterFloat_aside (h : s.slr.link ≠ .up) : s.enterFloat.bat.aside = s.bat.aside := by
  have hl : (s.setCharger .float).slr.link ≠ .up := by simpa using h
  simp only [State.enterFloat, hl, if_false]
  exact (State.dueCheck_aside _).trans (s.setCharger_aside _)

theorem State.enterFloat_clock (s : State) : s.enterFloat.bat.clock = s.bat.clock := by
  have h1 := Bat.clock_of_aside (s.setCharger_aside .float)
  dsimp only [State.enterFloat]
  split
  · exact (Bat.clock_of_aside (State.dueCheck_aside _)).trans
      ((State.updateQ_clock _ _).trans h1)
  · exact (Bat.clock_of_aside (State.dueCheck_aside _)).trans h1

/-- R131: only a charger that leaves ABSORB with the link UP moves the charge again. -/
theorem State.chargerSecond_aside (h : s.bat.charger ≠ .absorb ∨ s.slr.link ≠ .up) :
    (s.chargerSecond v i).bat.aside = s.bat.aside := by
  cases hk : s.bat.charger <;> simp only [State.chargerSecond, hk]
  case absorb =>
    split
    exacts [State.enterFloat_aside (h.resolve_left (by simp [hk])), rfl]
  case bulk =>
    split
    exacts [State.chargerTo_aside _ _, rfl]
  case float =>
    split
    exacts [State.chargerTo_aside _ _, rfl]

theorem State.chargerSecond_clock (v i : Option Int) (s : State) :
    (s.chargerSecond v i).bat.clock = s.bat.clock := by
  by_cases hk : s.bat.charger = .absorb
  · simp only [State.chargerSecond, hk]
    split
    exacts [State.enterFloat_clock s, rfl]
  · exact Bat.clock_of_aside (State.chargerSecond_aside (.inl hk))

theorem State.secondMeans_clock (v i : Option Int) (s : State) :
    (s.secondMeans v i).bat.clock = (s.bat.means v i).clock := by
  rw [State.secondMeans_eq, State.chargerSecond_clock, Bat.clock_of_aside (s.assessed_testOnly v i).1]
  simp

/-- R130: the charge after a second, with no full charge at its end. -/
theorem State.secondMeans_aside (h : s.bat.charger ≠ .absorb ∨ s.slr.link ≠ .up) :
    (s.secondMeans v i).bat.aside = ((s.bat.means v i).charged s.store.battery i).aside := by
  obtain ⟨haside, habsorb⟩ := s.assessed_testOnly v i
  rw [State.secondMeans_eq, State.chargerSecond_aside, haside, State.modBat_bat]
  refine h.imp (fun hk ha => hk ?_) (fun hl => by rwa [State.assessed_link])
  simpa [Bat.means] using habsorb ha

/-! ### With the supply present -/

theorem State.setCharger_bulk (s : State) : (s.setCharger .bulk).bat =
    { s.bat with
      charger := .bulk, absorbMs := none, rebulk := 0, recoveryLeft := none
      chgEn := true, chgVset := s.bat.absorbSet, chgIlim := s.store.battery.bulkLimit } := by
  simp [State.setCharger, State.chargerPins]

theorem State.setCharger_absorb (s : State) : (s.setCharger .absorb).bat =
    { s.bat with
      charger := .absorb, absorbMs := some 0, rebulk := 0, recoveryLeft := none
      chgEn := true, chgVset := s.bat.absorbSet, chgIlim := s.store.battery.bulkLimit } := by
  simp [State.setCharger, State.chargerPins]

theorem State.setCharger_float (s : State) : (s.setCharger .float).bat =
    { s.bat with
      charger := .float, absorbMs := none, rebulk := 0, recoveryLeft := none
      chgEn := true, chgVset := s.bat.floatSet, chgIlim := s.store.battery.bulkLimit } := by
  simp [State.setCharger, State.chargerPins]

theorem State.chargerTo_undue (h : s.bat.due = none) (st : Charger) :
    s.chargerTo st = s.setCharger st :=
  State.dueCheck_undue (by cases st <;> exact h)

/-- R131: the charger comes into FLOAT; with the link UP the charge is full. -/
theorem State.enterFloat_present (hs : s.bat.supply = true) (hd : s.bat.due = none) :
    s.enterFloat.bat = if s.slr.link = .up then
        { (s.setCharger .float).bat with
          estimated := false, q := qFull s.store.battery
          soc := socOf s.store.battery (qFull s.store.battery) }
      else (s.setCharger .float).bat := by
  have hl : (s.setCharger .float).slr.link = s.slr.link := by simp
  simp only [State.enterFloat, hl]
  split
  · rw [State.updateQ_present (by exact hs), State.dueCheck_undue (by exact hd)]
    simp [State.setQ, State.profileSoc]
  · exact congrArg State.bat (State.dueCheck_undue hd)

end Sys2Proof.Machine
end

section
/-! The disconnect at the end of a battery second (R139, R140, R84), and the second as a whole: its
qualification, the low-battery trip request by the state of SEQ, and what every case leaves. -/

namespace Sys2Proof.Machine

-- The many short proofs would otherwise each hold a waiting thread.
set_option Elab.async false

variable {s t : State} {v i : Option Int}

/-! ## The qualification (R139) -/

/-- A second with its means, as its qualification and BAT's request end it. -/
def State.ended (v i : Option Int) (s : State) : State :=
  ((s.secondMeans v i).qualify v).sendIfPending (s.secondMeans v i).bat.disc

/-- The disconnect stands in `b` as in `a`. -/
def Bat.sameDisc (a b : Bat) : Prop :=
  b.supply = a.supply ∧ b.disc = a.disc ∧ b.discAction = a.discAction ∧ b.qualCount = a.qualCount ∧
  b.lvdOut = a.lvdOut

theorem State.secondMeans_sameDisc (v i : Option Int) (s : State) :
    s.bat.sameDisc (s.secondMeans v i).bat := by
  have h := s.secondMeans_clock v i
  exact ⟨(congrArg Bat.supply h :), (congrArg Bat.disc h :), (congrArg Bat.discAction h :),
    (congrArg Bat.qualCount h :), (congrArg Bat.lvdOut h :)⟩

theorem allBut_secondMeans (v i : Option Int) (s : State) :
    AllBut (eventBlocks ++ [.bat, .sup]) s (s.secondMeans v i) := by
  simp [allBut_iff, eventBlocks]

theorem qualifyCount_congr {a b : Bat} (h : b.qualCount = a.qualCount) (r : BatteryRec)
    (v : Option Int) : qualifyCount b r v = qualifyCount a r v := by
  cases v <;> simp [qualifyCount, h]

theorem qualifyCount_le (b : Bat) (r : BatteryRec) (v : Option Int) :
    qualifyCount b r v ≤ b.qualCount + 1 := by
  cases v with
  | none => exact Nat.le_succ _
  | some x =>
    simp only [qualifyCount]
    split <;> omega

theorem State.sendIfPending_other {before : Disconnect}
    (h : before ≠ .normal ∨ awaitsSeq s.bat = false) : s.sendIfPending before = s := by
  rcases h with h | h <;> simp [State.sendIfPending, h]

theorem awaitsSeq_normal {b : Bat} (h : b.disc = .normal) : awaitsSeq b = false := by
  simp [awaitsSeq, h]

/-- R139: no qualification with the supply present or a disconnect under way. -/
theorem State.ended_unqualified (h : s.bat.supply = true ∨ s.bat.disc ≠ .normal) :
    s.ended v i = s.secondMeans v i := by
  obtain ⟨hsup, hdisc, -⟩ := s.secondMeans_sameDisc v i
  have hq : (s.secondMeans v i).qualify v = s.secondMeans v i := by
    rcases h with h | h <;> simp [State.qualify, hsup, hdisc, h]
  rw [State.ended, hq, State.sendIfPending_other]
  by_cases hn : (s.secondMeans v i).bat.disc = .normal
  exacts [.inr (awaitsSeq_normal hn), .inl hn]

/-- R139: the count, while it stays below 60. -/
theorem State.ended_counts (hsup : s.bat.supply = false) (hdisc : s.bat.disc = .normal)
    (hn : qualifyCount s.bat s.store.battery v < 60) : s.ended v i =
      (s.secondMeans v i).modBat (fun b =>
        { b with qualCount := qualifyCount s.bat s.store.battery v }) := by
  obtain ⟨hsup', hdisc', -, hcount, -⟩ := s.secondMeans_sameDisc v i
  have hq := qualifyCount_congr hcount (s.secondMeans v i).store.battery v
  have hstore : (s.secondMeans v i).store = s.store := by simp
  rw [hstore] at hq
  have hqual : (s.secondMeans v i).qualify v = (s.secondMeans v i).modBat (fun b =>
      { b with qualCount := qualifyCount s.bat s.store.battery v }) := by
    simp only [State.qualify, hsup', hsup, hdisc', hdisc, hstore, hq, Config.qualSeconds, and_self,
      if_true]
    rw [if_neg (Nat.not_le.2 hn)]
  rw [State.ended, hqual, State.sendIfPending_other (.inr (awaitsSeq_normal ?_))]
  exact hdisc'.trans hdisc

/-- R139, R140: at the sixtieth second the disconnect qualifies. -/
theorem State.ended_qualified (hsup : s.bat.supply = false) (hdisc : s.bat.disc = .normal)
    (hn : 60 ≤ qualifyCount s.bat s.store.battery v) :
    s.ended v i = (s.secondMeans v i).enterPending.sendIfPending .normal := by
  obtain ⟨hsup', hdisc', -, hcount, -⟩ := s.secondMeans_sameDisc v i
  have hq := qualifyCount_congr hcount (s.secondMeans v i).store.battery v
  have hstore : (s.secondMeans v i).store = s.store := by simp
  rw [hstore] at hq
  rw [State.ended, hdisc', hdisc]
  simp only [State.qualify, hsup', hsup, hdisc', hdisc, hstore, hq, Config.qualSeconds, and_self,
    if_true]
  rw [if_pos hn]

/-- A disconnect that waits for SEQ (R139, R140). -/
def Bat.waits (b : Bat) : Bat :=
  { b with disc := .isPending, discAction := some .openFirst, qualCount := 60 }

/-- R139, R140: the disconnect waits for SEQ, and LVD_PENDING is recorded. -/
def State.waits (s : State) : State :=
  (s.modBat Bat.waits).emit (.lvdPending s.bat.lastV s.bat.soc .openFirst)

theorem State.enterPending_openFirst (h : s.store.battery.action = .openFirst) :
    s.enterPending = s.waits := by
  simp only [State.enterPending, h]
  rfl

theorem State.enterPending_hold (h : s.store.battery.action = .hold) : s.enterPending.bat =
    { s.bat with
      disc := .disconnected, discAction := some .hold, qualCount := 60, lvdOut := true } := by
  simp [State.enterPending, h, State.assertLvd, Config.qualSeconds]

@[simp] theorem State.waits_bat (s : State) : s.waits.bat = s.bat.waits := by
  simp [State.waits]

theorem State.waits_awaits (s : State) : awaitsSeq s.waits.bat = true := by
  simp [awaitsSeq, Bat.waits]

theorem allBut_waits (s : State) : AllBut (eventBlocks ++ [.bat]) s s.waits := by
  simp [State.waits, allBut_iff, eventBlocks]

/-- R139: with action HOLD the disconnect is made at once. -/
theorem State.ended_hold (hsup : s.bat.supply = false) (hdisc : s.bat.disc = .normal)
    (hact : s.store.battery.action = .hold) (hn : 60 ≤ qualifyCount s.bat s.store.battery v) :
    (s.ended v i).bat.disc = .disconnected ∧ (s.ended v i).bat.lvdOut = true := by
  have hb := State.enterPending_hold (s := s.secondMeans v i) (by simpa using hact)
  rw [State.ended_qualified hsup hdisc hn, State.sendIfPending_other]
  · simp [hb]
  · simp [hb, awaitsSeq]

/-- R139, R140: with action OPEN_FIRST SEQ takes the request. -/
theorem State.ended_openFirst (hsup : s.bat.supply = false) (hdisc : s.bat.disc = .normal)
    (hact : s.store.battery.action = .openFirst)
    (hn : 60 ≤ qualifyCount s.bat s.store.battery v) :
    s.ended v i = (s.secondMeans v i).waits.seqArrive State.lowBatteryRequest := by
  rw [State.ended_qualified hsup hdisc hn, State.enterPending_openFirst (by simpa using hact)]
  exact if_pos ⟨rfl, State.waits_awaits _⟩

/-! ## The request by the state of SEQ (R84, R140) -/

/-- In LOCKOUT and FAILED the disconnect is made at once. -/
theorem State.seqArrive_lowBattery_locked (hw : awaitsSeq s.bat = true)
    (hs : s.seq.state = .lockout ∨ s.seq.state = .failed) :
    let u := s.seqArrive State.lowBatteryRequest
    u.bat = { s.bat with disc := .disconnected, lvdOut := true } ∧ u.seq.state = s.seq.state ∧
    u.seq.lockReason = s.seq.lockReason ∧ u.drv = s.drv := by
  have hf : s.lowBatteryRequest = s.assertLvd := by
    rcases hs with hs | hs <;>
      simp [State.lowBatteryRequest, State.seqLowBattery, hs, State.tellBat, hw]
  obtain ⟨⟨hst, hreason, -⟩, ⟨hdrv, hbat, -⟩, -⟩ := s.assertLvd.settleNotice_course
  rw [State.seqArrive_notice (fun _ => .inl (by rw [hf]; rfl)), hf]
  exact ⟨hbat, hst, hreason, hdrv⟩

/-- In OPEN_INTERVAL and CLOSE_WAIT SEQ locks out, and the disconnect is made. -/
theorem State.seqArrive_lowBattery_open (hw : awaitsSeq s.bat = true)
    (hs : s.seq.state = .openInterval ∨ s.seq.state = .closeWait) :
    let u := s.seqArrive State.lowBatteryRequest
    u.bat.disc = .disconnected ∧ u.bat.lvdOut = true ∧ u.seq.state = .lockout ∧
    u.seq.lockReason = some .lowBattery ∧ u.seq.timer = none ∧ u.drv = s.drv := by
  have hlocked : (s.seqLockout .lowBattery).bat =
      { s.bat with disc := .disconnected, lvdOut := true } := by
    rw [State.seqLockout_bat, if_pos hw]
  have hf : s.lowBatteryRequest = s.seqLockout .lowBattery := by
    have htell : (s.seqLockout .lowBattery).tellBat = s.seqLockout .lowBattery := by
      simp [State.tellBat, hlocked, awaitsSeq]
    rcases hs with hs | hs <;> simpa [State.lowBatteryRequest, State.seqLowBattery, hs] using htell
  obtain ⟨hst, hreason, -, htime, hdrv, -⟩ := State.seqArrive_lockout hf
  obtain ⟨-, ⟨-, hbat, -⟩, -⟩ := (s.seqLockout .lowBattery).settleNotice_course
  have harr : (s.seqArrive State.lowBatteryRequest).bat =
      { s.bat with disc := .disconnected, lvdOut := true } := by
    rw [State.seqArrive_notice (by simp [hf]), hf, hbat, hlocked]
  exact ⟨by rw [harr], by rw [harr], hst, hreason, htime, hdrv⟩

/-- In TRIPPING the trip on its way becomes a low-battery trip. -/
theorem State.seqArrive_lowBattery_tripping (hs : s.seq.state = .tripping) :
    s.seqArrive State.lowBatteryRequest =
      (s.modSeq (fun q => { q with tripCause := some .lowBattery })).toldSettled false := by
  have hf : s.lowBatteryRequest = s.modSeq (fun q => { q with tripCause := some .lowBattery }) := by
    simp [State.lowBatteryRequest, State.seqLowBattery, hs, State.tellBat]
  rw [State.seqArrive_unsettled, hf] <;> simp [hf, hs, SeqState.unsettled]

/-- In READY, RECLAIM and CLOSING the drive trips, and the disconnect waits. -/
theorem State.seqArrive_lowBattery_trip (ha : tripAnswer s.drv = .accepted)
    (hs : s.seq.state = .ready ∨ s.seq.state = .reclaim ∨ s.seq.state = .closing) :
    let u := s.seqArrive State.lowBatteryRequest
    u.bat.aside = s.bat.aside ∧
    u.seq = { s.seq.entered .tripping with tripCause := some .lowBattery } ∧
    u.drv.state = .tripMain ∧ u.drv.coilMain = true := by
  obtain ⟨a, hplace⟩ : ∃ a, s.seqLowBattery = s.placeTrip .lowBattery a := by
    rcases hs with hs | hs | hs <;> exact ⟨_, by simp only [State.seqLowBattery, hs]; rfl⟩
  have hf := State.lowBatteryRequest_trip hplace ha
  obtain ⟨hseq, hdrv, hframe⟩ := State.announced_tripping .lowBattery a (s.drvTrip .lowBattery)
  obtain ⟨hst, hmain, -⟩ := State.drvTrip_trips ha .lowBattery
  have hbat := hframe .bat (by simp [eventBlocks])
  rw [State.seqArrive_unsettled, hf]
  · exact ⟨(congrArg Bat.aside hbat).trans (s.drvTrip_testOnly .lowBattery).1, by simp [hseq],
      by simp [hdrv, hst], by simp [hdrv, hmain]⟩
  · simp [hf, hseq, SeqState.unsettled]
  · simp [hf, hseq]

/-- In UNKNOWN the drive trips, and the restart trip mark keeps the cause. -/
theorem State.seqArrive_lowBattery_unknown (ha : tripAnswer s.drv = .accepted)
    (hs : s.seq.state = .unknown) :
    let u := s.seqArrive State.lowBatteryRequest
    u.bat.aside = s.bat.aside ∧ u.seq.state = .unknown ∧ u.seq.restartMark = some .lowBattery ∧
    u.drv.state = .tripMain ∧ u.drv.coilMain = true := by
  have hf : s.lowBatteryRequest =
      (s.drvTrip .lowBattery).modSeq (fun q => { q with restartMark := some .lowBattery }) := by
    simp [State.lowBatteryRequest, State.seqLowBattery, hs, State.seqTripUnknown, ha, State.tellBat]
  obtain ⟨hst, hmain, -⟩ := State.drvTrip_trips ha .lowBattery
  obtain ⟨⟨hstate, -, -, -, -, -, hmark⟩, ⟨hdrv, hbat, -⟩, -⟩ :=
    ((s.drvTrip .lowBattery).modSeq (fun q =>
      { q with restartMark := some .lowBattery })).settleNotice_course
  rw [State.seqArrive_notice (fun _ => .inl (by simp [hf])), hf]
  exact ⟨(congrArg Bat.aside hbat).trans (s.drvTrip_testOnly .lowBattery).1,
    hstate.trans (by simp [hs]), hmark, (congrArg Drv.state hdrv).trans hst,
    (congrArg Drv.coilMain hdrv).trans hmain⟩

/-! ## The second as a whole -/

/-- What the qualification and the request leave of BAT. -/
def Bat.apart (b : Bat) : Bat := { b.beyondDisc with discAction := none, qualCount := 0 }

theorem Bat.apart_of_beyondDisc {a b : Bat} (h : a.beyondDisc = b.beyondDisc) :
    a.apart = b.apart := by
  rw [Bat.apart, h]
  rfl

theorem State.qualify_apart (v : Option Int) (s : State) :
    (s.qualify v).bat.apart = s.bat.apart := by
  simp only [State.qualify, State.enterPending]
  (repeat' split) <;> simp [State.assertLvd, Bat.apart, Bat.beyondDisc, Bat.aside]

theorem State.ended_apart (v i : Option Int) (s : State) :
    (s.ended v i).bat.apart = (s.secondMeans v i).bat.apart := by
  simp only [State.ended, State.sendIfPending]
  split
  · exact (Bat.apart_of_beyondDisc
      (State.seqArrive_beyondDisc (State.lowBatteryRequest_beyondDisc _))).trans
      (State.qualify_apart v _)
  · exact State.qualify_apart v _

/-- R125: the means are taken and a new second begins. -/
theorem State.ended_means (v i : Option Int) (s : State) :
    let b := (s.ended v i).bat
    b.secondLeft = 1000 ∧ b.voltSum = 0 ∧ b.voltCount = 0 ∧ b.ampSum = 0 ∧ b.ampCount = 0 ∧
    b.lastV = v.orElse (fun _ => s.bat.lastV) ∧ b.lastI = i.orElse (fun _ => s.bat.lastI) := by
  have h1 := s.ended_apart v i
  have h2 := s.secondMeans_clock v i
  have hfield : ∀ {α : Type} (p : Bat → α), (∀ k : Bat, p k = p k.apart) →
      (∀ k : Bat, p k = p k.clock) → p (s.ended v i).bat = p (s.bat.means v i) := by
    intro α p hp hq
    rw [hp, h1, ← hp, hq, h2, ← hq]
  exact ⟨hfield Bat.secondLeft (fun _ => rfl) fun _ => rfl,
    hfield Bat.voltSum (fun _ => rfl) fun _ => rfl, hfield Bat.voltCount (fun _ => rfl) fun _ => rfl,
    hfield Bat.ampSum (fun _ => rfl) fun _ => rfl, hfield Bat.ampCount (fun _ => rfl) fun _ => rfl,
    hfield Bat.lastV (fun _ => rfl) fun _ => rfl, hfield Bat.lastI (fun _ => rfl) fun _ => rfl⟩

/-- R130: the charge after the second. -/
theorem State.ended_charge (h : s.bat.charger ≠ .absorb ∨ s.slr.link ≠ .up) :
    (s.ended v i).bat.q = (s.bat.charged s.store.battery i).q ∧
    (s.ended v i).bat.soc = (s.bat.charged s.store.battery i).soc := by
  have h1 := s.ended_apart v i
  have h2 := State.secondMeans_aside (v := v) (i := i) h
  have hq : (s.ended v i).bat.q = ((s.bat.means v i).charged s.store.battery i).q :=
    (congrArg Bat.q h1 :).trans (congrArg Bat.q h2 :)
  have hsoc : (s.ended v i).bat.soc = ((s.bat.means v i).charged s.store.battery i).soc :=
    (congrArg Bat.soc h1 :).trans (congrArg Bat.soc h2 :)
  rw [hq, hsoc]
  cases i <;> exact ⟨rfl, rfl⟩

/-- A second that sends no request leaves all but BAT, the arbiter and the events. -/
theorem allBut_ended_unsent (h : s.bat.supply = true ∨ s.bat.disc ≠ .normal ∨ s.bat.qualCount < 59) :
    AllBut (eventBlocks ++ [.bat, .sup]) s (s.ended v i) := by
  have hmeans := allBut_secondMeans v i s
  by_cases hq : s.bat.supply = true ∨ s.bat.disc ≠ .normal
  · rwa [State.ended_unqualified hq]
  · obtain ⟨hsup, hdisc⟩ := not_or.1 hq
    have hcount := (or_assoc.2 h).resolve_left hq
    have hle := qualifyCount_le s.bat s.store.battery v
    rw [State.ended_counts (by simpa using hsup) (not_not.1 hdisc) (by omega)]
    exact hmeans.trans (by simp [allBut_iff] : AllBut [.bat] _ _) (List.Subset.refl _) (by simp)

theorem allBut_ended (v i : Option Int) (s : State) :
    AllBut (eventBlocks ++ [.ele, .store, .sets, .seq, .drv, .bat, .sup]) s (s.ended v i) := by
  have hlku : (s.ended v i).lku = s.lku := by
    simp only [State.ended, State.sendIfPending]
    split
    · simp only [State.seqArrive, State.settleNotice_lku, State.resendTrip]
      split <;> simp
    · simp
  simp only [allBut_iff, eventBlocks, hlku]
  simp [State.ended]

end Sys2Proof.Machine
end

section
/-! O37: the charger at the end of a second with the supply present (R126, R127, R131), and the battery
second assembled. -/

namespace Sys2Proof.Machine

-- The many short proofs would otherwise each hold a waiting thread.
set_option Elab.async false

variable {s t : State} {v i : Option Int}

/-! ## The charger with the supply present (Table 7-3) -/

/-- The voltage that a second leaves as the last one. -/
def Bat.voltageAfter (v : Option Int) (b : Bat) : Bat :=
  { b with lastV := v.orElse (fun _ => b.lastV) }

/-- R127: a fault condition brings a charger at work to FAULT. -/
theorem State.ended_fault {x : Int} {c : FaultCause} (hsup : s.bat.supply = true)
    (hc : faultCause (s.bat.voltageAfter (some x)) = some c)
    (hk : s.bat.charger = .bulk ∨ s.bat.charger = .absorb ∨ s.bat.charger = .float) :
    let b := (s.ended (some x) i).bat
    b.charger = .fault ∧ b.fault = some c ∧ b.absorbMs = none ∧ b.recoveryLeft = none ∧
    b.chgEn = false ∧ b.chgIlim = 0 := by
  have hbat : ((s.modBat (Bat.means (some x) i)).chargeSecond i).bat =
      (s.bat.means (some x) i).charged s.store.battery i :=
    State.chargeSecond_present (s := s.modBat (Bat.means (some x) i)) hsup i
  have hfault := State.evalFault_cause (s := (s.modBat (Bat.means (some x) i)).chargeSecond i) (c := c)
    (by rw [hbat, faultCause_charged]; exact hc) (by rw [hbat, Bat.charged_charger]; exact hk)
  have hass : (s.assessed (some x) i).bat.charger = .fault := by simp [State.assessed, hfault]
  have hmeans : s.secondMeans (some x) i = s.assessed (some x) i := by
    simp [State.secondMeans_eq, State.chargerSecond, hass]
  rw [State.ended_unqualified (.inl hsup), hmeans]
  simp [State.assessed, hfault]

/-- What a second without a fault condition hands to the transitions of the charger. -/
structure State.Unfaulted (s t : State) (v : Option Int) : Prop where
  charger : t.bat.charger = s.bat.charger
  absorbMs : t.bat.absorbMs = s.bat.absorbMs
  rebulk : t.bat.rebulk = s.bat.rebulk
  fault : v.isSome = true → t.bat.fault = none
  supply : t.bat.supply = true
  due : t.bat.due = none
  absorbSet : t.bat.absorbSet = s.bat.absorbSet
  floatSet : t.bat.floatSet = s.bat.floatSet
  estimated : t.bat.estimated = s.bat.estimated
  link : t.slr.link = s.slr.link
  store : t.store = s.store

theorem State.assessed_unfaulted (hsup : s.bat.supply = true) (hdue : s.bat.due = none)
    (hk : s.bat.charger ≠ .fault)
    (hc : v.isSome = true → faultCause (s.bat.voltageAfter v) = none) :
    s.Unfaulted (s.assessed v i) v := by
  obtain ⟨f, hf, hbat⟩ := State.assessed_clear (i := i) hsup hk hc
  have hfields : ∀ b : Bat, (b.charged s.store.battery i).charger = b.charger ∧
      (b.charged s.store.battery i).absorbMs = b.absorbMs ∧
      (b.charged s.store.battery i).rebulk = b.rebulk ∧
      (b.charged s.store.battery i).supply = b.supply ∧ (b.charged s.store.battery i).due = b.due ∧
      (b.charged s.store.battery i).absorbSet = b.absorbSet ∧
      (b.charged s.store.battery i).floatSet = b.floatSet ∧
      (b.charged s.store.battery i).estimated = b.estimated := by
    intro b
    cases i <;> exact ⟨rfl, rfl, rfl, rfl, rfl, rfl, rfl, rfl⟩
  obtain ⟨h1, h2, h3, h4, h5, h6, h7, h8⟩ := hfields (s.bat.means v i)
  refine ⟨?_, ?_, ?_, fun hv => ?_, ?_, ?_, ?_, ?_, ?_, s.assessed_link v i,
    allBut_assessed v i s .store (by simp [eventBlocks])⟩ <;> rw [hbat]
  exacts [h1, h2, h3, hf hv, h4.trans hsup, h5.trans hdue, h6, h7, h8]

theorem State.ended_present (hsup : s.bat.supply = true) :
    s.ended v i = (s.assessed v i).chargerSecond v i := by
  rw [State.ended_unqualified (.inl hsup), State.secondMeans_eq]

/-- R126: BULK becomes ABSORB at the absorb setpoint. -/
theorem State.ended_bulk {x : Int} (hsup : s.bat.supply = true) (hdue : s.bat.due = none)
    (hc : faultCause (s.bat.voltageAfter (some x)) = none) (hk : s.bat.charger = .bulk) :
    let b := (s.ended (some x) i).bat
    b.fault = none ∧
    (s.bat.absorbSet ≤ x → b.charger = .absorb ∧ b.absorbMs = some 0 ∧ b.chgEn = true ∧
      b.chgVset = s.bat.absorbSet ∧ b.chgIlim = s.store.battery.bulkLimit) ∧
    (x < s.bat.absorbSet → b.charger = .bulk ∧ b.absorbMs = s.bat.absorbMs) := by
  have h := State.assessed_unfaulted (i := i) hsup hdue (by simp [hk]) (fun _ => hc)
  have hcharger := h.charger.trans hk
  have hfault := h.fault rfl
  rw [State.ended_present hsup]
  simp only [State.chargerSecond, hcharger, h.absorbSet, Option.any_some, decide_eq_true_eq]
  split
  · rename_i hx
    rw [State.chargerTo_undue h.due, State.setCharger_absorb]
    exact ⟨hfault, fun _ => ⟨rfl, rfl, rfl, h.absorbSet, by rw [h.store]⟩, fun hlt => by omega⟩
  · rename_i hx
    exact ⟨hfault, fun hle => absurd hle hx, fun _ => ⟨hcharger, h.absorbMs⟩⟩

/-- R126: BULK goes on through a second with no mean voltage. -/
theorem State.ended_bulk_silent (hsup : s.bat.supply = true) (hk : s.bat.charger = .bulk) :
    (s.ended none i).bat.charger = .bulk := by
  have hbat : (s.assessed none i).bat = (s.bat.means none i).charged s.store.battery i :=
    State.chargeSecond_present (s := s.modBat (Bat.means none i)) hsup i
  have hcharger : (s.assessed none i).bat.charger = .bulk := by
    rw [hbat, Bat.charged_charger]
    exact hk
  rw [State.ended_present hsup]
  simp [State.chargerSecond, hcharger]

/-- R126, R131: the tail current brings ABSORB to FLOAT, and with the link UP to a full charge. -/
theorem State.ended_absorb (hsup : s.bat.supply = true) (hdue : s.bat.due = none)
    (hc : v.isSome = true → faultCause (s.bat.voltageAfter v) = none) (hk : s.bat.charger = .absorb) :
    let b := (s.ended v i).bat
    (i.any (fun x : Int => decide (x < s.store.battery.tail)) = true →
      b.charger = .float ∧ b.absorbMs = none ∧ b.rebulk = 0 ∧ b.chgEn = true ∧
      b.chgVset = s.bat.floatSet ∧ b.chgIlim = s.store.battery.bulkLimit ∧
      (s.slr.link = .up → b.q = qFull s.store.battery ∧ b.estimated = false ∧
        b.soc = socOf s.store.battery (qFull s.store.battery)) ∧
      (s.slr.link ≠ .up → b.estimated = s.bat.estimated)) ∧
    (i.any (fun x : Int => decide (x < s.store.battery.tail)) = false →
      s.bat.absorbMs.any (fun m => decide (absorbLimit s.store.battery ≤ m)) = false →
      b.charger = .absorb ∧ b.absorbMs = s.bat.absorbMs) := by
  have h := State.assessed_unfaulted (i := i) hsup hdue (by simp [hk]) hc
  have hcharger := h.charger.trans hk
  rw [State.ended_present hsup]
  simp only [State.chargerSecond, hcharger, h.absorbMs, h.store]
  refine ⟨fun htail => ?_, fun htail hlimit => ?_⟩
  · have hfloat := State.enterFloat_present h.supply h.due
    rw [if_pos (by simp [htail]), hfloat, State.setCharger_float, h.link, h.store, h.floatSet]
    by_cases hl : s.slr.link = .up <;> simp [hl, h.estimated]
  · rw [if_neg (by simp [htail, hlimit])]
    exact ⟨hcharger, h.absorbMs⟩

/-- R126: a full rebulk count brings FLOAT to BULK. -/
theorem State.ended_float (hsup : s.bat.supply = true) (hdue : s.bat.due = none)
    (hc : v.isSome = true → faultCause (s.bat.voltageAfter v) = none) (hk : s.bat.charger = .float) :
    let b := (s.ended v i).bat
    (60 ≤ rebulkCount s.bat s.store.battery v →
      b.charger = .bulk ∧ b.absorbMs = none ∧ b.rebulk = 0 ∧ b.chgEn = true ∧
      b.chgVset = s.bat.absorbSet ∧ b.chgIlim = s.store.battery.bulkLimit) ∧
    (rebulkCount s.bat s.store.battery v < 60 →
      b.charger = .float ∧ b.rebulk = rebulkCount s.bat s.store.battery v) := by
  have h := State.assessed_unfaulted (i := i) hsup hdue (by simp [hk]) hc
  have hcharger := h.charger.trans hk
  have hcount : rebulkCount (s.assessed v i).bat (s.assessed v i).store.battery v =
      rebulkCount s.bat s.store.battery v := by
    cases v <;> simp [rebulkCount, h.rebulk, h.floatSet, h.store]
  rw [State.ended_present hsup]
  simp only [State.chargerSecond, hcharger, hcount, Config.qualSeconds]
  refine ⟨fun hn => ?_, fun hn => ?_⟩
  · rw [if_pos hn, State.chargerTo_undue h.due, State.setCharger_bulk]
    exact ⟨rfl, rfl, rfl, rfl, h.absorbSet, by rw [h.store]⟩
  · rw [if_neg (by omega)]
    exact ⟨hcharger, rfl⟩

/-! ## The disconnect (R139, R140, R84) -/

/-- A mean voltage below the disconnect voltage adds one to the count (R139). -/
theorem qualifyCount_low {b : Bat} {r : BatteryRec}
    (h : v.any (fun x : Int => decide (x < r.discV)) = true) :
    qualifyCount b r v = b.qualCount + 1 := by
  obtain ⟨x, rfl, hx⟩ := (Option.any_eq_true _ _).1 h
  simpa [qualifyCount] using hx

theorem qualifyCount_some {b : Bat} {r : BatteryRec} (h : v.isSome = true) :
    qualifyCount b r v =
      if v.any (fun x : Int => decide (x < r.discV)) = true then b.qualCount + 1 else 0 := by
  obtain ⟨x, rfl⟩ := Option.isSome_iff_exists.1 h
  simp [qualifyCount]

/-- R139: below the sixtieth second the count moves alone. -/
theorem State.ended_below (hsup : s.bat.supply = false) (hdisc : s.bat.disc = .normal)
    (hn : s.bat.qualCount < 59) (hv : v.isSome = true) :
    (s.ended v i).bat.disc = .normal ∧ (s.ended v i).seq = s.seq ∧
    (s.ended v i).bat.qualCount =
      (if v.any (fun x : Int => decide (x < s.store.battery.discV)) = true
        then s.bat.qualCount + 1 else 0) := by
  have hle := qualifyCount_le s.bat s.store.battery v
  obtain ⟨-, hdisc', -⟩ := s.secondMeans_sameDisc v i
  rw [State.ended_counts hsup hdisc (by omega), qualifyCount_some hv]
  exact ⟨hdisc'.trans hdisc, by simp, rfl⟩

/-- Without a mean current, and with the charger at rest as it is without the supply, a second records
nothing before its qualification. -/
theorem State.secondMeans_quiet (hk : s.bat.charger = .off ∨ s.bat.charger = .test) :
    ∃ b : Bat, s.secondMeans v none = s.modBat (fun _ => b) ∧
      b.lastV = v.orElse (fun _ => s.bat.lastV) ∧ b.soc = s.bat.soc := by
  have hass : ∃ f, s.assessed v none = s.modBat (fun b => { b.means v none with fault := f }) := by
    simp only [State.assessed, State.chargeSecond]
    split
    · refine ⟨faultCause (s.modBat (Bat.means v none)).bat, ?_⟩
      rcases hk with hk | hk <;> simp [State.evalFault, Bat.means, hk, State.modBat]
    · exact ⟨s.bat.fault, rfl⟩
  obtain ⟨f, hass⟩ := hass
  refine ⟨{ s.bat.means v none with fault := f }, ?_, rfl, rfl⟩
  have hmeans : s.secondMeans v none = s.assessed v none := by
    rw [State.secondMeans_eq, hass]
    rcases hk with hk | hk <;> simp [State.chargerSecond, Bat.means, hk]
  exact hmeans.trans hass

/-- R139: LVD_PENDING, where the second has recorded nothing before it. -/
theorem State.waits_emitted (hk : s.bat.charger = .off ∨ s.bat.charger = .test) :
    Emitted s (.lvdPending (v.orElse (fun _ => s.bat.lastV)) s.bat.soc .openFirst)
      (s.secondMeans v none).waits := by
  obtain ⟨b, hmeans, hlast, hsoc⟩ := State.secondMeans_quiet (v := v) hk
  have hwaits : (s.secondMeans v none).waits = ((s.modBat fun _ => b).modBat Bat.waits).emit
      (.lvdPending (v.orElse (fun _ => s.bat.lastV)) s.bat.soc .openFirst) := by
    rw [hmeans, ← hlast, ← hsoc]
    rfl
  rw [hwaits]
  exact emit_congr (s' := s) (s := (s.modBat fun _ => b).modBat Bat.waits) rfl rfl rfl rfl _

/-- R84, R139, R140: the sixtieth second with action OPEN_FIRST, by the state of SEQ. -/
theorem State.ended_by_seq (hsup : s.bat.supply = false) (hdisc : s.bat.disc = .normal)
    (hact : s.store.battery.action = .openFirst)
    (hn : 60 ≤ qualifyCount s.bat s.store.battery v) :
    let t := s.ended v i
    t.bat.discAction = some .openFirst ∧ t.bat.qualCount = 60 ∧
    (s.seq.state = .lockout ∨ s.seq.state = .failed →
      t.bat.disc = .disconnected ∧ t.bat.lvdOut = true ∧ t.seq.state = s.seq.state ∧
      t.seq.lockReason = s.seq.lockReason ∧ t.drv = s.drv) ∧
    (s.seq.state = .openInterval ∨ s.seq.state = .closeWait →
      t.bat.disc = .disconnected ∧ t.bat.lvdOut = true ∧ t.seq.state = .lockout ∧
      t.seq.lockReason = some .lowBattery ∧ t.seq.timer = none ∧ t.drv = s.drv) ∧
    (s.seq.state = .tripping →
      t.bat.disc = .isPending ∧ t.bat.lvdOut = s.bat.lvdOut ∧
      t.seq = { s.seq with tripCause := some .lowBattery } ∧ t.drv = s.drv ∧
      (i = none → s.bat.charger = .off ∨ s.bat.charger = .test →
        Emitted s (.lvdPending (v.orElse (fun _ => s.bat.lastV)) s.bat.soc .openFirst) t)) ∧
    (tripAnswer s.drv = .accepted →
      (s.seq.state = .ready ∨ s.seq.state = .reclaim ∨ s.seq.state = .closing →
        t.bat.disc = .isPending ∧ t.bat.lvdOut = s.bat.lvdOut ∧ t.seq.state = .tripping ∧
        t.seq.tripCause = some .lowBattery ∧ t.seq.shot = s.seq.shot ∧ t.seq.timer = none ∧
        t.drv.state = .tripMain ∧ t.drv.coilMain = true) ∧
      (s.seq.state = .unknown →
        t.bat.disc = .isPending ∧ t.bat.lvdOut = s.bat.lvdOut ∧ t.seq.state = .unknown ∧
        t.seq.restartMark = some .lowBattery ∧ t.drv.state = .tripMain ∧
        t.drv.coilMain = true)) := by
  intro t
  obtain ⟨-, -, -, -, hlvd⟩ := s.secondMeans_sameDisc v i
  have hmeans := (allBut_secondMeans v i s).trans (allBut_waits (s.secondMeans v i))
    (m := eventBlocks ++ [.bat, .sup]) (List.Subset.refl _) (by simp [eventBlocks])
  have ht : t = (s.secondMeans v i).waits.seqArrive State.lowBatteryRequest :=
    State.ended_openFirst hsup hdisc hact hn
  have hwait : (s.secondMeans v i).waits.bat.disc = .isPending ∧
      (s.secondMeans v i).waits.bat.lvdOut = s.bat.lvdOut ∧
      (s.secondMeans v i).waits.bat.discAction = some .openFirst ∧
      (s.secondMeans v i).waits.bat.qualCount = 60 := by simp [Bat.waits, hlvd]
  have hemitted : i = none → s.bat.charger = .off ∨ s.bat.charger = .test →
      Emitted s (.lvdPending (v.orElse (fun _ => s.bat.lastV)) s.bat.soc .openFirst)
        (s.secondMeans v i).waits := by
    rintro rfl hk
    exact State.waits_emitted hk
  have hw := (s.secondMeans v i).waits_awaits
  rw [ht]
  clear_value t
  generalize (s.secondMeans v i).waits = u at *
  obtain ⟨hpending, hout, haction, hcount⟩ := hwait
  have hseq : u.seq = s.seq := hmeans .seq (by simp [eventBlocks])
  have hdrv : u.drv = s.drv := hmeans .drv (by simp [eventBlocks])
  have hbeyond := State.seqArrive_beyondDisc (State.lowBatteryRequest_beyondDisc u)
  have hpends : ∀ k : Bat, k.aside = u.bat.aside →
      k.disc = .isPending ∧ k.lvdOut = s.bat.lvdOut := fun k hk =>
    ⟨(congrArg Bat.disc hk :).trans hpending, (congrArg Bat.lvdOut hk :).trans hout⟩
  rw [← hseq, ← hdrv]
  refine ⟨(congrArg Bat.discAction hbeyond :).trans haction,
    (congrArg Bat.qualCount hbeyond :).trans hcount, fun hs => ?_,
    fun hs => State.seqArrive_lowBattery_open hw hs, fun hs => ?_, fun ha => ⟨fun hs => ?_, fun hs => ?_⟩⟩
  · obtain ⟨hbat, hst, hreason, hd⟩ := State.seqArrive_lowBattery_locked hw hs
    exact ⟨by rw [hbat], by rw [hbat], hst, hreason, hd⟩
  · rw [State.seqArrive_lowBattery_tripping hs]
    exact ⟨hpending, hout, rfl, rfl, hemitted⟩
  · obtain ⟨hbat, hq, hst, hmain⟩ := State.seqArrive_lowBattery_trip ha hs
    obtain ⟨h1, h2⟩ := hpends _ hbat
    exact ⟨h1, h2, by simp [hq], by simp [hq], by simp [hq], by simp [hq, Seq.entered], hst, hmain⟩
  · obtain ⟨hbat, hst, hmark, hd, hmain⟩ := State.seqArrive_lowBattery_unknown ha hs
    obtain ⟨h1, h2⟩ := hpends _ hbat
    exact ⟨h1, h2, hst, hmark, hd, hmain⟩

/-- Settles O37: the means and the charge, the charger with the supply present, and the disconnect by the
action and by the state of SEQ. -/
theorem batterySecondEnds : Obligations.BatterySecondEnds := by
  intro s hrun v i lastV
  have hexec : exec .batterySecondEnd s = .next (s.ended v i).serve :=
    congrArg _ (whenRunning_running (f := State.secondEnd) hrun)
  clear_value v i
  obtain ⟨hleft, hvs, hvc, his, hic, hlv, hli⟩ := s.ended_means v i
  refine ⟨s.ended v i, hexec, hleft, hvs, hvc, his, hic, hlv, hli, fun h => ?_, fun x hx hsup hdue => ?_,
    fun hv hsup hk => ?_, fun hsup hdue hc => ⟨State.ended_absorb hsup hdue hc, fun hk => ?_⟩,
    fun ⟨hsup, hdisc, hact⟩ => ⟨fun hn hlow => ?_, fun hn hv => ?_⟩,
    fun ⟨hsup, hdisc, hact⟩ => ⟨fun hn hlow => ?_, fun hn hv => State.ended_below hsup hdisc hn hv⟩,
    fun hsup => ?_, allBut_ended_unsent, allBut_ended v i s⟩
  · obtain ⟨hq, hsoc⟩ := State.ended_charge (v := v) (i := i) h
    rw [hq, hsoc]
    cases i <;> simp [Bat.charged, chargeStep, socOf]
  · subst hx
    exact ⟨fun c => State.ended_fault hsup, State.ended_bulk hsup hdue⟩
  · rw [hv]
    exact State.ended_bulk_silent hsup hk
  · have h := State.ended_float (i := i) hsup hdue hc hk
    cases v <;> exact h
  · exact State.ended_hold hsup hdisc hact (by rw [qualifyCount_low hlow]; omega)
  · obtain ⟨hnormal, -, hcount⟩ := State.ended_below (i := i) hsup hdisc hn hv
    exact ⟨hnormal, hcount⟩
  · exact State.ended_by_seq hsup hdisc hact (by rw [qualifyCount_low hlow]; omega)
  · obtain ⟨-, hdisc, -⟩ := s.secondMeans_sameDisc v i
    rw [State.ended_unqualified (.inl hsup), hdisc]

end Sys2Proof.Machine
end

section
/-! The coils of the drive (R88 to R102, Table 5-1): the operations of DRV, each of which leaves the coil
of the state it leads to, and the operations of SEQ, which reach the drive by a request alone. -/

namespace Sys2Proof.Machine

-- The many short proofs would otherwise each hold a waiting thread.
set_option Elab.async false

variable {s t : State}

/-! ## Operations of SEQ and SET that give the drive no order -/

/-- R41, R55: the cleared result of a loading shows no operate flag, so that no trip follows it. -/
@[simp] theorem State.takeLive_drv (l : LiveSet) (s : State) : (s.takeLive l).drv = s.drv := by
  have hclear : ∀ u : State, (u.seqResult clearResult).drv = u.drv := by
    intro u
    cases hs : u.seq.state <;>
      simp [State.seqResult, hs, clearResult, noFlags, Flags4.any]
  simp only [State.takeLive, hclear]
  split <;> simp

@[simp] theorem State.applyLoad_drv (g : Option Nat) (c : SelCause) (r : Option Reply) (s : State) :
    (s.applyLoad g c r).drv = s.drv := by
  simp [State.applyLoad]

@[simp] theorem State.applyPending_drv (s : State) : s.applyPending.drv = s.drv := by
  dsimp only [State.applyPending]
  (repeat' split) <;> simp

@[simp] theorem State.applyIfSettled_drv (s : State) : s.applyIfSettled.drv = s.drv := by
  dsimp only [State.applyIfSettled]
  split <;> simp

@[simp] theorem State.setTagged_drv (s : State) : s.setTagged.drv = s.drv := by
  dsimp only [State.setTagged]
  (repeat' split) <;> simp

@[simp] theorem State.setUntagged_drv (s : State) : s.setUntagged.drv = s.drv := by
  dsimp only [State.setUntagged]
  (repeat' split) <;> simp

@[simp] theorem State.settleNotice_drv (s : State) : s.settleNotice.drv = s.drv := by
  obtain ⟨-, ⟨hdrv, -, -⟩, -⟩ := s.settleNotice_course
  exact hdrv

@[simp] theorem State.lowerRecharge_drv (s : State) :
    s.lowerRecharge.drv = { s.drv with recharge := false } := by
  dsimp only [State.lowerRecharge]
  split
  · simp
  · rename_i h
    rw [← Bool.eq_false_of_not_eq_true h]

/-! ## The law, coil by coil -/

/-- Whether the operation that a drive state goes with is a trip, where it has one (Table 5-1). -/
def DriveState.tripInFlight : DriveState → Option Bool
  | .idle => none
  | .tripMain => some true
  | .tripBackup => some true
  | .closeActive => some false
  | .halted => none

/-- R90, Table 5-1: a coil is energised in its own state alone, and an operation with its monitor is in
flight where the state has one. -/
structure State.CoilsAgree (s : State) : Prop where
  main : s.drv.coilMain = decide (s.drv.state = .tripMain)
  backup : s.drv.coilBackup = decide (s.drv.state = .tripBackup)
  close : s.drv.coilClose = decide (s.drv.state = .closeActive)
  op : s.drv.op.map isTrip = s.drv.state.tripInFlight
  monitor : s.drv.monitor.isSome = s.drv.state.tripInFlight.isSome

theorem State.coilsAgree_iff (s : State) : s.CoilsAgree ↔
    s.drv.coilMain = decide (s.drv.state = .tripMain) ∧
    s.drv.coilBackup = decide (s.drv.state = .tripBackup) ∧
    s.drv.coilClose = decide (s.drv.state = .closeActive) ∧
    s.drv.op.map isTrip = s.drv.state.tripInFlight ∧
    s.drv.monitor.isSome = s.drv.state.tripInFlight.isSome :=
  ⟨fun ⟨hmain, hbackup, hclose, hop, hmon⟩ => ⟨hmain, hbackup, hclose, hop, hmon⟩,
    fun ⟨hmain, hbackup, hclose, hop, hmon⟩ => ⟨hmain, hbackup, hclose, hop, hmon⟩⟩

theorem coilsLaw_iff (s : State) : CoilsLaw s ↔ s.CoilsAgree := by
  rw [State.coilsAgree_iff]
  cases hd : s.drv.state <;> cases hop : s.drv.op <;>
    simp [CoilsLaw, hd, hop, DriveState.tripInFlight]

/-- The state, the coils and the operation of the drive are the same, and its monitor runs as before. -/
def Drv.sameCoils (a b : Drv) : Prop :=
  a.state = b.state ∧ a.coilMain = b.coilMain ∧ a.coilBackup = b.coilBackup ∧
  a.coilClose = b.coilClose ∧ a.op = b.op ∧ a.monitor.isSome = b.monitor.isSome

namespace State.CoilsAgree

/-- What leaves the coils, the operation and the running of its monitor keeps the agreement. -/
theorem of_same (h : s.CoilsAgree) (hd : t.drv.sameCoils s.drv := by simp [Drv.sameCoils]) :
    t.CoilsAgree := by
  obtain ⟨hst, hmain, hbackup, hclose, hop, hmon⟩ := hd
  exact ⟨by rw [hmain, hst, h.main], by rw [hbackup, hst, h.backup], by rw [hclose, hst, h.close],
    by rw [hop, hst, h.op], by rw [hmon, hst, h.monitor]⟩

/-- R90: an ended operation leaves every coil dropped. -/
theorem of_endOp {st : DriveState} (hst : st = .idle ∨ st = .halted) (out : OpOutcome) (c : Coil)
    (s : State) : (s.endOp st out c).CoilsAgree := by
  rcases hst with rfl | rfl <;> exact ⟨rfl, rfl, rfl, rfl, rfl⟩

/-- R92, Table 5-1: a trip that starts energises the main coil alone. -/
theorem of_startTrip (c : TripCause) (s : State) : (s.startTrip c).CoilsAgree :=
  ⟨rfl, rfl, rfl, rfl, rfl⟩

theorem of_reset (h : s.drv = drvReset) : s.CoilsAgree := by
  constructor <;> rw [h] <;> rfl

/-! ## The drive (R90 to R104) -/

theorem raiseRecharge (h : s.CoilsAgree) : s.raiseRecharge.CoilsAgree := h.of_same

theorem drvCap (h : s.CoilsAgree) (v : Nat) (stale : Bool) : (s.drvCap v stale).CoilsAgree := by
  have hd : (s.drvCap v stale).drv.sameCoils s.drv := by
    dsimp only [State.drvCap]
    (repeat' split) <;> simp [Drv.sameCoils]
  exact h.of_same hd

/-- R91, R92, R99: a trip request starts a trip on the main coil, with the close coil dropped, or changes
no coil. -/
theorem drvTrip (h : s.CoilsAgree) (c : TripCause) : (s.drvTrip c).CoilsAgree := by
  dsimp only [State.drvTrip]
  split
  · split
    exacts [h.of_same, of_startTrip c s]
  · exact (of_startTrip c _).raiseRecharge
  all_goals exact h

/-- R97: a close request energises the close coil of an idle drive, or changes no coil. -/
theorem drvClose (h : s.CoilsAgree) (c : CloseCause) : (s.drvClose c).CoilsAgree := by
  dsimp only [State.drvClose]
  split
  · exact ⟨rfl, rfl, rfl, rfl, rfl⟩
  all_goals exact h

theorem abandonClose (h : s.CoilsAgree) (c : AbandonCause) : (s.abandonClose c).CoilsAgree := by
  dsimp only [State.abandonClose]
  split
  exacts [(of_endOp (.inl rfl) _ _ _).raiseRecharge, h]

theorem drvTripDone (s : State) : s.drvTripDone.CoilsAgree := by
  have hend := fun c => of_endOp (.inl rfl) .completed c s
  dsimp only [State.drvTripDone]
  split
  exacts [(hend .backup).of_same, hend .main]

/-- R94: the first period of a trip monitor leaves the main coil, or changes to the backup coil, with the
trip still in flight and its monitor running again. -/
theorem firstPeriod (h : s.CoilsAgree) (hd : s.drv.state = .tripMain) : s.firstPeriod.CoilsAgree := by
  obtain ⟨o, hop, htrip⟩ : ∃ o, s.drv.op = some o ∧ isTrip o = true := by
    simpa [hd, DriveState.tripInFlight] using h.op
  have hext : isTrip { o with extended := true } = true := htrip
  rw [State.coilsAgree_iff]
  dsimp only [State.firstPeriod]
  split
  · simp [State.snapFailure, DriveState.tripInFlight, hd, h.main, h.backup, h.close, hop, hext]
  · simp [State.snapFailure, DriveState.tripInFlight, Drv.energise, Drv.dropCoils, hop, htrip]

/-- R102: a restore finds the drive at rest, and leaves it so. -/
theorem drvRestore (h : s.CoilsAgree) (hd : s.drv.state = .idle ∨ s.drv.state = .halted) :
    s.drvRestore.CoilsAgree := by
  rw [State.coilsAgree_iff] at h ⊢
  rcases hd with hd | hd <;> simpa [State.drvRestore, DriveState.tripInFlight, hd] using h

/-! ## Requests of SEQ (R69 to R74, R80 to R84) -/

theorem placeTrip (h : s.CoilsAgree) (c : TripCause) (announce : Option Flags4) :
    (s.placeTrip c announce).CoilsAgree := by
  by_cases ha : tripAnswer s.drv = .refused
  · simpa [State.placeTrip, ha] using h
  · have h1 : (((s.drvTrip c).tripping c).announced c announce).CoilsAgree := by
      obtain ⟨-, hdrv, -⟩ := State.announced_tripping c announce (s.drvTrip c)
      exact (h.drvTrip c).of_same (by simp [Drv.sameCoils, hdrv])
    rw [State.placeTrip_eq ha]
    split
    exacts [h1.of_same, h1]

theorem seqProtect (h : s.CoilsAgree) : s.seqProtect.CoilsAgree := by
  dsimp only [State.seqProtect]
  split
  exacts [h, placeTrip h.of_same _ _]

theorem seqTripUnknown (h : s.CoilsAgree) (c : TripCause) (m : RestartMark) :
    (s.seqTripUnknown c m).CoilsAgree := by
  dsimp only [State.seqTripUnknown]
  split
  exacts [(h.drvTrip c).of_same, h]

theorem seqTripCommand (h : s.CoilsAgree) : s.seqTripCommand.CoilsAgree := by
  dsimp only [State.seqTripCommand]
  split
  exacts [h.placeTrip _ _, h.placeTrip _ _, h.placeTrip _ _, h.of_same, h.of_same, h, h,
    h.seqTripUnknown _ _, h]

theorem lowBatteryRequest (h : s.CoilsAgree) : s.lowBatteryRequest.CoilsAgree := by
  have h1 : s.seqLowBattery.CoilsAgree := by
    dsimp only [State.seqLowBattery]
    split
    exacts [h.placeTrip _ _, h.placeTrip _ _, h.placeTrip _ _, h.of_same, h.of_same, h.of_same,
      h.seqTripUnknown _ _, h, h]
  exact h1.of_same (by simp [State.lowBatteryRequest, Drv.sameCoils])

theorem placeClose (h : s.CoilsAgree) (c : CloseCause) (ans : CloseAnswer) :
    (s.placeClose c ans).CoilsAgree := by
  dsimp only [State.placeClose]
  split <;> exact (h.drvClose c).of_same

theorem checkClose (h : s.CoilsAgree) : s.checkClose.CoilsAgree := by
  dsimp only [State.checkClose]
  split
  · split
    exacts [h.placeClose _ _, h.placeClose _ _, h, h]
  · exact h

theorem seqCloseWait (h : s.CoilsAgree) : s.seqCloseWait.CoilsAgree := checkClose h.of_same

theorem seqCloseCommand (h : s.CoilsAgree) : s.seqCloseCommand.CoilsAgree := by
  dsimp only [State.seqCloseCommand]
  split
  exacts [placeClose h.of_same _ _, h]

/-! ## Results, deliveries and views that reach SEQ (R65 to R82) -/

theorem seqTakeResult (h : s.CoilsAgree) (r : ElemResult) : (s.seqTakeResult r).CoilsAgree := by
  have h1 : (s.seqResult r).CoilsAgree := by
    dsimp only [State.seqResult]
    split
    case h_1 =>
      split
      exacts [seqProtect h.of_same, h.of_same]
    case h_2 =>
      split
      exacts [seqProtect h.of_same, h.of_same]
    all_goals exact h.of_same
  dsimp only [State.seqTakeResult]
  split
  exacts [h1.checkClose, h1]

theorem seqView (h : s.CoilsAgree) (f : Seq → Seq) : (s.seqView f).CoilsAgree := by
  dsimp only [State.seqView]
  split
  exacts [h.of_same, checkClose h.of_same]

theorem elePosition (h : s.CoilsAgree) (d : Delivery) : (s.elePosition d).CoilsAgree := by
  dsimp only [State.elePosition]
  split
  exacts [seqTakeResult h.of_same _, h.of_same]

theorem seqDelivery (h : s.CoilsAgree) (d : Delivery) : (s.seqDelivery d).CoilsAgree := by
  have h1 : ((s.modSeq (deliveryViews d)).elePosition d).CoilsAgree := elePosition h.of_same d
  dsimp only [State.seqDelivery]
  (repeat' split)
  exacts [checkClose h1.of_same, checkClose h1.of_same, h1.of_same, h1.of_same]

theorem seqTags (h : s.CoilsAgree) (present noClose : Bool) :
    (s.seqTags present noClose).CoilsAgree := by
  have hno : ∀ u : State, u.CoilsAgree → u.seqNoClose.CoilsAgree := by
    intro u hu
    dsimp only [State.seqNoClose]
    split
    exacts [(hu.abandonClose .noClose).of_same, hu.of_same, hu.of_same, hu, hu, hu, hu, hu, hu]
  dsimp only [State.seqTags]
  (repeat' split)
  exacts [hno _ h.of_same, h.of_same, checkClose h.of_same]

/-- At the end of an arrival the drive may still take BAT's request (R140). -/
theorem seqArrive {f : State → State} (h : (f s).CoilsAgree) : (s.seqArrive f).CoilsAgree := by
  have h1 : ((f s).resendTrip s.seq.state).CoilsAgree := by
    dsimp only [State.resendTrip]
    split
    exacts [h.lowBatteryRequest, h]
  exact h1.of_same (by simp [State.seqArrive, Drv.sameCoils])

end State.CoilsAgree

end Sys2Proof.Machine
end

section
/-! The coils of the drive through the rows: what a row does to another block leaves them, and what it
brings to DRV or SEQ keeps their agreement with the drive state. -/

namespace Sys2Proof.Machine

-- The many short proofs would otherwise each hold a waiting thread.
set_option Elab.async false

variable {s t : State}

/-- The kinds of command whose owner is DRV, or hands DRV a request (R80, R81, R102), or resets the part
(R188). -/
def CmdKind.reachesDrive : CmdKind → Bool
  | .trip | .close | .driveRestore | .restart => true
  | _ => false

/-- Every other command leaves the drive. -/
theorem bodyOf_drv {k : Option CmdKind} (hk : k.any CmdKind.reachesDrive = false) (e : IntakeEntry)
    (r : Option Reply) (s : State) : (bodyOf k e r s).drv = s.drv := by
  rcases k with _ | k
  · simp [bodyOf, bodyUnknown]
  · cases k
    case trip | close | driveRestore | restart => simp [CmdKind.reachesDrive] at hk
    all_goals
      dsimp only [bodyOf, bodyReadStatus, bodyReadTable, bodySelectGroup, bodySetTime,
        bodySampleForward, bodyPlaceTag, bodyRemoveTag, bodyTestStart, bodyTestCancel, bodyWriteCurve,
        bodyClearCurve, bodyWriteGroup, bodyWriteDevice, bodyWriteBattery, bodyWriteRadio,
        bodyWriteAreas, bodyFlushClass, bodyWriteGates]
      (repeat' split) <;> simp

/-- R190: every reset leaves DRV at its reset values. -/
theorem State.resetAs_drv (c : ResetCause) (s : State) : (s.resetAs c).drv = drvReset := by
  simp [State.resetAs, State.startPart, State.resetBlocks]

namespace State.CoilsAgree

/-! ## The drive (R93 to R98) -/

theorem drvConfirm (h : s.CoilsAgree) (news : Bool) (d : Delivery) :
    (s.drvConfirm news d).CoilsAgree := by
  have htrip : s.drvTripDone.seqTripDone.CoilsAgree := (drvTripDone s).of_same
  have hdone : s.drvCloseDone.CoilsAgree := of_endOp (.inl rfl) _ _ _
  have hclose : s.drvCloseDone.seqCloseDone.CoilsAgree := hdone.of_same
  dsimp only [State.drvConfirm]
  (repeat' split)
  exacts [(seqArrive htrip).raiseRecharge, (seqArrive hclose).raiseRecharge, h]

theorem drvDelivery (h : s.CoilsAgree) (d : Delivery) : (s.drvDelivery d).CoilsAgree := by
  have h1 : (s.drvViews d).CoilsAgree := h.of_same (by simp [State.drvViews, Drv.sameCoils])
  dsimp only [State.drvDelivery]
  refine drvConfirm ?_ _ _
  split
  exacts [h1.abandonClose _, h1]

theorem tripMonitorEnd (h : s.CoilsAgree) : s.tripMonitorEnd.CoilsAgree := by
  have hdrive : s.drvHalt.CoilsAgree := of_endOp (.inr rfl) _ _ _
  have hhalt : s.drvHalt.seqHalted.CoilsAgree := hdrive.of_same
  dsimp only [State.tripMonitorEnd]
  split
  · exact h
  · split
    case h_1 hd =>
      split
      exacts [(seqArrive hhalt).raiseRecharge, h.firstPeriod hd]
    case h_2 => exact (seqArrive hhalt).raiseRecharge
    all_goals exact h

theorem closeMonitorEnd (h : s.CoilsAgree) : s.closeMonitorEnd.CoilsAgree := by
  have hdrive : s.drvCloseFail.CoilsAgree := of_endOp (.inl rfl) _ _ _
  have hfail : s.drvCloseFail.seqCloseFailed.CoilsAgree := hdrive.of_same
  dsimp only [State.closeMonitorEnd]
  split
  exacts [(seqArrive hfail).raiseRecharge, h]

/-! ## The sensor link (R1 to R20) -/

theorem modSlr (h : s.CoilsAgree) (f : Slr → Slr) : (s.modSlr f).CoilsAgree := h.of_same

theorem deliver (h : s.CoilsAgree) : s.deliver.CoilsAgree := by
  have hlku : ∀ (d : Delivery) (u : State), u.CoilsAgree → (u.lkuHandle d).CoilsAgree :=
    fun _ _ hu => hu.of_same
  dsimp only [State.deliver]
  refine hlku _ _ ?_
  split
  exacts [seqArrive ((h.drvDelivery _).seqDelivery _), (seqArrive (h.seqDelivery _)).drvDelivery _]

theorem eStep (h : s.CoilsAgree) : s.eStep.CoilsAgree := by
  have h1 : ((s.modMeu (measure s.sets.live.grp)).modEle
      (eleStep s.sets.live (measure s.sets.live.grp s.meu).mags)).CoilsAgree := h.of_same
  have h2 := seqArrive (h1.seqTakeResult (stepResult s.ele
    (eleStep s.sets.live (measure s.sets.live.grp s.meu).mags s.ele)))
  have hprof : ∀ (m : Nat) (u : State), u.CoilsAgree → (u.profileStep m).CoilsAgree :=
    fun _ _ hu => hu.of_same
  dsimp only [State.eStep]
  refine hprof _ _ ?_
  split
  exacts [h2, seqArrive (h2.seqView _)]

theorem stepAndDeliver (h : s.CoilsAgree) (estep delivery : Bool) :
    (s.stepAndDeliver estep delivery).CoilsAgree := by
  dsimp only [State.stepAndDeliver]
  cases estep <;> cases delivery <;> split
  exacts [h, h, h.deliver, h.deliver, h.eStep, h.eStep, h.deliver.eStep, h.eStep.deliver]

theorem missingSlot (h : s.CoilsAgree) : s.missingSlot.CoilsAgree := by
  have hlost : ∀ e, (s.countMissing.loseLink.emit e).CoilsAgree := fun e => h.of_same
  dsimp only [State.missingSlot]
  (repeat' split)
  exacts [(hlost _).deliver, stepAndDeliver h.of_same _ _, hlost _, stepAndDeliver h.of_same _ _,
    h.of_same, h.of_same]

theorem missingSlots (h : s.CoilsAgree) (n : Nat) : (s.missingSlots n).CoilsAgree := by
  induction n generalizing s with
  | zero => exact h
  | succ n ih => exact ih h.missingSlot

theorem linkUpNotices (h : s.CoilsAgree) (before : Link) : (s.linkUpNotices before).CoilsAgree := by
  have hup : ∀ u : State, u.CoilsAgree →
      (u.updateSetpoints.seqArrive State.seqLinkUp).CoilsAgree := by
    intro u hu
    have h1 : u.updateSetpoints.CoilsAgree := hu.of_same
    exact seqArrive (h1.seqView _)
  dsimp only [State.linkUpNotices]
  (repeat' split)
  exacts [hup _ h, hup _ h.of_same, h]

theorem accepted (h : s.CoilsAgree) (f : SampleFrame) : (s.accepted f).CoilsAgree := by
  have h1 : (s.goodLink f).CoilsAgree := h.of_same
  have h2 := (h1.linkUpNotices s.slr.link).drvCap f.cap
  exact (seqArrive ((h2 _).seqView _)).modSlr _

theorem goodSlot (h : s.CoilsAgree) (f : SampleFrame) : (s.goodSlot f).CoilsAgree := by
  rw [State.goodSlot_eq]
  exact ((h.accepted f).stepAndDeliver (s.stepsAt f) (s.delivers f)).of_same

theorem sampleReceived (h : s.CoilsAgree) (bytes : List Byte) :
    (s.sampleReceived bytes).CoilsAgree := by
  have h0 : s.restartSilence.CoilsAgree := h.of_same
  have h1 : (s.restartSilence.accountSeq (decodeSample bytes).seqNo).CoilsAgree :=
    (h0.missingSlots _).modSlr _
  dsimp only [State.sampleReceived]
  (repeat' split)
  exacts [h1.missingSlot, h1.goodSlot _, missingSlot h.of_same]

/-! ## Timers of SEQ and BAT's request -/

theorem seqExpiry (h : s.CoilsAgree) (k : SeqTimerKind) {f : State → State}
    (hf : (f s).CoilsAgree) : (s.seqExpiry k f).CoilsAgree := by
  dsimp only [State.seqExpiry]
  split
  exacts [seqArrive hf, h]

theorem secondEnd (h : s.CoilsAgree) : s.secondEnd.CoilsAgree := by
  have h1 : ((s.secondMeans (meanOf s.bat.voltSum s.bat.voltCount)
      (meanOf s.bat.ampSum s.bat.ampCount)).qualify
        (meanOf s.bat.voltSum s.bat.voltCount)).CoilsAgree := h.of_same
  dsimp only [State.secondEnd, State.sendIfPending]
  split
  exacts [seqArrive h1.lowBatteryRequest, h1]

/-! ## The durable store (R51, R52, R109) -/

theorem tagsStored (h : s.CoilsAgree) (cs : List TagChange) : (s.tagsStored cs).CoilsAgree := by
  have hset : ∀ (now before : List Tag) (u : State), u.CoilsAgree →
      (if anyTag before = anyTag now then u
        else if anyTag now then u.setTagged else u.setUntagged).CoilsAgree := by
    intro now before u hu
    (repeat' split)
    exacts [hu, hu.of_same, hu.of_same]
  have hseq : ∀ (now before : List Tag) (u : State), u.CoilsAgree →
      (if anyTag before = anyTag now ∧ anyNoClose before = anyNoClose now then u
        else u.seqArrive (State.seqTags (anyTag now) (anyNoClose now))).CoilsAgree := by
    intro now before u hu
    split
    exacts [hu, seqArrive (hu.seqTags _ _)]
  have h1 : (s.effectTags cs).CoilsAgree := h.of_same
  have h2 : ((s.effectTags cs).tagNotices s.lku.inForce).CoilsAgree := by
    dsimp only [State.tagNotices]
    split
    exacts [hseq _ _ _ (hset _ _ _ h1), hset _ _ _ (hseq _ _ _ h1)]
  exact h2.of_same (by simp [State.tagsStored, Drv.sameCoils])

theorem storeFree (h : s.CoilsAgree) : s.storeFree.CoilsAgree := h.of_same

theorem storeComplete (h : s.CoilsAgree) : s.storeComplete.CoilsAgree := by
  have hdone : ∀ (b : StoreBody) (r : Option Reply), (s.completeStore b r).CoilsAgree := by
    intro b r
    cases b with
    | tags ts cs => exact h.tagsStored cs
    | _ => exact h.of_same (by simp [State.completeStore, Drv.sameCoils])
  dsimp only [State.storeComplete]
  split
  exacts [h, (hdone _ _).storeFree]

/-! ## The clock (R187) -/

theorem countMs (h : s.CoilsAgree) (k : Nat) : (s.countMs k).CoilsAgree :=
  h.of_same (by simp [State.countMs, lessBy, Drv.sameCoils])

theorem tick (h : s.CoilsAgree) : s.tick.CoilsAgree := by
  have h1 : (s.countTicks 1).CoilsAgree := h.of_same
  dsimp only [State.tick]
  split
  exacts [h1.of_same, (h1.countMs 1).of_same]

theorem partSecond (h : s.CoilsAgree) : s.partSecond.CoilsAgree := by
  have h1 : (s.elapse (1000 - s.fcu.time.ms)).CoilsAgree := countMs h.of_same _
  have hpower : ∀ u : State, u.CoilsAgree →
      (u.modFcu (fun f => { f with secondTick := false })).rpcPower.CoilsAgree := fun _ hu => hu.of_same
  dsimp only [State.partSecond]
  refine hpower _ ?_
  split
  exacts [h, h1]

/-! ## The execution of commands (R183) -/

/-- What the owner of a command does with it: TRIP, CLOSE, DRIVE_RESTORE and RESTART reach the drive. -/
theorem body (h : s.CoilsAgree) (k : Option CmdKind) (e : IntakeEntry) (r : Option Reply) :
    (bodyOf k e r s).CoilsAgree := by
  cases hk : k.any CmdKind.reachesDrive with
  | false => exact h.of_same (by simp [bodyOf_drv hk, Drv.sameCoils])
  | true =>
    match k, hk with
    | some .trip, _ =>
      dsimp only [bodyOf, bodyTrip]
      split
      exacts [(seqArrive h.seqTripCommand).of_same, h.of_same]
    | some .close, _ =>
      dsimp only [bodyOf, bodyClose]
      split
      exacts [(seqArrive h.seqCloseCommand).of_same, h.of_same]
    | some .driveRestore, _ =>
      dsimp only [bodyOf, bodyDriveRestore]
      split
      · exact h.of_same
      · split
        case h_1 hd =>
          have h1 : s.drvRestore.seqRestored.CoilsAgree := (h.drvRestore (.inr hd)).of_same
          exact (seqArrive h1).of_same
        case h_2 hd => exact (h.drvRestore (.inl hd)).of_same
        all_goals exact h.of_same
    | some .restart, _ =>
      dsimp only [bodyOf, bodyRestart]
      (repeat' split)
      exacts [h.of_same, of_reset (s.resetAs_drv _), h.of_same]

theorem serve (h : s.CoilsAgree) : s.serve.CoilsAgree := by
  refine State.serve_ind (fun u e rest hi _ hu => ?_) h
  have hb : (u.begun e).CoilsAgree := hu.of_same
  rw [State.executeHead_eq hi]
  split
  exacts [hb.of_same, hb.body _ _ _]

/-! ## Rows and steps -/

theorem whenRunning (h : s.CoilsAgree) {f : State → State} (hf : (f s).CoilsAgree) :
    (Machine.whenRunning f s).CoilsAgree := by
  dsimp only [Machine.whenRunning]
  split
  exacts [hf.serve, h]

/-- A row that follows an input line in every run state (R189). -/
theorem edge (h : s.CoilsAgree) {f : State → State} (hf : (f s).CoilsAgree) (g : Lines → Lines) :
    (if s.part.run = .running then (f s).serve else s.modLines g).CoilsAgree := by
  split
  exacts [hf.serve, h.of_same]

theorem rxBytes (h : s.CoilsAgree) (p : Port) (bs : List Byte) : (s.rxBytes p bs).CoilsAgree := by
  induction bs generalizing s with
  | nil => exact h
  | cons b bs ih =>
    have h1 : (s.setRx p ((s.fcu.rx p).take b).1).CoilsAgree := h.of_same
    refine ih ?_
    dsimp only [State.rxByte]
    split
    exacts [h1, serve h1.of_same]

theorem resetTaken (h : s.CoilsAgree) : s.resetTaken.CoilsAgree := by
  dsimp only [State.resetTaken]
  split
  exacts [of_reset rfl, h]

theorem resetReleased (h : s.CoilsAgree) : s.resetReleased.CoilsAgree := by
  dsimp only [State.resetReleased]
  split
  exacts [of_reset (State.resetAs_drv _ _), h.of_same]

theorem exec (h : s.CoilsAgree) (c : Instr) : ∃ t, exec c s = .next t ∧ t.CoilsAgree := by
  cases c with
  | sampleFrameReceived bytes => exact ⟨_, rfl, h.whenRunning (h.sampleReceived bytes)⟩
  | silenceTimerExpiry => exact ⟨_, rfl, h.whenRunning (missingSlot h.of_same)⟩
  | openIntervalExpiry => exact ⟨_, rfl, h.whenRunning (h.seqExpiry _ h.seqCloseWait)⟩
  | closeWaitExpiry => exact ⟨_, rfl, h.whenRunning (h.seqExpiry _ h.of_same)⟩
  | reclaimExpiry => exact ⟨_, rfl, h.whenRunning (h.seqExpiry _ h.of_same)⟩
  | tripMonitorExpiry => exact ⟨_, rfl, h.whenRunning h.tripMonitorEnd⟩
  | closeMonitorExpiry => exact ⟨_, rfl, h.whenRunning h.closeMonitorEnd⟩
  | storeOperationComplete => exact ⟨_, rfl, h.whenRunning h.storeComplete⟩
  | batterySecondEnd => exact ⟨_, rfl, h.whenRunning h.secondEnd⟩
  | stationFrameReceived port bytes => exact ⟨_, rfl, h.whenRunning (h.rxBytes port bytes)⟩
  | partTimeSecond => exact ⟨_, rfl, h.whenRunning h.partSecond⟩
  | resetLine => exact ⟨_, rfl, h.resetTaken⟩
  | resetInRelease => exact ⟨_, rfl, h.resetReleased⟩
  | powerOn => exact ⟨_, rfl, of_reset (State.resetAs_drv _ _)⟩
  | resetInAsserted => exact ⟨_, rfl, h.of_same (t := s.resetAsserted)⟩
  | powerLoss => exact ⟨_, rfl, of_reset rfl⟩
  | supplyPresentEdge level => exact ⟨_, rfl, h.edge (f := State.supplyEdge level) h.of_same _⟩
  | modemReadyChange level => exact ⟨_, rfl, h.edge (f := State.modemChange level) h.of_same _⟩
  | carrierDetChange level => exact ⟨_, rfl, h.edge (f := State.carrierChange level) h.of_same _⟩
  | frameByteGapTimeout port =>
    refine ⟨_, rfl, h.whenRunning ?_⟩
    dsimp only [State.byteGap]
    split <;> exact h.of_same
  | frameLengthExceeded port =>
    exact ⟨_, rfl, h.whenRunning (h.of_same (by simp [State.lengthExceeded, Drv.sameCoils]))⟩
  | tagExpiryCountdownEnd | supplyChangeTaken | absorbTimeLimitReached | faultRecoveryExpiry
  | testIntervalElapse | testRetryExpiry | settleEnd | loadEnd | gatherWindowExpiry | profileHourEnd
  | poll | responseWindowExpiry | keyUpDelayExpiry | radioFrameSent | holdoffExpiry | confirmTimeout
  | localFrameSent => exact ⟨_, rfl, h.whenRunning h.of_same⟩
  | _ =>
    exact ⟨_, rfl, h.whenRunning (f := State.offerRow _)
      (h.of_same (by simp [State.offerRow, Drv.sameCoils]))⟩

/-- Every step keeps the agreement. -/
theorem kept : Kept State.CoilsAgree := by
  intro s t h ht
  simp only [step] at ht
  split at ht
  · simp only [idle] at ht
    split at ht
    · obtain ⟨u, hu, hagree⟩ := h.exec _
      obtain rfl : u = t := Host.Outcome.next.inj (hu.symm.trans ht)
      exact hagree
    · obtain rfl := Host.Outcome.next.inj ht
      exact h.whenRunning h.tick
  · obtain ⟨u, hu, hagree⟩ := exec (h.of_same (t := s.setPending _)) _
    obtain rfl : u = t := Host.Outcome.next.inj (hu.symm.trans ht)
    exact hagree

end State.CoilsAgree

/-- Settles O14: an order of DRV leaves the coil of the state it leads to, a monitor that ends changes the
coil with the state, and nothing else reaches a coil. -/
theorem coilsKept : Obligations.CoilsKept := by
  intro s t h ht
  exact (coilsLaw_iff t).2 (State.CoilsAgree.kept s t ((coilsLaw_iff s).1 h) ht)

end Sys2Proof.Machine
end

section
/-! The ends of a travel monitor (R94, R95, R98, R105): the failure that DRV records and has stored, the
coil that it changes to, and the halt or the failed close that it reports to SEQ. -/

namespace Sys2Proof.Machine

-- The many short proofs would otherwise each hold a waiting thread.
set_option Elab.async false

variable {s t u : State} {o : DriveOp}

/-! ## The failure and its record (R105) -/

/-- The snapshot is of the operation in flight, the views and the time; no coil is in it. -/
theorem failure_congr (hop : t.drv.op = s.drv.op) (hpos : t.drv.position = s.drv.position)
    (hstale : t.drv.stale = s.drv.stale) (htime : t.fcu.time = s.fcu.time) (k : FailKind) :
    failure t k = failure s k := by
  simp only [failure, hop, hpos, hstale, htime]

@[simp] theorem failure_emit (e : Event) (s : State) (k : FailKind) :
    failure (s.emit e) k = failure s k :=
  failure_congr (by simp) (by simp) (by simp) (by simp) k

@[simp] theorem failure_dropCoils (s : State) (k : FailKind) :
    failure (s.modDrv Drv.dropCoils) k = failure s k := rfl

@[simp] theorem State.snapFailure_drv (k : FailKind) (s : State) :
    (s.snapFailure k).drv = { s.drv with snapshot := failure s k } := rfl

/-- R51, R105: the write of the snapshot starts with the snapshot as it stands, or waits. -/
theorem requested_lastFailure (hst : u.store = s.store) :
    Requested s (u.requestStore .lastFailure none) .lastFailure (.lastFailure u.drv.snapshot) := by
  constructor
  · intro hidle
    simp [State.requestStore, hst, hidle, State.startInternal, State.startStore, internalBody]
  · intro hbusy
    by_cases hwaits : .lastFailure ∈ s.store.waitList <;>
      simp [State.requestStore, hst, hbusy, hwaits]

theorem allBut_requestStore_lastFailure (s : State) :
    AllBut [.store] s (s.requestStore .lastFailure none) := by
  have hlku : (s.requestStore .lastFailure none).lku = s.lku := by
    dsimp only [State.requestStore]
    (repeat' split) <;> simp [State.startInternal]
  simp [allBut_iff, hlku]

/-! ## The recharge request (R104) -/

theorem allBut_raiseRecharge (s : State) :
    AllBut (eventBlocks ++ [.drv, .bat, .sup]) s s.raiseRecharge := by
  simp [allBut_iff, eventBlocks]

/-- R104: a recharge request that stands is not raised again. -/
theorem State.raiseRecharge_same (h : s.drv.recharge = true) : s.raiseRecharge = s := by
  simp [State.raiseRecharge, h]

/-! ## The first period (R94) -/

/-- DRV records that the main coil has failed, and takes the snapshot. -/
def State.mainCoilFailed (stale : Bool) (next : NextStep) (o : DriveOp) (s : State) : State :=
  (s.emit (.tripCoilFail s.drv.position stale next o.lowEnergy)).snapFailure .mainCoilFail

/-- R94 on stale values, up to the write: the main coil stays energised for a second period. -/
def State.tripExtended (o : DriveOp) (s : State) : State :=
  (s.mainCoilFailed true .extended o).modDrv (fun d =>
    { d with op := some { o with extended := true }, monitor := some o.limit })

/-- R94 on fresh values, up to the write: the backup coil is energised in place of the main coil. -/
def State.coilChanged (o : DriveOp) (s : State) : State :=
  ((s.mainCoilFailed false .backup o).modDrv Drv.dropCoils).raiseRecharge.modDrv (fun d =>
    { d.energise .backup with monitor := some o.limit, state := .tripBackup })

theorem State.modDrv_congr {f g : Drv → Drv} (h : f s.drv = g s.drv) : s.modDrv f = s.modDrv g := by
  simp only [State.modDrv, h]

theorem State.firstPeriod_eq (hop : s.drv.op = some o) : s.firstPeriod =
    (if s.drv.stale = true then s.tripExtended o else s.coilChanged o).requestStore .lastFailure
      none := by
  dsimp only [State.firstPeriod, State.tripExtended, State.coilChanged, State.mainCoilFailed]
  have hlow : opLow s.drv = o.lowEnergy := by simp [opLow, hop]
  rw [hlow]
  split <;> congr 1 <;> apply State.modDrv_congr <;> simp [Drv.energise, Drv.dropCoils, hop]

theorem State.tripExtended_spec (o : DriveOp) (s : State) :
    (s.tripExtended o).drv = { s.drv with
      snapshot := failure s .mainCoilFail, op := some { o with extended := true }
      monitor := some o.limit } ∧
    Emitted s (.tripCoilFail s.drv.position true .extended o.lowEnergy) (s.tripExtended o) ∧
    AllBut (eventBlocks ++ [.drv]) s (s.tripExtended o) := by
  refine ⟨by simp [State.tripExtended, State.mainCoilFailed], ⟨?_, ?_⟩, ?_⟩ <;>
    simp [State.tripExtended, State.mainCoilFailed, allBut_iff, eventBlocks]

theorem State.coilChanged_spec (o : DriveOp) (s : State) :
    (s.coilChanged o).drv = { s.drv with
      snapshot := failure s .mainCoilFail, coilMain := false, coilBackup := true, coilClose := false
      monitor := some o.limit, state := .tripBackup, recharge := true } ∧
    AllBut (eventBlocks ++ [.drv, .bat, .sup]) s (s.coilChanged o) := by
  refine ⟨by simp [State.coilChanged, State.mainCoilFailed, Drv.energise, Drv.dropCoils], ?_⟩
  simp [State.coilChanged, State.mainCoilFailed, allBut_iff, eventBlocks]

/-- R94, R104: where the recharge is asked for already, the change of coil asks nothing of SUP. -/
theorem State.coilChanged_recharging (h : s.drv.recharge = true) (o : DriveOp) :
    Emitted s (.tripCoilFail s.drv.position false .backup o.lowEnergy) (s.coilChanged o) ∧
    AllBut (eventBlocks ++ [.drv]) s (s.coilChanged o) := by
  have hsame := State.raiseRecharge_same
    (s := (s.mainCoilFailed false .backup o).modDrv Drv.dropCoils)
    (by simp [State.mainCoilFailed, Drv.dropCoils, h])
  rw [State.coilChanged, hsame]
  refine ⟨⟨?_, ?_⟩, ?_⟩ <;> simp [State.mainCoilFailed, allBut_iff, eventBlocks]

/-! ## A failed operation and its report (R95, R98) -/

/-- An operation ends in failure: the coils are dropped, the event and the snapshot are recorded, and the
snapshot is sent to the store. -/
def State.opFailed (e : Event) (k : FailKind) (st : DriveState) (out : OpOutcome) (s : State) : State :=
  ((((s.modDrv Drv.dropCoils).emit e).snapFailure k).requestStore .lastFailure none).endOp st out
    .noCoil

theorem State.opFailed_drv (hop : s.drv.op = some o) (e : Event) (k : FailKind) (st : DriveState)
    (out : OpOutcome) : (s.opFailed e k st out).drv = { s.drv with
      coilMain := false, coilBackup := false, coilClose := false, state := st, monitor := none
      op := none, snapshot := failure s k, summary := some (opSummary s o out .noCoil) } := by
  simp [State.opFailed, State.endOp, Drv.dropCoils, hop, opSummary]

theorem State.drvHalt_drv (hop : s.drv.op = some o) : s.drvHalt.drv = { s.drv with
    coilMain := false, coilBackup := false, coilClose := false, state := .halted, monitor := none
    op := none, snapshot := failure s .halted, summary := some (opSummary s o .halted .noCoil) } :=
  State.opFailed_drv hop _ .halted .halted .halted

theorem State.drvCloseFail_drv (hop : s.drv.op = some o) : s.drvCloseFail.drv = { s.drv with
    coilMain := false, coilBackup := false, coilClose := false, state := .idle, monitor := none
    op := none, snapshot := failure s .closeFail
    summary := some (opSummary s o .closeFail .noCoil) } :=
  State.opFailed_drv hop _ .closeFail .idle .closeFail

theorem allBut_endOp (st : DriveState) (out : OpOutcome) (c : Coil) (s : State) :
    AllBut [.drv] s (s.endOp st out c) := by
  simp [allBut_iff]

theorem allBut_opFailed (e : Event) (k : FailKind) (st : DriveState) (out : OpOutcome) (s : State) :
    AllBut (eventBlocks ++ [.store, .drv]) s (s.opFailed e k st out) := by
  have hbefore : AllBut (eventBlocks ++ [.drv]) s
      (((s.modDrv Drv.dropCoils).emit e).snapFailure k) := by simp [allBut_iff, eventBlocks]
  exact (hbefore.trans (allBut_requestStore_lastFailure _) (by simp) (by simp)).trans
    (allBut_endOp st out .noCoil _) (List.Subset.refl _) (by simp)

theorem allBut_drvHalt (s : State) : AllBut (eventBlocks ++ [.store, .drv]) s s.drvHalt :=
  allBut_opFailed _ .halted .halted .halted s

theorem allBut_drvCloseFail (s : State) : AllBut (eventBlocks ++ [.store, .drv]) s s.drvCloseFail :=
  allBut_opFailed _ .closeFail .idle .closeFail s

/-- R56, R83, R86, R104: a failure that DRV reports to SEQ: SEQ takes it, SET is told, and the recharge
is asked for. No request of BAT follows, because SEQ comes into neither READY nor RECLAIM. -/
theorem State.report_spec {f : State → State}
    (hstay : (f s).seq.state = s.seq.state ∨ ((f s).seq.state ≠ .ready ∧ (f s).seq.state ≠ .reclaim))
    (hf : AllBut (eventBlocks ++ [.seq, .bat]) s (f s)) :
    (s.seqArrive f).raiseRecharge.seq.sameCourse (f s).seq ∧
    (s.seqArrive f).drv = s.drv ∧
    AllBut (eventBlocks ++ [.ele, .store, .sets, .seq, .drv, .bat, .sup]) s
      (s.seqArrive f).raiseRecharge := by
  obtain ⟨hcourse, ⟨hdrv, -, -⟩, -⟩ := State.seqArrive_course (fun _ => hstay)
  have hdrv' : (f s).drv = s.drv := hf .drv (by simp [eventBlocks])
  refine ⟨by simpa using hcourse, hdrv.trans hdrv', ?_⟩
  rw [State.seqArrive_notice (fun _ => hstay)]
  exact (hf.trans (allBut_settleNotice _) (m := eventBlocks ++ [.ele, .store, .sets, .seq, .bat])
    (by simp [eventBlocks]) (by simp [eventBlocks])).trans (allBut_raiseRecharge _)
    (by simp [eventBlocks]) (by simp [eventBlocks])

theorem allBut_seqHalted (s : State) : AllBut (eventBlocks ++ [.seq, .bat]) s s.seqHalted := by
  simp [allBut_iff, eventBlocks]

theorem allBut_seqCloseFailed (s : State) :
    AllBut (eventBlocks ++ [.seq, .bat]) s s.seqCloseFailed := by
  simp [allBut_iff, eventBlocks]

theorem State.seqCloseFailed_closing (hs : s.seq.state = .closing) :
    s.seqCloseFailed = s.seqLockout .closeFailed := if_pos hs

/-- R74: SEQ takes a failed close in CLOSING alone. -/
theorem State.seqCloseFailed_other (hs : s.seq.state ≠ .closing) : s.seqCloseFailed = s := if_neg hs

/-! ## The monitors (R94, R95, R98) -/

theorem State.tripMonitorEnd_first (hmon : s.drv.monitor.isSome = true) (hop : s.drv.op = some o)
    (hd : s.drv.state = .tripMain) (hext : o.extended = false) :
    s.tripMonitorEnd = s.firstPeriod := by
  simp [State.tripMonitorEnd, Option.isSome_iff_ne_none.1 hmon, hd, hop, hext]

theorem State.tripMonitorEnd_last (hmon : s.drv.monitor.isSome = true) (hop : s.drv.op = some o)
    (hd : s.drv.state = .tripBackup ∨ s.drv.state = .tripMain ∧ o.extended = true) :
    s.tripMonitorEnd = (s.drvHalt.seqArrive State.seqHalted).raiseRecharge := by
  have hruns : s.drv.monitor ≠ none := Option.isSome_iff_ne_none.1 hmon
  rcases hd with hd | ⟨hd, hext⟩
  · simp [State.tripMonitorEnd, hruns, hd]
  · simp [State.tripMonitorEnd, hruns, hd, hop, hext]

/-- Settles O31: the first period is extended or changes the coil, by the staleness of the views, and
the period after it halts the drive. -/
theorem tripMonitorExpires : Obligations.TripMonitorExpires := by
  intro s o hrun hmon hop
  have hexec : exec .tripMonitorExpiry s = .next s.tripMonitorEnd.serve :=
    congrArg Host.Outcome.next (whenRunning_running hrun)
  refine ⟨fun ⟨hd, hext⟩ => ⟨_, hexec, ?_⟩, fun hd => ⟨_, hexec, ?_⟩⟩
  · rw [State.tripMonitorEnd_first hmon hop hd hext, State.firstPeriod_eq hop]
    cases hstale : s.drv.stale with
    | true =>
      obtain ⟨hdrv, ⟨hrpb, hpkm⟩, hframe⟩ := s.tripExtended_spec o
      have hreq := requested_lastFailure (hframe .store (by simp [eventBlocks]))
      have hall := hframe.trans (allBut_requestStore_lastFailure _)
        (m := eventBlocks ++ [.drv, .store]) (by simp [eventBlocks]) (by simp)
      rw [if_pos rfl]
      exact ⟨by simp [hdrv], by simp [hdrv], hall.mono (by simp [eventBlocks]),
        by simpa [hdrv] using hreq,
        fun _ => ⟨by simp [hdrv], ⟨by simpa using hrpb, by simpa using hpkm⟩, hall⟩, by simp⟩
    | false =>
      obtain ⟨hdrv, hframe⟩ := s.coilChanged_spec o
      have hreq := requested_lastFailure (hframe .store (by simp [eventBlocks]))
      rw [if_neg (by simp)]
      refine ⟨by simp [hdrv], by simp [hdrv], hframe.trans (allBut_requestStore_lastFailure _)
        (by simp [eventBlocks]) (by simp), by simpa [hdrv] using hreq, by simp,
        fun _ => ⟨by simp [hdrv], by simp [hdrv], by simp [hdrv], by simp [hdrv], by simp [hdrv, hop],
          by simp [hdrv], fun hasked => ?_⟩⟩
      obtain ⟨⟨hrpb, hpkm⟩, hframe'⟩ := State.coilChanged_recharging hasked o
      exact ⟨⟨by simpa using hrpb, by simpa using hpkm⟩,
        hframe'.trans (allBut_requestStore_lastFailure _) (by simp [eventBlocks]) (by simp)⟩
  · rw [State.tripMonitorEnd_last hmon hop hd]
    obtain ⟨⟨hst, -, -, -, -, htime, -⟩, hdrv, hall⟩ := State.report_spec (s := s.drvHalt)
      (f := State.seqHalted) (.inr (by simp [State.seqHalted])) (allBut_seqHalted _)
    rw [State.drvHalt_drv hop] at hdrv
    refine ⟨by simp [hdrv], by simp [hdrv], by simp [hdrv], by simp [hdrv], by simp [hdrv],
      by simp [hdrv], by simp [hdrv], by simp [hdrv], by simp [hdrv, opSummary],
      hst.trans (by simp [State.seqHalted]), htime.trans (by simp [State.seqHalted, Seq.entered]), ?_⟩
    exact (allBut_drvHalt s).trans hall (by simp [eventBlocks]) (List.Subset.refl _)

/-- Settles O32: the close that fails is dropped and recorded, and SEQ takes the report in CLOSING. -/
theorem closeMonitorExpires : Obligations.CloseMonitorExpires := by
  intro s o hrun hmon hop hd
  have hexec : exec .closeMonitorExpiry s = .next s.closeMonitorEnd.serve :=
    congrArg Host.Outcome.next (whenRunning_running hrun)
  have hend : s.closeMonitorEnd = (s.drvCloseFail.seqArrive State.seqCloseFailed).raiseRecharge :=
    if_pos ⟨hmon, hd⟩
  have hstay : s.drvCloseFail.seqCloseFailed.seq.state = s.drvCloseFail.seq.state ∨
      (s.drvCloseFail.seqCloseFailed.seq.state ≠ .ready ∧
        s.drvCloseFail.seqCloseFailed.seq.state ≠ .reclaim) := by
    by_cases hs : s.drvCloseFail.seq.state = .closing
    · simp [State.seqCloseFailed_closing hs]
    · simp [State.seqCloseFailed_other hs]
  obtain ⟨⟨hst, hreason, -, -, hcause, -⟩, hdrv, hall⟩ :=
    State.report_spec hstay (allBut_seqCloseFailed _)
  rw [State.drvCloseFail_drv hop] at hdrv
  rw [hend] at hexec
  refine ⟨_, hexec, by simp [hdrv], by simp [hdrv], by simp [hdrv], by simp [hdrv], by simp [hdrv],
    by simp [hdrv], by simp [hdrv], by simp [hdrv], by simp [hdrv, opSummary], fun hs => ?_, ?_⟩
  · have hclosing : s.drvCloseFail.seq.state = .closing := by simpa using hs
    rw [State.seqCloseFailed_closing hclosing] at hst hreason hcause
    exact ⟨hst.trans (by simp), hreason.trans (by simp), hcause.trans (by simp [Seq.entered])⟩
  · exact (allBut_drvCloseFail s).trans hall (by simp [eventBlocks]) (List.Subset.refl _)

end Sys2Proof.Machine
end

section
/-! Battery care, the arbiter and the radio, walked once for the laws that they keep (Chapters 7, 8 and 10):
the moves of which their operations are made, and the operations up to the release requests. -/

namespace Sys2Proof.Machine

-- The many short proofs would otherwise each hold a waiting thread.
set_option Elab.async false

variable {s t : State}

/-! ## What the laws see -/

/-- The charger, the load test, the disconnect, the charge, the shed level and the supply are the same. -/
def Bat.sameDuty (a b : Bat) : Prop :=
  a.charger = b.charger ∧ a.chgEn = b.chgEn ∧ a.chgVset = b.chgVset ∧ a.chgIlim = b.chgIlim ∧
  a.absorbSet = b.absorbSet ∧ a.floatSet = b.floatSet ∧ a.test = b.test ∧ a.testLoad = b.testLoad ∧
  a.disc = b.disc ∧ a.discAction = b.discAction ∧ a.lvdOut = b.lvdOut ∧ a.q = b.q ∧ a.soc = b.soc ∧
  a.shed = b.shed ∧ a.supply = b.supply

/-- RPC's state, lines and views are the same, and it has an answer and timers where it had them. -/
def Rpc.sameDuty (a b : Rpc) : Prop :=
  a.state = b.state ∧ a.answer.isSome = b.answer.isSome ∧ a.windowLeft.isSome = b.windowLeft.isSome ∧
  a.keyLeft.isSome = b.keyLeft.isSome ∧ a.holdoff.isSome = b.holdoff.isSome ∧
  a.radioPwr = b.radioPwr ∧ a.radioKey = b.radioKey ∧ a.shed = b.shed ∧ a.supply = b.supply

/-- The battery record on its way to the store (R51, R123). -/
def Store.writing (st : Store) : Option BatteryRec :=
  st.inFlight.bind fun op =>
    match op.body with
    | .battery b => some b
    | _ => none

/-- From `s` to `t` nothing moves that a law of battery care, of the arbiter or of the radio sees. -/
def State.sameDuty (s t : State) : Prop :=
  t.bat.sameDuty s.bat ∧ t.sup = s.sup ∧ t.rpc.sameDuty s.rpc ∧
  t.store.battery = s.store.battery ∧
  (t.store.writing = s.store.writing ∨ t.store.writing = none) ∧ t.part.run = s.part.run

@[simp] theorem Bat.sameDuty_refl (b : Bat) : b.sameDuty b := by simp [Bat.sameDuty]

@[simp] theorem Rpc.sameDuty_refl (r : Rpc) : r.sameDuty r := by simp [Rpc.sameDuty]

/-- The block behind a requester makes use of its grant: the radio is keyed, the load test settles or
loads (R135, R173). -/
def State.draws (s : State) : Requester → Bool
  | .cap => false
  | .radio => s.rpc.state.keyed
  | .load => s.bat.test == .settle || s.bat.test == .load

/-- The states of an unkeyed radio without an answer or a timer (Table 10-1). -/
def RadioState.unkeyed (st : RadioState) : Prop := st = .off ∨ st = .waking ∨ st = .listen

/-- The charger may come into a state: any with the supply, OFF and TEST without it, and any from a state
that it has with the supply alone (Table 7-3). -/
def State.mayCharge (s : State) (st : Charger) : Prop :=
  s.bat.supply = true ∨ st = .off ∨ st = .test ∨ (s.bat.charger ≠ .off ∧ s.bat.charger ≠ .test)

/-- A requester that is not REQUESTING for a grant does not hold one (Table 8-2). -/
theorem Sup.req_pick {u : Sup} {r : Requester} (h : u.pick = some r) : u.req r = .requesting := by
  unfold Sup.pick at h
  (repeat' split at h) <;> cases h <;> simp_all [Sup.req]

@[simp] theorem Sup.req_setReq (u : Sup) (r : Requester) (q : ReqState) : (u.setReq r q).req r = q := by
  cases r <;> rfl

@[simp] theorem Sup.req_setAgain (u : Sup) (r p : Requester) (b : Bool) :
    (u.setAgain r b).req p = u.req p := by
  cases r <;> cases p <;> rfl

/-- The property is kept by the moves of which a grant and a release are made. The requester `x` may give
its grant back while it still makes use of it. -/
structure Offers (x : Option Requester) (P : State → Prop) : Prop where
  again : ∀ {s : State} (r : Requester) (b : Bool), P s → P (s.modSup (fun u => u.setAgain r b))
  ungrant : ∀ {s : State} {r : Requester} {q : ReqState}, q.holds = false →
    x = some r ∨ s.draws r = false ∨ (s.sup.req r).holds = false → P s →
    P (s.modSup (fun u => u.setReq r q))
  grant : ∀ {s : State} {r : Requester}, awaitsGrant s r = true →
    s.sup.supply = true ∨ s.sup.anyHolder = false → P s → P (s.offer r)

/-- The property is kept by the moves of which the grants and releases of the arbiter, and what they make
the radio and the load test do, are made. -/
structure Arbitrates (x : Option Requester) (P : State → Prop) : Prop extends Offers x P where
  same : ∀ {s t : State}, s.sameDuty t → P s → P t
  goto : ∀ {s : State} {st : RadioState}, st.unkeyed → P s → P (s.rpcGoto st)
  holdoff : ∀ {s : State} (h : Holdoff), s.rpc.state = .listen → P s →
    P ((s.rpcGoto .holdoff).modRpc (fun r => { r with holdoff := some h }))
  releasing : ∀ {s : State} {r : Requester}, s.sup.req r = .holding → P s →
    P (s.modSup (fun u => u.setReq r .releasing))
  charger : ∀ {s : State} {st : Charger}, s.mayCharge st → P s → P (s.setCharger st)
  waits : ∀ {s : State}, s.bat.test = .idle → P s → P (s.modBat (fun b => { b with test := .waitGrant }))
  suspends : ∀ {s : State}, s.bat.test = .settle → P s →
    P (s.modBat (fun b => { b with test := .suspended }))

namespace Offers

variable {x : Option Requester} {P : State → Prop}

/-! ## Grants and releases (R143 to R147) -/

/-- A requester that is offered the grant takes it, or declines it. -/
theorem offer (O : Offers x P) {r : Requester} (hr : s.sup.req r = .requesting)
    (hfree : s.sup.supply = true ∨ s.sup.anyHolder = false) (h : P s) : P (s.offer r) := by
  cases hw : awaitsGrant s r with
  | true => exact O.grant hw hfree h
  | false =>
    simp only [State.offer, hw]
    exact O.ungrant rfl (.inr (.inr (by rw [hr]; rfl))) h

theorem grantDecision (O : Offers x P) (n : Nat) (h : P s) : P (s.grantDecision n) := by
  induction n generalizing s with
  | zero => exact h
  | succ n ih =>
    dsimp only [State.grantDecision]
    split
    · exact h
    · next hnone =>
      split
      · exact h
      · next r hr =>
        have h1 : P (s.offer r) := O.offer (Sup.req_pick hr) (.inr (by simpa using hnone)) h
        split
        exacts [h1, ih h1]

theorem decide3 (O : Offers x P) (h : P s) : P s.decide3 := O.grantDecision 3 h

theorem giveBack (O : Offers x P) {r : Requester} (hfree : x = some r ∨ s.draws r = false)
    (h : P s) : P (s.giveBack r) := by
  have h1 : ∀ q : ReqState, q.holds = false →
      P (s.modSup (fun u => (u.setReq r q).setAgain r false)) := fun q hq =>
    O.again (s := s.modSup (fun u => u.setReq r q)) r false
      (O.ungrant hq (hfree.imp_right .inl) h)
  have hidle := h1 .idle rfl
  have hasks := h1 .requesting rfl
  cases hback : s.sup.again r with
  | false =>
    simp only [State.giveBack, hback, Bool.false_eq_true, if_false]
    split
    exacts [hidle, O.decide3 hidle]
  | true =>
    simp only [State.giveBack, hback, if_true]
    split
    · next hs => exact O.offer (by simp) (.inl hs) hasks
    · exact O.decide3 hasks

theorem release (O : Offers x P) {r : Requester} (hfree : x = some r ∨ s.draws r = false)
    (h : P s) : P (s.release r) := by
  dsimp only [State.release]
  split
  · exact h
  · next hr => exact O.ungrant rfl (.inr (.inr (by rw [hr]; rfl))) h
  · exact O.giveBack hfree h
  · exact O.giveBack hfree h

theorem ask (O : Offers x P) (r : Requester) (h : P s) : P (s.ask r) := by
  dsimp only [State.ask]
  split
  · next hr =>
    have h1 : P (s.modSup (fun u => u.setReq r .requesting)) :=
      O.ungrant rfl (.inr (.inr (by rw [hr]; rfl))) h
    split
    · next hs =>
      split
      exacts [O.offer (by simp) (.inl hs) h1, h1]
    · exact O.decide3 h1
  · exact h
  · exact h
  · exact O.again _ _ h

end Offers

namespace Arbitrates

variable {x : Option Requester} {P : State → Prop}

theorem of_same (A : Arbitrates x P) (h : P s) (hd : s.sameDuty t := by simp [State.sameDuty]) : P t :=
  A.same hd h

theorem modBat (A : Arbitrates x P) {f : Bat → Bat} (h : P s)
    (hf : ∀ b, (f b).sameDuty b := by intro b; simp [Bat.sameDuty]) : P (s.modBat f) :=
  A.of_same h (by simp [State.sameDuty, hf])

theorem modRpc (A : Arbitrates x P) {f : Rpc → Rpc} (h : P s)
    (hf : ∀ r, (f r).sameDuty r := by intro r; simp [Rpc.sameDuty]) : P (s.modRpc f) :=
  A.of_same h (by simp [State.sameDuty, hf])

theorem modPkm (A : Arbitrates x P) (f : Pkm → Pkm) (h : P s) : P (s.modPkm f) := A.of_same h

theorem modRpb (A : Arbitrates x P) (f : Rpb → Rpb) (h : P s) : P (s.modRpb f) := A.of_same h

theorem localSend (A : Arbitrates x P) (k : LocalKind) (f : Frame) (h : P s) : P (s.localSend k f) :=
  A.of_same h

/-! ## The radio's candidate and the events (R151 to R161, R175) -/

theorem lookCandidate (A : Arbitrates x P) (h : P s) : P s.lookCandidate := by
  dsimp only [State.lookCandidate]
  split
  · next hc =>
    simp only [Bool.and_eq_true, beq_iff_eq] at hc
    obtain ⟨⟨⟨-, hlisten⟩, -⟩, -⟩ := hc
    exact A.holdoff _ hlisten h
  · exact h

theorem rpcListen (A : Arbitrates x P) (h : P s) : P s.rpcListen :=
  A.lookCandidate (A.goto (.inr (.inr rfl)) h)

theorem setUrgent (A : Arbitrates x P) (q : List Report) (h : P s) : P (s.setUrgent q) := by
  have h1 := A.modPkm (fun k => { k with urgent := q }) h
  dsimp only [State.setUrgent]
  split
  exacts [A.lookCandidate (A.modRpc h1), A.lookCandidate h1]

theorem acknowledge (A : Arbitrates x P) (n : Nat) (h : P s) : P (s.acknowledge n) := by
  dsimp only [State.acknowledge]
  split
  exacts [A.setUrgent _ h, h]

theorem sealClass (A : Arbitrates x P) (c : ReportClass) (h : P s) : P (s.sealClass c) := by
  cases c with
  | urgent =>
    dsimp only [State.sealClass, State.sealUrgent]
    split
    · exact h
    · split
      exacts [A.localSend _ _ (A.setUrgent _ (A.modPkm _ (A.modRpb _ h))),
        A.setUrgent _ (A.modRpb _ h)]
  | routine => exact A.of_same h (by simp [State.sameDuty, State.sealClass])

theorem emit (A : Arbitrates x P) (e : Event) (h : P s) : P (s.emit e) := by
  have h1 := A.modRpb (fun b => b.setGather (eventClass e) (some (joined s e))) h
  dsimp only [State.emit]
  split
  exacts [A.sealClass _ h1, h1]

/-! ## The radio (R168 to R176) -/

theorem countAbandon (A : Arbitrates x P) (h : P s) : P s.countAbandon := by
  dsimp only [State.countAbandon]
  split
  exacts [A.modRpc h, h]

theorem rpcRest (A : Arbitrates x P) (h : P s) : P s.rpcRest := by
  dsimp only [State.rpcRest]
  split
  exacts [A.modRpc (A.goto (.inl rfl) h), A.rpcListen h]

/-- An unkeyed radio makes no use of a grant. -/
theorem draws_rpcGoto {st : RadioState} (hst : st.unkeyed) (s : State) :
    (s.rpcGoto st).draws .radio = false := by
  rcases hst with rfl | rfl | rfl <;> rfl

theorem rpcWithdraw (A : Arbitrates x P) {st : RadioState} (hst : st.unkeyed) (h : P s) :
    P (s.rpcWithdraw st) :=
  A.release (.inr (draws_rpcGoto hst _)) (A.goto hst (A.countAbandon h))

theorem rpcAsked (A : Arbitrates x P) (h : P s) : P s.rpcAsked := by
  dsimp only [State.rpcAsked]
  split
  exacts [A.rpcRest (A.rpcWithdraw (.inr (.inr rfl)) h), h, h, h, h, h, h]

theorem rpcWake (A : Arbitrates x P) (h : P s) : P s.rpcWake := by
  have h1 : P (s.rpcGoto .waking) := A.goto (.inr (.inl rfl)) h
  dsimp only [State.rpcWake]
  split
  exacts [A.rpcListen h1, h1]

theorem rpcPower (A : Arbitrates x P) (h : P s) : P s.rpcPower := by
  have hoff : P (s.rpcGoto .off) := A.goto (.inl rfl) h
  dsimp only [State.rpcPower]
  split
  · split
    exacts [A.rpcWake h, A.modRpc h]
  · split
    exacts [h, hoff, hoff, hoff, A.rpcWithdraw (.inl rfl) h, A.modRpc h, A.modRpc h]

theorem rpcDropUnsolicited (A : Arbitrates x P) (h : P s) : P s.rpcDropUnsolicited := by
  dsimp only [State.rpcDropUnsolicited]
  split
  · exact A.rpcListen h
  · split
    exacts [A.lookCandidate (A.rpcWithdraw (.inr (.inr rfl)) h), h]
  all_goals exact h

/-- R168, R175, R176: what follows in RPC, once it has the new shed level. -/
theorem rpcShed (A : Arbitrates x P) {level : Nat}
    (h : P (s.modRpc (fun r => { r with shed := level }))) : P (s.rpcShed level) := by
  dsimp only [State.rpcShed]
  split
  exacts [A.rpcDropUnsolicited (A.rpcPower h), A.lookCandidate (A.rpcPower h)]

theorem modemLost (A : Arbitrates x P) (h : P s) : P s.modemLost := by
  dsimp only [State.modemLost]
  split
  exacts [A.modRpc (A.rpcWithdraw (.inl rfl) h), A.rpcWithdraw (.inr (.inl rfl)) h]

theorem modemChange (A : Arbitrates x P) (level : Bool) (h : P s) : P (s.modemChange level) := by
  have h1 : P (s.modLines (fun l => { l with modemReady := level })) := A.of_same h
  dsimp only [State.modemChange]
  split
  · exact h
  · split
    · dsimp only [State.modemRise]
      split
      exacts [A.rpcListen h1, h1]
    · dsimp only [State.modemFall]
      split
      exacts [h1, h1, A.rpcWake h1, A.rpcWake h1, A.rpcWithdraw (.inr (.inl rfl)) h1, A.modemLost h1,
        A.modemLost h1]

theorem carrierChange (A : Arbitrates x P) (level : Bool) (h : P s) : P (s.carrierChange level) := by
  have h1 : P (s.modLines (fun l => { l with carrierDet := level })) := A.of_same h
  dsimp only [State.carrierChange]
  split
  exacts [h, A.modRpc h1]

/-! ## The start of a load test, and the charger (R126, R127, R134, R137) -/

theorem startTest (A : Arbitrates x P) (c : StartCause) (ht : s.bat.test = .idle) (h : P s) :
    P (s.startTest c) :=
  A.ask _ (A.of_same (A.waits ht h) (by simp [State.sameDuty, Bat.sameDuty]))

theorem dueCheck (A : Arbitrates x P) (h : P s) : P s.dueCheck := by
  dsimp only [State.dueCheck]
  split
  · split
    · next hmay =>
      have ht : s.bat.test = .idle := by
        simp only [mayStartTest, Bool.and_eq_true, beq_iff_eq] at hmay
        obtain ⟨⟨⟨ht, -⟩, -⟩, -⟩ := hmay
        exact ht
      exact A.startTest _ ht h
    · exact h
  · exact h

theorem chargerTo (A : Arbitrates x P) {st : Charger} (hst : s.mayCharge st) (h : P s) :
    P (s.chargerTo st) := A.dueCheck (A.charger hst h)

theorem enterFault (A : Arbitrates x P) (hst : s.mayCharge .fault) (h : P s) : P s.enterFault :=
  A.emit _ (A.charger hst h)

theorem chargerTestEnded (A : Arbitrates x P) (h : P s) : P s.chargerTestEnded := by
  dsimp only [State.chargerTestEnded]
  split
  · split
    · exact A.chargerTo (.inr (.inl rfl)) h
    · next hs =>
      have hs' : s.bat.supply = true := by simpa using hs
      split
      exacts [A.enterFault (.inl hs') h, A.chargerTo (.inl hs') h]
  · exact h

theorem countVerdict (A : Arbitrates x P) (v : Verdict) (r : Option Nat) (h : P s) :
    P (s.countVerdict v r) := by
  have hbad : P (if s.bat.badCount = 1 then
        (s.modBat (fun b => { b with badCount := 2 })).emit (.batteryBad r)
      else if s.bat.badCount = 0 then s.modBat (fun b => { b with badCount := 1 }) else s) := by
    split
    · exact A.emit _ (A.modBat h)
    · split
      exacts [A.modBat h, h]
  cases v with
  | fail => exact hbad
  | noLoad => exact hbad
  | pass => exact A.modBat (f := fun b => { b with badCount := 0, abortCount := 0 }) h
  | aborted => exact h
  | cancelled => exact h

theorem suspendTest (A : Arbitrates x P) (ht : s.bat.test = .settle) (h : P s) : P s.suspendTest := by
  have h1 : P (s.modBat (fun b => { b with settleLeft := none, test := .suspended })) :=
    A.of_same (A.suspends ht h) (by simp [State.sameDuty, Bat.sameDuty])
  exact A.ask _ (A.release (.inr rfl) h1)

theorem evalFault (A : Arbitrates x P) (h : P s) : P s.evalFault := by
  have h1 : P (s.modBat (fun b => { b with fault := faultCause s.bat })) := A.modBat h
  have hfault : ∀ c : Bool, s.bat.charger ≠ .off → s.bat.charger ≠ .test → P (if c then
      (s.modBat (fun b => { b with fault := faultCause s.bat })).enterFault
      else s.modBat (fun b => { b with fault := faultCause s.bat })) := by
    intro c hoff htest
    split
    exacts [A.enterFault (.inr (.inr (.inr ⟨hoff, htest⟩))) h1, h1]
  have hat : ∀ {st : Charger}, s.bat.charger = st → st ≠ .off → st ≠ .test →
      s.bat.charger ≠ .off ∧ s.bat.charger ≠ .test := by
    rintro st rfl hoff htest
    exact ⟨hoff, htest⟩
  dsimp only [State.evalFault]
  split
  case h_1 hk => exact hfault _ (hat hk (by decide) (by decide)).1 (hat hk (by decide) (by decide)).2
  case h_2 hk => exact hfault _ (hat hk (by decide) (by decide)).1 (hat hk (by decide) (by decide)).2
  case h_3 hk => exact hfault _ (hat hk (by decide) (by decide)).1 (hat hk (by decide) (by decide)).2
  case h_4 => exact A.modBat h1
  all_goals exact h1

end Arbitrates

end Sys2Proof.Machine
end

section
/-! The end of a load test and of a radio frame, in which a requester gives back a grant that its block
still makes use of, and the operations of BAT, SUP and RPC that lead to them. -/

namespace Sys2Proof.Machine

-- The many short proofs would otherwise each hold a waiting thread.
set_option Elab.async false

variable {s t : State}

/-- While a requester holds the grant, no grant is decided (R145). -/
theorem State.decide3_of_holder (h : s.sup.anyHolder = true) : s.decide3 = s := by
  simp [State.decide3, State.grantDecision, h]

/-- The requester without its grant, asking again where its mark is set (R147). -/
def Sup.gaveBack (r : Requester) (u : Sup) : Sup :=
  (u.setReq r (if u.again r then .requesting else .idle)).setAgain r false

@[simp] theorem Sup.gaveBack_supply (r : Requester) (u : Sup) : (u.gaveBack r).supply = u.supply := by
  cases r <;> rfl

/-- R147: without the supply, a grant that is given back is decided again. -/
theorem State.giveBack_absent (hs : s.sup.supply = false) (r : Requester) :
    s.giveBack r = (s.modSup (Sup.gaveBack r)).decide3 := by
  have h1 : ¬ (s.modSup (Sup.gaveBack r)).sup.supply = true := by simp [hs]
  exact if_neg h1

/-- On a battery that the recharge draws on, the load test stays as it is when the radio gives its grant
back (R145, R147). -/
theorem State.release_radio_load (hs : s.sup.supply = false) (hc : s.sup.cap = .holding) :
    (s.release .radio).sup.load = s.sup.load := by
  have hback : (s.giveBack .radio).sup.load = s.sup.load := by
    rw [State.giveBack_absent hs, State.decide3_of_holder]
    · rfl
    · simp [Sup.gaveBack, Sup.anyHolder, Sup.setReq, Sup.setAgain, hc, ReqState.holds]
  dsimp only [State.release]
  split
  exacts [rfl, rfl, hback, hback]

theorem State.askRelease_radio_load (hs : s.sup.supply = false) (hc : s.sup.cap = .holding) :
    (s.askRelease .radio).sup.load = s.sup.load := by
  dsimp only [State.askRelease, State.rpcAsked]
  split
  · have h1 := State.release_radio_load
      (s := ((s.modSup (fun u => u.setReq .radio .releasing)).countAbandon).rpcGoto .listen)
      (by simpa [Sup.setReq] using hs) (by simpa [Sup.setReq] using hc)
    simpa [Sup.setReq] using h1
  all_goals rfl

/-- R149: whether the radio is asked or not, the load test stays as it is. -/
theorem State.askedRadio_load (hs : s.sup.supply = false) :
    (if s.sup.radio == .holding && s.sup.cap == .holding then s.askRelease .radio else s).sup.load =
      s.sup.load := by
  split
  · next hc =>
    simp only [Bool.and_eq_true, beq_iff_eq] at hc
    exact State.askRelease_radio_load hs hc.2
  · rfl

/-- R124: BAT has taken the supply as absent, before SUP and RPC are notified. -/
def State.supplyGone (s : State) : State :=
  let s1 := s.modBat (fun b =>
    { b with supply := false, qualLeft := none, absentSince := some s.fcu.running })
  let s2 := s1.evalFault
  let s3 := if s2.bat.charger = .test then s2 else s2.chargerTo .off
  let s4 := s3.evalShed.batAsked
  s4.emit (.supplyLost s4.bat.soc s4.bat.estimated s4.bat.lastV)

theorem State.takeSupplyAbsent_eq (s : State) :
    s.takeSupplyAbsent = s.supplyGone.notifySupply false := rfl

/-- R124: BAT has taken the supply as present, before SUP and RPC are notified. -/
def State.supplyBack (s : State) : State :=
  let s1 := s.modBat (fun b => { b with supply := true, qualLeft := none, absentSince := none })
  let s2 := s1.evalFault
  let s3 :=
    if s2.bat.charger = .off then
      (if s2.bat.fault.isSome then s2.enterFault else s2.chargerTo .bulk)
    else s2
  let s4 := (s3.setShed 0).cancelDisconnect
  s4.emit (.supplyRestored s4.bat.soc (minutesAbsent s))

theorem State.takeSupplyPresent_eq (s : State) :
    s.takeSupplyPresent = s.supplyBack.notifySupply true := rfl

/-- A property with two exempt forms: one while a load test ends, with its load off and its grant on the
way back, and one while a radio frame has ended with the radio still in SENDING. -/
structure Attends (P : Option Requester → State → Prop) : Prop where
  arb : ∀ x, Arbitrates x (P x)
  drop : ∀ {s : State}, P none s → P (some .load) (s.modBat (fun b => { b with testLoad := false }))
  ended : ∀ {s : State}, P (some .load) s → P none (s.modBat (fun b => { b with test := .idle }))
  cut : ∀ {s : State}, P none s → P (some .radio) (s.modRpc (fun r => { r with radioKey := false }))
  rest : ∀ {s : State} {st : RadioState}, st.unkeyed → P (some .radio) s → P none (s.rpcGoto st)

/-- A property that sees neither the shed level nor the supply as BAT and RPC have it. -/
structure Unviewed (P : Option Requester → State → Prop) : Prop where
  bat : ∀ {s : State} (level : Nat) (present : Bool), P none s →
    P none (s.modBat (fun b => { b with shed := level, supply := present }))
  rpc : ∀ {s : State} (level : Nat) (present : Bool), P none s →
    P none (s.modRpc (fun r => { r with shed := level, supply := present }))
  sup : ∀ {s : State} (level : Nat), P none s → P none (s.modSup (fun u => { u with shed := level }))

namespace Attends

variable {P : Option Requester → State → Prop}

/-! ## The end of a load test (R136 to R138) -/

theorem endTest (T : Attends P) (v : Verdict) (v1 dI : Option Int) (r : Option Nat)
    (h : P (some .load) s) : P none (s.endTest v v1 dI r) := by
  have A := T.arb (some .load)
  have hcount := A.countVerdict v r (A.emit (.testResult v r v1 dI) (A.modBat (f := fun b => { b with
    result := some { time := s.fcu.time, cause := b.startCause, v0 := b.v0, i0 := b.i0, v1 := v1
                     dI := dI, r := r, verdict := v } }) h))
  exact (T.arb none).chargerTestEnded
    ((T.arb none).of_same (T.ended hcount) (by simp [State.sameDuty, Bat.sameDuty]))

theorem dropLoad (T : Attends P) (h : P none s) : P (some .load) s.dropLoad :=
  (T.arb (some .load)).release (.inl rfl) (T.drop h)

theorem abortTest (T : Attends P) (h : P none s) : P none s.abortTest := by
  have h1 := T.endTest .aborted none none none ((T.arb (some .load)).modBat
    (f := fun b => { b with abortCount := b.abortCount + 1 }) (T.dropLoad h))
  dsimp only [State.abortTest]
  split
  exacts [(T.arb none).modBat h1, h1]

theorem cancelTest (T : Attends P) (h : P none s) : P none s.cancelTest :=
  T.endTest _ _ _ _ (T.dropLoad h)

theorem loadDone (T : Attends P) (h : P none s) : P none s.loadDone := by
  dsimp only [State.loadDone]
  split
  · split
    exacts [T.endTest _ _ _ _ (T.dropLoad h), T.abortTest h]
  · exact h

theorem batAsked (T : Attends P) (h : P none s) : P none s.batAsked := by
  dsimp only [State.batAsked]
  split
  case h_1 ht => exact (T.arb none).suspendTest ht h
  case h_2 => exact T.abortTest h
  all_goals exact h

/-! ## The end of a radio frame (R173) -/

theorem frameSent (T : Attends P) (h : P none s) : P none s.frameSent := by
  have A := T.arb (some .radio)
  have hrest : ∀ {u : State}, P (some .radio) u → P none u.rpcRest := by
    intro u hu
    dsimp only [State.rpcRest]
    split
    exacts [(T.arb none).modRpc (T.rest (.inl rfl) hu),
      (T.arb none).lookCandidate (T.rest (.inr (.inr rfl)) hu)]
  have hrecord : ∀ (a : Answer) {u : State}, P (some .radio) u → P (some .radio) (u.settleRecord a) := by
    intro a u hu
    dsimp only [State.settleRecord, State.markSent]
    (repeat' split)
    exacts [hu, A.modPkm _ hu, A.modPkm _ hu, A.modPkm _ hu, A.modRpc (A.modPkm _ hu), hu, hu]
  have hcount : ∀ (p : Purpose) {u : State}, P (some .radio) u → P (some .radio) (u.countSent p) := by
    intro p u hu
    dsimp only [State.countSent]
    split
    exacts [A.modRpc hu, A.modRpc hu]
  have h1 := A.release (r := .radio) (.inl rfl) (T.cut h)
  dsimp only [State.frameSent]
  split
  · split
    exacts [hrest (hcount _ (hrecord _ h1)), hrest h1]
  · exact h

/-! ## Release requests and notices (R144 to R149, R174) -/

theorem askRelease (T : Attends P) {r : Requester} (hr : s.sup.req r = .holding) (h : P none s) :
    P none (s.askRelease r) := by
  cases r with
  | cap => exact h
  | radio => exact (T.arb none).rpcAsked ((T.arb none).releasing hr h)
  | load => exact T.batAsked ((T.arb none).releasing hr h)

theorem preempt (T : Attends P) (r : Requester) (h : P none s) : P none (s.preempt r) := by
  dsimp only [State.preempt]
  split
  · cases r with
    | cap =>
      dsimp only
      split
      · next hr => exact T.askRelease hr h
      · split
        · next hl => exact T.askRelease hl h
        · exact h
    | radio =>
      dsimp only
      split
      · next hl => exact T.askRelease hl h
      · exact h
    | load => exact h
  · exact h

theorem request (T : Attends P) (r : Requester) (h : P none s) : P none (s.request r) := by
  have h1 := (T.arb none).ask r h
  dsimp only [State.request]
  split
  exacts [T.preempt _ h1, h1, h1, h1]

/-- R148: what follows in SUP, once it has the new shed level. -/
theorem supShed (T : Attends P) {level : Nat}
    (h : P none (s.modSup (fun u => { u with shed := level }))) : P none (s.supShed level) := by
  dsimp only [State.supShed]
  split
  exacts [T.preempt _ ((T.arb none).decide3 h), h]

/-- R149: what follows in SUP, once it takes the supply as present. -/
theorem supBack (T : Attends P) (h : P none (s.modSup (fun u => { u with supply := true }))) :
    P none s.supBack := by
  have hwait : ∀ (r : Requester) {u : State}, P none u ∧ u.sup.supply = true →
      P none (u.offerWaiting r) ∧ (u.offerWaiting r).sup.supply = true := by
    rintro r u ⟨hu, hs⟩
    dsimp only [State.offerWaiting]
    split
    · next hr =>
      refine ⟨(T.arb none).offer hr (.inl hs) hu, ?_⟩
      cases r <;> dsimp only [State.offer] <;> split <;> simpa [Sup.setReq] using hs
    · exact ⟨hu, hs⟩
  exact (hwait .load (hwait .radio (hwait .cap ⟨h, rfl⟩))).1

/-- R149: what follows in SUP, once it takes the supply as absent: the holders but the one of highest
priority are asked, and while one holds the grant, no other has come to it. -/
theorem supLost (T : Attends P) (h : P none (s.modSup (fun u => { u with supply := false }))) :
    P none s.supLost := by
  have hradio : ∀ u : State, P none u →
      P none (if u.sup.radio == .holding && u.sup.cap == .holding then u.askRelease .radio else u) := by
    intro u hu
    split
    · next hc =>
      simp only [Bool.and_eq_true, beq_iff_eq] at hc
      exact T.askRelease hc.1 hu
    · exact hu
  dsimp only [State.supLost]
  refine (T.arb none).decide3 ?_
  split
  · next hc =>
    simp only [Bool.and_eq_true, beq_iff_eq] at hc
    exact T.askRelease ((State.askedRadio_load rfl).trans hc.1) (hradio _ h)
  · exact hradio _ h

theorem supSupply (T : Attends P)
    (hview : ∀ {u : State} (present : Bool), P none u →
      P none (u.modSup (fun v => { v with supply := present })))
    (present : Bool) (h : P none s) : P none (s.supSupply present) := by
  dsimp only [State.supSupply]
  split
  · exact h
  · split
    exacts [T.supBack (hview _ h), T.supLost (hview _ h)]

/-- R133: a change of the shed level, for a property that does not see it. -/
theorem setShed (T : Attends P) (V : Unviewed P) (level : Nat) (h : P none s) :
    P none (s.setShed level) := by
  have h1 : P none (s.modBat (fun b => { b with shed := level })) := V.bat level s.bat.supply h
  have hrpc : ∀ {u : State}, P none u → P none (u.rpcShed level) := fun {u} hu =>
    (T.arb none).rpcShed (V.rpc level u.rpc.supply hu)
  have hsup : ∀ {u : State}, P none u → P none (u.supShed level) := fun hu => T.supShed (V.sup level hu)
  dsimp only [State.setShed]
  split
  · exact h
  · refine (T.arb none).dueCheck ((T.arb none).emit _ ?_)
    split
    exacts [hsup (hrpc h1), hrpc (hsup h1)]

theorem evalShed (T : Attends P) (V : Unviewed P) (h : P none s) : P none s.evalShed := by
  dsimp only [State.evalShed]
  split
  exacts [h, T.setShed V _ h]

/-! ## The supply (R124, R149) -/

/-- R124: the supply is taken as absent, for a property that does not see it in BAT. -/
theorem supplyGone (T : Attends P) (V : Unviewed P) (h : P none s) : P none s.supplyGone := by
  have h1 : P none (s.modBat (fun b =>
      { b with supply := false, qualLeft := none, absentSince := some s.fcu.running })) :=
    (T.arb none).of_same (V.bat s.bat.shed false h) (by simp [State.sameDuty, Bat.sameDuty])
  have h2 := (T.arb none).evalFault h1
  dsimp only [State.supplyGone]
  refine (T.arb none).emit _ (T.batAsked (T.evalShed V ?_))
  split
  exacts [h2, (T.arb none).chargerTo (.inr (.inl rfl)) h2]

theorem takeAnswer (T : Attends P) (p : Purpose) (rec : Option (Area × Nat)) (f : Frame)
    (h : P none ((s.rpcGoto .grantWait).modRpc (fun r =>
      { r with answer := some ⟨p, rec, f⟩, windowLeft := some s.store.radio.windowMs }))) :
    P none (s.takeAnswer p rec f) := T.request _ h

end Attends

/-- The notices of a supply change, for a property that does not see the supply in RPC. -/
theorem Unviewed.notifySupply {P : Option Requester → State → Prop} (V : Unviewed P) {present : Bool}
    (hsup : ∀ {u : State}, P none u → P none (u.supSupply present)) (h : P none s) :
    P none (s.notifySupply present) := by
  have hrpc : ∀ {u : State}, P none u → P none (u.modRpc (fun r => { r with supply := present })) :=
    fun {u} hu => V.rpc u.rpc.shed present hu
  dsimp only [State.notifySupply]
  split
  exacts [hsup (hrpc h), hrpc (hsup h)]

end Sys2Proof.Machine
end

section
/-! The laws of battery care, the arbiter and the radio through BAT, the store, the drive and SEQ: a
property kept by the moves of the blocks is kept by every operation of the part. -/

namespace Sys2Proof.Machine

-- The many short proofs would otherwise each hold a waiting thread.
set_option Elab.async false

variable {s t : State}

/-- R123: BAT with a battery record, before the shed level is evaluated on its charge. -/
def State.recordTaken (b : BatteryRec) (s : State) : State :=
  let s1 := (s.modStore (fun st => { st with battery := b })).updateSetpoints
  if s.store.battery.capacity = b.capacity then s1
  else (s1.modBat (fun k => { k with estimated := true })).setQ (min s1.bat.q (qFull b))

/-- A property that the operations of BAT, of the store and of a reset keep too. -/
structure Tends (P : Option Requester → State → Prop) : Prop extends Attends P where
  loads : ∀ {s : State}, s.bat.test = .settle → P none s →
    P none (s.modBat (fun b => { b with test := .load, testLoad := true }))
  setpoints : ∀ {s : State}, P none s → P none s.updateSetpoints
  charge : ∀ {s : State} {q : Nat}, q ≤ qFull s.store.battery → P none s → P none (s.setQ q)
  pends : ∀ {s : State} (a : DiscAction), s.bat.disc = .normal → P none s →
    P none (s.modBat (fun b => { b with disc := .isPending, discAction := some a }))
  asserts : ∀ {s : State}, s.bat.disc = .isPending → P none s → P none s.assertLvd
  connects : ∀ {s : State}, P none s →
    P none (s.modBat (fun b => { b with disc := .normal, discAction := none, lvdOut := false }))
  sheds : ∀ {s : State}, P none s → P none s.evalShed
  answers : ∀ {s : State} (a : Answer) (n : Nat), P none s →
    P none ((s.rpcGoto .grantWait).modRpc (fun r => { r with answer := some a, windowLeft := some n }))
  sends : ∀ {s : State}, s.rpc.state = .keying → P none s → P none (s.rpcGoto .sending)
  writes : ∀ {s : State} {b : BatteryRec} (r : Option Reply), batteryOk b = true → P none s →
    P none (s.startStore (.battery b) r)
  record : ∀ {s : State} {b : BatteryRec}, s.store.writing = some b → P none s →
    P none (s.recordTaken b)
  reset : ∀ {s : State} (c : ResetCause), P none s → P none (s.resetAs c)
  halts : ∀ {s : State} {p : Part}, p.run ≠ .running → P none s →
    P none (s.resetBlocks.modPart (fun _ => p))

/-! ## Requests to the store (R51) -/

@[simp] theorem State.startInternal_writing (k : InternalTable) (r : Option Reply) (s : State) :
    (s.startInternal k r).store.writing = none := by
  cases k <;> simp [State.startInternal, State.startStore, Store.writing, internalBody]

theorem State.requestStore_sameDuty (k : InternalTable) (r : Option Reply) (s : State) :
    s.sameDuty (s.requestStore k r) := by
  dsimp only [State.requestStore]
  split
  · simp [State.sameDuty]
  · split <;> simp [State.sameDuty, Store.writing]

namespace Tends

variable {P : Option Requester → State → Prop}

theorem of_same (T : Tends P) (h : P none s) (hd : s.sameDuty t := by simp [State.sameDuty]) :
    P none t := (T.arb none).of_same h hd

theorem modBat (T : Tends P) {f : Bat → Bat} (h : P none s)
    (hf : ∀ b, (f b).sameDuty b := by intro b; simp [Bat.sameDuty]) : P none (s.modBat f) :=
  (T.arb none).modBat h hf

theorem modRpc (T : Tends P) {f : Rpc → Rpc} (h : P none s)
    (hf : ∀ r, (f r).sameDuty r := by intro r; simp [Rpc.sameDuty]) : P none (s.modRpc f) :=
  (T.arb none).modRpc h hf

theorem modPkm (T : Tends P) (f : Pkm → Pkm) (h : P none s) : P none (s.modPkm f) := T.of_same h

theorem modRpb (T : Tends P) (f : Rpb → Rpb) (h : P none s) : P none (s.modRpb f) := T.of_same h

theorem modSeq (T : Tends P) (f : Seq → Seq) (h : P none s) : P none (s.modSeq f) := T.of_same h

theorem modDrv (T : Tends P) (f : Drv → Drv) (h : P none s) : P none (s.modDrv f) := T.of_same h

theorem modEle (T : Tends P) (f : Ele → Ele) (h : P none s) : P none (s.modEle f) := T.of_same h

theorem modSets (T : Tends P) (f : Sets → Sets) (h : P none s) : P none (s.modSets f) := T.of_same h

theorem modSlr (T : Tends P) (f : Slr → Slr) (h : P none s) : P none (s.modSlr f) := T.of_same h

theorem modFcu (T : Tends P) (f : Fcu → Fcu) (h : P none s) : P none (s.modFcu f) := T.of_same h

theorem modLku (T : Tends P) (f : Lku → Lku) (h : P none s) : P none (s.modLku f) := T.of_same h

/-- A change of the store that leaves the battery record, in force and on its way. -/
theorem modStore (T : Tends P) {f : Store → Store} (h : P none s)
    (hb : ∀ st, (f st).battery = st.battery := by simp)
    (hw : ∀ st, (f st).inFlight = st.inFlight := by simp) : P none (s.modStore f) :=
  T.of_same h (by simp [State.sameDuty, Store.writing, hb, hw])

theorem emit (T : Tends P) (e : Event) (h : P none s) : P none (s.emit e) := (T.arb none).emit e h

theorem answer (T : Tends P) (r : Option Reply) (o : CmdOutcome) (h : P none s) :
    P none (s.answer r o) := T.of_same h

theorem requestStore (T : Tends P) (k : InternalTable) (r : Option Reply) (h : P none s) :
    P none (s.requestStore k r) := T.of_same h (s.requestStore_sameDuty k r)

theorem dueCheck (T : Tends P) (h : P none s) : P none s.dueCheck := (T.arb none).dueCheck h

/-! ## The battery manager (R124 to R140) -/

theorem updateQ (T : Tends P) {q : Nat} (hq : q ≤ qFull s.store.battery) (h : P none s) :
    P none (s.updateQ q) := T.sheds (T.modRpb _ (T.charge hq h))

theorem chargeSecond (T : Tends P) (i : Option Int) (h : P none s) : P none (s.chargeSecond i) := by
  cases i with
  | none => exact h
  | some i =>
    refine T.updateQ ?_ h
    simp only [clampInt]
    omega

theorem enterFloat (T : Tends P) (hk : s.bat.charger = .absorb) (h : P none s) :
    P none s.enterFloat := by
  have h1 : P none (s.setCharger .float) :=
    (T.arb none).charger (.inr (.inr (.inr (by simp [hk])))) h
  dsimp only [State.enterFloat]
  refine T.dueCheck ?_
  split
  exacts [T.updateQ (by simp) (T.modBat h1), h1]

theorem chargerSecond (T : Tends P) (v i : Option Int) (h : P none s) :
    P none (s.chargerSecond v i) := by
  dsimp only [State.chargerSecond]
  split
  case h_1 hk =>
    split
    exacts [(T.arb none).chargerTo (.inr (.inr (.inr (by simp [hk])))) h, h]
  case h_2 hk =>
    split
    exacts [T.enterFloat hk h, h]
  case h_3 hk =>
    split
    exacts [(T.arb none).chargerTo (.inr (.inr (.inr (by simp [hk])))) h, T.modBat h]
  all_goals exact h

theorem secondMeans (T : Tends P) (v i : Option Int) (h : P none s) : P none (s.secondMeans v i) := by
  have h1 : P none ((s.modBat (Bat.means v i)).chargeSecond i) :=
    T.chargeSecond _ (T.modBat h (by intro b; simp [Bat.means, Bat.sameDuty]))
  rw [State.secondMeans_eq]
  refine T.chargerSecond _ _ ?_
  dsimp only [State.assessed]
  split
  exacts [(T.arb none).evalFault h1, h1]

theorem absorbDone (T : Tends P) (h : P none s) : P none s.absorbDone := by
  dsimp only [State.absorbDone]
  split
  · next hk => exact T.enterFloat hk h
  · exact h

theorem recoveryDone (T : Tends P) (h : P none s) : P none s.recoveryDone := by
  dsimp only [State.recoveryDone]
  split
  · next hk => exact (T.arb none).chargerTo (.inr (.inr (.inr (by simp [hk.1])))) h
  · exact h

theorem intervalElapsed (T : Tends P) (h : P none s) : P none s.intervalElapsed := by
  dsimp only [State.intervalElapsed]
  split
  exacts [T.dueCheck (T.modBat (T.modBat h)), T.modBat h]

theorem retryElapsed (T : Tends P) (h : P none s) : P none s.retryElapsed := by
  dsimp only [State.retryElapsed]
  split
  exacts [T.dueCheck (T.modBat h), h]

theorem settleDone (T : Tends P) (h : P none s) : P none s.settleDone := by
  dsimp only [State.settleDone]
  split
  · next ht =>
    split
    exacts [T.of_same (T.loads ht h) (by simp [State.sameDuty, Bat.sameDuty]), T.abortTest h]
  · exact h

theorem takeAux (T : Tends P) (pos raw : Nat) (h : P none s) : P none (s.takeAux pos raw) := by
  dsimp only [State.takeAux]
  split
  · split
    exacts [T.modBat h, T.modBat h, (T.arb none).evalFault (T.setpoints (T.modBat h)), T.modBat h]
  · exact h

theorem cancelDisconnect (T : Tends P) (h : P none s) : P none s.cancelDisconnect :=
  T.dueCheck (T.of_same (T.connects h) (by simp [State.sameDuty, Bat.sameDuty]))

theorem supplyEdge (T : Tends P) (level : Bool) (h : P none s) : P none (s.supplyEdge level) := by
  have h1 : P none (s.modLines (fun l => { l with supplyPresent := level })) := T.of_same h
  dsimp only [State.supplyEdge]
  split
  exacts [h, T.modBat h1]

/-- R124: the supply is taken as present, for a property that does not see it in BAT. -/
theorem supplyBack (T : Tends P) (V : Unviewed P) (h : P none s) : P none s.supplyBack := by
  have h1 : P none (s.modBat (fun b =>
      { b with supply := true, qualLeft := none, absentSince := none })) :=
    T.of_same (V.bat s.bat.shed true h) (by simp [State.sameDuty, Bat.sameDuty])
  have h2 := (T.arb none).evalFault h1
  have hsupply : (State.evalFault (s.modBat (fun b =>
      { b with supply := true, qualLeft := none, absentSince := none }))).bat.supply = true := by
    have haside := (State.testOnly.refl (s.modBat (fun b =>
      { b with supply := true, qualLeft := none, absentSince := none }))).evalFault.1
    exact congrArg Bat.supply haside
  dsimp only [State.supplyBack]
  refine T.emit _ (T.cancelDisconnect (T.setShed V _ ?_))
  (repeat' split)
  exacts [(T.arb none).enterFault (.inl hsupply) h2, (T.arb none).chargerTo (.inl hsupply) h2, h2]

/-- R124, R149: a supply change is taken, for a property that sees the supply at most in SUP. -/
theorem takeSupply (T : Tends P) (V : Unviewed P)
    (hsup : ∀ (present : Bool) {u : State}, P none u → P none (u.supSupply present))
    (h : P none s) : P none s.takeSupply := by
  dsimp only [State.takeSupply]
  split
  · split
    · rw [State.takeSupplyPresent_eq]
      exact V.notifySupply (hsup true) (T.supplyBack V h)
    · rw [State.takeSupplyAbsent_eq]
      exact V.notifySupply (hsup false) (T.supplyGone V h)
  · exact h

theorem enterPending (T : Tends P) (hd : s.bat.disc = .normal) (h : P none s) :
    P none s.enterPending := by
  have h1 : ∀ a, P none (s.modBat (fun b =>
      { b with disc := .isPending, discAction := some a, qualCount := Config.qualSeconds })) :=
    fun a => T.of_same (T.pends a hd h) (by simp [State.sameDuty, Bat.sameDuty])
  dsimp only [State.enterPending]
  split
  exacts [T.asserts (by simp) (T.emit _ (h1 _)), T.emit _ (h1 _)]

theorem qualify (T : Tends P) (v : Option Int) (h : P none s) : P none (s.qualify v) := by
  dsimp only [State.qualify]
  split
  · next hd =>
    split
    exacts [T.enterPending hd.1 h, T.modBat h]
  · exact h

/-! ## The radio channel (R171 to R177) -/

theorem takeAnswer (T : Tends P) (p : Purpose) (rec : Option (Area × Nat)) (f : Frame)
    (h : P none s) : P none (s.takeAnswer p rec f) := T.toAttends.takeAnswer _ _ _ (T.answers _ _ h)

theorem pollTaken (T : Tends P) (payload : List Byte) (h : P none s) :
    P none (s.pollTaken payload) := by
  dsimp only [State.pollTaken]
  split
  · have h1 := (T.arb none).acknowledge (pollAck payload)
      (T.modRpc (f := fun r => { r with polls := satAdd 65535 r.polls 1 }) h)
    dsimp only [State.answerPoll]
    split
    exacts [T.takeAnswer _ _ _ h1, h1]
  · exact h

theorem windowExpired (T : Tends P) (h : P none s) : P none s.windowExpired := by
  dsimp only [State.windowExpired]
  split
  exacts [(T.arb none).lookCandidate ((T.arb none).rpcWithdraw (.inr (.inr rfl)) h), h]

theorem keyExpired (T : Tends P) (h : P none s) : P none s.keyExpired := by
  dsimp only [State.keyExpired]
  split
  · next hk => exact T.sends hk.1 h
  · exact h

theorem holdoffExpired (T : Tends P) (h : P none s) : P none s.holdoffExpired := by
  dsimp only [State.holdoffExpired]
  split
  · split
    exacts [T.takeAnswer _ _ _ h, (T.arb none).rpcListen h]
  · exact h

theorem confirmExpired (T : Tends P) (h : P none s) : P none s.confirmExpired := by
  dsimp only [State.confirmExpired]
  split
  exacts [(T.arb none).lookCandidate (T.modRpc (T.modPkm _ h)), h]

/-! ## The mechanism drive (R91 to R104) -/

theorem raiseRecharge (T : Tends P) (h : P none s) : P none s.raiseRecharge := by
  dsimp only [State.raiseRecharge]
  split
  exacts [h, T.request _ (T.modDrv _ h)]

theorem drvCap (T : Tends P) (v : Nat) (stale : Bool) (h : P none s) : P none (s.drvCap v stale) := by
  have h1 := T.modDrv (fun d => { d with cap := v, capStale := stale }) h
  have hlower : ∀ u : State, P none u → P none u.lowerRecharge := by
    intro u hu
    dsimp only [State.lowerRecharge]
    split
    exacts [(T.arb none).release (.inr rfl) (T.modDrv _ hu), hu]
  dsimp only [State.drvCap]
  (repeat' split)
  exacts [T.raiseRecharge h1, hlower _ h1, h1]

theorem abandonClose (T : Tends P) (c : AbandonCause) (h : P none s) : P none (s.abandonClose c) := by
  dsimp only [State.abandonClose]
  split
  exacts [T.raiseRecharge (T.modDrv _ (T.emit _ (T.modDrv _ h))), h]

theorem startTrip (T : Tends P) (c : TripCause) (h : P none s) : P none (s.startTrip c) := by
  dsimp only [State.startTrip]
  exact T.modDrv _ h

theorem drvTrip (T : Tends P) (c : TripCause) (h : P none s) : P none (s.drvTrip c) := by
  dsimp only [State.drvTrip]
  split
  · split
    exacts [T.modDrv _ h, T.startTrip _ h]
  · exact T.raiseRecharge (T.startTrip _ (T.emit _ (T.modDrv _ h)))
  all_goals exact h

theorem drvClose (T : Tends P) (c : CloseCause) (h : P none s) : P none (s.drvClose c) := by
  dsimp only [State.drvClose]
  split
  exacts [T.modDrv _ h, h, h, h]

theorem drvTripDone (T : Tends P) (h : P none s) : P none s.drvTripDone := by
  dsimp only [State.drvTripDone]
  split
  exacts [T.modDrv _ (T.modDrv _ h), T.modDrv _ h]

theorem firstPeriod (T : Tends P) (h : P none s) : P none s.firstPeriod := by
  dsimp only [State.firstPeriod]
  split
  · exact T.requestStore _ _ (T.modDrv _ (T.modDrv _ (T.emit _ h)))
  · exact T.requestStore _ _ (T.modDrv _ (T.raiseRecharge (T.modDrv _ (T.modDrv _ (T.emit _ h)))))

theorem drvHalt (T : Tends P) (h : P none s) : P none s.drvHalt := by
  dsimp only [State.drvHalt]
  exact T.modDrv _ (T.requestStore _ _ (T.modDrv _ (T.emit _ (T.modDrv _ h))))

theorem drvCloseFail (T : Tends P) (h : P none s) : P none s.drvCloseFail := by
  dsimp only [State.drvCloseFail]
  exact T.modDrv _ (T.requestStore _ _ (T.modDrv _ (T.emit _ (T.modDrv _ h))))

theorem drvRestore (T : Tends P) (h : P none s) : P none s.drvRestore := T.emit _ (T.modDrv _ h)

/-! ## The reclose sequence (R64 to R87) -/

theorem tellBat (T : Tends P) (h : P none s) : P none s.tellBat := by
  dsimp only [State.tellBat]
  split
  · next hc =>
    simp only [awaitsSeq, Bool.and_eq_true, beq_iff_eq] at hc
    exact T.asserts hc.1.1 h
  · exact h

theorem seqGoto (T : Tends P) (st : SeqState) (h : P none s) : P none (s.seqGoto st) :=
  T.tellBat (T.modSeq _ h)

theorem setShot (T : Tends P) (n : Nat) (h : P none s) : P none (s.setShot n) :=
  T.modEle _ (T.modSeq _ h)

theorem seqLockout (T : Tends P) (r : LockReason) (h : P none s) : P none (s.seqLockout r) :=
  T.emit _ (T.modSeq _ (T.seqGoto _ h))

theorem seqReclaim (T : Tends P) (h : P none s) : P none s.seqReclaim := by
  dsimp only [State.seqReclaim]
  exact T.modSeq _ (T.seqGoto _ h)

theorem seqOpenInterval (T : Tends P) (h : P none s) : P none s.seqOpenInterval := by
  dsimp only [State.seqOpenInterval]
  exact T.modSeq _ (T.seqGoto _ h)

theorem seqHandClose (T : Tends P) (h : P none s) : P none s.seqHandClose :=
  T.seqReclaim (T.modSeq _ (T.setShot _ h))

theorem seqTripDone (T : Tends P) (h : P none s) : P none s.seqTripDone := by
  dsimp only [State.seqTripDone, State.seqTripEnd]
  (repeat' split)
  exacts [T.seqLockout _ h, T.seqLockout _ h, T.seqLockout _ h, T.seqLockout _ h, T.seqLockout _ h,
    T.seqOpenInterval h, h]

theorem seqCloseDone (T : Tends P) (h : P none s) : P none s.seqCloseDone := by
  dsimp only [State.seqCloseDone]
  split
  · exact T.seqReclaim (T.emit _ h)
  · exact T.seqHandClose (T.emit _ h)
  all_goals exact h

theorem seqCloseFailed (T : Tends P) (h : P none s) : P none s.seqCloseFailed := by
  dsimp only [State.seqCloseFailed]
  split
  exacts [T.seqLockout _ h, h]

theorem seqRestored (T : Tends P) (h : P none s) : P none s.seqRestored := by
  dsimp only [State.seqRestored]
  (repeat' split)
  exacts [T.seqLockout _ h, T.seqLockout _ h, T.seqGoto _ (T.setShot _ h), T.seqGoto _ h, h]

theorem placeTrip (T : Tends P) (c : TripCause) (announce : Option Flags4) (h : P none s) :
    P none (s.placeTrip c announce) := by
  have h1 : P none ((s.drvTrip c).tripping c) := T.modSeq _ (T.seqGoto _ (T.drvTrip c h))
  have h2 : P none (((s.drvTrip c).tripping c).announced c announce) := by
    cases announce
    exacts [h1, T.emit _ h1]
  by_cases ha : tripAnswer s.drv = .refused
  · simpa [State.placeTrip, ha] using h
  · rw [State.placeTrip_eq ha]
    split
    exacts [T.seqTripDone h2, h2]

theorem seqProtect (T : Tends P) (h : P none s) : P none s.seqProtect := by
  dsimp only [State.seqProtect]
  split
  exacts [h, T.placeTrip _ _ (T.setShot _ h)]

theorem seqTripUnknown (T : Tends P) (c : TripCause) (m : RestartMark) (h : P none s) :
    P none (s.seqTripUnknown c m) := by
  dsimp only [State.seqTripUnknown]
  split
  exacts [T.modSeq _ (T.drvTrip _ h), h]

theorem seqTripCommand (T : Tends P) (h : P none s) : P none s.seqTripCommand := by
  dsimp only [State.seqTripCommand]
  split
  exacts [T.placeTrip _ _ h, T.placeTrip _ _ h, T.placeTrip _ _ h, T.seqLockout _ h, T.seqLockout _ h,
    h, h, T.seqTripUnknown _ _ h, h]

theorem lowBatteryRequest (T : Tends P) (h : P none s) : P none s.lowBatteryRequest := by
  refine T.tellBat ?_
  dsimp only [State.seqLowBattery]
  split
  exacts [T.placeTrip _ _ h, T.placeTrip _ _ h, T.placeTrip _ _ h, T.modSeq _ h, T.seqLockout _ h,
    T.seqLockout _ h, T.seqTripUnknown _ _ h, h, h]

theorem placeClose (T : Tends P) (c : CloseCause) (ans : CloseAnswer) (h : P none s) :
    P none (s.placeClose c ans) := by
  have h1 := T.modSeq (fun q => { q with closeCause := some c }) (T.seqGoto .closing (T.drvClose c h))
  dsimp only [State.placeClose]
  split
  exacts [T.seqCloseDone h1, h1]

theorem checkClose (T : Tends P) (h : P none s) : P none s.checkClose := by
  dsimp only [State.checkClose]
  split
  · split
    exacts [T.placeClose _ _ h, T.placeClose _ _ h, h, h]
  · exact h

theorem seqCloseWait (T : Tends P) (h : P none s) : P none s.seqCloseWait :=
  T.checkClose (T.modSeq _ (T.seqGoto _ h))

theorem seqCloseCommand (T : Tends P) (h : P none s) : P none s.seqCloseCommand := by
  dsimp only [State.seqCloseCommand]
  split
  exacts [T.placeClose _ _ (T.modSeq _ (T.setShot _ h)), h]

theorem seqEpisode (T : Tends P) (r : ElemResult) (h : P none s) : P none (s.seqEpisode r) := by
  have hadvance : ∀ u : State, P none u → P none u.seqAdvance := fun u hu =>
    T.emit _ (T.seqReclaim (T.setShot _ hu))
  dsimp only [State.seqEpisode]
  (repeat' split)
  exacts [T.modSeq _ h, T.modSeq _ h, h, hadvance _ (T.modSeq _ h), T.modSeq _ h]

theorem seqResult (T : Tends P) (r : ElemResult) (h : P none s) : P none (s.seqResult r) := by
  have h1 := T.modSeq (fun q => { q with lastPickup := r.pickup, lastOperate := r.operate }) h
  dsimp only [State.seqResult]
  split
  · split
    exacts [T.seqProtect h1, T.seqEpisode _ h1]
  · split
    exacts [T.seqProtect h1, T.seqEpisode _ (T.modSeq _ h1)]
  all_goals exact h1

theorem seqTakeResult (T : Tends P) (r : ElemResult) (h : P none s) : P none (s.seqTakeResult r) := by
  dsimp only [State.seqTakeResult]
  split
  exacts [T.checkClose (T.seqResult _ h), T.seqResult _ h]

theorem seqLeaveUnknown (T : Tends P) (d : Delivery) (h : P none s) : P none (s.seqLeaveUnknown d) := by
  dsimp only [State.seqLeaveUnknown]
  (repeat' split)
  exacts [T.seqLockout _ h, T.modSeq _ (T.seqGoto _ h), T.seqGoto _ (T.setShot _ h), T.seqLockout _ h, h]

theorem seqPosition (T : Tends P) (d : Delivery) (changed : Bool) (h : P none s) :
    P none (s.seqPosition d changed) := by
  have ho : P none (s.seqOpened d changed) := by
    dsimp only [State.seqOpened]
    split
    exacts [T.seqLockout _ (T.emit _ h), h]
  have hc : P none (s.seqClosed d changed) := by
    dsimp only [State.seqClosed]
    split
    exacts [T.seqHandClose (T.emit _ h), h]
  dsimp only [State.seqPosition]
  split
  · exact h
  · split
    exacts [h, ho, ho, hc, hc, hc, h, h, h]

theorem seqView (T : Tends P) (f : Seq → Seq) (h : P none s) : P none (s.seqView f) := by
  dsimp only [State.seqView]
  split
  exacts [T.modSeq _ h, T.checkClose (T.modSeq _ h)]

theorem seqTags (T : Tends P) (present noClose : Bool) (h : P none s) :
    P none (s.seqTags present noClose) := by
  have hno : ∀ u : State, P none u → P none u.seqNoClose := by
    intro u hu
    dsimp only [State.seqNoClose]
    split
    exacts [T.seqLockout _ (T.abandonClose _ hu), T.seqLockout _ hu, T.seqLockout _ hu, hu, hu, hu, hu,
      hu, hu]
  have hany : ∀ u : State, P none u → P none u.seqAnyTag := by
    intro u hu
    dsimp only [State.seqAnyTag]
    split
    exacts [T.seqLockout _ hu, T.seqLockout _ hu, T.modSeq _ hu, hu, hu, hu, hu, hu, hu]
  dsimp only [State.seqTags]
  (repeat' split)
  exacts [hno _ (T.modSeq _ h), hany _ (T.modSeq _ h), T.checkClose (T.modSeq _ h)]

theorem seqReclaimEnd (T : Tends P) (h : P none s) : P none s.seqReclaimEnd :=
  T.seqGoto _ (T.modSeq _ (T.setShot _ (T.emit _ h)))

/-! ## Selections and arrivals at SEQ (R55 to R60) -/

theorem takeLive (T : Tends P) (l : LiveSet) (h : P none s) : P none (s.takeLive l) := by
  dsimp only [State.takeLive]
  refine T.seqResult _ ?_
  split
  exacts [T.setShot _ (T.modEle _ (T.modSets _ h)), T.modEle _ (T.modSets _ h)]

theorem applyLoad (T : Tends P) (g : Option Nat) (c : SelCause) (r : Option Reply) (h : P none s) :
    P none (s.applyLoad g c r) :=
  T.emit _ (T.requestStore _ _ (T.modSets _ (T.takeLive _ h)))

theorem completeInPlace (T : Tends P) (c : SelCause) (h : P none s) : P none (s.completeInPlace c) := by
  have h1 : ∀ f : Sets → Sets, P none (if (s.modSets f).sets.ret = s.sets.ret then s.modSets f
      else (s.modSets f).requestStore .selection none) := by
    intro f
    split
    exacts [T.modSets _ h, T.requestStore _ _ (T.modSets _ h)]
  exact h1 _

theorem applyPending (T : Tends P) (h : P none s) : P none s.applyPending := by
  dsimp only [State.applyPending]
  (repeat' split)
  exacts [h, T.completeInPlace _ h, T.applyLoad _ _ _ h]

theorem applyIfSettled (T : Tends P) (h : P none s) : P none s.applyIfSettled := by
  dsimp only [State.applyIfSettled]
  split
  exacts [T.applyPending h, h]

theorem setTagged (T : Tends P) (h : P none s) : P none s.setTagged := by
  dsimp only [State.setTagged]
  split
  · exact h
  · split
    · refine T.applyIfSettled ?_
      split
      exacts [T.modSets _ h, T.requestStore _ _ (T.modSets _ h)]
    · exact h

theorem setUntagged (T : Tends P) (h : P none s) : P none s.setUntagged := by
  dsimp only [State.setUntagged]
  (repeat' split)
  exacts [h, T.completeInPlace _ (T.modSets _ h), T.applyIfSettled (T.modSets _ h)]

theorem seqArrive (T : Tends P) {f : State → State} (h : P none (f s)) : P none (s.seqArrive f) := by
  have hsettle : ∀ u : State, P none u → P none u.settleNotice := by
    intro u hu
    dsimp only [State.settleNotice]
    (repeat' split)
    exacts [hu, T.applyPending (T.modSets _ hu), T.modSets _ hu]
  dsimp only [State.seqArrive, State.resendTrip]
  refine hsettle _ ?_
  split
  exacts [T.lowBatteryRequest h, h]

end Tends

end Sys2Proof.Machine
end

section
/-! The laws of battery care, the arbiter and the radio through the rows: the sensor link, the completion
of store operations, the clock and the execution of commands. -/

namespace Sys2Proof.Machine

-- The many short proofs would otherwise each hold a waiting thread.
set_option Elab.async false

variable {s t : State}

namespace Tends

variable {P : Option Requester → State → Prop}

/-! ## The sensor link (R1 to R20) -/

theorem seqDelivery (T : Tends P) (d : Delivery) (h : P none s) : P none (s.seqDelivery d) := by
  have hele : P none ((s.modSeq (deliveryViews d)).elePosition d) := by
    dsimp only [State.elePosition]
    split
    exacts [T.seqTakeResult _ (T.modEle _ (T.modEle _ (T.modSeq _ h))), T.modEle _ (T.modSeq _ h)]
  have hhandle : ∀ (before : Handle) (u : State), P none u → P none (u.seqHandle before) := by
    intro before u hu
    dsimp only [State.seqHandle]
    split
    exacts [T.seqLockout _ hu, hu]
  have h2 : P none (if ((s.modSeq (deliveryViews d)).elePosition d).seq.state = .unknown ∧
        d.stale = false
      then ((s.modSeq (deliveryViews d)).elePosition d).seqLeaveUnknown d
      else (((s.modSeq (deliveryViews d)).elePosition d).seqHandle s.seq.handle).seqPosition d
        (s.seq.position != d.position)) := by
    split
    exacts [T.seqLeaveUnknown _ hele, T.seqPosition _ _ (hhandle _ _ hele)]
  dsimp only [State.seqDelivery]
  split
  exacts [T.checkClose h2, h2]

theorem drvDelivery (T : Tends P) (d : Delivery) (h : P none s) : P none (s.drvDelivery d) := by
  have hclose : ∀ u : State, P none u → P none u.drvCloseDone := fun _ hu => T.of_same hu
  have hconfirm : ∀ (news : Bool) (u : State), P none u → P none (u.drvConfirm news d) := by
    intro news u hu
    dsimp only [State.drvConfirm]
    (repeat' split)
    exacts [T.raiseRecharge (T.seqArrive (T.seqTripDone (T.drvTripDone hu))),
      T.raiseRecharge (T.seqArrive (T.seqCloseDone (hclose _ hu))), hu]
  have h1 : P none (s.drvViews d) := T.modDrv _ h
  dsimp only [State.drvDelivery]
  refine hconfirm _ _ ?_
  split
  exacts [T.abandonClose _ h1, h1]

theorem deliver (T : Tends P) (h : P none s) : P none s.deliver := by
  have hlku : ∀ (d : Delivery) (u : State), P none u → P none (u.lkuHandle d) := by
    intro d u hu
    have h1 := T.modLku (fun l => { l with handle := d.handle, handleStale := d.stale }) hu
    dsimp only [State.lkuHandle]
    (repeat' split)
    exacts [h1, T.emit _ h1, T.emit _ h1]
  dsimp only [State.deliver]
  refine hlku _ _ ?_
  split
  exacts [T.seqArrive (T.seqDelivery _ (T.drvDelivery _ h)),
    T.drvDelivery _ (T.seqArrive (T.seqDelivery _ h))]

theorem eStep (T : Tends P) (h : P none s) : P none s.eStep := by
  have h1 : P none ((s.modMeu (measure s.sets.live.grp)).modEle
      (eleStep s.sets.live (measure s.sets.live.grp s.meu).mags)) := T.of_same h
  have h2 := T.seqArrive (T.seqTakeResult (stepResult s.ele
    (eleStep s.sets.live (measure s.sets.live.grp s.meu).mags s.ele)) h1)
  dsimp only [State.eStep]
  refine T.modRpb _ ?_
  split
  exacts [h2, T.seqArrive (T.seqView _ h2)]

theorem stepAndDeliver (T : Tends P) (estep delivery : Bool) (h : P none s) :
    P none (s.stepAndDeliver estep delivery) := by
  dsimp only [State.stepAndDeliver]
  cases estep <;> cases delivery <;> split
  exacts [h, h, T.deliver h, T.deliver h, T.eStep h, T.eStep h, T.eStep (T.deliver h),
    T.deliver (T.eStep h)]

theorem missingSlot (T : Tends P) (h : P none s) : P none s.missingSlot := by
  have h1 : P none s.countMissing := T.modSlr _ h
  have hlost : P none s.countMissing.loseLink := T.setpoints (T.of_same h1)
  have hhold : ∀ u : State, P none u → P none u.holdSlot := fun u hu => T.of_same hu
  dsimp only [State.missingSlot]
  split
  · split
    exacts [T.deliver (T.emit _ hlost),
      T.stepAndDeliver _ _ (hhold _ (T.setpoints (T.modSlr _ h1)))]
  · split
    exacts [T.emit _ hlost, T.stepAndDeliver _ _ (hhold _ h1)]
  · exact h1
  · exact T.of_same h1

theorem missingSlots (T : Tends P) (n : Nat) (h : P none s) : P none (s.missingSlots n) := by
  induction n generalizing s with
  | zero => exact h
  | succ n ih => exact ih (T.missingSlot h)

theorem goodSlot (T : Tends P) (f : SampleFrame) (h : P none s) : P none (s.goodSlot f) := by
  have hlink : P none (s.goodLink f) := T.of_same h
  have hup : P none ((s.goodLink f).linkUpNotices s.slr.link) := by
    dsimp only [State.linkUpNotices]
    split
    · refine T.seqArrive (T.seqView _ (T.setpoints ?_))
      split
      exacts [hlink, T.emit _ hlink]
    · exact hlink
  have haccept : P none (s.accepted f) :=
    T.modSlr _ (T.seqArrive (T.seqView _ (T.drvCap _ _ hup)))
  have hsample : ∀ u : State, P none u → P none (u.forwardSample f) := fun u hu => T.of_same hu
  rw [State.goodSlot_eq]
  exact hsample _ (T.takeAux _ _ (T.stepAndDeliver _ _ haccept))

theorem sampleReceived (T : Tends P) (bytes : List Byte) (h : P none s) :
    P none (s.sampleReceived bytes) := by
  have h0 : P none s.restartSilence := T.modSlr _ h
  have h1 : P none (s.restartSilence.accountSeq (decodeSample bytes).seqNo) :=
    T.modSlr _ (T.missingSlots _ h0)
  dsimp only [State.sampleReceived]
  (repeat' split)
  exacts [T.missingSlot h1, T.goodSlot _ h1, T.missingSlot (T.modSlr _ h0)]

/-! ## The durable store (R51, R52, R109) -/

theorem tagsStored (T : Tends P) (cs : List TagChange) (h : P none s) : P none (s.tagsStored cs) := by
  have heffect : P none (s.effectTags cs) := by
    induction cs generalizing s with
    | nil => exact h
    | cons c cs ih =>
      refine ih ?_
      dsimp only [State.effectTag]
      exact T.modStore (T.modLku _ h)
  have hset : ∀ (now before : List Tag) (u : State), P none u →
      P none (if anyTag before = anyTag now then u
        else if anyTag now then u.setTagged else u.setUntagged) := by
    intro now before u hu
    (repeat' split)
    exacts [hu, T.setTagged hu, T.setUntagged hu]
  have hseq : ∀ (now before : List Tag) (u : State), P none u →
      P none (if anyTag before = anyTag now ∧ anyNoClose before = anyNoClose now then u
        else u.seqArrive (State.seqTags (anyTag now) (anyNoClose now))) := by
    intro now before u hu
    split
    exacts [hu, T.seqArrive (T.seqTags _ _ hu)]
  have hnotice : P none ((s.effectTags cs).tagNotices s.lku.inForce) := by
    dsimp only [State.tagNotices]
    split
    exacts [hseq _ _ _ (hset _ _ _ heffect), hset _ _ _ (hseq _ _ _ heffect)]
  have hemit : ∀ (es : List Event) (u : State), P none u → P none (u.emitAll es) := by
    intro es
    induction es with
    | nil => exact fun u hu => hu
    | cons e es ih => exact fun u hu => ih _ (T.emit e hu)
  exact T.of_same (hemit (tagEvents cs s.lku.inForce) _ hnotice) (by simp [State.sameDuty, State.tagsStored])

theorem written (T : Tends P) (table index : Nat) (r : Option Reply) (h : P none s) :
    P none (s.written table index r) := T.emit _ (T.answer _ _ h)

theorem batteryStored (T : Tends P) {b : BatteryRec} (hw : s.store.writing = some b)
    (h : P none s) : P none (s.batteryStored b) := by
  have h1 := T.record hw h
  dsimp only [State.recordTaken] at h1
  dsimp only [State.batteryStored]
  by_cases hc : s.store.battery.capacity = b.capacity
  · simp only [hc, if_true] at h1 ⊢
    split
    exacts [h1, T.modBat h1]
  · simp only [hc, if_false] at h1 ⊢
    split
    exacts [T.sheds h1, T.modBat (T.sheds h1)]

theorem emptyArea (T : Tends P) (a : Area) (h : P none s) : P none (s.emptyArea a) := by
  dsimp only [State.emptyArea]
  split
  exacts [T.modPkm _ h, (T.arb none).setUrgent _ (T.modRpb _ h), T.modPkm _ h, T.modPkm _ h]

theorem storeComplete (T : Tends P) (h : P none s) : P none s.storeComplete := by
  have hfree : ∀ u : State, P none u → P none u.storeFree := by
    intro u hu
    have hnone : u.storeFree.store.writing = none := by
      dsimp only [State.storeFree]
      split
      exacts [rfl, State.startInternal_writing _ _ _]
    refine T.of_same hu ?_
    simp [State.sameDuty, hnone]
  dsimp only [State.storeComplete]
  split
  · exact h
  · next op hop =>
    refine hfree _ ?_
    dsimp only [State.completeStore]
    split
    case h_1 => exact T.written _ _ _ (T.modStore h)
    case h_2 =>
      refine T.written _ _ _ ?_
      dsimp only [State.groupStored, State.dropPendingOf]
      (repeat' split)
      exacts [T.emit _ (T.modSets _ (T.modStore h)), T.modStore h, T.modStore h]
    case h_3 => exact T.written _ _ _ (T.modStore h)
    case h_4 => exact T.answer _ _ (T.modStore h)
    case h_5 => exact T.tagsStored _ h
    case h_6 => exact T.written _ _ _ (T.modStore h)
    case h_7 b hb => exact T.written _ _ _ (T.batteryStored (by simp [Store.writing, hop, hb]) h)
    case h_8 =>
      refine T.written _ _ _ ?_
      dsimp only [State.radioStored]
      split
      exacts [(T.arb none).lookCandidate (T.modStore h),
        (T.arb none).rpcDropUnsolicited (T.modStore h)]
    case h_9 =>
      exact T.written _ _ _ (T.modStore (T.emptyArea _ (T.emptyArea _ (T.emptyArea _
        (T.emptyArea _ h)))))
    case h_10 => exact T.modStore h

theorem tagExpires (T : Tends P) (crew : Nat) (h : P none s) : P none (s.tagExpires crew) := by
  dsimp only [State.tagExpires]
  split
  exacts [T.modLku _ h, T.requestStore _ _ (T.modLku _ (T.modLku _ h))]

theorem countdownEnd (T : Tends P) (crew : Nat) (h : P none s) : P none (s.countdownEnd crew) := by
  dsimp only [State.countdownEnd]
  split
  exacts [T.tagExpires _ h, h]

/-! ## Timers and the clock (R71 to R75, R94, R95, R139, R140, R187) -/

theorem seqExpiry (T : Tends P) (k : SeqTimerKind) {f : State → State} (hf : P none (f s))
    (h : P none s) : P none (s.seqExpiry k f) := by
  dsimp only [State.seqExpiry]
  split
  exacts [T.seqArrive hf, h]

theorem tripMonitorEnd (T : Tends P) (h : P none s) : P none s.tripMonitorEnd := by
  have h1 : P none (s.drvHalt.seqArrive State.seqHalted).raiseRecharge :=
    T.raiseRecharge (T.seqArrive (T.seqGoto _ (T.drvHalt h)))
  dsimp only [State.tripMonitorEnd]
  (repeat' split)
  exacts [h, h1, T.firstPeriod h, h1, h, h, h]

theorem closeMonitorEnd (T : Tends P) (h : P none s) : P none s.closeMonitorEnd := by
  dsimp only [State.closeMonitorEnd]
  split
  exacts [T.raiseRecharge (T.seqArrive (T.seqCloseFailed (T.drvCloseFail h))), h]

theorem secondEnd (T : Tends P) (h : P none s) : P none s.secondEnd := by
  have h1 := T.qualify (meanOf s.bat.voltSum s.bat.voltCount)
    (T.secondMeans (meanOf s.bat.voltSum s.bat.voltCount) (meanOf s.bat.ampSum s.bat.ampCount) h)
  dsimp only [State.secondEnd, State.sendIfPending]
  split
  exacts [T.seqArrive (T.lowBatteryRequest h1), h1]

/-- Time moves no state and no output: timers run on where they ran (R187). -/
theorem State.countMs_sameDuty (k : Nat) (s : State) : s.sameDuty (s.countMs k) := by
  have hw : (s.countMs k).store.writing = s.store.writing := by
    cases h : s.store.inFlight <;> simp [State.countMs, Store.writing, h]
  refine ⟨?_, rfl, ?_, rfl, .inl hw, rfl⟩
  · simp [State.countMs, Bat.elapse, Bat.sameDuty]
  · simp [State.countMs, Rpc.elapse, Rpc.sameDuty, lessBy]

theorem tick (T : Tends P) (h : P none s) : P none s.tick := by
  have h1 : P none (s.countTicks 1) := T.of_same h
  dsimp only [State.tick]
  split
  exacts [T.modFcu _ h1, T.modFcu _ (T.of_same h1 (State.countMs_sameDuty _ _))]

theorem partSecond (T : Tends P) (h : P none s) : P none s.partSecond := by
  have h1 : P none (s.elapse (1000 - s.fcu.time.ms)) :=
    T.of_same (T.of_same h (t := s.countTicks _)) (State.countMs_sameDuty _ _)
  dsimp only [State.partSecond]
  refine (T.arb none).rpcPower (T.modFcu _ ?_)
  split
  exacts [h, h1]

/-! ## The execution of commands (R183) -/

/-- A write of any other table than the battery record (R46 to R50, R54, R121, R164, R178). -/
theorem startStore (T : Tends P) {b : StoreBody} (r : Option Reply) (hb : ∀ k, b ≠ .battery k)
    (h : P none s) : P none (s.startStore b r) := by
  have hw : (s.startStore b r).store.writing = none := by
    cases b with
    | battery k => exact absurd rfl (hb k)
    | _ => rfl
  exact T.of_same h ⟨by simp [State.startStore], rfl, by simp [State.startStore], rfl, .inr hw, rfl⟩

theorem stageTag (T : Tends P) (c : TagChange) (h : P none s) : P none (s.stageTag c) :=
  T.requestStore _ _ (T.modLku _ h)

/-- What the owner of a command does with it. -/
theorem body (T : Tends P) (k : Option CmdKind) (e : IntakeEntry) (r : Option Reply)
    (h : P none s) : P none (bodyOf k e r s) := by
  have ha : ∀ o, P none (s.answer r o) := fun o => T.answer r o h
  match k with
  | none => exact ha _
  | some .readStatus =>
    dsimp only [bodyOf, bodyReadStatus]
    split
    exacts [T.of_same h, ha _]
  | some .readTable =>
    dsimp only [bodyOf, bodyReadTable]
    split
    exacts [T.of_same h, ha _]
  | some .selectGroup =>
    have hpend : ∀ g, P none (s.pendSelection g) := by
      intro g
      dsimp only [State.pendSelection]
      split
      exacts [T.requestStore _ _ (T.modSets _ (T.modSets _ h)), T.modSets _ h]
    dsimp only [bodyOf, bodySelectGroup]
    (repeat' split)
    exacts [ha _, ha _, ha _, ha _, T.applyLoad _ _ _ h, T.answer _ _ (hpend _)]
  | some .setTime =>
    dsimp only [bodyOf, bodySetTime]
    split
    exacts [T.answer _ _ ((T.arb none).rpcPower (T.modFcu _ h)), ha _]
  | some .sampleForward =>
    dsimp only [bodyOf, bodySampleForward]
    split
    exacts [T.answer _ _ (T.of_same h), ha _]
  | some .trip =>
    dsimp only [bodyOf, bodyTrip]
    split
    exacts [T.answer _ _ (T.seqArrive (T.seqTripCommand h)), ha _]
  | some .close =>
    dsimp only [bodyOf, bodyClose]
    split
    exacts [T.answer _ _ (T.seqArrive (T.seqCloseCommand h)), ha _]
  | some .placeTag =>
    dsimp only [bodyOf, bodyPlaceTag]
    (repeat' split)
    exacts [ha _, ha _, T.stageTag _ h, ha _, T.stageTag _ h]
  | some .removeTag =>
    dsimp only [bodyOf, bodyRemoveTag]
    (repeat' split)
    exacts [ha _, ha _, T.stageTag _ h, ha _]
  | some .testStart =>
    dsimp only [bodyOf, bodyTestStart]
    split
    · exact ha _
    · split
      · exact ha _
      · next ht =>
        split
        exacts [T.answer _ _ ((T.arb none).startTest _ (by simpa using ht) h), ha _]
  | some .testCancel =>
    dsimp only [bodyOf, bodyTestCancel]
    (repeat' split)
    exacts [ha _, ha _, T.answer _ _ (T.cancelTest h)]
  | some .writeCurve =>
    dsimp only [bodyOf, bodyWriteCurve]
    split
    exacts [T.startStore _ (by simp) h, ha _]
  | some .clearCurve =>
    dsimp only [bodyOf, bodyClearCurve]
    (repeat' split)
    exacts [ha _, ha _, ha _, ha _, T.startStore _ (by simp) h]
  | some .writeGroup =>
    have hclear : ∀ g, P none (s.clearGroup g r) := by
      intro g
      dsimp only [State.clearGroup]
      (repeat' split)
      exacts [ha _, ha _, ha _, T.startStore _ (by simp) h]
    dsimp only [bodyOf, bodyWriteGroup]
    (repeat' split)
    exacts [T.startStore _ (by simp) h, ha _, hclear _, ha _]
  | some .writeDevice =>
    dsimp only [bodyOf, bodyWriteDevice]
    split
    exacts [T.startStore _ (by simp) h, ha _]
  | some .writeBattery =>
    dsimp only [bodyOf, bodyWriteBattery]
    split
    · exact ha _
    · split
      · exact ha _
      · split
        · next hb => exact T.writes r hb h
        · exact ha _
  | some .writeRadio =>
    dsimp only [bodyOf, bodyWriteRadio]
    split
    exacts [T.startStore _ (by simp) h, ha _]
  | some .writeAreas =>
    dsimp only [bodyOf, bodyWriteAreas]
    split
    exacts [T.startStore _ (by simp) h, ha _]
  | some .flushClass =>
    dsimp only [bodyOf, bodyFlushClass]
    split
    exacts [T.answer _ _ (T.emptyArea _ h), ha _]
  | some .driveRestore =>
    dsimp only [bodyOf, bodyDriveRestore]
    (repeat' split)
    exacts [ha _, T.answer _ _ (T.seqArrive (T.seqRestored (T.drvRestore h))),
      T.answer _ _ (T.drvRestore h), ha _, ha _, ha _]
  | some .restart =>
    dsimp only [bodyOf, bodyRestart]
    (repeat' split)
    exacts [ha _, T.reset _ h, ha _]
  | some .writeGates =>
    dsimp only [bodyOf, bodyWriteGates]
    split
    exacts [T.startStore _ (by simp) h, ha _]

theorem serve (T : Tends P) (h : P none s) : P none s.serve := by
  refine State.serve_ind (fun u e rest hi _ hu => ?_) h
  have hb : P none (u.begun e) := T.of_same hu
  rw [State.executeHead_eq hi]
  split
  exacts [T.answer _ _ hb, T.body _ _ _ hb]

/-! ## Frames from the two ports (R170, R180, R181) -/

theorem setRx (T : Tends P) (p : Port) (r : Receiver) (h : P none s) : P none (s.setRx p r) :=
  T.of_same h

theorem badFrame (T : Tends P) (p : Port) (h : P none s) : P none (s.badFrame p) := T.of_same h

theorem frameEnded (T : Tends P) (p : Port) (r : Reception) (h : P none s) :
    P none (s.frameEnded p r) := by
  have hintake : ∀ e, P none (s.intakeOffer e) := fun _ => T.of_same h
  dsimp only [State.frameEnded]
  split
  · exact T.badFrame _ h
  · split
    · dsimp only [State.sortRadio]
      (repeat' split)
      exacts [h, h, T.of_same h, h, hintake _, T.pollTaken _ h, h]
    · dsimp only [State.sortLocal]
      (repeat' split)
      exacts [hintake _, h, T.of_same h]

theorem rxBytes (T : Tends P) (p : Port) (bs : List Byte) (h : P none s) :
    P none (s.rxBytes p bs) := by
  induction bs generalizing s with
  | nil => exact h
  | cons b bs ih =>
    refine ih ?_
    dsimp only [State.rxByte]
    split
    exacts [T.setRx _ _ h, T.serve (T.frameEnded _ _ (T.setRx _ _ h))]

theorem byteGap (T : Tends P) (p : Port) (h : P none s) : P none (s.byteGap p) := by
  dsimp only [State.byteGap]
  split
  exacts [h, T.setRx _ _ (T.badFrame _ h)]

/-! ## Rows and steps -/

/-- A row that a running part takes. -/
theorem whenRunning (T : Tends P) {f : State → State} (h : P none s) (hf : P none (f s)) :
    P none (Machine.whenRunning f s) := by
  dsimp only [Machine.whenRunning]
  split
  exacts [T.serve hf, h]

/-- A row that follows an input line in every run state (R189). -/
theorem edge (T : Tends P) {f : State → State} (g : Lines → Lines) (h : P none s)
    (hf : P none (f s)) : P none (if s.part.run = .running then (f s).serve else s.modLines g) := by
  split
  exacts [T.serve hf, T.of_same h]

theorem resetTaken (T : Tends P) (h : P none s) : P none s.resetTaken := by
  dsimp only [State.resetTaken]
  split
  exacts [T.halts (by simp) h, h]

theorem resetReleased (T : Tends P) (h : P none s) : P none s.resetReleased := by
  have h1 : P none (s.modLines (fun l => { l with resetIn := false })) := T.of_same h
  dsimp only [State.resetReleased]
  split
  exacts [T.reset _ h1, T.of_same h1]

theorem resetAsserted (T : Tends P) (h : P none s) : P none s.resetAsserted := by
  have h1 : P none (s.modLines (fun l => { l with resetIn := true })) := T.of_same h
  dsimp only [State.resetAsserted]
  split
  exacts [T.of_same h1, h1]

/-- Every row keeps the property, where the taking of a supply change does (R124, R149). -/
theorem exec (T : Tends P) (c : Instr) (hc : c = .supplyChangeTaken → P none s.takeSupply)
    (h : P none s) : ∃ t, exec c s = .next t ∧ P none t := by
  cases c with
  | sampleFrameReceived bytes => exact ⟨_, rfl, T.whenRunning h (T.sampleReceived bytes h)⟩
  | silenceTimerExpiry =>
    exact ⟨_, rfl, T.whenRunning h (T.missingSlot (T.modSlr _ (T.modSlr _ h)))⟩
  | openIntervalExpiry => exact ⟨_, rfl, T.whenRunning h (T.seqExpiry _ (T.seqCloseWait h) h)⟩
  | closeWaitExpiry => exact ⟨_, rfl, T.whenRunning h (T.seqExpiry _ (T.seqLockout _ h) h)⟩
  | reclaimExpiry => exact ⟨_, rfl, T.whenRunning h (T.seqExpiry _ (T.seqReclaimEnd h) h)⟩
  | tripMonitorExpiry => exact ⟨_, rfl, T.whenRunning h (T.tripMonitorEnd h)⟩
  | closeMonitorExpiry => exact ⟨_, rfl, T.whenRunning h (T.closeMonitorEnd h)⟩
  | storeOperationComplete => exact ⟨_, rfl, T.whenRunning h (T.storeComplete h)⟩
  | tagExpiryCountdownEnd crew => exact ⟨_, rfl, T.whenRunning h (T.countdownEnd crew h)⟩
  | supplyPresentEdge level => exact ⟨_, rfl, T.edge _ h (T.supplyEdge level h)⟩
  | supplyChangeTaken => exact ⟨_, rfl, T.whenRunning h (hc rfl)⟩
  | batterySecondEnd => exact ⟨_, rfl, T.whenRunning h (T.secondEnd h)⟩
  | absorbTimeLimitReached => exact ⟨_, rfl, T.whenRunning h (T.absorbDone h)⟩
  | faultRecoveryExpiry => exact ⟨_, rfl, T.whenRunning h (T.recoveryDone h)⟩
  | testIntervalElapse => exact ⟨_, rfl, T.whenRunning h (T.intervalElapsed h)⟩
  | testRetryExpiry => exact ⟨_, rfl, T.whenRunning h (T.retryElapsed h)⟩
  | settleEnd => exact ⟨_, rfl, T.whenRunning h (T.settleDone h)⟩
  | loadEnd => exact ⟨_, rfl, T.whenRunning h (T.loadDone h)⟩
  | gatherWindowExpiry cls => exact ⟨_, rfl, T.whenRunning h ((T.arb none).sealClass cls h)⟩
  | profileHourEnd =>
    refine ⟨_, rfl, T.whenRunning h ?_⟩
    dsimp only [State.hourEnd]
    exact T.modRpb _ (T.emit _ h)
  | stationFrameReceived port bytes => exact ⟨_, rfl, T.whenRunning h (T.rxBytes port bytes h)⟩
  | frameByteGapTimeout port => exact ⟨_, rfl, T.whenRunning h (T.byteGap port h)⟩
  | poll payload => exact ⟨_, rfl, T.whenRunning h (T.pollTaken payload h)⟩
  | responseWindowExpiry => exact ⟨_, rfl, T.whenRunning h (T.windowExpired h)⟩
  | keyUpDelayExpiry => exact ⟨_, rfl, T.whenRunning h (T.keyExpired h)⟩
  | radioFrameSent => exact ⟨_, rfl, T.whenRunning h (T.frameSent h)⟩
  | holdoffExpiry => exact ⟨_, rfl, T.whenRunning h (T.holdoffExpired h)⟩
  | confirmTimeout => exact ⟨_, rfl, T.whenRunning h (T.confirmExpired h)⟩
  | modemReadyChange level => exact ⟨_, rfl, T.edge _ h ((T.arb none).modemChange level h)⟩
  | carrierDetChange level => exact ⟨_, rfl, T.edge _ h ((T.arb none).carrierChange level h)⟩
  | partTimeSecond => exact ⟨_, rfl, T.whenRunning h (T.partSecond h)⟩
  | localFrameSent => exact ⟨_, rfl, T.whenRunning h (T.of_same h (t := s.localSent))⟩
  | resetLine => exact ⟨_, rfl, T.resetTaken h⟩
  | resetInRelease => exact ⟨_, rfl, T.resetReleased h⟩
  | powerOn => exact ⟨_, rfl, T.reset .powerOn h⟩
  | resetInAsserted => exact ⟨_, rfl, T.resetAsserted h⟩
  | powerLoss => exact ⟨_, rfl, T.halts (by simp) h⟩
  | frameLengthExceeded port =>
    exact ⟨_, rfl, T.whenRunning h (T.setRx port .idle (T.badFrame port h))⟩
  | _ =>
    exact ⟨_, rfl, T.whenRunning (f := State.offerRow _) h
      (T.of_same h (by simp [State.offerRow, State.sameDuty]))⟩

/-- Every step keeps the property, where the taking of a supply change does. -/
theorem step (T : Tends P) (hc : ∀ u : State, u.bat = s.bat ∧ u.sup = s.sup ∧ P none u →
    P none u.takeSupply) (h : P none s) (ht : Machine.step s = .next t) : P none t := by
  simp only [Machine.step] at ht
  split at ht
  · simp only [idle] at ht
    split at ht
    · obtain ⟨u, hu, hP⟩ := T.exec _ (fun _ => hc s ⟨rfl, rfl, h⟩) h
      obtain rfl : u = t := Host.Outcome.next.inj (hu.symm.trans ht)
      exact hP
    · obtain rfl := Host.Outcome.next.inj ht
      exact T.whenRunning h (T.tick h)
  · next c rest _ =>
    have h1 : P none (s.setPending rest) := T.of_same h
    obtain ⟨u, hu, hP⟩ := T.exec c (fun _ => hc (s.setPending rest) ⟨rfl, rfl, h1⟩) h1
    obtain rfl : u = t := Host.Outcome.next.inj (hu.symm.trans ht)
    exact hP

end Tends

end Sys2Proof.Machine
end

section
/-! The outputs of the charger, the load test, the disconnect, the radio and the capacitor (Tables 7-4,
7-7, 7-8, 10-1, R150) follow the states that they belong to. -/

namespace Sys2Proof.Machine

-- The many short proofs would otherwise each hold a waiting thread.
set_option Elab.async false

variable {s t : State}

/-- Table 10-1: the lines of RPC, its answer and its timers follow its state. -/
structure Rpc.Follows (r : Rpc) : Prop where
  power : r.radioPwr = (r.state != .off)
  key : r.radioKey = r.state.keyed
  answer : r.answer.isSome = r.state.hasAnswer
  window : r.windowLeft.isSome = (r.state == .grantWait)
  keyUp : r.keyLeft.isSome = (r.state == .keying)
  holdoff : r.holdoff.isSome = (r.state == .holdoff)

/-- The outputs follow the states: but for the load while a test ends, which is off already, and for the
radio while a frame has ended. -/
structure State.OutputsFollow (x : Option Requester) (s : State) : Prop where
  charger : (s.bat.chgEn, s.bat.chgVset, s.bat.chgIlim) = chargerLines s.bat s.store.battery
  load : s.bat.testLoad = true ↔ x ≠ some .load ∧ s.bat.test = .load
  lvd : s.bat.lvdOut = (s.bat.disc == .disconnected)
  action : s.bat.discAction.isSome = (s.bat.disc != .normal)
  radio : x ≠ some .radio → s.rpc.Follows
  cap : s.sup.capEn = (s.sup.cap == .holding)

theorem outputsLaw_iff (s : State) : OutputsLaw s ↔ s.OutputsFollow none := by
  constructor
  · rintro ⟨hchg, hload, hlvd, hact, hpwr, hkey, hans, hwin, hup, hhold, hcap⟩
    exact ⟨hchg, by simp [hload], hlvd, hact, fun _ => ⟨hpwr, hkey, hans, hwin, hup, hhold⟩, hcap⟩
  · rintro ⟨hchg, hload, hlvd, hact, hradio, hcap⟩
    obtain ⟨hpwr, hkey, hans, hwin, hup, hhold⟩ := hradio (by simp)
    exact ⟨hchg, Bool.eq_iff_iff.2 (by simpa using hload), hlvd, hact, hpwr, hkey, hans,
      hwin, hup, hhold, hcap⟩

/-! ## The charger's lines (Table 7-4) -/

/-- BAT drives the lines of the charger state. -/
theorem State.chargerPins_lines (s : State) :
    (s.chargerPins.bat.chgEn, s.chargerPins.bat.chgVset, s.chargerPins.bat.chgIlim) =
      chargerLines s.chargerPins.bat s.store.battery := by
  cases hk : s.bat.charger <;> simp [State.chargerPins, chargerLines, hk]

/-- What the charger's lines are no part of. -/
theorem State.chargerPins_rest (s : State) :
    s.chargerPins.bat.test = s.bat.test ∧ s.chargerPins.bat.testLoad = s.bat.testLoad ∧
    s.chargerPins.bat.lvdOut = s.bat.lvdOut ∧ s.chargerPins.bat.disc = s.bat.disc ∧
    s.chargerPins.bat.discAction = s.bat.discAction := by
  cases hk : s.bat.charger <;> simp [State.chargerPins, hk]

namespace State.OutputsFollow

variable {x : Option Requester}

theorem of_sameDuty (h : s.OutputsFollow x) (hd : s.sameDuty t) : t.OutputsFollow x := by
  obtain ⟨hbat, hsup, hrpc, hrec, -, -⟩ := hd
  obtain ⟨hk, hen, hv, hi, habs, hfl, htest, htl, hdisc, hact, hlvd, -⟩ := hbat
  obtain ⟨hst, hans, hwin, hup, hhold, hpwr, hkey, -⟩ := hrpc
  refine ⟨?_, by rw [htl, htest, h.load], by rw [hlvd, hdisc, h.lvd], by rw [hact, hdisc, h.action],
    fun hx => ?_, by rw [hsup, h.cap]⟩
  · have h1 := h.charger
    simp only [chargerLines] at h1 ⊢
    rw [hen, hv, hi, hk, habs, hfl, hrec, h1]
  · obtain ⟨rpwr, rkey, rans, rwin, rup, rhold⟩ := h.radio hx
    exact ⟨by rw [hpwr, hst, rpwr], by rw [hkey, hst, rkey], by rw [hans, hst, rans],
      by rw [hwin, hst, rwin], by rw [hup, hst, rup], by rw [hhold, hst, rhold]⟩

/-- What moves the radio alone and leaves it in accord. -/
theorem of_rpc (h : s.OutputsFollow x) (hr : x ≠ some .radio → t.rpc.Follows)
    (hbat : t.bat = s.bat := by simp) (hsup : t.sup = s.sup := by simp)
    (hstore : t.store = s.store := by simp) : t.OutputsFollow x :=
  ⟨by rw [hbat, hstore, h.charger], by rw [hbat, h.load], by rw [hbat, h.lvd], by rw [hbat, h.action],
    hr, by rw [hsup, h.cap]⟩

theorem modSup {f : Sup → Sup} (h : s.OutputsFollow x)
    (hf : (f s.sup).capEn = ((f s.sup).cap == .holding)) : (s.modSup f).OutputsFollow x :=
  ⟨h.charger, h.load, h.lvd, h.action, h.radio, hf⟩

/-- Table 8-2, R150: CAP_RECHARGE_EN follows the requester. -/
theorem setReq (h : s.OutputsFollow x) (r : Requester) (q : ReqState) :
    (s.modSup (fun u => u.setReq r q)).OutputsFollow x := by
  refine h.modSup ?_
  cases r
  exacts [rfl, h.cap, h.cap]

/-- BAT drives the charger's lines, whatever they were. -/
theorem chargerPins (hload : s.bat.testLoad = true ↔ x ≠ some .load ∧ s.bat.test = .load)
    (hlvd : s.bat.lvdOut = (s.bat.disc == .disconnected))
    (hact : s.bat.discAction.isSome = (s.bat.disc != .normal)) (hradio : x ≠ some .radio → s.rpc.Follows)
    (hcap : s.sup.capEn = (s.sup.cap == .holding)) : s.chargerPins.OutputsFollow x := by
  obtain ⟨htest, htl, hl, hd, ha⟩ := s.chargerPins_rest
  exact ⟨by simpa using s.chargerPins_lines, by rw [htl, htest, hload], by rw [hl, hd, hlvd],
    by rw [ha, hd, hact], by simpa using hradio, by simpa using hcap⟩

theorem setCharger (h : s.OutputsFollow x) (st : Charger) : (s.setCharger st).OutputsFollow x :=
  chargerPins h.load h.lvd h.action h.radio h.cap

theorem updateSetpoints (h : s.OutputsFollow x) : s.updateSetpoints.OutputsFollow x :=
  chargerPins h.load h.lvd h.action h.radio h.cap

/-- Table 10-1: RPC in a state without an answer or a timer, whatever it held. -/
theorem follows_rpcGoto {st : RadioState} (hst : st.unkeyed) (s : State) : (s.rpcGoto st).rpc.Follows := by
  rcases hst with rfl | rfl | rfl <;> constructor <;> rfl

/-- R173: a grant keys a radio with an answer in hand. -/
theorem follows_radioGranted (h : s.rpc.Follows) (hw : s.rpc.state = .grantWait) :
    s.radioGranted.rpc.Follows := by
  have hans : s.rpc.answer.isSome = true := by rw [h.answer, hw]; rfl
  dsimp only [State.radioGranted]
  split <;> constructor <;>
    simp [State.rpcGoto, RadioState.keyed, RadioState.hasAnswer, hans]

/-- R144, R150: a grant keys the radio, or begins the settling of a test. -/
theorem offer (h : s.OutputsFollow x) {r : Requester} (hw : awaitsGrant s r = true) :
    (s.offer r).OutputsFollow x := by
  have h1 := h.setReq r .holding
  simp only [State.offer, hw, if_true]
  cases r with
  | cap => exact h1
  | radio =>
    exact h1.of_rpc fun hx => follows_radioGranted (h1.radio hx) (by simpa [awaitsGrant] using hw)
  | load =>
    refine State.OutputsFollow.setCharger ?_ _
    have hload : s.bat.testLoad = false := by
      have hl := h1.load
      simp only [awaitsGrant, Bool.or_eq_true, beq_iff_eq] at hw
      rcases hw with hw | hw <;> simpa [hw] using hl
    exact ⟨h1.charger, by simp [hload], h1.lvd, h1.action, h1.radio, h1.cap⟩

theorem arbitrates (x : Option Requester) : Arbitrates x (State.OutputsFollow x) where
  same hd h := h.of_sameDuty hd
  goto hst h := h.of_rpc fun _ => follows_rpcGoto hst _
  holdoff _ _ h := h.of_rpc fun _ => by constructor <;> rfl
  again r b h := by
    refine h.modSup ?_
    cases r
    exacts [h.cap, h.cap, h.cap]
  ungrant _ _ h := h.setReq _ _
  releasing _ h := h.setReq _ _
  grant hw _ h := h.offer hw
  charger _ h := h.setCharger _
  waits ht h := ⟨h.charger, by simpa [ht] using h.load, h.lvd, h.action, h.radio, h.cap⟩
  suspends ht h := ⟨h.charger, by simpa [ht] using h.load, h.lvd, h.action, h.radio, h.cap⟩

/-! ## BAT, the radio and resets -/

theorem unviewed : Unviewed State.OutputsFollow where
  bat _ _ h := ⟨h.charger, h.load, h.lvd, h.action, h.radio, h.cap⟩
  rpc _ _ h := by
    obtain ⟨hpwr, hkey, hans, hwin, hup, hhold⟩ := h.radio (by simp)
    exact h.of_rpc fun _ => ⟨hpwr, hkey, hans, hwin, hup, hhold⟩
  sup _ h := h.modSup h.cap

theorem attends : Attends State.OutputsFollow where
  arb := arbitrates
  drop h := ⟨h.charger, by simp, h.lvd, h.action, fun _ => h.radio (by simp), h.cap⟩
  ended h := by
    have hload := h.load
    exact ⟨h.charger, by simpa using hload, h.lvd, h.action, fun _ => h.radio (by simp), h.cap⟩
  cut h := ⟨h.charger, by simpa using h.load, h.lvd, h.action, by simp, h.cap⟩
  rest hst h := ⟨h.charger, by simpa using h.load, h.lvd, h.action, fun _ => follows_rpcGoto hst _, h.cap⟩

/-- R123, R128: the lines and the setpoints of a new battery record. -/
theorem recordTaken (h : s.OutputsFollow none) (b : BatteryRec) :
    (s.recordTaken b).OutputsFollow none := by
  have h1 : (s.modStore (fun st => { st with battery := b })).updateSetpoints.OutputsFollow none :=
    chargerPins h.load h.lvd h.action h.radio h.cap
  dsimp only [State.recordTaken]
  split
  exacts [h1, ⟨h1.charger, h1.load, h1.lvd, h1.action, h1.radio, h1.cap⟩]

theorem follows_rpcReset : rpcReset.Follows := by constructor <;> rfl

/-- R189: a held part has every output low. -/
theorem resetBlocks (s : State) (p : Part) :
    (s.resetBlocks.modPart (fun _ => p)).OutputsFollow none :=
  ⟨rfl, by simp [State.resetBlocks, batReset], rfl, rfl, fun _ => follows_rpcReset, rfl⟩

/-- R141, R190: a part that starts drives the outputs of its first states. -/
theorem resetAs (c : ResetCause) (s : State) : (s.resetAs c).OutputsFollow none := by
  refine (arbitrates none).rpcPower ((arbitrates none).emit _ ?_)
  have hbat : ∀ u : State, u.bat = batReset → u.rpc = rpcReset → u.sup = supReset →
      u.resetBat.resetViews.OutputsFollow none := by
    intro u hb hr hs
    have h1 : u.resetBat.OutputsFollow none :=
      chargerPins (by simp [hb, batReset]) (by simp [hb, batReset]) (by simp [hb, batReset])
        (by simpa [hr] using follows_rpcReset) (by simp [hs, supReset])
    exact unviewed.rpc _ _ (h1.modSup h1.cap)
  apply hbat <;> simp [State.resetBlocks]

theorem tends : Tends State.OutputsFollow where
  toAttends := attends
  loads ht h := ⟨h.charger, by simp, h.lvd, h.action, h.radio, h.cap⟩
  setpoints h := h.updateSetpoints
  charge _ h := ⟨h.charger, h.load, h.lvd, h.action, h.radio, h.cap⟩
  pends a hd h := by
    have hlvd := h.lvd
    rw [hd] at hlvd
    exact ⟨h.charger, h.load, hlvd, rfl, h.radio, h.cap⟩
  asserts hd h := by
    have hact := h.action
    rw [hd] at hact
    exact ⟨h.charger, h.load, rfl, hact, h.radio, h.cap⟩
  connects h := ⟨h.charger, h.load, rfl, rfl, h.radio, h.cap⟩
  sheds h := attends.evalShed unviewed h
  answers a n h := h.of_rpc fun _ => by constructor <;> rfl
  sends hk h := h.of_rpc fun _ => by
    have hans := (h.radio (by simp)).answer
    rw [hk] at hans
    constructor <;> simp [State.rpcGoto, RadioState.keyed, RadioState.hasAnswer, hans]
  writes _ _ h := ⟨h.charger, h.load, h.lvd, h.action, h.radio, h.cap⟩
  record _ h := h.recordTaken _
  reset c _ := resetAs c _
  halts _ _ := resetBlocks _ _

end State.OutputsFollow

/-- Settles O20: every operation of the charger, the load test, the disconnect, the radio and the arbiter
moves an output with the state that it follows. -/
theorem outputsKept : Obligations.OutputsKept := by
  intro s t h ht
  have T := State.OutputsFollow.tends
  refine (outputsLaw_iff t).2 (T.step (fun u hu => ?_) ((outputsLaw_iff s).1 h) ht)
  obtain ⟨-, -, hu⟩ := hu
  exact T.takeSupply State.OutputsFollow.unviewed
    (fun present _ hv => T.supSupply (fun _ hw => hw.modSup hw.cap) present hv) hu

end Sys2Proof.Machine
end

section
/-! The grants of the arbiter (R145 to R149, Table 8-2): on a battery no requester comes to HOLDING beside
another that holds the grant, and no block makes use of a grant that it does not have (R135, R173). -/

namespace Sys2Proof.Machine

-- The many short proofs would otherwise each hold a waiting thread.
set_option Elab.async false

variable {s t : State} {u : Sup}

/-! ## Properties of the arbiter alone -/

@[simp] theorem Sup.setReq_supply (u : Sup) (r : Requester) (q : ReqState) :
    (u.setReq r q).supply = u.supply := by
  cases r <;> rfl

@[simp] theorem Sup.setAgain_supply (u : Sup) (r : Requester) (b : Bool) :
    (u.setAgain r b).supply = u.supply := by
  cases r <;> rfl

theorem Sup.req_setReq_ne {r p : Requester} (h : p ≠ r) (q : ReqState) :
    (u.setReq r q).req p = u.req p := by
  cases r <;> cases p <;> simp_all [Sup.setReq, Sup.req]

/-- Nobody holds the grant (Table 8-2). -/
theorem Sup.anyHolder_eq_false : u.anyHolder = false ↔ ∀ r, (u.req r).holds = false := by
  constructor
  · intro h r
    simp only [Sup.anyHolder, Bool.or_eq_false_iff] at h
    obtain ⟨⟨hcap, hradio⟩, hload⟩ := h
    cases r
    exacts [hcap, hradio, hload]
  · intro h
    have hcap := h .cap
    have hradio := h .radio
    have hload := h .load
    simp only [Sup.req] at hcap hradio hload
    simp [Sup.anyHolder, hcap, hradio, hload]

/-- A property of SUP that its moves keep: a grant is given with the supply, or where nobody holds one. -/
structure Sup.Keeps (Q : Sup → Prop) : Prop where
  again : ∀ {u : Sup} (r : Requester) (b : Bool), Q u → Q (u.setAgain r b)
  ungrant : ∀ {u : Sup} {r : Requester} {q : ReqState}, q.holds = false → Q u → Q (u.setReq r q)
  releasing : ∀ {u : Sup} {r : Requester}, u.req r = .holding → Q u → Q (u.setReq r .releasing)
  grant : ∀ {u : Sup} {r : Requester}, u.supply = true ∨ u.anyHolder = false → Q u →
    Q (u.setReq r .holding)
  shed : ∀ {u : Sup} (level : Nat), Q u → Q { u with shed := level }

/-- The offer of a grant that is taken moves SUP by the grant alone. -/
theorem State.offer_sup {r : Requester} (hw : awaitsGrant s r = true) :
    (s.offer r).sup = s.sup.setReq r .holding := by
  simp only [State.offer, hw, if_true]
  cases r <;> simp

namespace Sup.Keeps

variable {Q : Sup → Prop}

theorem arbitrates (K : Sup.Keeps Q) (x : Option Requester) : Arbitrates x (fun s => Q s.sup) where
  same hd h := by
    obtain ⟨-, hsup, -⟩ := hd
    rw [hsup]
    exact h
  goto _ h := by simpa using h
  holdoff _ _ h := by simpa using h
  again r b h := K.again r b h
  ungrant hq _ h := K.ungrant hq h
  releasing hr h := K.releasing hr h
  grant hw hfree h := by
    rw [State.offer_sup hw]
    exact K.grant hfree h
  charger _ h := by simpa using h
  waits _ h := h
  suspends _ h := h

theorem attends (K : Sup.Keeps Q) : Attends (fun _ s => Q s.sup) where
  arb := K.arbitrates
  drop h := h
  ended h := h
  cut h := h
  rest _ h := by simpa using h

theorem unviewed (K : Sup.Keeps Q) : Unviewed (fun _ s => Q s.sup) where
  bat _ _ h := h
  rpc _ _ h := h
  sup _ h := K.shed _ h

theorem tends (K : Sup.Keeps Q)
    (hreset : ∀ present level, Q { supReset with supply := present, shed := level }) :
    Tends (fun _ s => Q s.sup) where
  toAttends := K.attends
  loads _ h := h
  setpoints h := by simpa using h
  charge _ h := h
  pends _ _ h := h
  asserts _ h := h
  connects h := h
  sheds h := K.attends.evalShed K.unviewed h
  answers _ _ h := by simpa using h
  sends _ h := by simpa using h
  writes _ _ h := h
  record _ h := by
    dsimp only [State.recordTaken, State.setQ]
    split <;> simpa using h
  reset c _ := by
    refine (K.arbitrates none).rpcPower ((K.arbitrates none).emit _ ?_)
    simpa [State.resetViews, State.resetBlocks] using hreset _ _
  halts _ _ := hreset false 0

end Sup.Keeps

/-! ## Who holds the grant on a battery (R145, R149) -/

/-- On a battery a requester in HOLDING is one of `A`, or nobody else holds the grant. -/
def Sup.Within (A : Requester → Prop) (u : Sup) : Prop :=
  u.supply = false → ∀ r, u.req r = .holding → A r ∨ ∀ p, p ≠ r → (u.req p).holds = false

/-- On a battery at most one requester is in HOLDING. -/
def Sup.One (u : Sup) : Prop :=
  u.supply = false → ∀ r p, u.req r = .holding → u.req p = .holding → r = p

theorem ReqState.beq_holding_toNat (q : ReqState) :
    (q == .holding).toNat = if q = .holding then 1 else 0 := by
  cases q <;> rfl

theorem holders_le_one_iff (u : Sup) :
    holders u ≤ 1 ↔ ∀ r p, u.req r = .holding → u.req p = .holding → r = p := by
  simp only [holders, ReqState.beq_holding_toNat]
  constructor
  · intro h r p hr hp
    cases r <;> cases p <;> simp_all [Sup.req] <;> omega
  · intro h
    have hcr := h .cap .radio
    have hcl := h .cap .load
    have hrl := h .radio .load
    simp only [Sup.req, reduceCtorEq, imp_false] at hcr hcl hrl
    split_ifs <;> simp_all

theorem Sup.within_keeps (A : Requester → Prop) : Sup.Keeps (Sup.Within A) where
  again r b h := by simpa [Sup.Within] using h
  ungrant {u r q} hq h hs p hp := by
    have hne : p ≠ r := by
      rintro rfl
      rw [Sup.req_setReq] at hp
      simp [hp, ReqState.holds] at hq
    rw [Sup.req_setReq_ne hne] at hp
    refine (h (by simpa using hs) p hp).imp_right fun halone k hk => ?_
    by_cases hkr : k = r
    · rw [hkr, Sup.req_setReq, hq]
    · rw [Sup.req_setReq_ne hkr, halone k hk]
  releasing {u r} hr h hs p hp := by
    have hne : p ≠ r := by
      rintro rfl
      simp at hp
    rw [Sup.req_setReq_ne hne] at hp
    refine (h (by simpa using hs) p hp).imp_right fun halone => ?_
    have := halone r hne.symm
    simp [hr, ReqState.holds] at this
  grant {u r} hfree h hs p hp := by
    have hnone : ∀ k, (u.req k).holds = false :=
      Sup.anyHolder_eq_false.1 (hfree.resolve_left (by simpa using hs))
    by_cases hpr : p = r
    · subst hpr
      exact .inr fun k hk => by rw [Sup.req_setReq_ne hk, hnone k]
    · rw [Sup.req_setReq_ne hpr] at hp
      have := hnone p
      simp [hp, ReqState.holds] at this
  shed _ h := h

/-- A holder that is asked for its grant is no longer in HOLDING. -/
theorem Sup.Within.releasing {A : Requester → Prop} {r : Requester} (h : u.Within A)
    (hr : u.req r = .holding) : (u.setReq r .releasing).Within (fun p => A p ∧ p ≠ r) := by
  intro hs p hp
  have hne : p ≠ r := by
    rintro rfl
    simp at hp
  refine ((Sup.within_keeps A).releasing hr h hs p hp).imp_left fun hA => ⟨hA, hne⟩

theorem Sup.Within.mono {A B : Requester → Prop} (h : u.Within A) (hAB : ∀ r, A r → B r) :
    u.Within B := fun hs r hr => (h hs r hr).imp_left (hAB r)

theorem Sup.Within.one {A : Requester → Prop} (h : u.Within A) (hA : ∀ r p, A r → A p → r = p) :
    u.One := by
  intro hs r p hr hp
  by_contra hne
  have hin : ∀ {a b}, u.req a = .holding → u.req b = .holding → b ≠ a → A a := by
    intro a b ha hb hab
    refine (h hs a ha).resolve_right fun halone => ?_
    have := halone b hab
    simp [hb, ReqState.holds] at this
  exact hne (hA r p (hin hr hp (Ne.symm hne)) (hin hp hr hne))

/-- The supply view moves with a notice alone (R149). -/
theorem Sup.absent_keeps : Sup.Keeps (fun u => u.supply = false) where
  again _ _ h := by simpa using h
  ungrant _ h := by simpa using h
  releasing _ h := by simpa using h
  grant _ h := by simpa using h
  shed _ h := h

theorem Sup.Keeps.and {Q R : Sup → Prop} (K : Sup.Keeps Q) (L : Sup.Keeps R) :
    Sup.Keeps (fun u => Q u ∧ R u) where
  again r b h := ⟨K.again r b h.1, L.again r b h.2⟩
  ungrant hq h := ⟨K.ungrant hq h.1, L.ungrant hq h.2⟩
  releasing hr h := ⟨K.releasing hr h.1, L.releasing hr h.2⟩
  grant hf h := ⟨K.grant hf h.1, L.grant hf h.2⟩
  shed l h := ⟨K.shed l h.1, L.shed l h.2⟩

theorem Sup.one_keeps : Sup.Keeps Sup.One where
  again r b h := by simpa [Sup.One] using h
  ungrant {u r q} hq h hs p k hp hk := by
    have hne : ∀ j, (u.setReq r q).req j = .holding → j ≠ r := by
      rintro j hj rfl
      rw [Sup.req_setReq] at hj
      simp [hj, ReqState.holds] at hq
    have hpr := hne p hp
    have hkr := hne k hk
    rw [Sup.req_setReq_ne hpr] at hp
    rw [Sup.req_setReq_ne hkr] at hk
    exact h (by simpa using hs) p k hp hk
  releasing {u r} hr h hs p k hp hk := by
    have hne : ∀ j, (u.setReq r .releasing).req j = .holding → j ≠ r := by
      rintro j hj rfl
      simp at hj
    have hpr := hne p hp
    have hkr := hne k hk
    rw [Sup.req_setReq_ne hpr] at hp
    rw [Sup.req_setReq_ne hkr] at hk
    exact h (by simpa using hs) p k hp hk
  grant {u r} hfree h := by
    have h1 : (u.setReq r .holding).Within (fun _ => False) := by
      refine (Sup.within_keeps _).grant hfree fun hs p hp => ?_
      have := Sup.anyHolder_eq_false.1 (hfree.resolve_left (by simpa using hs)) p
      simp [hp, ReqState.holds] at this
    exact h1.one (by simp)
  shed _ h := h

/-- R149: the holders that are asked to release when the supply goes. -/
def Sup.asks (u : Sup) : Requester → Prop
  | .cap => False
  | .radio => u.radio = .holding ∧ u.cap = .holding
  | .load => u.load = .holding ∧ (u.cap = .holding ∨ u.radio = .holding)

/-- One holder at most is not asked. -/
theorem Sup.unasked_unique {r p : Requester} (hr : u.req r = .holding ∧ ¬ u.asks r)
    (hp : u.req p = .holding ∧ ¬ u.asks p) : r = p := by
  cases r <;> cases p <;> simp_all [Sup.req, Sup.asks]

/-- R149: a holder that is asked leaves HOLDING, and the others stay as they were or come to hold the grant
alone. -/
theorem State.askIf_within {A : Requester → Prop} {c : Bool} {r : Requester}
    (hcap : r ≠ .cap) (hr : c = true → s.sup.req r = .holding) (h : s.sup.Within A) :
    (if c then s.askRelease r else s).sup.Within (fun p => A p ∧ ¬ (p = r ∧ c = true)) := by
  cases c with
  | false => exact h.mono fun p hp => ⟨hp, by simp⟩
  | true =>
    have T := (Sup.within_keeps (fun p => A p ∧ p ≠ r)).attends
    have hmem : ∀ p, A p ∧ p ≠ r → A p ∧ ¬ (p = r ∧ true = true) :=
      fun p hp => ⟨hp.1, fun he => hp.2 he.1⟩
    cases r with
    | cap => exact absurd rfl hcap
    | radio => exact ((T.arb none).rpcAsked (h.releasing (hr rfl))).mono hmem
    | load => exact (T.batAsked (h.releasing (hr rfl))).mono hmem

/-- R149: when the supply goes, one requester at most is left in HOLDING. -/
theorem State.supLost_one (s : State) : s.supLost.sup.One := by
  have hall : (s.modSup (fun v => { v with supply := false })).sup.Within
      (fun r => s.sup.req r = .holding) := fun _ r hr => .inl (by cases r <;> exact hr)
  have hstays := State.askedRadio_load (s := s.modSup (fun v => { v with supply := false })) rfl
  have hradio := State.askIf_within (c := s.sup.radio == .holding && s.sup.cap == .holding)
    (r := .radio) (by simp) (by simpa [Sup.req] using fun h _ => h) hall
  have hload := State.askIf_within
    (c := s.sup.load == .holding && (s.sup.cap == .holding || s.sup.radio == .holding))
    (r := .load) (by simp)
    (fun hc => hstays.trans (by simpa using (Bool.and_eq_true_iff.1 hc).1)) hradio
  have hleft : ∀ r, (s.sup.req r = .holding ∧
        ¬ (r = .radio ∧ (s.sup.radio == .holding && s.sup.cap == .holding) = true)) ∧
        ¬ (r = .load ∧
          (s.sup.load == .holding && (s.sup.cap == .holding || s.sup.radio == .holding)) = true) →
      s.sup.req r = .holding ∧ ¬ s.sup.asks r := by
    rintro r ⟨⟨hr, hradio⟩, hload⟩
    refine ⟨hr, ?_⟩
    cases r <;> simp_all [Sup.asks]
  exact (((Sup.within_keeps _).arbitrates none).decide3 hload).one fun r p hr hp =>
    Sup.unasked_unique (hleft r hr) (hleft p hp)

/-! ## Use of a grant (R135, R173) -/

/-- A block that makes use of a grant has it: but for `x`, which gives its grant back at the end of a test
or of a frame. -/
def State.Granted (x : Option Requester) (s : State) : Prop :=
  ∀ r, x ≠ some r → s.draws r = true → (s.sup.req r).holds = true

namespace State.Granted

variable {x : Option Requester}

/-- What puts no block to use and leaves the grants. -/
theorem mono {y : Option Requester} (h : s.Granted x)
    (hd : ∀ r, y ≠ some r → t.draws r = true → x ≠ some r ∧ s.draws r = true)
    (hs : ∀ r, (t.sup.req r).holds = (s.sup.req r).holds) : t.Granted y := by
  intro r hr hdr
  obtain ⟨hx, hds⟩ := hd r hr hdr
  rw [hs]
  exact h r hx hds

theorem of_rpc {st : RadioState} (h : s.Granted x) (hst : st.keyed = false ∨ s.rpc.state.keyed = true)
    {f : Rpc → Rpc} (hf : (f s.rpc).state = st) : (s.modRpc f).Granted x := by
  refine h.mono (fun r hr hd => ⟨hr, ?_⟩) (fun _ => rfl)
  cases r with
  | cap => exact hd
  | load => exact hd
  | radio =>
    have hkey : (f s.rpc).state.keyed = true := hd
    rw [hf] at hkey
    exact hst.resolve_left (by simp [hkey])

/-- A load test that neither settles nor loads makes use of no grant. -/
theorem of_test {f : Bat → Bat} (h : s.Granted x) (ht : (f s.bat).test ≠ .settle)
    (hl : (f s.bat).test ≠ .load) : (s.modBat f).Granted x := by
  refine h.mono (fun r hr hd => ⟨hr, ?_⟩) (fun _ => rfl)
  cases r with
  | cap => exact hd
  | radio => exact hd
  | load => simp [State.draws, ht, hl] at hd

theorem draws_congr (hrpc : t.rpc.state = s.rpc.state) (htest : t.bat.test = s.bat.test)
    (r : Requester) : t.draws r = s.draws r := by
  cases r <;> simp [State.draws, hrpc, htest]

theorem of_draws (h : s.Granted x) (hrpc : t.rpc.state = s.rpc.state) (htest : t.bat.test = s.bat.test)
    (hsup : t.sup = s.sup) : t.Granted x :=
  h.mono (fun r hr hd => ⟨hr, (draws_congr hrpc htest r).symm.trans hd⟩) (fun r => by rw [hsup])

theorem setReq (h : s.Granted x) {r : Requester} {q : ReqState}
    (hq : q.holds = true ∨ x = some r ∨ s.draws r = false ∨ (s.sup.req r).holds = false) :
    (s.modSup (fun u => u.setReq r q)).Granted x := by
  intro p hp hd
  by_cases hpr : p = r
  · subst hpr
    have hdp : s.draws p = true := hd
    have hhold := h p hp hdp
    rcases hq with hq | hq | hq | hq
    · simpa using hq
    · exact absurd hq hp
    · simp [hdp] at hq
    · simp [hhold] at hq
  · have := h p hp hd
    simpa [Sup.req_setReq_ne hpr] using this

/-- A grant puts its own block to use alone. -/
theorem offer_draws {r p : Requester} (hw : awaitsGrant s r = true) (hpr : p ≠ r) :
    (s.offer r).draws p = s.draws p := by
  simp only [State.offer, hw, if_true]
  cases r with
  | cap => exact draws_congr rfl rfl p
  | radio =>
    cases p with
    | cap => rfl
    | radio => exact absurd rfl hpr
    | load => simp [State.draws]
  | load =>
    cases p with
    | cap => rfl
    | radio => simp [State.draws]
    | load => exact absurd rfl hpr

theorem offer (h : s.Granted x) {r : Requester} (hw : awaitsGrant s r = true) :
    (s.offer r).Granted x := by
  intro p hp hd
  rw [State.offer_sup hw]
  by_cases hpr : p = r
  · subst hpr
    simp [ReqState.holds]
  · rw [Sup.req_setReq_ne hpr]
    exact h p hp ((offer_draws hw hpr).symm.trans hd)

theorem arbitrates (x : Option Requester) : Arbitrates x (State.Granted x) where
  same hd h := by
    obtain ⟨⟨-, -, -, -, -, -, htest, -⟩, hsup, ⟨hst, -⟩, -⟩ := hd
    exact h.of_draws hst htest hsup
  goto hst h := h.of_rpc (.inl (by rcases hst with rfl | rfl | rfl <;> rfl)) rfl
  holdoff _ _ h := h.of_rpc (st := .holdoff) (.inl rfl) rfl
  again r b h := h.mono (fun _ hr hd => ⟨hr, hd⟩) (fun p => by simp)
  ungrant _ hf h := h.setReq (.inr hf)
  releasing _ h := h.setReq (.inl rfl)
  grant hw _ h := h.offer hw
  charger _ h := h.of_draws (by simp) (by simp [State.setCharger]) (by simp)
  waits _ h := h.of_test (by simp) (by simp)
  suspends _ h := h.of_test (by simp) (by simp)

theorem attends : Attends State.Granted where
  arb := arbitrates
  drop h := h.mono (fun _ _ hd => ⟨by simp, hd⟩) (fun _ => rfl)
  ended h := by
    refine h.mono (fun r _ hd => ?_) (fun _ => rfl)
    cases r with
    | cap => exact ⟨by simp, hd⟩
    | radio => exact ⟨by simp, hd⟩
    | load => simp [State.draws] at hd
  cut h := h.mono (fun _ _ hd => ⟨by simp, hd⟩) (fun _ => rfl)
  rest hst h := by
    refine h.mono (fun r _ hd => ?_) (fun _ => rfl)
    cases r with
    | cap => exact ⟨by simp, hd⟩
    | radio => simp [Arbitrates.draws_rpcGoto hst] at hd
    | load => exact ⟨by simp, hd⟩

theorem unviewed : Unviewed State.Granted where
  bat _ _ h := h.of_draws rfl rfl rfl
  rpc _ _ h := h.of_draws rfl rfl rfl
  sup _ h := h.mono (fun _ hr hd => ⟨hr, hd⟩) (fun r => by cases r <;> rfl)

/-- An idle part makes use of no grant. -/
theorem of_quiet (hk : s.rpc.state.keyed = false) (ht : s.bat.test = .idle) : s.Granted x := by
  intro r _ hd
  cases r <;> simp [State.draws, hk, ht] at hd

theorem tends : Tends State.Granted where
  toAttends := attends
  loads ht h := by
    refine h.mono (fun r hr hd => ⟨hr, ?_⟩) (fun _ => rfl)
    cases r with
    | cap => exact hd
    | radio => exact hd
    | load => simp [State.draws, ht]
  setpoints h := h.of_draws (by simp) (by simp) (by simp)
  charge _ h := h.of_draws rfl rfl rfl
  pends _ _ h := h.of_draws rfl rfl rfl
  asserts _ h := h.of_draws rfl rfl rfl
  connects h := h.of_draws rfl rfl rfl
  sheds h := attends.evalShed unviewed h
  answers _ _ h := h.of_rpc (st := .grantWait) (.inl rfl) rfl
  sends hk h := h.of_rpc (st := .sending) (.inr (by rw [hk]; rfl)) rfl
  writes _ _ h := h.of_draws rfl rfl rfl
  record _ h := by
    dsimp only [State.recordTaken, State.setQ]
    split <;> exact h.of_draws (by simp) (by simp) (by simp)
  reset c _ := by
    refine (arbitrates none).rpcPower ((arbitrates none).emit _ (of_quiet ?_ ?_))
    · simp [State.resetViews, State.resetBlocks, rpcReset, RadioState.keyed]
    · simp [State.resetViews, State.resetBlocks, State.resetBat, batReset]
  halts _ _ := of_quiet rfl rfl

end State.Granted

/-! ## The law -/

theorem grantLaw_iff (s : State) : GrantLaw s ↔ s.sup.One ∧ s.Granted none := by
  rw [GrantLaw, holders_le_one_iff]
  refine and_congr Iff.rfl ⟨?_, ?_⟩
  · rintro ⟨hkey, htest⟩ r - hd
    cases r with
    | cap => simp [State.draws] at hd
    | radio => exact hkey hd
    | load => exact htest (by simpa [State.draws] using hd)
  · exact fun h => ⟨h .radio (by simp), fun ht => h .load (by simp) (by simpa [State.draws] using ht)⟩

/-- R149: a supply change is taken, from any state, with one requester at most in HOLDING. -/
theorem State.supSupply_one (present : Bool) (h : s.sup.One) : (s.supSupply present).sup.One := by
  dsimp only [State.supSupply]
  split
  · exact h
  · split
    · exact Sup.one_keeps.attends.supBack (fun hs => by simp at hs)
    · exact s.supLost_one

theorem reset_one (present : Bool) (level : Nat) :
    Sup.One { supReset with supply := present, shed := level } := by
  intro _ r p hr
  cases r <;> simp [supReset, Sup.req] at hr

theorem grantLaw_kept : Kept GrantLaw := by
  intro s t h ht
  obtain ⟨hone, hgranted⟩ := (grantLaw_iff s).1 h
  have O := Sup.one_keeps.tends reset_one
  have G := State.Granted.tends
  refine (grantLaw_iff t).2 ⟨O.step (fun u hu => ?_) hone ht, G.step (fun u hu => ?_) hgranted ht⟩
  · exact O.takeSupply Sup.one_keeps.unviewed (fun p _ hv => State.supSupply_one p hv) hu.2.2
  · exact G.takeSupply State.Granted.unviewed (fun p _ hv => G.supSupply
      (fun _ hw => hw.mono (fun _ hr hd => ⟨hr, hd⟩) (fun r => by cases r <;> rfl)) p hv) hu.2.2

/-- R145: a step of a part on the battery brings a requester to HOLDING where nobody else is left holding
the grant. -/
theorem step_within {A : Requester → Prop} (hs : s.sup.supply = false) (h : s.sup.Within A)
    (ht : step s = .next t) : t.sup.Within A := by
  have K := Sup.within_keeps A
  have T := K.tends (fun _ _ _ r hr => by cases r <;> simp [supReset, Sup.req] at hr)
  refine T.step (fun u hu => ?_) h ht
  obtain ⟨-, hsup, hu⟩ := hu
  dsimp only [State.takeSupply]
  split
  · split
    · rw [State.takeSupplyPresent_eq]
      refine K.unviewed.notifySupply (fun {v} hv => ?_) (T.supplyBack K.unviewed hu)
      dsimp only [State.supSupply]
      split
      · exact hv
      · exact T.supBack (fun hs => by simp at hs)
    · have L := Sup.absent_keeps.and K
      rw [State.takeSupplyAbsent_eq]
      refine (L.unviewed.notifySupply (fun {v} hv => ?_)
        (L.attends.supplyGone L.unviewed ⟨by rw [hsup, hs], hu⟩)).2
      simpa [State.supSupply, hv.1] using hv
  · exact hu

/-- Settles O21: a grant is given to one requester where nobody holds one, and a loss of the supply asks the
others to release; a block gives its grant back where it makes no more use of it. -/
theorem grantsKept : Obligations.GrantsKept := by
  refine ⟨grantLaw_kept, fun s t _ ht hs hts => ?_⟩
  have h := step_within hs (A := fun r => s.sup.req r = .holding) (fun _ r hr => .inl hr) ht hts
  have hnew : ∀ r, s.sup.req r ≠ .holding → t.sup.req r = .holding →
      ∀ p, p ≠ r → (t.sup.req p).holds = false := fun r hold hr => (h r hr).resolve_left hold
  refine ⟨fun hold hr => ?_, fun hold hr => ?_, fun hold hr => ?_⟩
  · exact ⟨hnew .cap hold hr .radio (by simp), hnew .cap hold hr .load (by simp)⟩
  · exact ⟨hnew .radio hold hr .cap (by simp), hnew .radio hold hr .load (by simp)⟩
  · exact ⟨hnew .load hold hr .cap (by simp), hnew .load hold hr .radio (by simp)⟩

end Sys2Proof.Machine
end

section
/-! The charge, the shed level and the supply of BAT keep their ranges, and SUP and RPC have BAT's values
of them (R123, R124, R126, R130 to R133). While a change of the shed level or of the supply is handed on,
the three blocks differ: the walk is made for every assignment of views, and the changes are followed one
by one. -/

namespace Sys2Proof.Machine

-- The many short proofs would otherwise each hold a waiting thread.
set_option Elab.async false

variable {s t : State}

/-- The shed level and the supply as BAT, SUP and RPC have them. -/
structure Notices where
  batShed : Nat
  supShed : Nat
  rpcShed : Nat
  batSupply : Bool
  supSupply : Bool
  rpcSupply : Bool

/-- What the three blocks have. -/
def State.notices (s : State) : Notices :=
  ⟨s.bat.shed, s.sup.shed, s.rpc.shed, s.bat.supply, s.sup.supply, s.rpc.supply⟩

/-- The three blocks have one level and one supply. -/
def Notices.all (level : Nat) (present : Bool) : Notices :=
  ⟨level, level, level, present, present, present⟩

/-- The charge is in its range with SoC worked out from it, the battery records pass the checks of R123,
and, where `k` says so, the charger is in OFF or TEST without the supply; the views are `v`. -/
structure State.Cared (k : Bool) (v : Notices) (s : State) : Prop where
  views : s.notices = v
  stored : batteryOk s.store.battery = true
  written : ∀ b, s.store.writing = some b → batteryOk b = true
  charge : s.part.run = .running →
    s.bat.q ≤ qFull s.store.battery ∧ s.bat.soc = socOf s.store.battery s.bat.q
  charger : k = true → s.bat.supply = false → s.bat.charger = .off ∨ s.bat.charger = .test

/-- A battery record on its way to the store is one in flight. -/
theorem Store.writing_eq_some {st : Store} {b : BatteryRec} :
    st.writing = some b ↔ ∃ op, st.inFlight = some op ∧ op.body = .battery b := by
  simp only [Store.writing, Option.bind_eq_some_iff]
  refine exists_congr fun op => and_congr_right fun _ => ?_
  cases op.body <;> simp

/-- BatteryLaw, with what each level and supply may be. -/
theorem batteryLaw_iff (s : State) : BatteryLaw s ↔
    ∃ level present, level ≤ 3 ∧ (present = true → level = 0) ∧
      s.Cared true (.all level present) := by
  constructor
  · rintro ⟨hok, hfly, hq, h3, h0, hchg, hus, hrs, hup, hrp⟩
    refine ⟨s.bat.shed, s.bat.supply, h3, h0, ?_, hok, fun b hb => ?_, hq, fun _ => hchg⟩
    · simp [State.notices, Notices.all, hus, hrs, hup, hrp]
    · obtain ⟨op, hop, hbody⟩ := Store.writing_eq_some.1 hb
      simpa [hbody] using hfly op hop
  · rintro ⟨level, present, h3, h0, hv, hok, hw, hq, hchg⟩
    simp only [State.notices, Notices.all, Notices.mk.injEq] at hv
    obtain ⟨hbs, hus, hrs, hbp, hup, hrp⟩ := hv
    refine ⟨hok, fun op hop => ?_, hq, hbs ▸ h3, fun hp => hbs ▸ h0 (hbp ▸ hp), hchg rfl,
      by rw [hus, hbs], by rw [hrs, hbs], by rw [hup, hbp], by rw [hrp, hbp]⟩
    split
    · next b hbody => exact hw b (Store.writing_eq_some.2 ⟨op, hop, hbody⟩)
    · trivial

@[simp] theorem Sup.setReq_shed (u : Sup) (r : Requester) (q : ReqState) :
    (u.setReq r q).shed = u.shed := by
  cases r <;> rfl

@[simp] theorem State.rpcGoto_notices (st : RadioState) (s : State) :
    (s.rpcGoto st).notices = s.notices := rfl

@[simp] theorem State.radioGranted_notices (s : State) : s.radioGranted.notices = s.notices := by
  dsimp only [State.radioGranted]
  split <;> rfl

namespace State.Cared

variable {k : Bool} {v w : Notices}

/-- What moves neither the charge nor a view keeps the property, where the charger stays or may come to
its state. -/
theorem of_eq (h : s.Cared k v) (hviews : t.notices = w) (hq : t.bat.q = s.bat.q := by simp)
    (hsoc : t.bat.soc = s.bat.soc := by simp) (hstored : t.store.battery = s.store.battery := by simp)
    (hwritten : t.store.writing = s.store.writing ∨ t.store.writing = none := by simp)
    (hrun : t.part.run = s.part.run := by simp)
    (hcharger : k = true → t.bat.supply = false → t.bat.charger = .off ∨ t.bat.charger = .test) :
    t.Cared k w := by
  refine ⟨hviews, hstored ▸ h.stored, fun b hb => ?_, fun hr => ?_, hcharger⟩
  · rcases hwritten with hw | hw
    · exact h.written b (hw ▸ hb)
    · simp [hw] at hb
  · rw [hq, hsoc, hstored]
    exact h.charge (hrun ▸ hr)

/-- What leaves BAT as it is. -/
theorem of_views (h : s.Cared k v) (hviews : t.notices = w) (hbat : t.bat = s.bat := by simp)
    (hstore : t.store = s.store := by simp) (hrun : t.part.run = s.part.run := by simp) :
    t.Cared k w :=
  h.of_eq hviews (by rw [hbat]) (by rw [hbat]) (by rw [hstore]) (.inl (by rw [hstore])) hrun
    (by simpa [hbat] using h.charger)

/-- A write of BAT that leaves the charge, the charger and the views. -/
theorem modBat {f : Bat → Bat} (h : s.Cared k v)
    (hf : ∀ b, (f b).q = b.q ∧ (f b).soc = b.soc ∧ (f b).shed = b.shed ∧ (f b).supply = b.supply ∧
      (f b).charger = b.charger := by simp) : (s.modBat f).Cared k v := by
  obtain ⟨hq, hsoc, hshed, hsupply, hcharger⟩ := hf s.bat
  refine h.of_eq ?_ hq hsoc rfl (.inl rfl) rfl ?_
  · simpa [State.notices, hshed, hsupply] using h.views
  · simpa [hsupply, hcharger] using h.charger

/-- What brings a battery record into force and leaves the views keeps the property, with a charge that
fits the record. -/
theorem of_record {b : BatteryRec} (h : s.Cared k v) (hok : batteryOk b = true)
    (hviews : t.notices = s.notices) (hstore : t.store = { s.store with battery := b })
    (hcharger : t.bat.charger = s.bat.charger)
    (hcharge : t.part.run = .running → t.bat.q ≤ qFull b ∧ t.bat.soc = socOf b t.bat.q) :
    t.Cared k v := by
  have hsupply : t.bat.supply = s.bat.supply := congrArg Notices.batSupply hviews
  refine ⟨hviews.trans h.views, by rw [hstore, hok], ?_, by simpa [hstore] using hcharge,
    by simpa [hcharger, hsupply] using h.charger⟩
  have hw : t.store.writing = s.store.writing := by rw [hstore]; rfl
  simpa [hw] using h.written

/-- What a change of the charger's lines leaves. -/
theorem chargerPins_duty (s : State) : s.chargerPins.bat.q = s.bat.q ∧ s.chargerPins.bat.soc = s.bat.soc ∧
    s.chargerPins.bat.shed = s.bat.shed ∧ s.chargerPins.bat.supply = s.bat.supply ∧
    s.chargerPins.bat.charger = s.bat.charger := by
  cases hk : s.bat.charger <;> simp [State.chargerPins, hk]

theorem chargerPins (h : s.Cared k v) : s.chargerPins.Cared k v := by
  obtain ⟨hq, hsoc, hshed, hsupply, hcharger⟩ := chargerPins_duty s
  refine h.of_eq ?_ hq hsoc (by simp) (by simp) (by simp) ?_
  · simpa [State.notices, hshed, hsupply] using h.views
  · simpa [hsupply, hcharger] using h.charger

/-- The charger comes to a state that it may have. -/
theorem setCharger {j : Bool} {st : Charger} (h : s.Cared j v)
    (hst : k = true → s.bat.supply = false → st = .off ∨ st = .test) : (s.setCharger st).Cared k v :=
  chargerPins ⟨h.views, h.stored, h.written, h.charge, hst⟩

theorem setCharger_of_mayCharge {st : Charger} (h : s.Cared k v) (hst : s.mayCharge st) :
    (s.setCharger st).Cared k v := by
  refine h.setCharger fun hk hs => ?_
  rcases hst with hsupply | hoff | htest | ⟨hoff, htest⟩
  · simp [hs] at hsupply
  · exact .inl hoff
  · exact .inr htest
  · exact ((h.charger hk hs).elim hoff htest).elim

theorem offer {r : Requester} (h : s.Cared k v) (hw : awaitsGrant s r = true) : (s.offer r).Cared k v := by
  have h1 : (s.modSup (fun u => u.setReq r .holding)).Cared k v :=
    h.of_views (by simpa [State.notices] using h.views)
  simp only [State.offer, hw, if_true]
  cases r with
  | cap => exact h1
  | radio => exact h1.of_views (by simpa using h1.views)
  | load => exact h1.modBat.setCharger fun _ _ => .inr rfl

theorem arbitrates (k : Bool) (v : Notices) (x : Option Requester) : Arbitrates x (State.Cared k v) where
  same hd h := by
    obtain ⟨hbat, hsup, hrpc, hrec, hw, hrun⟩ := hd
    obtain ⟨hk, -, -, -, -, -, -, -, -, -, -, hq, hsoc, hshed, hsupply⟩ := hbat
    obtain ⟨-, -, -, -, -, -, -, hrs, hrp⟩ := hrpc
    refine h.of_eq ?_ hq hsoc hrec hw hrun ?_
    · simpa [State.notices, hshed, hsupply, hsup, hrs, hrp] using h.views
    · simpa [hk, hsupply] using h.charger
  goto _ h := h.of_views (by simpa using h.views)
  holdoff _ _ h := h.of_views h.views
  again r b h := h.of_views (by cases r <;> exact h.views)
  ungrant _ _ h := h.of_views (by simpa [State.notices] using h.views)
  releasing _ h := h.of_views (by simpa [State.notices] using h.views)
  grant hw _ h := h.offer hw
  charger hst h := h.setCharger_of_mayCharge hst
  waits _ h := h.modBat
  suspends _ h := h.modBat

theorem attends (k : Bool) (v : Notices) : Attends (fun _ => State.Cared k v) where
  arb := arbitrates k v
  drop h := h.modBat
  ended h := h.modBat
  cut h := h.of_views h.views
  rest _ h := h.of_views (by simpa using h.views)

/-! ## A change is handed on (R124, R133) -/

/-- R168, R175, R176: RPC takes a shed level. -/
theorem rpcShed (h : s.Cared k v) (level : Nat) :
    (s.rpcShed level).Cared k { v with rpcShed := level } :=
  (arbitrates k _ none).rpcShed (h.of_views (by rw [← h.views]; rfl))

/-- R148: SUP takes a shed level. -/
theorem supShed (h : s.Cared k v) (level : Nat) :
    (s.supShed level).Cared k { v with supShed := level } :=
  (attends k _).supShed (h.of_views (by rw [← h.views]; rfl))

/-- R149: SUP takes the supply. -/
theorem supSupply (h : s.Cared k v) (present : Bool) :
    (s.supSupply present).Cared k { v with supSupply := present } := by
  have h1 : (s.modSup (fun u => { u with supply := present })).Cared k { v with supSupply := present } :=
    h.of_views (by rw [← h.views]; rfl)
  dsimp only [State.supSupply]
  split
  · next hs => exact h.of_views (by rw [← h.views, ← hs]; rfl)
  · cases present
    exacts [(attends k _).supLost h1, (attends k _).supBack h1]

/-- R133: a new shed level comes to all three blocks. -/
theorem setShed {l : Nat} {a b c : Bool} (h : s.Cared k ⟨l, l, l, a, b, c⟩) (level : Nat) :
    (s.setShed level).Cared k ⟨level, level, level, a, b, c⟩ := by
  have h1 : (s.modBat (fun b => { b with shed := level })).Cared k ⟨level, l, l, a, b, c⟩ :=
    ⟨congrArg (fun n => { n with batShed := level }) h.views, h.stored, h.written, h.charge, h.charger⟩
  have A := arbitrates k ⟨level, level, level, a, b, c⟩ none
  dsimp only [State.setShed]
  split
  · next hs =>
    obtain rfl : l = level := (congrArg Notices.batShed h.views).symm.trans hs
    exact h
  · refine A.dueCheck (A.emit _ ?_)
    split
    exacts [(h1.rpcShed level).supShed level, (h1.supShed level).rpcShed level]

/-- R124: both blocks are notified of the supply. -/
theorem notifySupply {l : Nat} {present b c : Bool} (h : s.Cared k ⟨l, l, l, present, b, c⟩) :
    (s.notifySupply present).Cared k (.all l present) := by
  have hrpc : ∀ {u : State} {w : Notices}, u.Cared k w →
      (u.modRpc (fun r => { r with supply := present })).Cared k { w with rpcSupply := present } :=
    fun hu => hu.of_views (by rw [← hu.views]; rfl)
  dsimp only [State.notifySupply]
  split
  exacts [(hrpc h).supSupply present, hrpc (h.supSupply present)]

end State.Cared

/-! ## The shed level (R132) -/

theorem shedRise_le {l : Nat} (b : BatteryRec) (soc n : Nat) (hl : l ≤ 3) : shedRise b soc n l ≤ 3 := by
  induction n generalizing l with
  | zero => exact hl
  | succ n ih =>
    dsimp only [shedRise]
    split
    · next hc => exact ih hc.1
    · exact hl

theorem shedFall_le (b : BatteryRec) (soc l : Nat) : shedFall b soc l ≤ l := by
  induction l with
  | zero => exact le_rfl
  | succ l ih =>
    dsimp only [shedFall]
    split
    exacts [ih.trans l.le_succ, le_rfl]

theorem shedLevel_le {level : Nat} (b : BatteryRec) (soc : Nat) (hl : level ≤ 3) :
    shedLevel b soc level ≤ 3 := by
  dsimp only [shedLevel]
  split
  exacts [(shedFall_le b soc level).trans hl, shedRise_le b soc 3 hl]

/-! ## The law -/

/-- The three blocks have one level in 0..3, which is 0 with the supply, and one supply. -/
def State.BatteryCare (s : State) : Prop :=
  ∃ level present, level ≤ 3 ∧ (present = true → level = 0) ∧ s.Cared true (.all level present)

namespace State.BatteryCare

/-- R132: without the supply the level is evaluated, and stays in its range. -/
theorem evalShed_absent {l : Nat} {b c : Bool} (hl : l ≤ 3) (h : s.Cared true ⟨l, l, l, false, b, c⟩) :
    ∃ level ≤ 3, s.evalShed.Cared true ⟨level, level, level, false, b, c⟩ := by
  have hsupply : s.bat.supply = false := congrArg Notices.batSupply h.views
  have hshed : s.bat.shed = l := congrArg Notices.batShed h.views
  refine ⟨_, shedLevel_le s.store.battery s.bat.soc (hshed.trans_le hl), ?_⟩
  simpa [State.evalShed, hsupply] using h.setShed _

theorem evalShed (h : s.BatteryCare) : s.evalShed.BatteryCare := by
  obtain ⟨level, present, hl, h0, hc⟩ := h
  cases present with
  | true =>
    have hsupply : s.bat.supply = true := congrArg Notices.batSupply hc.views
    exact ⟨level, true, hl, h0, by simpa [State.evalShed, hsupply] using hc⟩
  | false =>
    obtain ⟨level', hl', hc'⟩ := evalShed_absent hl hc
    exact ⟨level', false, hl', by simp, hc'⟩

/-- R124: the charger is in OFF or TEST when the supply is taken as absent. -/
theorem takeSupplyAbsent (h : s.BatteryCare) : s.takeSupplyAbsent.BatteryCare := by
  obtain ⟨level, present, hl, -, hc⟩ := h
  have T := State.Cared.attends
  have h1 : (s.modBat (fun b => { b with
      supply := false, qualLeft := none, absentSince := some s.fcu.running })).Cared false
      ⟨level, level, level, false, present, present⟩ :=
    ⟨congrArg (fun n => { n with batSupply := false }) hc.views, hc.stored, hc.written, hc.charge, by simp⟩
  have h2 := (T false _ |>.arb none).evalFault h1
  have h3 : ∀ {u : State}, u.Cared false ⟨level, level, level, false, present, present⟩ →
      (if u.bat.charger = .test then u else u.chargerTo .off).Cared true
        ⟨level, level, level, false, present, present⟩ := by
    intro u hu
    split
    · next htest => exact ⟨hu.views, hu.stored, hu.written, hu.charge, fun _ _ => .inr htest⟩
    · exact (T true _ |>.arb none).dueCheck (hu.setCharger fun _ _ => .inl rfl)
  obtain ⟨level', hl', h4⟩ := evalShed_absent hl (h3 h2)
  rw [State.takeSupplyAbsent_eq]
  exact ⟨level', false, hl', by simp,
    (State.Cared.notifySupply ((T true _ |>.arb none).emit _ ((T true _).batAsked h4)))⟩

/-- R124, R133, R139: with the supply taken as present the level is 0. -/
theorem takeSupplyPresent (h : s.BatteryCare) : s.takeSupplyPresent.BatteryCare := by
  obtain ⟨level, present, -, -, hc⟩ := h
  have A : ∀ l, Arbitrates none (State.Cared true ⟨l, l, l, true, present, present⟩) :=
    fun l => State.Cared.arbitrates true _ none
  have h1 : (s.modBat (fun b => { b with
      supply := true, qualLeft := none, absentSince := none })).Cared true
      ⟨level, level, level, true, present, present⟩ :=
    ⟨congrArg (fun n => { n with batSupply := true }) hc.views, hc.stored, hc.written, hc.charge, by simp⟩
  have h2 := (A level).evalFault h1
  have hsupply := congrArg Notices.batSupply h2.views
  rw [State.takeSupplyPresent_eq]
  refine ⟨0, true, by omega, fun _ => rfl, State.Cared.notifySupply (l := 0) (b := present)
    (c := present) ?_⟩
  dsimp only [State.supplyBack]
  refine (A 0).emit _ ((A 0).dueCheck (State.Cared.modBat (State.Cared.setShed (l := level) ?_ 0)))
  (repeat' split)
  exacts [(A level).enterFault (.inl hsupply) h2, (A level).chargerTo (.inl hsupply) h2, h2]

theorem takeSupply (h : s.BatteryCare) : s.takeSupply.BatteryCare := by
  dsimp only [State.takeSupply]
  (repeat' split)
  exacts [h.takeSupplyPresent, h.takeSupplyAbsent, h]

/-! ## The other operations -/

/-- What keeps every assignment of views keeps the law. -/
theorem map (h : s.BatteryCare) (hmap : ∀ v, s.Cared true v → t.Cared true v) : t.BatteryCare := by
  obtain ⟨level, present, hl, h0, hc⟩ := h
  exact ⟨level, present, hl, h0, hmap _ hc⟩

theorem arbitrates (x : Option Requester) : Arbitrates x State.BatteryCare := by
  have A := fun v => State.Cared.arbitrates true v x
  exact {
    same := fun hd h => h.map fun v hv => (A v).same hd hv
    goto := fun hst h => h.map fun v hv => (A v).goto hst hv
    holdoff := fun k hl h => h.map fun v hv => (A v).holdoff k hl hv
    again := fun r b h => h.map fun v hv => (A v).again r b hv
    ungrant := fun hq hr h => h.map fun v hv => (A v).ungrant hq hr hv
    releasing := fun hr h => h.map fun v hv => (A v).releasing hr hv
    grant := fun hw hfree h => h.map fun v hv => (A v).grant hw hfree hv
    charger := fun hst h => h.map fun v hv => (A v).charger hst hv
    waits := fun ht h => h.map fun v hv => (A v).waits ht hv
    suspends := fun ht h => h.map fun v hv => (A v).suspends ht hv }

theorem attends : Attends (fun _ => State.BatteryCare) where
  arb := arbitrates
  drop h := h.map fun v hv => (State.Cared.attends true v).drop hv
  ended h := h.map fun v hv => (State.Cared.attends true v).ended hv
  cut h := h.map fun v hv => (State.Cared.attends true v).cut hv
  rest hst h := h.map fun v hv => (State.Cared.attends true v).rest hst hv

/-- R130: a new charge in its range, with SoC worked out from it. -/
theorem setQ {k : Bool} {v : Notices} {q : Nat} (h : s.Cared k v) (hq : q ≤ qFull s.store.battery) :
    (s.setQ q).Cared k v :=
  ⟨h.views, h.stored, h.written, fun _ => ⟨hq, rfl⟩, h.charger⟩

/-- What new setpoints leave. -/
theorem updateSetpoints_duty (s : State) :
    s.updateSetpoints.bat.q = s.bat.q ∧ s.updateSetpoints.bat.soc = s.bat.soc ∧
    s.updateSetpoints.bat.shed = s.bat.shed ∧ s.updateSetpoints.bat.supply = s.bat.supply ∧
    s.updateSetpoints.bat.charger = s.bat.charger :=
  State.Cared.chargerPins_duty _

/-- R123: a record that passed its checks comes into force; the charge is cut to its range. -/
theorem recordTaken {b : BatteryRec} (hb : s.store.writing = some b) (h : s.BatteryCare) :
    (s.recordTaken b).BatteryCare := by
  refine h.map fun v hv => ?_
  have hok : batteryOk b = true := hv.written b hb
  obtain ⟨hq, hsoc, hshed, hsupply, hcharger⟩ :=
    updateSetpoints_duty (s.modStore (fun st => { st with battery := b }))
  dsimp only [State.recordTaken]
  split
  · next hcap =>
    have hfull : qFull b = qFull s.store.battery := by simp [qFull, hcap]
    refine hv.of_record hok ?_ (by simp) hcharger fun hr => ?_
    · simp [State.notices, hshed, hsupply]
    · simpa [hq, hsoc, hfull, socOf] using hv.charge (by simpa using hr)
  · refine hv.of_record hok ?_ (by simp) hcharger fun _ => ⟨by simp [State.setQ], ?_⟩
    · simp [State.notices, State.setQ, hshed, hsupply]
    · simp [State.setQ]

/-- A held part: no supply, level 0, the charger in OFF. -/
theorem resetBlocks {p : Part} (hp : p.run ≠ .running) (h : s.BatteryCare) :
    (s.resetBlocks.modPart (fun _ => p)).BatteryCare := by
  obtain ⟨_, _, -, -, hc⟩ := h
  exact ⟨0, false, by omega, fun _ => rfl, rfl, hc.stored,
    fun b hb => by simp [State.resetBlocks, keptStore, Store.writing] at hb,
    fun hr => (hp hr).elim, fun _ _ => .inl rfl⟩

/-- R130: half of a full charge is 50 %. -/
theorem socOf_half {b : BatteryRec} (hok : batteryOk b = true) : socOf b (qFull b / 2) = 50 := by
  have hcap : 1 ≤ b.capacity := by
    simp only [batteryOk, Bool.and_eq_true, within, decide_eq_true_eq] at hok
    omega
  simp only [socOf, qFull]
  rw [show b.capacity * 360000 / 2 * 100 = 50 * (b.capacity * 360000) by omega]
  exact Nat.mul_div_cancel _ (by omega)

/-- What BAT reads at a reset. -/
theorem resetBat_duty (s : State) : s.resetBat.bat.q = qFull s.store.battery / 2 ∧
    s.resetBat.bat.soc = s.bat.soc ∧
    s.resetBat.bat.shed = (if s.lines.supplyPresent then 0 else shedLevel s.store.battery 50 0) ∧
    s.resetBat.bat.supply = s.lines.supplyPresent ∧
    s.resetBat.bat.charger = (if s.lines.supplyPresent then .bulk else .off) :=
  State.Cared.chargerPins_duty _

/-- R124, R141, R143, R167: BAT starts from the line and its record, with SUP and RPC at its values. -/
theorem resetBat_resetViews (hb : s.bat = batReset) (hok : batteryOk s.store.battery = true)
    (hw : s.store.writing = none) : s.resetBat.resetViews.BatteryCare := by
  obtain ⟨hq, hsoc, hshed, hsupply, hcharger⟩ := resetBat_duty s
  have hstore : s.resetBat.resetViews.store = s.store := by simp
  refine ⟨s.resetBat.bat.shed, s.resetBat.bat.supply, ?_, fun hs => ?_, rfl, by rw [hstore, hok],
    by simp [hw], fun _ => ?_, fun _ hs => ?_⟩
  · rw [hshed]
    split
    exacts [by omega, shedLevel_le _ _ (by omega)]
  · simp [hshed, ← hsupply, hs]
  · rw [hstore]
    exact ⟨hq.trans_le (Nat.div_le_self _ _), by simp [hsoc, hq, socOf_half hok, hb, batReset]⟩
  · left
    have hline : s.lines.supplyPresent = false := hsupply.symm.trans hs
    simpa [hline] using hcharger

/-- The write that belongs to every loading carries no battery record. -/
theorem resetSets_writing (s : State) (h : s.store.writing = none) :
    s.resetSets.store.writing = none := by
  dsimp only [State.resetSets]
  obtain ⟨-, -, -, -, hw, -⟩ := State.requestStore_sameDuty .selection none (s.modSets _)
  exact hw.elim (fun hkept => hkept.trans h) id

theorem resetAs (c : ResetCause) (h : s.BatteryCare) : (s.resetAs c).BatteryCare := by
  obtain ⟨_, _, -, -, hc⟩ := h
  refine (arbitrates none).rpcPower ((arbitrates none).emit _ (resetBat_resetViews ?_ ?_ ?_))
  · simp [State.resetBlocks]
  · simpa [State.resetBlocks, keptStore] using hc.stored
  · simpa using resetSets_writing _ rfl

theorem tends : Tends (fun _ => State.BatteryCare) where
  toAttends := attends
  loads _ h := h.map fun v hv => hv.modBat
  setpoints h := h.map fun v hv => hv.modBat.chargerPins
  charge hq h := h.map fun v hv => setQ hv hq
  pends _ _ h := h.map fun v hv => hv.modBat
  asserts _ h := h.map fun v hv => hv.modBat
  connects h := h.map fun v hv => hv.modBat
  sheds h := h.evalShed
  answers _ _ h := h.map fun v hv => hv.of_views hv.views
  sends _ h := h.map fun v hv => hv.of_views hv.views
  writes r hb h := h.map fun v hv => ⟨hv.views, hv.stored, fun b hw => by
    obtain rfl : _ = b := Option.some.inj hw
    exact hb, hv.charge, hv.charger⟩
  record hb h := h.recordTaken hb
  reset c h := h.resetAs c
  halts hp h := h.resetBlocks hp

end State.BatteryCare

/-- Settles O23: battery care moves the charge, the shed level and the supply with their views, from one
law-abiding assignment to the next. -/
theorem batteryKept : Obligations.BatteryKept := by
  intro s t h ht
  exact (batteryLaw_iff t).2
    (State.BatteryCare.tends.step (fun u hu => hu.2.2.takeSupply) ((batteryLaw_iff s).1 h) ht)

end Sys2Proof.Machine
end

section
/-! The arithmetic of the battery: setpoints (R129) and one evaluation of the shed level (R132). -/

namespace Sys2Proof.Machine

-- The many short proofs would otherwise each hold a waiting thread.
set_option Elab.async false

variable {b : BatteryRec}

/-! ## Setpoints (R129) -/

theorem natAbs_roundHundredth (c : Int) : (roundHundredth c).natAbs = (c.natAbs + 50) / 100 := by
  rcases lt_trichotomy c 0 with hc | rfl | hc
  · rw [roundHundredth, Int.natAbs_mul, Int.sign_eq_neg_one_of_neg hc]
    exact Nat.one_mul _
  · rfl
  · rw [roundHundredth, Int.natAbs_mul, Int.sign_eq_one_of_pos hc]
    exact Nat.one_mul _

theorem roundHundredth_nonneg {c : Int} (hc : 0 ≤ c) : 0 ≤ roundHundredth c :=
  mul_nonneg (Int.sign_nonneg_iff.2 hc) (Int.natCast_nonneg _)

theorem roundHundredth_nonpos {c : Int} (hc : c ≤ 0) : roundHundredth c ≤ 0 :=
  mul_nonpos_of_nonpos_of_nonneg (Int.sign_nonpos_iff.2 hc) (Int.natCast_nonneg _)

/-- The correction never falls with what it rounds: it is the quotient on either side of 0. -/
theorem roundHundredth_mono {c d : Int} (h : c ≤ d) : roundHundredth c ≤ roundHundredth d := by
  have hc := natAbs_roundHundredth c
  have hd := natAbs_roundHundredth d
  rcases le_total 0 c with h0 | h0
  · have := roundHundredth_nonneg h0
    have := roundHundredth_nonneg (h0.trans h)
    omega
  · have := roundHundredth_nonpos h0
    rcases le_total 0 d with h1 | h1
    · exact this.trans (roundHundredth_nonneg h1)
    · have := roundHundredth_nonpos h1
      omega

/-- The limits of a record that passes its checks are in order. -/
theorem floor_lt_ceiling (hok : batteryOk b = true) : b.floor < b.ceiling := by
  simp only [batteryOk, Bool.and_eq_true, decide_eq_true_eq] at hok
  omega

theorem clampInt_mono {lo hi x y : Int} (h : x ≤ y) : clampInt lo hi x ≤ clampInt lo hi y := by
  unfold clampInt
  omega

/-- Settles O11: the correction grows with the temperature, since the compensation is not negative, and a
clamp keeps the order. -/
theorem setpointsFollowTheTemperature : Obligations.SetpointsFollowTheTemperature := by
  refine ⟨fun c => ?_, fun b v t u hok htu => ?_, fun view => ⟨rfl, rfl⟩, fun t => ?_⟩
  · have := natAbs_roundHundredth c
    exact ⟨by omega, by omega, roundHundredth_nonneg, roundHundredth_nonpos⟩
  · have hlimits := floor_lt_ceiling hok
    have hcorrection : roundHundredth (b.comp * (t - 250)) ≤ roundHundredth (b.comp * (u - 250)) :=
      roundHundredth_mono (Int.mul_le_mul_of_nonneg_left (by omega) (by omega))
    refine ⟨?_, ?_, clampInt_mono (by omega)⟩ <;> simp only [setpoint, clampInt] <;> omega
  · simp only [setpointTemp, clampInt, if_true, Option.getD_some]

/-! ## The shed level (R132) -/

/-- R132 step 1: the level rises past every threshold that SoC is below, as long as the fuel lasts. -/
theorem shedRise_spec {soc n l : Nat} (hl : l ≤ 3) (hn : 3 ≤ l + n) :
    l ≤ shedRise b soc n l ∧ (∀ j, l < j → j ≤ shedRise b soc n l → soc < shedThreshold b j) ∧
    (shedRise b soc n l < 3 → shedThreshold b (shedRise b soc n l + 1) ≤ soc) := by
  induction n generalizing l with
  | zero =>
    exact ⟨le_rfl, fun j h1 h2 => absurd h1 (Nat.not_lt.2 h2),
      fun h3 => absurd h3 (by simpa [shedRise] using hn)⟩
  | succ n ih =>
    dsimp only [shedRise]
    split
    · next hc =>
      obtain ⟨hle, hbelow, hstop⟩ := ih (l := l + 1) (by omega) (by omega)
      refine ⟨by omega, fun j h1 h2 => ?_, hstop⟩
      rcases Nat.lt_or_ge (l + 1) j with hj | hj
      · exact hbelow j hj h2
      · rw [show j = l + 1 by omega]
        exact hc.2
    · next hc => exact ⟨le_rfl, fun j h1 h2 => by omega, fun h3 => Nat.not_lt.1 fun hlt => hc ⟨h3, hlt⟩⟩

/-- R132 step 2: the level falls past every threshold that SoC has cleared by 5. -/
theorem shedFall_spec (soc l : Nat) :
    (∀ j, shedFall b soc l < j → j ≤ l → shedThreshold b j + 5 ≤ soc) ∧
    (0 < shedFall b soc l → soc < shedThreshold b (shedFall b soc l) + 5) := by
  induction l with
  | zero => exact ⟨fun j h1 h2 => by omega, fun h => by simp [shedFall] at h⟩
  | succ l ih =>
    dsimp only [shedFall]
    split
    · next hc =>
      obtain ⟨hcleared, hstop⟩ := ih
      refine ⟨fun j h1 h2 => ?_, hstop⟩
      rcases Nat.lt_or_ge l j with hj | hj
      · rw [show j = l + 1 by omega]
        exact hc
      · exact hcleared j h1 hj
    · next hc => exact ⟨fun j h1 h2 => by omega, fun _ => by omega⟩

/-- Settles O12: the level rises by one at least where SoC is below the next threshold; elsewhere it
does not rise, and falls. -/
theorem shedLevelEvaluation : Obligations.ShedLevelEvaluation := by
  intro b soc old _ hold
  refine ⟨fun hrise => ?_, fun hstay => ?_⟩
  · have hfirst : shedRise b soc 3 old = shedRise b soc 2 (old + 1) := if_pos hrise
    obtain ⟨hle, hbelow, hstop⟩ := shedRise_spec (b := b) (soc := soc) (n := 3) hold (by omega)
    have hup : old < shedRise b soc 3 old := by
      rw [hfirst]
      exact (shedRise_spec (by omega) (by omega)).1
    have hnew : shedLevel b soc old = shedRise b soc 3 old := if_neg hup.ne'
    rw [hnew]
    exact ⟨hup, shedRise_le b soc 3 hold, hbelow, hstop⟩
  · have hfirst : shedRise b soc 3 old = old := if_neg hstay
    have hnew : shedLevel b soc old = shedFall b soc old := if_pos hfirst
    rw [hnew]
    exact ⟨shedFall_le b soc old, shedFall_spec soc old⟩

end Sys2Proof.Machine
end

section
/-! The charger's timers (R126, R127, R131) and the timers of the load test (R134), which end in FLOAT,
in BULK and in the start of a test. -/

namespace Sys2Proof.Machine

-- The many short proofs would otherwise each hold a waiting thread.
set_option Elab.async false

variable {s t : State}

/-! ## The absorb limit and the recovery (R126, R127, R131) -/

/-- R131: without the link, FLOAT moves no charge. -/
theorem State.enterFloat_down (hl : s.slr.link ≠ .up) (hd : s.bat.due = none) :
    s.enterFloat = s.setCharger .float := by
  have hl1 : (s.setCharger .float).slr.link ≠ .up := by simpa using hl
  have hd1 : (s.setCharger .float).bat.due = none := by simpa [State.setCharger_float] using hd
  simp only [State.enterFloat, if_neg hl1, State.dueCheck_undue hd1]

/-- R131: with the link UP the charge is full, whatever the shed level does next. -/
theorem State.enterFloat_full (hl : s.slr.link = .up) :
    s.enterFloat.bat.q = qFull s.store.battery ∧ s.enterFloat.bat.estimated = false ∧
    s.enterFloat.bat.soc = socOf s.store.battery (qFull s.store.battery) := by
  have hl1 : (s.setCharger .float).slr.link = .up := by simpa using hl
  have h : s.enterFloat.bat.aside = { s.bat.aside with
      estimated := false, q := qFull s.store.battery
      soc := socOf s.store.battery (qFull s.store.battery) } := by
    simp only [State.enterFloat, hl1, if_true]
    rw [State.dueCheck_aside, State.updateQ, (State.testOnly.refl _).evalShed.1]
    simp [State.setQ, State.profileSoc, State.setCharger_float, Bat.aside]
  exact ⟨congrArg Bat.q h, congrArg Bat.estimated h, congrArg Bat.soc h⟩

/-- Settles O38: the charger comes into FLOAT and into BULK by its transitions, and a full charge follows
FLOAT with the link UP alone. -/
theorem chargerTimersExpire : Obligations.ChargerTimersExpire := by
  intro s hrun hdue
  refine ⟨fun hk => ?_, fun ⟨hk, hleft⟩ => ?_⟩
  · have hdone : s.absorbDone = s.enterFloat := if_pos hk
    refine ⟨s.enterFloat, hdone ▸ congrArg _ (whenRunning_running hrun), fun h => ?_,
      by simp [allBut_iff, eventBlocks], State.enterFloat_full, fun hl => ?_⟩
    · have hbat : s.enterFloat.bat.charger = .float ∧ s.enterFloat.bat.absorbMs = none ∧
          s.enterFloat.bat.rebulk = 0 ∧ s.enterFloat.bat.chgEn = true ∧
          s.enterFloat.bat.chgVset = s.bat.floatSet ∧
          s.enterFloat.bat.chgIlim = s.store.battery.bulkLimit := by
        by_cases hl : s.slr.link = .up
        · rw [State.enterFloat_present (h.resolve_right (by simpa using hl)) hdue, if_pos hl]
          simp [State.setCharger_float]
        · rw [State.enterFloat_down hl hdue]
          simp [State.setCharger_float]
      exact hbat
    · rw [State.enterFloat_down hl hdue]
      exact ⟨by simp [State.setCharger_float], by simp [State.setCharger_float], by simp [allBut_iff]⟩
  · have hdone : s.recoveryDone = s.setCharger .bulk :=
      (if_pos ⟨hk, hleft⟩).trans (State.chargerTo_undue hdue .bulk)
    refine ⟨s.setCharger .bulk, hdone ▸ congrArg _ (whenRunning_running hrun), ?_⟩
    simp [State.setCharger_bulk, allBut_iff]

/-! ## The start of a load test (R134, R135, R144) -/

/-- BAT once a start has its grant: the test settles and the charger is in TEST. -/
def Bat.settling (c : StartCause) (b : Bat) : Bat :=
  { b with
    due := none, retryLeft := none, startCause := some c, test := .settle
    settleLeft := some Config.settleMs, recentV := [], recentI := [], charger := .test
    absorbMs := none, rebulk := 0, recoveryLeft := none, chgEn := false, chgVset := b.floatSet
    chgIlim := 0 }

/-- A start up to its request for the grant. -/
def State.testAsks (c : StartCause) (s : State) : State :=
  (s.modBat (fun b =>
    { b with due := none, retryLeft := none, startCause := some c, test := .waitGrant })).modSup
    (fun u => u.setReq .load .requesting)

/-- R135, R145: the start of a test that has its grant at once. -/
theorem State.offer_testAsks (c : StartCause) (s : State) :
    ((s.testAsks c).offer .load).bat = s.bat.settling c ∧
    ((s.testAsks c).offer .load).sup = { s.sup with load := .holding } ∧
    AllBut [.bat, .sup] s ((s.testAsks c).offer .load) := by
  have hw : awaitsGrant (s.testAsks c) .load = true := by simp [awaitsGrant, State.testAsks]
  have hoffer : (s.testAsks c).offer .load =
      ((s.testAsks c).modSup (fun u => u.setReq .load .holding)).loadGranted := if_pos hw
  rw [hoffer]
  exact ⟨rfl, rfl, by simp [allBut_iff, State.testAsks]⟩

/-- R144, R145: with the supply present, or on a battery that nobody else asks for, a start has its grant
at once. -/
theorem State.startTest_settles (c : StartCause) (hl : s.sup.load = .idle)
    (hfree : s.sup.supply = true ∨ s.sup.supply = false ∧ s.sup.cap = .idle ∧ s.sup.radio = .idle) :
    s.startTest c = (s.testAsks c).offer .load := by
  have hreq : (s.modBat (fun b =>
      { b with due := none, retryLeft := none, startCause := some c, test := .waitGrant })).sup.req
      .load = .idle := hl
  have hw : awaitsGrant (s.testAsks c) .load = true := by simp [awaitsGrant, State.testAsks]
  rcases hfree with hs | ⟨hs, hcap, hradio⟩
  · have hs1 : (s.testAsks c).sup.supply = true := by simpa [State.testAsks] using hs
    simp only [State.startTest, State.ask, hreq]
    exact (if_pos hs1).trans (if_pos rfl)
  · have hs1 : ¬ (s.testAsks c).sup.supply = true := by simp [State.testAsks, hs]
    have hpick : (s.testAsks c).sup.pick = some .load := by
      simp [Sup.pick, State.testAsks, Sup.setReq, hcap, hradio]
    have hnone : (s.testAsks c).sup.anyHolder = false := by
      simp [Sup.anyHolder, State.testAsks, Sup.setReq, hcap, hradio, ReqState.holds]
    simp only [State.startTest, State.ask, hreq]
    refine (if_neg hs1).trans ?_
    change (s.testAsks c).grantDecision 3 = _
    simp [State.grantDecision, hnone, hpick, hw]

/-- R145: behind a holder a start waits for its grant. -/
theorem State.startTest_waits (c : StartCause) (hs : s.sup.supply = false) (hl : s.sup.load = .idle)
    (hcap : s.sup.cap = .holding) : s.startTest c = s.testAsks c := by
  have hreq : (s.modBat (fun b =>
      { b with due := none, retryLeft := none, startCause := some c, test := .waitGrant })).sup.req
      .load = .idle := hl
  have hs1 : ¬ (s.testAsks c).sup.supply = true := by simp [State.testAsks, hs]
  simp only [State.startTest, State.ask, hreq]
  refine (if_neg hs1).trans (State.decide3_of_holder ?_)
  simp [Sup.anyHolder, Sup.setReq, hcap, ReqState.holds]

/-! ## The interval and the retry timer (R134) -/

/-- The timers that set the due mark, and the aborts in a row (R134, R137). -/
def Bat.schedule (b : Bat) : Nat × Option Nat × Nat := (b.intervalLeft, b.retryLeft, b.abortCount)

/-- A grant leaves the schedule of the tests. -/
theorem granting_schedule (x : Nat × Option Nat × Nat) : Granting (fun t => t.bat.schedule = x) where
  sup _ h := h
  rpc _ h := h
  granted _ h := by simpa [State.loadGranted, State.setCharger, State.chargerPins, Bat.schedule] using h

/-- R134: a start leaves the interval and the aborts, and stops the retry timer. -/
theorem State.startTest_schedule (c : StartCause) (s : State) :
    (s.startTest c).bat.schedule = (s.bat.intervalLeft, none, s.bat.abortCount) :=
  (granting_schedule _).ask .load rfl

/-- R134: a due mark starts the test where it may start, and is left where it may not. -/
theorem State.dueCheck_due {c : StartCause} (hd : s.bat.due = some c) :
    s.dueCheck = if mayStartTest s then s.startTest c else s := by
  simp [State.dueCheck, hd]

/-- What the check of R134 leaves of the schedule. -/
theorem State.dueCheck_counts (s : State) :
    s.dueCheck.bat.intervalLeft = s.bat.intervalLeft ∧ s.dueCheck.bat.abortCount = s.bat.abortCount ∧
    (s.bat.retryLeft = none → s.dueCheck.bat.retryLeft = none) := by
  dsimp only [State.dueCheck]
  split
  · next c _ =>
    split
    · have h := s.startTest_schedule c
      simp only [Bat.schedule, Prod.mk.injEq] at h
      obtain ⟨hinterval, hretry, hcount⟩ := h
      exact ⟨hinterval, hcount, fun _ => hretry⟩
    · exact ⟨rfl, rfl, id⟩
  · exact ⟨rfl, rfl, id⟩

/-- A test may start in IDLE alone. -/
theorem mayStartTest_idle (h : mayStartTest s = true) : s.bat.test = .idle := by
  simp only [mayStartTest, Bool.and_eq_true, beq_iff_eq] at h
  obtain ⟨⟨⟨ht, -⟩, -⟩, -⟩ := h
  exact ht

/-- R134: what follows a due mark that has been set. -/
theorem State.dueCheck_marked {c : StartCause} (hd : t.bat.due = some c) (ht : AllBut [.bat] s t)
    (hmay : mayStartTest t = mayStartTest s) :
    AllBut [.bat, .sup, .rpc] s t.dueCheck ∧ (mayStartTest s = false → t.dueCheck = t) ∧
    (mayStartTest s = true → s.sup.supply = true → s.sup.load = .idle →
      t.dueCheck.bat = t.bat.settling c ∧ t.dueCheck.sup.load = .holding ∧
      AllBut [.bat, .sup] s t.dueCheck) := by
  have hsup : t.sup = s.sup := ht .sup (by simp)
  refine ⟨ht.trans (l' := [.bat, .sup, .rpc]) (by simp [allBut_iff]) (by simp) (by simp),
    fun h => ?_, fun h hs hl => ?_⟩
  · rw [State.dueCheck_due hd, if_neg (by simp [hmay, h])]
  · obtain ⟨hbat, hload, hframe⟩ := t.offer_testAsks c
    rw [State.dueCheck_due hd, if_pos (hmay.trans h),
      State.startTest_settles c (by rw [hsup, hl]) (.inl (by rw [hsup, hs]))]
    exact ⟨hbat, congrArg Sup.load hload, ht.trans hframe (by simp) (by simp)⟩

/-- BAT with the interval begun again (R134). -/
def Bat.newTestInterval (r : BatteryRec) (b : Bat) : Bat :=
  { b with intervalLeft := r.testHours * Config.hourMs, abortCount := 0 }

/-- BAT with a due mark (R134). -/
def Bat.marked (c : StartCause) (b : Bat) : Bat := { b with due := some c }

/-- BAT with the retry timer at its end (R134). -/
def Bat.retryOver (b : Bat) : Bat := { b with retryLeft := none, due := some .retry }

/-- R134: the interval in IDLE sets the due mark. -/
theorem State.intervalElapsed_idle (ht : s.bat.test = .idle) : s.intervalElapsed =
    (s.modBat (fun b => (b.newTestInterval s.store.battery).marked .interval)).dueCheck := if_pos ht

/-- R134: the interval while a test runs begins again alone. -/
theorem State.intervalElapsed_busy (ht : s.bat.test ≠ .idle) :
    s.intervalElapsed = s.modBat (Bat.newTestInterval s.store.battery) := if_neg ht

/-- Settles O39: each timer leads to the check of its due mark, which starts the test or leaves it. -/
theorem testTimersExpire : Obligations.TestTimersExpire := by
  intro s hrun
  have hbat : ∀ f : Bat → Bat, AllBut [.bat] s (s.modBat f) := fun f => by simp [allBut_iff]
  refine ⟨⟨s.intervalElapsed, congrArg _ (whenRunning_running hrun), ?_⟩, fun hleft => ?_⟩
  · by_cases ht : s.bat.test = .idle
    · rw [State.intervalElapsed_idle ht]
      obtain ⟨hinterval, hcount, -⟩ := State.dueCheck_counts
        (s.modBat (fun b => (b.newTestInterval s.store.battery).marked .interval))
      obtain ⟨hframe, hstays, hsettles⟩ := State.dueCheck_marked (c := .interval) rfl
        (hbat (fun b => (b.newTestInterval s.store.battery).marked .interval)) rfl
      refine ⟨hinterval, hcount, hframe, fun hne => absurd ht hne, fun ⟨_, hmay⟩ => ?_,
        fun ⟨hmay, hs, hl⟩ => ?_⟩
      · rw [hstays hmay]
        exact ⟨ht, rfl, hbat _⟩
      · obtain ⟨hsettle, hload, hboth⟩ := hsettles hmay hs hl
        rw [hsettle]
        exact ⟨rfl, rfl, rfl, rfl, rfl, rfl, hload, hboth⟩
    · rw [State.intervalElapsed_busy ht]
      exact ⟨rfl, rfl, (hbat _).mono (by simp), fun _ => ⟨rfl, rfl, hbat _⟩,
        fun h => absurd h.1 ht, fun h => absurd (mayStartTest_idle h.1) ht⟩
  · have hdone : s.retryElapsed = (s.modBat Bat.retryOver).dueCheck := if_pos hleft
    obtain ⟨-, -, hretry⟩ := State.dueCheck_counts (s.modBat Bat.retryOver)
    obtain ⟨hframe, hstays, hsettles⟩ := State.dueCheck_marked (c := .retry) rfl
      (hbat Bat.retryOver) rfl
    refine ⟨(s.modBat Bat.retryOver).dueCheck, hdone ▸ congrArg _ (whenRunning_running hrun),
      hretry rfl, hframe, fun hmay => ?_, fun ⟨hmay, hs, hl⟩ => ?_⟩
    · rw [hstays hmay]
      exact ⟨rfl, rfl, hbat _⟩
    · obtain ⟨hsettle, hload, hboth⟩ := hsettles hmay hs hl
      rw [hsettle]
      exact ⟨rfl, rfl, rfl, rfl, rfl, hload, hboth⟩

end Sys2Proof.Machine
end

section
/-! The end of a load test (R135 to R138): what the result record and the counts hold, with the load off,
and the end of SETTLE and of LOAD. -/

namespace Sys2Proof.Machine

-- The many short proofs would otherwise each hold a waiting thread.
set_option Elab.async false

variable {s t : State} {v : Verdict} {v1 dI : Option Int} {r : Option Nat}

/-! ## What the charger and a grant leave of BAT -/

/-- BAT without the charger's state, timers, counts and lines (Table 7-3). -/
def Bat.uncharged (b : Bat) : Bat :=
  { b with charger := .off, absorbMs := none, rebulk := 0, recoveryLeft := none, chgEn := false
           chgVset := 0, chgIlim := 0 }

/-- BAT without what a grant of LOAD_TEST moves (R135). -/
def Bat.ungranted (b : Bat) : Bat :=
  { b.uncharged with test := .idle, settleLeft := none, recentV := [], recentI := [] }

/-- What two that differ in the charger alone have in common of a test. -/
theorem Bat.test_of_uncharged {a b : Bat} (h : a.uncharged = b.uncharged) :
    a.test = b.test ∧ a.testLoad = b.testLoad ∧ a.startCause = b.startCause ∧
    a.settleLeft = b.settleLeft ∧ a.loadLeft = b.loadLeft ∧ a.result = b.result ∧
    a.abortCount = b.abortCount ∧ a.badCount = b.badCount ∧ a.retryLeft = b.retryLeft ∧
    a.due = b.due := by
  simp only [Bat.uncharged, Bat.mk.injEq] at h
  simp only [h, and_self]

@[simp] theorem State.setCharger_uncharged (st : Charger) (s : State) :
    (s.setCharger st).bat.uncharged = s.bat.uncharged := by
  cases st <;> rfl

/-- What two that differ in a grant alone have in common. -/
theorem Bat.rest_of_ungranted {a b : Bat} (h : a.ungranted = b.ungranted) :
    a.due = b.due ∧ a.supply = b.supply ∧ a.fault = b.fault := by
  simp only [Bat.ungranted, Bat.uncharged, Bat.mk.injEq] at h
  simp only [h, and_self]

/-- A grant moves the start of SETTLE and the charger alone, and the charger into TEST. -/
theorem granting_ungranted (b : Bat) : Granting (fun t =>
    t.bat.ungranted = b.ungranted ∧ (b.charger = .test → t.bat.charger = .test)) where
  sup _ h := h
  rpc _ h := h
  granted _ h := ⟨h.1, fun _ => rfl⟩

/-- R136, R137: the load is off and its grant is given back. -/
theorem State.dropLoad_bat (s : State) :
    s.dropLoad.bat.ungranted = { s.bat with testLoad := false }.ungranted ∧
    (s.bat.charger = .test → s.dropLoad.bat.charger = .test) :=
  (granting_ungranted { s.bat with testLoad := false }).release .load
    (s := s.modBat (fun b => { b with testLoad := false })) ⟨rfl, id⟩

/-! ## A verdict (R136) -/

/-- The counts of bad verdicts and aborts after a verdict (R136). -/
def Bat.counted (v : Verdict) (b : Bat) : Bat :=
  match v with
  | .pass => { b with badCount := 0, abortCount := 0 }
  | .fail => { b with badCount := if b.badCount < 2 then b.badCount + 1 else b.badCount }
  | .noLoad => { b with badCount := if b.badCount < 2 then b.badCount + 1 else b.badCount }
  | .aborted => b
  | .cancelled => b

/-- BAT after a verdict, but for the charger: the result stands, and the test is over (R136). -/
def Bat.tested (time : PartTime) (v : Verdict) (v1 dI : Option Int) (r : Option Nat) (b : Bat) : Bat :=
  { b.counted v with
    result := some { time := time, cause := b.startCause, v0 := b.v0, i0 := b.i0, v1 := v1
                     dI := dI, r := r, verdict := v }
    test := .idle, startCause := none, settleLeft := none, loadLeft := none, v0 := none, i0 := none
    recentV := [], recentI := [] }

@[simp] theorem State.countVerdict_bat (v : Verdict) (r : Option Nat) (s : State) :
    (s.countVerdict v r).bat = s.bat.counted v := by
  have hbad : (if s.bat.badCount = 1 then
        (s.modBat (fun b => { b with badCount := 2 })).emit (.batteryBad r)
      else if s.bat.badCount = 0 then s.modBat (fun b => { b with badCount := 1 }) else s).bat =
      s.bat.counted .fail := by
    split
    · next h => simp [Bat.counted, h]
    · split
      · next h => simp [Bat.counted, h]
      · next h1 h0 =>
        have h2 : ¬ s.bat.badCount < 2 := by omega
        simp [Bat.counted, h2]
  cases v with
  | fail => exact hbad
  | noLoad => exact hbad
  | pass => rfl
  | aborted => rfl
  | cancelled => rfl

/-- The verdict depends on nothing that a grant moves. -/
theorem Bat.tested_congr {a b : Bat} (h : a.ungranted = b.ungranted) (time : PartTime) :
    (a.tested time v v1 dI r).uncharged = (b.tested time v v1 dI r).uncharged := by
  have hquot : ∀ c : Bat, (c.tested time v v1 dI r).uncharged =
      (c.ungranted.tested time v v1 dI r).uncharged := fun c => by cases v <;> rfl
  rw [hquot a, hquot b, h]

/-- R136: the charger leaves TEST, where it may, with no test that is due behind it. -/
theorem State.chargerTestEnded_bat (hd : s.bat.due = none) :
    s.chargerTestEnded.bat.uncharged = s.bat.uncharged ∧
    (s.bat.charger = .test → s.chargerTestEnded.bat.charger =
      if s.bat.supply = false then .off else if s.bat.fault.isSome then .fault else .bulk) := by
  have hto : ∀ st, s.chargerTo st = s.setCharger st := State.chargerTo_undue hd
  have hfault : s.enterFault.bat = (s.setCharger .fault).bat := by simp [State.enterFault]
  by_cases hk : s.bat.charger = .test
  · simp only [State.chargerTestEnded, hk, if_true, hto]
    cases hs : s.bat.supply with
    | false => simp
    | true => cases hf : s.bat.fault <;> simp [-State.enterFault_bat, hfault]
  · simp [State.chargerTestEnded, hk]

/-- R136: a test that ends, with no other that is due behind it. -/
theorem State.endTest_bat (hd : s.bat.due = none) :
    (s.endTest v v1 dI r).bat.uncharged = (s.bat.tested s.fcu.time v v1 dI r).uncharged ∧
    (s.bat.charger = .test → (s.endTest v v1 dI r).bat.charger =
      if s.bat.supply = false then .off else if s.bat.fault.isSome then .fault else .bulk) := by
  have hdue : (s.bat.tested s.fcu.time v v1 dI r).due = s.bat.due := by cases v <;> rfl
  have hcharger : (s.bat.tested s.fcu.time v v1 dI r).charger = s.bat.charger := by cases v <;> rfl
  have hsupply : (s.bat.tested s.fcu.time v v1 dI r).supply = s.bat.supply := by cases v <;> rfl
  have hfault : (s.bat.tested s.fcu.time v v1 dI r).fault = s.bat.fault := by cases v <;> rfl
  obtain ⟨u, hend, hu⟩ : ∃ u : State, s.endTest v v1 dI r = u.chargerTestEnded ∧
      u.bat = s.bat.tested s.fcu.time v v1 dI r := by
    have hcount : ∀ (w : State) (e : Event), ((w.emit e).countVerdict v r).bat = w.bat.counted v := by simp
    refine ⟨_, rfl, ?_⟩
    rw [State.modBat_bat, hcount]
    cases v <;> rfl
  obtain ⟨hbat, hchg⟩ := State.chargerTestEnded_bat (s := u) (by rw [hu, hdue, hd])
  rw [hend, hbat, hu]
  refine ⟨rfl, fun hk => ?_⟩
  rw [hu, hcharger, hsupply, hfault] at hchg
  exact hchg hk

/-- R136: a test that ends, seen from a BAT of which grants alone have moved something since. -/
theorem State.endTest_of_ungranted {b : Bat} (hu : s.bat.ungranted = b.ungranted)
    (hk : b.charger = .test → s.bat.charger = .test) (hd : b.due = none) :
    (s.endTest v v1 dI r).bat.uncharged = (b.tested s.fcu.time v v1 dI r).uncharged ∧
    (b.charger = .test → (s.endTest v v1 dI r).bat.charger =
      if b.supply = false then .off else if b.fault.isSome then .fault else .bulk) := by
  obtain ⟨hdue, hsupply, hfault⟩ := Bat.rest_of_ungranted hu
  obtain ⟨hbat, hcharger⟩ := State.endTest_bat (v := v) (v1 := v1) (dI := dI) (r := r) (hdue.trans hd)
  refine ⟨hbat.trans (Bat.tested_congr hu _), fun h => ?_⟩
  rw [hcharger (hk h), hsupply, hfault]

/-- R136, R138: a verdict, with the load off and the grant given back before it. -/
theorem State.dropLoad_endTest (hd : s.bat.due = none) :
    (s.dropLoad.endTest v v1 dI r).bat.uncharged =
      ({ s.bat with testLoad := false }.tested s.fcu.time v v1 dI r).uncharged ∧
    (s.bat.charger = .test → (s.dropLoad.endTest v v1 dI r).bat.charger =
      if s.bat.supply = false then .off else if s.bat.fault.isSome then .fault else .bulk) := by
  obtain ⟨hun, hk⟩ := s.dropLoad_bat
  simpa using State.endTest_of_ungranted (s := s.dropLoad) (v := v) (v1 := v1) (dI := dI) (r := r) hun hk hd

/-- BAT after an abort, but for the charger (R137). -/
def Bat.aborted (time : PartTime) (b : Bat) : Bat :=
  { { b with testLoad := false, abortCount := b.abortCount + 1 }.tested time .aborted none none none with
    retryLeft := if b.abortCount + 1 < 3 then some Config.retryMs else b.retryLeft }

/-- R137: an abort. -/
theorem State.abortTest_bat (hd : s.bat.due = none) :
    s.abortTest.bat.uncharged = (s.bat.aborted s.fcu.time).uncharged := by
  obtain ⟨hun, hk⟩ := s.dropLoad_bat
  obtain ⟨u, hu, htime, hbat⟩ : ∃ u : State, u = s.dropLoad.modBat (fun b =>
      { b with abortCount := b.abortCount + 1 }) ∧ u.fcu.time = s.fcu.time ∧
      u.bat = { s.dropLoad.bat with abortCount := s.dropLoad.bat.abortCount + 1 } :=
    ⟨_, rfl, by simp, rfl⟩
  have hun' : u.bat.ungranted =
      { s.bat with testLoad := false, abortCount := s.bat.abortCount + 1 }.ungranted := by
    rw [hbat]
    exact congrArg (fun c : Bat => { c with abortCount := c.abortCount + 1 }) hun
  obtain ⟨hend, -⟩ := State.endTest_of_ungranted (v := .aborted) (v1 := none) (dI := none) (r := none)
    hun' (fun h => by rw [hbat]; exact hk h) hd
  rw [htime] at hend
  obtain ⟨-, -, -, -, -, -, hcount, -⟩ := Bat.test_of_uncharged hend
  have habort : s.abortTest = if (u.endTest .aborted none none none).bat.abortCount < 3 then
      (u.endTest .aborted none none none).modBat (fun b => { b with retryLeft := some Config.retryMs })
      else u.endTest .aborted none none none := by rw [hu]; rfl
  generalize u.endTest .aborted none none none = w at hend hcount habort
  have hcount' : w.bat.abortCount = s.bat.abortCount + 1 := hcount
  rw [habort, hcount', Bat.aborted]
  split
  · exact congrArg (fun b : Bat => { b with retryLeft := some Config.retryMs }) hend
  · exact hend

/-! ## SETTLE and LOAD (R135 to R137) -/

/-- What an abort leaves for everyone to see (R137). -/
theorem State.abortTest_spec (hd : s.bat.due = none) :
    s.abortTest.bat.test = .idle ∧ s.abortTest.bat.testLoad = false ∧
    s.abortTest.bat.startCause = none ∧ s.abortTest.bat.settleLeft = none ∧
    s.abortTest.bat.loadLeft = none ∧
    s.abortTest.bat.result = some
      ⟨s.fcu.time, s.bat.startCause, s.bat.v0, s.bat.i0, none, none, none, .aborted⟩ ∧
    s.abortTest.bat.abortCount = s.bat.abortCount + 1 ∧
    s.abortTest.bat.badCount = s.bat.badCount ∧
    s.abortTest.bat.retryLeft =
      (if s.bat.abortCount + 1 < 3 then some 900000 else s.bat.retryLeft) ∧
    AllBut (eventBlocks ++ [.bat, .sup]) s s.abortTest := by
  obtain ⟨htest, hload, hcause, hsettle, hleft, hresult, habort, hbad, hretry, -⟩ :=
    Bat.test_of_uncharged (State.abortTest_bat hd)
  exact ⟨htest, hload, hcause, hsettle, hleft, hresult, habort, hbad, hretry,
    by simp [allBut_iff, eventBlocks]⟩

/-- Settles O40: a phase that ends without its means is an abort, and one that ends with them has its
baseline or its verdict. -/
theorem loadTestPhasesEnd : Obligations.LoadTestPhasesEnd := by
  intro s hrun aborted
  have hsettle : exec .settleEnd s = .next s.settleDone.serve :=
    congrArg _ (whenRunning_running hrun)
  have hload : exec .loadEnd s = .next s.loadDone.serve := congrArg _ (whenRunning_running hrun)
  refine ⟨fun v i ht hv hi => ?_, fun ht hnone hd => ?_, fun v1 i1 v0 i0 ht hv hi hv0 hi0 hd => ?_,
    fun ht hnone hd => ?_⟩
  · refine ⟨s.settleDone, hsettle, ?_, ?_⟩ <;>
      simp [State.settleDone, ht, hv, hi, allBut_iff, Config.loadMs]
  · have habort : s.settleDone = s.abortTest := by
      rcases hnone with h | h
      · simp [State.settleDone, ht, h]
      · cases hv : recentMean s.fcu.running s.bat.recentV <;> simp [State.settleDone, ht, h, hv]
    exact ⟨s.abortTest, habort ▸ hsettle, State.abortTest_spec hd⟩
  · have hdone : s.loadDone = s.dropLoad.endTest (verdictOf s.store.battery v1 (v0 - v1) (i0 - i1)).1
        (some v1) (some (i0 - i1)) (verdictOf s.store.battery v1 (v0 - v1) (i0 - i1)).2 := by
      simp [State.loadDone, ht, hv, hi, hv0, hi0]
    refine ⟨_, hdone ▸ hload, ?_⟩
    generalize verdictOf s.store.battery v1 (v0 - v1) (i0 - i1) = w
    obtain ⟨h, -⟩ := State.dropLoad_endTest (v := w.1) (v1 := some v1) (dI := some (i0 - i1))
      (r := w.2) hd
    obtain ⟨htest, hoff, hcause, -, -, hresult, habort, -⟩ := Bat.test_of_uncharged h
    refine ⟨htest, hoff.trans ?_, hcause, habort.trans ?_, hresult.trans ?_,
      by simp [allBut_iff, eventBlocks]⟩
    · cases w.1 <;> rfl
    · cases w.1 <;> rfl
    · simp [Bat.tested, hv0, hi0]
  · have habort : s.loadDone = s.abortTest := by
      simp only [State.loadDone, ht, if_true]
      split
      · next hv hi hv0 hi0 => simp [hv, hi, hv0, hi0] at hnone
      · rfl
    exact ⟨s.abortTest, habort ▸ hload, State.abortTest_spec hd⟩

end Sys2Proof.Machine
end

section
/-! TEST_START and TEST_CANCEL (R138): what their outcomes are, and what they make of the load test. -/

namespace Sys2Proof.Machine

-- The many short proofs would otherwise each hold a waiting thread.
set_option Elab.async false

variable {s t : State} {e e' : IntakeEntry} {h : CmdHead} {p : List Byte}

/-- R134: the conditions of a start, with no test running. -/
theorem mayStartTest_iff (ht : s.bat.test = .idle) : mayStartTest s = true ↔
    s.bat.shed ≤ 1 ∧ s.bat.charger ≠ .fault ∧ s.bat.disc = .normal := by
  simp [mayStartTest, ht, and_assoc]

/-- A start that may be made is made and answered, whatever the arbiter decides. -/
theorem testStart_executes (hx : Executes s (rowEntry h .testStart []) e') (hmay : mayStartTest s = true) :
    exec (.testStart h []) s =
      .next (((s.begun e').startTest .command).answer (replyOf s e') .done) := by
  have hd := commandRow_executes hx
  have ht := mayStartTest_idle hmay
  have hmay' : mayStartTest (s.begun e') = true := by simpa [mayStartTest] using hmay
  simp only [bodyOf, bodyTestStart, args_of_executes hx, noFields, State.begun_frame, ht, hmay'] at hd
  exact hd

/-- TEST_START where no test may start is refused by the first reason that applies. -/
theorem testStart_refused (hx : Executes s (rowEntry h .testStart p) e')
    (hno : p ≠ [] ∨ mayStartTest s = false) : Refuses s e' (.testStart h p)
      (if p ≠ [] then .invalid else if s.bat.test ≠ .idle then .busy else .state) := by
  have hd : Does s e' (.testStart h p) (bodyOf (some .testStart) e') := does_of_executes hx rfl
  have hmay : mayStartTest (s.begun e') = mayStartTest s := by simp [mayStartTest]
  refine refuses_of_does hx (hd.trans (congrArg _ ?_))
  by_cases hp : p = []
  · have hmay' : mayStartTest s = false := hno.resolve_left (by simp [hp])
    by_cases ht : s.bat.test = .idle <;>
      simp [bodyOf, bodyTestStart, args_of_executes hx, noFields, hmay, hmay', hp, ht]
  · simp [bodyOf, bodyTestStart, args_of_executes hx, noFields, hp]

theorem testStart_answered (hx : Executes s e e') :
    Answered s e' .done [] (((s.begun e').startTest .command).answer (replyOf s e') .done) :=
  answered_of_executes hx (by simp) (by simp) (by simp) (Nat.zero_le _)

/-- TEST_CANCEL of a running test. -/
theorem testCancel_executes (hx : Executes s (rowEntry h .testCancel []) e') (ht : s.bat.test ≠ .idle) :
    exec (.testCancel h []) s =
      .next ((s.begun e').cancelTest.answer (replyOf s e') .done) := by
  have hd := commandRow_executes hx
  simp only [bodyOf, bodyTestCancel, args_of_executes hx, noFields, State.begun_frame, ht] at hd
  exact hd

theorem testCancel_answered (hx : Executes s e e') :
    Answered s e' .done [] ((s.begun e').cancelTest.answer (replyOf s e') .done) :=
  answered_of_executes hx (by simp) (by simp) (by simp) (Nat.zero_le _)

/-- TEST_CANCEL where no test runs is refused by the first reason that applies. -/
theorem testCancel_refused (hx : Executes s (rowEntry h .testCancel p) e')
    (hno : p ≠ [] ∨ s.bat.test = .idle) : Refuses s e' (.testCancel h p)
      (if p ≠ [] then .invalid else .state) := by
  have hd : Does s e' (.testCancel h p) (bodyOf (some .testCancel) e') := does_of_executes hx rfl
  refine refuses_of_does hx (hd.trans (congrArg _ ?_))
  by_cases hp : p = []
  · have ht : s.bat.test = .idle := hno.resolve_left (by simp [hp])
    simp [bodyOf, bodyTestCancel, args_of_executes hx, noFields, hp, ht]
  · simp [bodyOf, bodyTestCancel, args_of_executes hx, noFields, hp]

/-- R135, R138: a start by command that has its grant at once. -/
theorem testStart_settles (hl : s.sup.load = .idle)
    (hfree : s.sup.supply = true ∨ s.sup.supply = false ∧ s.sup.cap = .idle ∧ s.sup.radio = .idle) :
    ∃ t, ((s.begun e').startTest .command).answer (replyOf s e') .done = t ∧
      t.bat = s.bat.settling .command ∧ t.sup = { s.sup with load := .holding } ∧
      AllBut [.slr, .bat, .sup, .pkm, .fcu] s t := by
  obtain ⟨hbat, hsup, hframe⟩ := (s.begun e').offer_testAsks .command
  refine ⟨_, rfl, ?_⟩
  rw [State.startTest_settles .command (by simpa using hl) (by simpa using hfree)]
  exact ⟨by simpa using hbat, by simpa using hsup, allBut_begun_answer hframe (by simp) (by simp)⟩

/-- R138: a cancelled test has its record, and the load is off. -/
theorem cancelTest_spec (hd : s.bat.due = none) :
    s.cancelTest.bat.test = .idle ∧ s.cancelTest.bat.testLoad = false ∧
    s.cancelTest.bat.startCause = none ∧ s.cancelTest.bat.settleLeft = none ∧
    s.cancelTest.bat.loadLeft = none ∧
    s.cancelTest.bat.result = some
      ⟨s.fcu.time, s.bat.startCause, s.bat.v0, s.bat.i0, none, none, none, .cancelled⟩ ∧
    s.cancelTest.bat.abortCount = s.bat.abortCount ∧ s.cancelTest.bat.badCount = s.bat.badCount ∧
    (s.bat.charger = .test → s.cancelTest.bat.charger =
      if s.bat.supply = false then .off else if s.bat.fault.isSome then .fault else .bulk) := by
  obtain ⟨h, hcharger⟩ := State.dropLoad_endTest (v := .cancelled) (v1 := none) (dI := none)
    (r := none) hd
  obtain ⟨htest, hload, hcause, hsettle, hleft, hresult, habort, hbad, -⟩ := Bat.test_of_uncharged h
  exact ⟨htest, hload, hcause, hsettle, hleft, hresult, habort, hbad, hcharger⟩

/-- Settles O57: a refusal by the first reason that applies, a start with its grant or behind a holder, and
an end with its record. -/
theorem testCommandsAct : Obligations.TestCommandsAct := by
  intro h p s e'
  refine ⟨fun hx => ?_, fun hx => ?_⟩
  · intro may
    by_cases hno : p ≠ [] ∨ mayStartTest s = false
    · obtain ⟨t, ht, hans⟩ := testStart_refused hx hno
      refine ⟨t, ht, fun hp => by simpa [hp] using hans, fun hp hb => by simpa [hp, hb] using hans,
        fun hp hb _ => by simpa [hp, hb] using hans, fun hp hb hmay => ?_⟩
      have hmay' := (mayStartTest_iff hb).2 hmay
      simp [hp, hmay'] at hno
    · obtain ⟨rfl, hmay⟩ : p = [] ∧ mayStartTest s = true := by simpa using hno
      have hidle := mayStartTest_idle hmay
      refine ⟨_, testStart_executes hx hmay, by simp, fun _ hb => absurd hidle hb,
        fun _ _ hnot => absurd ((mayStartTest_iff hidle).1 hmay) hnot,
        fun _ _ _ => ⟨testStart_answered hx, fun hs hl => ?_, fun hs hl hc hr => ?_, fun hs hl hc => ?_⟩⟩
      · obtain ⟨t, rfl, hbat, hsup, hframe⟩ := testStart_settles (e' := e') hl (.inl hs)
        rw [hbat]
        exact ⟨rfl, rfl, rfl, rfl, rfl, rfl, rfl, hsup, hframe⟩
      · obtain ⟨t, rfl, hbat, hsup, hframe⟩ := testStart_settles (e' := e') hl (.inr ⟨hs, hc, hr⟩)
        rw [hbat]
        exact ⟨rfl, rfl, rfl, rfl, rfl, rfl, rfl, hsup, hframe⟩
      · rw [State.startTest_waits .command (by simpa using hs) (by simpa using hl) (by simpa using hc)]
        refine ⟨by simp [State.testAsks], by simp [State.testAsks, Sup.setReq],
          allBut_begun_answer (e' := e') (l := [.bat, .sup]) ?_ (by simp) (by simp)⟩
        simp [allBut_iff, State.testAsks]
  · by_cases hno : p ≠ [] ∨ s.bat.test = .idle
    · obtain ⟨t, ht, hans⟩ := testCancel_refused hx hno
      exact ⟨t, ht, fun hp => by simpa [hp] using hans, fun hp hb => by simpa [hp] using hans,
        fun hp hb => absurd (hno.resolve_left (by simp [hp])) hb⟩
    · obtain ⟨rfl, hb⟩ : p = [] ∧ s.bat.test ≠ .idle := by simpa using hno
      refine ⟨_, testCancel_executes hx hb, by simp, fun _ hi => absurd hi hb, fun _ _ hd => ?_⟩
      obtain ⟨htest, hload, hcause, hsettle, hleft, hresult, habort, hbad, hcharger⟩ :=
        cancelTest_spec (s := s.begun e') (by simpa using hd)
      refine ⟨testCancel_answered hx, ?_⟩
      have htime : (s.begun e').fcu.time = s.fcu.time := by simp [State.begun]
      simp only [State.answer_frame, State.begun_frame, htime] at *
      exact ⟨htest, hload, hcause, hsettle, hleft, hresult, habort, hbad, hcharger,
        allBut_begun_answer (e' := e') (l := eventBlocks ++ [.bat, .sup]) (by simp [allBut_iff, eventBlocks])
          (List.Subset.refl _) (by simp [eventBlocks])⟩

end Sys2Proof.Machine
end

section
/-! A supply level is taken (R124, R133, R139, R149): what the notices to RPC and SUP keep of BAT, and
what BAT itself makes of the loss and the return. -/

namespace Sys2Proof.Machine

-- The many short proofs would otherwise each hold a waiting thread.
set_option Elab.async false

variable {s t : State}

/-! ## Notices (R124, R133, R149) -/

namespace Asking

variable {P : State → Prop}

theorem supSupply (A : Asking P) (present : Bool) (h : P s) : P (s.supSupply present) := by
  have hwait : ∀ (r : Requester) (u : State), P u → P (u.offerWaiting r) := by
    intro r u hu
    dsimp only [State.offerWaiting]
    split
    exacts [A.offer r hu, hu]
  have hask : ∀ (c : Bool) (r : Requester) (u : State), P u → P (if c then u.askRelease r else u) := by
    intro c r u hu
    split
    exacts [A.askRelease r hu, hu]
  have h1 : P (s.modSup (fun u => { u with supply := present })) := A.sup _ h
  dsimp only [State.supSupply]
  split
  · exact h
  · cases present
    exacts [A.decide3 (hask _ _ _ (hask _ _ _ h1)), hwait .load _ (hwait .radio _ (hwait .cap _ h1))]

theorem notifySupply (A : Asking P) (present : Bool) (h : P s) : P (s.notifySupply present) := by
  dsimp only [State.notifySupply]
  split
  exacts [A.supSupply present (A.rpc _ h), A.rpc _ (A.supSupply present h)]

/-- A change of the shed level, for a property that sees neither the level nor an event. -/
theorem setShed (A : Asking P) {level : Nat} (h : P (s.modBat (fun b => { b with shed := level })))
    (hemit : ∀ (u : State) (e : Event), P u → P (u.emit e)) (hdue : ∀ u : State, P u → P u.dueCheck)
    (hsame : s.bat.shed = level → P s) : P (s.setShed level) := by
  dsimp only [State.setShed]
  split
  · next hs => exact hsame hs
  · refine hdue _ (hemit _ _ ?_)
    split
    exacts [A.supShed _ (A.rpcShed _ h), A.rpcShed _ (A.supShed _ h)]

end Asking

/-! ### The views -/

/-- The arbiter, the radio and the load test leave every view of the shed level and the supply. -/
theorem notices_attends (Q : Notices → Prop) : Attends (fun _ s => Q s.notices) := by
  have hsame : ∀ {s t : State}, s.notices = t.notices → Q s.notices → Q t.notices := by
    intro s t hst h
    exact hst ▸ h
  have hsup : ∀ (s : State) (r : Requester) (q : ReqState),
      s.notices = (s.modSup (fun u => u.setReq r q)).notices := by simp [State.notices]
  have hcharger : ∀ (s : State) (st : Charger), s.notices = (s.setCharger st).notices := by
    intro s st
    cases st <;> rfl
  have hload : ∀ u : State, u.notices = u.loadGranted.notices := fun _ => rfl
  refine { arb := fun x => ?_, drop := fun h => h, ended := fun h => h, cut := fun h => h
           rest := fun _ h => h }
  exact {
    same := fun hd h => by
      obtain ⟨hbat, hsup, hrpc, -⟩ := hd
      obtain ⟨-, -, -, -, -, -, -, -, -, -, -, -, -, hshed, hsupply⟩ := hbat
      obtain ⟨-, -, -, -, -, -, -, hrs, hrp⟩ := hrpc
      exact hsame (by simp [State.notices, hshed, hsupply, hsup, hrs, hrp]) h
    goto := fun _ h => h
    holdoff := fun _ _ h => h
    again := fun r b h => hsame (by cases r <;> rfl) h
    ungrant := fun _ _ h => hsame (hsup _ _ _) h
    releasing := fun _ h => hsame (hsup _ _ _) h
    grant := fun {s r} hw _ h => by
      simp only [State.offer, hw, if_true]
      refine hsame ?_ h
      cases r with
      | cap => exact hsup _ _ _
      | radio => exact (hsup s _ _).trans (State.radioGranted_notices _).symm
      | load => exact (hsup s _ _).trans (hload _)
    charger := fun _ h => hsame (hcharger _ _) h
    waits := fun _ h => h
    suspends := fun _ h => h }

/-- R124, R149: after the notices both blocks have the supply, and BAT its own values still. -/
theorem State.notifySupply_views (present : Bool) (s : State) :
    (s.notifySupply present).sup.supply = present ∧ (s.notifySupply present).rpc.supply = present ∧
    (s.notifySupply present).bat.supply = s.bat.supply ∧
    (s.notifySupply present).bat.shed = s.bat.shed := by
  have hkept : ∀ (u : State), (u.supSupply present).notices = { u.notices with supSupply := present } := by
    intro u
    have T := notices_attends (fun n => n = { u.notices with supSupply := present })
    dsimp only [State.supSupply]
    split
    · next hs => rw [← hs]; rfl
    · cases present
      exacts [T.supLost rfl, T.supBack rfl]
  dsimp only [State.notifySupply]
  split
  · have h := hkept (s.modRpc (fun r => { r with supply := present }))
    exact ⟨(congrArg Notices.supSupply h :), (congrArg Notices.rpcSupply h :),
      (congrArg Notices.batSupply h :), (congrArg Notices.batShed h :)⟩
  · have h := hkept s
    exact ⟨(congrArg Notices.supSupply h :), rfl, (congrArg Notices.batSupply h :),
      (congrArg Notices.batShed h :)⟩

/-- R133: after a change of the shed level BAT has it. -/
theorem State.setShed_shed (level : Nat) (s : State) : (s.setShed level).bat.shed = level := by
  have T := notices_attends (fun n => n.batShed = level)
  have h1 : (s.modBat (fun b => { b with shed := level })).notices.batShed = level := rfl
  dsimp only [State.setShed]
  split
  · next hs => exact hs
  · refine (T.arb none).dueCheck ((T.arb none).emit _ ?_)
    split
    exacts [T.supShed ((T.arb none).rpcShed h1), (T.arb none).rpcShed (T.supShed h1)]

/-! ### A charger without a test -/

/-- No test runs or is due, and the charger has its state and its lines. -/
def State.Parked (k : Charger) (on : Bool) (limit : Nat) (s : State) : Prop :=
  s.bat.test = .idle ∧ s.bat.due = none ∧ s.bat.charger = k ∧ s.bat.chgEn = on ∧ s.bat.chgIlim = limit

namespace State.Parked

variable {k : Charger} {on : Bool} {limit : Nat}

theorem asking (k : Charger) (on : Bool) (limit : Nat) : Asking (State.Parked k on limit) where
  sup _ h := h
  rpc _ h := h
  granted hw h := by simp [awaitsGrant, h.1] at hw
  asked h := by
    rw [State.batAsked, h.1]
    exact h

theorem emit (e : Event) (h : s.Parked k on limit) : (s.emit e).Parked k on limit := by
  simpa [Parked] using h

theorem dueCheck (h : s.Parked k on limit) : s.dueCheck.Parked k on limit := by
  rw [State.dueCheck_undue h.2.1]
  exact h

theorem cancelDisconnect (h : s.Parked k on limit) : s.cancelDisconnect.Parked k on limit :=
  dueCheck (s := s.modBat _) h

theorem setShed (level : Nat) (h : s.Parked k on limit) : (s.setShed level).Parked k on limit :=
  (asking k on limit).setShed h (fun _ e hu => hu.emit e) (fun _ hu => hu.dueCheck) (fun _ => h)

theorem evalShed (h : s.Parked k on limit) : s.evalShed.Parked k on limit := by
  dsimp only [State.evalShed]
  split
  exacts [h, h.setShed _]

end State.Parked

/-! ## The supply is taken (R124) -/

/-- What two that differ in the test, the charger and the shed level alone have in common. -/
theorem Bat.supply_of_aside {a b : Bat} (h : a.aside = b.aside) :
    a.supply = b.supply ∧ a.qualLeft = b.qualLeft ∧ a.absentSince = b.absentSince ∧ a.disc = b.disc ∧
    a.lvdOut = b.lvdOut ∧ a.qualCount = b.qualCount := by
  simp only [Bat.aside, Bat.mk.injEq] at h
  simp only [h, and_self]

/-- R127: an evaluation moves the charger and the condition alone, and the charger not into TEST. -/
theorem State.evalFault_bat (s : State) :
    s.evalFault.bat.uncharged = { s.bat with fault := faultCause s.bat }.uncharged ∧
    (s.evalFault.bat.charger = .test → s.bat.charger = .test) := by
  have hif : ∀ (c : Bool) (u : State), u.bat = { s.bat with fault := faultCause s.bat } →
      u.bat.charger ≠ .test → (if c then u.enterFault else u).bat.uncharged =
        { s.bat with fault := faultCause s.bat }.uncharged ∧
      ((if c then u.enterFault else u).bat.charger = .test → s.bat.charger = .test) := by
    intro c u hu hk
    split
    · rw [State.enterFault_bat, hu]
      exact ⟨rfl, by simp⟩
    · exact ⟨congrArg Bat.uncharged hu, fun h => absurd h hk⟩
  dsimp only [State.evalFault]
  split
  case h_1 hk => exact hif _ _ rfl (by rw [hk]; decide)
  case h_2 hk => exact hif _ _ rfl (by rw [hk]; decide)
  case h_3 hk => exact hif _ _ rfl (by rw [hk]; decide)
  case h_4 => exact ⟨rfl, id⟩
  all_goals exact ⟨rfl, id⟩

/-- BAT with the supply lost, or returned, and the qualification over (R124). -/
def Bat.supplied (present : Bool) (now : Nat) (b : Bat) : Bat :=
  { b with supply := present, qualLeft := none, absentSince := if present then none else some now }

/-- R124: the charger without the supply: in TEST it stays. -/
def State.chargerGone (s : State) : State := if s.bat.charger = .test then s else s.chargerTo .off

/-- R124: the charger leaves OFF with the supply. -/
def State.chargerBack (s : State) : State :=
  if s.bat.charger = .off then (if s.bat.fault.isSome then s.enterFault else s.chargerTo .bulk) else s

theorem State.chargerBack_bulk (hk : s.bat.charger = .off) (hf : s.bat.fault = none)
    (hd : s.bat.due = none) : s.chargerBack = s.setCharger .bulk := by
  simp [State.chargerBack, hk, hf, State.chargerTo_undue hd]

theorem State.supplyGone_eq (s : State) : ∃ e, s.supplyGone =
    ((s.modBat (Bat.supplied false s.fcu.running)).evalFault.chargerGone.evalShed.batAsked).emit e :=
  ⟨_, rfl⟩

theorem State.supplyBack_eq (s : State) : ∃ e, s.supplyBack = ((((s.modBat
    (Bat.supplied true s.fcu.running)).evalFault.chargerBack).setShed 0).cancelDisconnect).emit e :=
  ⟨_, rfl⟩

/-- What the loss of the supply makes of BAT. -/
theorem State.supplyGone_spec (s : State) : s.supplyGone.bat.supply = false ∧
    s.supplyGone.bat.qualLeft = none ∧ s.supplyGone.bat.absentSince = some s.fcu.running := by
  obtain ⟨e, hgone⟩ := s.supplyGone_eq
  have h2 := (State.testOnly.refl (s.modBat (Bat.supplied false s.fcu.running))).evalFault
  have h : (s.modBat (Bat.supplied false s.fcu.running)).testOnly s.supplyGone := by
    rw [hgone]
    refine State.testOnly.emit _ ((State.testOnly.asking _).asked (State.testOnly.evalShed ?_))
    dsimp only [State.chargerGone]
    split
    exacts [h2, h2.chargerTo (by decide)]
  obtain ⟨hsupply, hqual, habs, -⟩ := Bat.supply_of_aside h.1
  exact ⟨hsupply, hqual, habs⟩

/-- R139, R140: a disconnect ends, and no more of BAT but a test that was due behind it. -/
theorem State.cancelDisconnect_aside (s : State) : s.cancelDisconnect.bat.aside =
    { s.bat with disc := .normal, discAction := none, qualCount := 0, lvdOut := false }.aside :=
  State.dueCheck_aside _

theorem State.cancelDisconnect_shed (s : State) : s.cancelDisconnect.bat.shed = s.bat.shed :=
  (notices_attends (fun n => n.batShed = s.bat.shed)).arb none |>.dueCheck (s := s.modBat _) rfl

/-- What the return of the supply makes of BAT. -/
theorem State.supplyBack_spec (s : State) : s.supplyBack.bat.supply = true ∧
    s.supplyBack.bat.qualLeft = none ∧ s.supplyBack.bat.absentSince = none ∧
    s.supplyBack.bat.disc = .normal ∧ s.supplyBack.bat.lvdOut = false ∧
    s.supplyBack.bat.qualCount = 0 ∧ s.supplyBack.bat.shed = 0 := by
  obtain ⟨e, hback⟩ := s.supplyBack_eq
  have h2 := (State.testOnly.refl (s.modBat (Bat.supplied true s.fcu.running))).evalFault
  have h3 : (s.modBat (Bat.supplied true s.fcu.running)).testOnly
      (s.modBat (Bat.supplied true s.fcu.running)).evalFault.chargerBack := by
    dsimp only [State.chargerBack]
    (repeat' split)
    exacts [h2.enterFault, h2.chargerTo (by decide), h2]
  generalize (s.modBat (Bat.supplied true s.fcu.running)).evalFault.chargerBack = u at hback h3
  have h4 := h3.setShed 0
  have hbat : s.supplyBack.bat = (u.setShed 0).cancelDisconnect.bat := by simp [hback]
  have haside := (u.setShed 0).cancelDisconnect_aside
  have hshed : (u.setShed 0).cancelDisconnect.bat.shed = 0 := by
    rw [State.cancelDisconnect_shed, State.setShed_shed]
  rw [hbat]
  obtain ⟨hsupply, hqual, habs, -⟩ := Bat.supply_of_aside h4.1
  obtain ⟨hsupply', hqual', habs', hdisc, hlvd, hcount⟩ := Bat.supply_of_aside haside
  exact ⟨hsupply'.trans hsupply, hqual'.trans hqual, habs'.trans habs, hdisc, hlvd, hcount, hshed⟩

/-- Without a test the charger is OFF when the supply is lost. -/
theorem State.supplyGone_parked (hk : s.bat.charger ≠ .test) (ht : s.bat.test = .idle)
    (hd : s.bat.due = none) : s.supplyGone.Parked .off false 0 := by
  obtain ⟨hbat, htest⟩ := (s.modBat (Bat.supplied false s.fcu.running)).evalFault_bat
  obtain ⟨htest2, -, -, -, -, -, -, -, -, hdue2⟩ := Bat.test_of_uncharged hbat
  have hoff : (s.modBat (Bat.supplied false s.fcu.running)).evalFault.chargerGone =
      (s.modBat (Bat.supplied false s.fcu.running)).evalFault.setCharger .off :=
    (if_neg (fun h => hk (htest h))).trans (State.chargerTo_undue (hdue2.trans hd) .off)
  obtain ⟨e, hgone⟩ := s.supplyGone_eq
  rw [hgone, hoff]
  refine State.Parked.emit _ ((State.Parked.asking .off false 0).asked (State.Parked.evalShed ?_))
  exact ⟨htest2.trans ht, hdue2.trans hd, rfl, rfl, rfl⟩

/-- Without a test and a fault condition a charger in OFF is in BULK when the supply returns. -/
theorem State.supplyBack_parked (hk : s.bat.charger = .off) (ht : s.bat.test = .idle)
    (hd : s.bat.due = none) (hf : faultCause { s.bat with supply := true } = none) :
    s.supplyBack.Parked .bulk true s.store.battery.bulkLimit := by
  have hclear : (s.modBat (Bat.supplied true s.fcu.running)).evalFault =
      (s.modBat (Bat.supplied true s.fcu.running)).modBat (fun b => { b with fault := none }) :=
    State.evalFault_clear hf (by simp [Bat.supplied, hk])
  obtain ⟨e, hback⟩ := s.supplyBack_eq
  rw [hback, hclear, State.chargerBack_bulk (by exact hk) (by exact rfl) (by exact hd)]
  refine State.Parked.emit _ (State.Parked.cancelDisconnect (State.Parked.setShed 0 ?_))
  exact ⟨ht, hd, rfl, rfl, rfl⟩

/-- Settles O36: BAT takes the level, and hands it on by notices that leave what BAT has made of it. -/
theorem supplyIsTaken : Obligations.SupplyIsTaken := by
  intro s hrun
  refine ⟨fun level hl => ?_, fun hq => ?_⟩
  · refine ⟨s.supplyEdge level, congrArg _ (if_pos hrun), ?_⟩
    rw [show s.supplyEdge level = _ from if_neg hl]
    exact ⟨rfl, rfl, by simp [allBut_iff]⟩
  · refine ⟨s.takeSupply, congrArg _ (whenRunning_running hrun), ?_⟩
    have hframe : AllBut (eventBlocks ++ [.bat, .sup]) s s.takeSupply := by simp [allBut_iff, eventBlocks]
    cases hl : s.lines.supplyPresent with
    | true =>
      have htake : s.takeSupply = s.supplyBack.notifySupply true := by
        simp [State.takeSupply, hq, hl, State.takeSupplyPresent_eq]
      obtain ⟨hsup, hrpc, hbat, hshed⟩ := s.supplyBack.notifySupply_views true
      obtain ⟨hs, hqual, habs, hdisc, hlvd, hcount, h0⟩ := s.supplyBack_spec
      obtain ⟨haside, -⟩ := (State.testOnly.asking s.supplyBack).notifySupply true
        (State.testOnly.refl s.supplyBack)
      obtain ⟨-, hqual', habs', hdisc', hlvd', hcount'⟩ := Bat.supply_of_aside haside
      rw [htake] at hframe ⊢
      refine ⟨hbat.trans hs, hsup, hrpc, hqual'.trans hqual, hframe, fun _ => ⟨hshed.trans h0,
        hdisc'.trans hdisc, hlvd'.trans hlvd, hcount'.trans hcount, habs'.trans habs,
        fun ⟨hk, hf, hd, ht⟩ => ?_⟩, by simp⟩
      obtain ⟨-, -, hcharger, hen, -⟩ := (State.Parked.asking .bulk true
        s.store.battery.bulkLimit).notifySupply true (State.supplyBack_parked hk ht hd hf)
      exact ⟨hcharger, hen⟩
    | false =>
      have htake : s.takeSupply = s.supplyGone.notifySupply false := by
        simp [State.takeSupply, hq, hl, State.takeSupplyAbsent_eq]
      obtain ⟨hsup, hrpc, hbat, -⟩ := s.supplyGone.notifySupply_views false
      obtain ⟨hs, hqual, habs⟩ := s.supplyGone_spec
      obtain ⟨haside, -⟩ := (State.testOnly.asking s.supplyGone).notifySupply false
        (State.testOnly.refl s.supplyGone)
      obtain ⟨-, hqual', habs', -⟩ := Bat.supply_of_aside haside
      rw [htake] at hframe ⊢
      refine ⟨hbat.trans hs, hsup, hrpc, hqual'.trans hqual, hframe, by simp,
        fun _ => ⟨habs'.trans habs, fun ⟨hk, ht, hd⟩ => ?_⟩⟩
      obtain ⟨-, -, hoff, hen, hlimit⟩ := (State.Parked.asking .off false 0).notifySupply false
        (State.supplyGone_parked hk ht hd)
      exact ⟨hoff, hen, hlimit⟩

end Sys2Proof.Machine
end

section
/-! The request of RADIO_TX with an answer in hand (R144 to R147, R173): the grant at once, the wait behind
the recharge, and the load test that gives way to it. -/

namespace Sys2Proof.Machine

-- The many short proofs would otherwise each hold a waiting thread.
set_option Elab.async false

variable {s t : State}

/-! ## The grant (R144, R145, R173) -/

/-- R173: what a grant makes of RPC. -/
theorem State.radioGranted_spec (s : State) :
    s.radioGranted.rpc.radioKey = true ∧ s.radioGranted.rpc.windowLeft = none ∧
    (s.store.radio.keyMs = 0 → s.radioGranted.rpc.state = .sending) ∧
    (s.store.radio.keyMs ≠ 0 → s.radioGranted.rpc.state = .keying ∧
      s.radioGranted.rpc.keyLeft = some s.store.radio.keyMs) := by
  dsimp only [State.radioGranted]
  split
  · next h => exact ⟨rfl, rfl, fun _ => rfl, fun hne => absurd h hne⟩
  · next h => exact ⟨rfl, rfl, fun h0 => absurd h0 h, fun _ => ⟨rfl, rfl⟩⟩

theorem State.offer_radio (hst : s.rpc.state = .grantWait) :
    s.offer .radio = (s.modSup (fun u => u.setReq .radio .holding)).radioGranted := by
  have hw : awaitsGrant s .radio = true := by simp [awaitsGrant, hst]
  exact if_pos hw

/-- R145: on a battery that nobody draws on, RADIO_TX outranks the load test. -/
theorem State.decide3_radio (hst : s.rpc.state = .grantWait) (hr : s.sup.radio = .requesting)
    (hshed : s.sup.shed ≠ 3) (hcap : s.sup.cap = .idle)
    (hload : s.sup.load = .idle ∨ s.sup.load = .requesting) :
    s.decide3 = (s.modSup (fun u => u.setReq .radio .holding)).radioGranted := by
  have hnone : s.sup.anyHolder = false := by
    rcases hload with h | h <;> simp [Sup.anyHolder, hr, hcap, h, ReqState.holds]
  have hpick : s.sup.pick = some .radio := by simp [Sup.pick, hcap, hr, Sup.eligible, hshed]
  have hw : awaitsGrant s .radio = true := by simp [awaitsGrant, hst]
  rw [← State.offer_radio hst]
  simp [State.decide3, State.grantDecision, hnone, hpick, hw]

/-- R144: a request from IDLE. -/
theorem State.ask_radio (hr : s.sup.radio = .idle) : s.ask .radio =
    (if s.sup.supply then (if s.sup.eligible .radio then
        (s.modSup (fun u => u.setReq .radio .requesting)).offer .radio
      else s.modSup (fun u => u.setReq .radio .requesting))
    else (s.modSup (fun u => u.setReq .radio .requesting)).decide3) := by
  have hreq : s.sup.req .radio = .idle := hr
  simp only [State.ask, hreq]
  rfl

theorem State.request_radio (hr : s.sup.radio = .idle) :
    s.request .radio = (s.ask .radio).preempt .radio := by
  have hreq : s.sup.req .radio = .idle := hr
  simp only [State.request, hreq]

/-- R146: a requester that is not left REQUESTING asks nobody. -/
theorem State.preempt_radio_done (h : s.sup.radio ≠ .requesting) : s.preempt .radio = s := by
  simp [State.preempt, Sup.req, h]

/-- R144, R145, R173: the radio keys at once. -/
theorem State.request_radio_granted (hst : s.rpc.state = .grantWait) (hr : s.sup.radio = .idle)
    (hshed : s.sup.shed ≠ 3) (hfree : s.sup.supply = true ∨
      s.sup.cap = .idle ∧ (s.sup.load = .idle ∨ s.sup.load = .requesting)) :
    s.request .radio = ((s.modSup (fun u => u.setReq .radio .requesting)).modSup
      (fun u => u.setReq .radio .holding)).radioGranted := by
  have hask : s.ask .radio = ((s.modSup (fun u => u.setReq .radio .requesting)).modSup
      (fun u => u.setReq .radio .holding)).radioGranted := by
    rw [State.ask_radio hr]
    cases hs : s.sup.supply with
    | true =>
      rw [if_pos rfl, if_pos (by simpa [Sup.eligible] using hshed)]
      exact State.offer_radio hst
    | false =>
      obtain ⟨hcap, hload⟩ := hfree.resolve_left (by simp [hs])
      rw [if_neg (by simp)]
      exact State.decide3_radio hst rfl hshed hcap hload
  rw [State.request_radio hr, hask, State.preempt_radio_done (by simp [Sup.setReq])]

/-- R145, R146: behind the recharge the radio waits for its grant. -/
theorem State.request_radio_waits (hr : s.sup.radio = .idle) (hs : s.sup.supply = false)
    (hcap : s.sup.cap = .holding) (hload : s.sup.load ≠ .holding) :
    s.request .radio = s.modSup (fun u => u.setReq .radio .requesting) := by
  have hholder : (s.modSup (fun u => u.setReq .radio .requesting)).sup.anyHolder = true := by
    simp [Sup.anyHolder, Sup.setReq, hcap, ReqState.holds]
  rw [State.request_radio hr, State.ask_radio hr, if_neg (by simp [hs]),
    State.decide3_of_holder hholder]
  simp [State.preempt, Sup.req, Sup.setReq, hload]

/-! ## The load test gives way (R137, R146, R147) -/

/-- The radio requests, and the load test is asked for its grant (R146). -/
def State.radioOverLoad (s : State) : State :=
  (s.modSup (fun u => u.setReq .radio .requesting)).modSup (fun u => u.setReq .load .releasing)

/-- R146: the load test is asked for its grant. -/
theorem State.request_radio_asks (hr : s.sup.radio = .idle) (hs : s.sup.supply = false)
    (hshed : s.sup.shed ≠ 3) (hload : s.sup.load = .holding) :
    s.request .radio = s.radioOverLoad.batAsked := by
  have hholder : (s.modSup (fun u => u.setReq .radio .requesting)).sup.anyHolder = true := by
    simp [Sup.anyHolder, Sup.setReq, hload, ReqState.holds]
  rw [State.request_radio hr, State.ask_radio hr, if_neg (by simp [hs]),
    State.decide3_of_holder hholder]
  simp only [State.preempt]
  rw [if_pos (by simp [Sup.req, Sup.setReq, hs, Sup.eligible, hshed])]
  exact if_pos hload

/-- R145, R147: the load test gives its grant back, and the radio has it. -/
theorem State.release_load_keys (hst : s.rpc.state = .grantWait) (hs : s.sup.supply = false)
    (hr : s.sup.radio = .requesting) (hload : s.sup.load = .releasing) (hagain : s.sup.loadAgain = false)
    (hshed : s.sup.shed ≠ 3) (hcap : s.sup.cap = .idle) :
    s.release .load = (s.modSup (fun u => { u with radio := .holding, load := .idle })).radioGranted := by
  have hreq : s.sup.req .load = .releasing := hload
  have hgave : s.modSup (Sup.gaveBack .load) = s.modSup (fun u => { u with load := .idle }) := by
    have : s.sup.gaveBack .load = { s.sup with load := .idle } := by
      simp [Sup.gaveBack, Sup.again, hagain, Sup.setReq, Sup.setAgain]
    simp only [State.modSup, this]
  simp only [State.release, hreq]
  rw [State.giveBack_absent hs, hgave]
  exact State.decide3_radio hst hr hshed hcap (.inl rfl)

/-- R145: behind the radio the load test waits for its grant. -/
theorem State.ask_load_waits (hs : s.sup.supply = false) (hl : s.sup.load = .idle)
    (hr : s.sup.radio = .holding) : s.ask .load = s.modSup (fun u => u.setReq .load .requesting) := by
  have hreq : s.sup.req .load = .idle := hl
  have hs1 : ¬ (s.modSup (fun u => u.setReq .load .requesting)).sup.supply = true := by simp [hs]
  simp only [State.ask, hreq]
  refine (if_neg hs1).trans (State.decide3_of_holder ?_)
  simp [Sup.anyHolder, Sup.setReq, hr, ReqState.holds]

/-- R137: in SETTLE the test is suspended, and asks for its grant behind the radio. -/
theorem State.batAsked_settle (hst : s.rpc.state = .grantWait) (hs : s.sup.supply = false)
    (hr : s.sup.radio = .requesting) (hload : s.sup.load = .releasing) (hagain : s.sup.loadAgain = false)
    (hshed : s.sup.shed ≠ 3) (hcap : s.sup.cap = .idle) (ht : s.bat.test = .settle) :
    s.batAsked = ((s.modBat (fun b => { b with settleLeft := none, test := .suspended })).modSup
      (fun u => { u with radio := .holding, load := .idle })).radioGranted.modSup
      (fun u => u.setReq .load .requesting) := by
  have hrel := State.release_load_keys
    (s := s.modBat (fun b => { b with settleLeft := none, test := .suspended })) hst hs hr hload hagain
    hshed hcap
  rw [State.batAsked, ht]
  simp only [State.suspendTest, hrel]
  refine State.ask_load_waits ?_ ?_ ?_ <;> simp [hs]

/-! ### The end of a test in LOAD (R136, R137) -/

/-- What sealing a ROUTINE record makes of packet memory depends on RPB and packet memory alone. -/
theorem sealRoutine_pkm_congr (hr : t.rpb = s.rpb) (hp : t.pkm = s.pkm)
    (hfree : freeWords t .routine = freeWords s .routine) :
    t.sealRoutine.pkm = s.sealRoutine.pkm := by
  have hroom : ∀ n, hasRoom t .routine n = hasRoom s .routine n := fun n => by
    rw [hasRoom, hasRoom, hfree]
  simp only [State.sealRoutine, hroom, hr, hp]
  cases s.rpb.routine with
  | none => exact hp
  | some g => cases hh : hasRoom s .routine (reportWords g.entries.length) <;> simp [hp, hh]

/-- What a ROUTINE event makes of RPB and packet memory depends on them, on FCU and on the store alone. -/
theorem emit_routine_congr {e : Event} (he : eventClass e = .routine) (hrpb : t.rpb = s.rpb)
    (hpkm : t.pkm = s.pkm) (hfcu : t.fcu = s.fcu) (hstore : t.store = s.store) :
    (t.emit e).rpb = (s.emit e).rpb ∧ (t.emit e).pkm = (s.emit e).pkm := by
  refine ⟨emit_routine_rpb_congr hrpb hpkm hfcu (by rw [hstore]) (by rw [hstore]) he, ?_⟩
  have hj : joined t e = joined s e := by simp [joined, hrpb, hfcu, hstore]
  simp only [State.emit, hj, he, State.sealClass]
  split
  · exact sealRoutine_pkm_congr (by simp [hrpb]) (by simp [hpkm]) (by simp [freeWords, hpkm, hstore])
  · simp [hpkm]

/-- A ROUTINE event leaves RPC. -/
theorem emit_routine_rpc {e : Event} (he : eventClass e = .routine) : (s.emit e).rpc = s.rpc := by
  simp only [State.emit, he, State.sealClass]
  split <;> simp

@[simp] theorem State.sealRoutine_urgent (s : State) : s.sealRoutine.pkm.urgent = s.pkm.urgent := by
  dsimp only [State.sealRoutine]
  (repeat' split) <;> simp

/-- A ROUTINE event reaches the ROUTINE area alone. -/
theorem emit_routine_pkm {e : Event} (he : eventClass e = .routine) :
    (s.emit e).pkm.response = s.pkm.response ∧ (s.emit e).pkm.urgent = s.pkm.urgent ∧
    (s.emit e).pkm.forward = s.pkm.forward := by
  simp only [State.emit, he, State.sealClass]
  split <;> simp

/-- R136: the end of an aborted test without the supply: TEST_RESULT is recorded, and, with no other test
that is due, neither the arbiter nor the radio moves. -/
theorem State.endTest_aborted (hs : s.bat.supply = false) :
    Emitted s (.testResult .aborted none none none) (s.endTest .aborted none none none) ∧
    (s.bat.due = none → (s.endTest .aborted none none none).sup = s.sup ∧
      (s.endTest .aborted none none none).rpc = s.rpc) := by
  obtain ⟨f, g, hend, hf, hg⟩ : ∃ f g : Bat → Bat,
      s.endTest .aborted none none none = (((s.modBat f).emit
        (.testResult .aborted none none none)).modBat g).chargerTestEnded ∧
      (∀ b, (f b).supply = b.supply ∧ (f b).due = b.due) ∧
      ∀ b, (g b).supply = b.supply ∧ (g b).due = b.due :=
    ⟨_, _, rfl, fun _ => ⟨rfl, rfl⟩, fun _ => ⟨rfl, rfl⟩⟩
  have hclass : eventClass (.testResult .aborted none none none) = .routine := rfl
  obtain ⟨hrpb, hpkm⟩ := emit_routine_congr (t := s.modBat f) (s := s) hclass rfl rfl rfl rfl
  have hrpc : ((s.modBat f).emit (.testResult .aborted none none none)).rpc = s.rpc :=
    emit_routine_rpc hclass
  rw [hend]
  have hquiet : ∀ w : State, w.bat.supply = false →
      (w.chargerTestEnded.rpb = w.rpb ∧ w.chargerTestEnded.pkm = w.pkm) ∧
      (w.bat.due = none → w.chargerTestEnded.sup = w.sup ∧ w.chargerTestEnded.rpc = w.rpc) := by
    intro w hno
    refine ⟨?_, fun hdue => ?_⟩
    · by_cases hk : w.bat.charger = .test <;> simp [State.chargerTestEnded, hk, hno]
    · have hto : w.chargerTo .off = w.setCharger .off := State.chargerTo_undue hdue .off
      by_cases hk : w.bat.charger = .test <;> simp [State.chargerTestEnded, hk, hno, hto]
  obtain ⟨⟨hrpb2, hpkm2⟩, hrest⟩ := hquiet (((s.modBat f).emit
    (.testResult .aborted none none none)).modBat g) (by simp [hf, hg, hs])
  refine ⟨⟨hrpb2.trans hrpb, hpkm2.trans hpkm⟩, fun hd => ?_⟩
  obtain ⟨hsup2, hrpc2⟩ := hrest (by simp [hf, hg, hd])
  exact ⟨hsup2.trans (by simp), hrpc2.trans hrpc⟩

/-- R137: an aborted test without the supply: TEST_RESULT, and, with no other test that is due, what the
arbiter and the radio make of the grant that it gives back. -/
theorem State.abortTest_absent (hs : s.bat.supply = false) :
    Emitted s (.testResult .aborted none none none) s.abortTest ∧
    (s.bat.due = none → s.abortTest.sup = s.dropLoad.sup ∧ s.abortTest.rpc = s.dropLoad.rpc) := by
  obtain ⟨hun, -⟩ := s.dropLoad_bat
  obtain ⟨hdue, hsupply, -⟩ := Bat.rest_of_ungranted hun
  obtain ⟨u, hu, hudue, husupply⟩ : ∃ u : State, u = s.dropLoad.modBat (fun b =>
      { b with abortCount := b.abortCount + 1 }) ∧ u.bat.due = s.dropLoad.bat.due ∧
      u.bat.supply = s.dropLoad.bat.supply := ⟨_, rfl, rfl, rfl⟩
  obtain ⟨⟨hrpb, hpkm⟩, hrest⟩ := State.endTest_aborted (s := u) (husupply.trans (hsupply.trans hs))
  obtain ⟨hrpb', hpkm'⟩ := emit_routine_congr (t := u) (s := s)
    (e := .testResult .aborted none none none) rfl (by simp [hu]) (by simp [hu]) (by simp [hu])
    (by simp [hu])
  obtain ⟨f, hf⟩ : ∃ f, s.abortTest = (u.endTest .aborted none none none).modBat f := by
    have hfold : s.abortTest = if (u.endTest .aborted none none none).bat.abortCount < 3 then
        (u.endTest .aborted none none none).modBat (fun b => { b with retryLeft := some Config.retryMs })
        else u.endTest .aborted none none none := by rw [hu]; rfl
    rw [hfold]
    split
    exacts [⟨_, rfl⟩, ⟨id, rfl⟩]
  rw [hf]
  refine ⟨⟨hrpb.trans hrpb', hpkm.trans hpkm'⟩, fun hd => ?_⟩
  obtain ⟨hsup, hrpc⟩ := hrest (hudue.trans (hdue.trans hd))
  exact ⟨hsup.trans (by simp [hu]), hrpc.trans (by simp [hu])⟩

/-! ## Packet memory (R137, R160) -/

/-- R146: the load test is asked where it holds the grant of a battery. -/
theorem State.preempt_radio (s : State) : s.preempt .radio = s ∨
    s.sup.supply = false ∧ s.sup.load = .holding ∧
      s.preempt .radio = (s.modSup (fun u => u.setReq .load .releasing)).batAsked := by
  dsimp only [State.preempt]
  split
  · next hc =>
    simp only [Bool.and_eq_true, Bool.not_eq_true'] at hc
    obtain ⟨⟨hs, -⟩, -⟩ := hc
    split
    · next hl => exact .inr ⟨hs, hl, rfl⟩
    · exact .inl rfl
  · exact .inl rfl

/-- A test is in LOAD under a grant of `t` only where it was in `s`, and the supply is the same. -/
def State.loadsAs (s t : State) : Prop :=
  t.sup.supply = s.sup.supply ∧ t.bat.supply = s.bat.supply ∧
  (t.sup.load = .holding → t.bat.test = .load → s.sup.load = .holding ∧ s.bat.test = .load)

/-- A grant brings a test to SETTLE, and to LOAD none. -/
theorem State.loadsAs_offers (s : State) (x : Option Requester) : Offers x s.loadsAs where
  again r b h := by
    obtain ⟨hs, hb, hl⟩ := h
    cases r <;> exact ⟨hs, hb, hl⟩
  ungrant {t r q} hq _ h := by
    obtain ⟨hs, hb, hl⟩ := h
    cases r
    case load => exact ⟨hs, hb, fun hh => absurd hq (by rw [show q = .holding from hh]; decide)⟩
    all_goals exact ⟨hs, hb, hl⟩
  grant {t r} hw _ h := by
    obtain ⟨hs, hb, hl⟩ := h
    simp only [State.offer, hw, if_true]
    cases r
    case cap => exact ⟨hs, hb, hl⟩
    case radio => exact ⟨by simpa [Sup.setReq] using hs, by simpa using hb, by simpa [Sup.setReq] using hl⟩
    case load => exact ⟨hs, hb, fun _ ht => by simp [State.loadGranted, State.setCharger] at ht⟩

/-- R137: a release request moves packet memory in LOAD alone. -/
theorem State.batAsked_pkm (ht : s.bat.test ≠ .load) : s.batAsked.pkm = s.pkm := by
  dsimp only [State.batAsked]
  split <;> simp_all

/-- What the request of RADIO_TX makes of packet memory: nothing, but where a test in LOAD gives way. -/
theorem State.request_radio_pkm (hr : s.sup.radio = .idle)
    (hno : s.sup.supply = true ∨ s.sup.load ≠ .holding ∨ s.bat.test ≠ .load) :
    (s.request .radio).pkm = s.pkm := by
  obtain ⟨hs, -, hl⟩ := (s.loadsAs_offers none).ask .radio (s := s) ⟨rfl, rfl, fun h ht => ⟨h, ht⟩⟩
  rw [State.request_radio hr]
  rcases (s.ask .radio).preempt_radio with h | ⟨hsup, hload, h⟩ <;> rw [h]
  · simp
  · rw [State.batAsked_pkm]
    · simp
    · intro ht
      obtain ⟨hold, htest⟩ := hl hload ht
      simp [← hs, hsup, hold, htest] at hno

/-- R137, R160: with the supply of BAT and SUP the same, the ROUTINE area alone is reached. -/
theorem State.request_radio_reports (hr : s.sup.radio = .idle) (hv : s.bat.supply = s.sup.supply) :
    (s.request .radio).pkm.response = s.pkm.response ∧ (s.request .radio).pkm.urgent = s.pkm.urgent ∧
    (s.request .radio).pkm.forward = s.pkm.forward := by
  obtain ⟨hs, hb, -⟩ := (s.loadsAs_offers none).ask .radio (s := s) ⟨rfl, rfl, fun h ht => ⟨h, ht⟩⟩
  have hpkm : (s.ask .radio).pkm = s.pkm := by simp
  rw [State.request_radio hr]
  rcases (s.ask .radio).preempt_radio with h | ⟨hsup, -, h⟩ <;> rw [h]
  · exact ⟨by rw [hpkm], by rw [hpkm], by rw [hpkm]⟩
  · by_cases ht : (s.ask .radio).bat.test = .load
    · have habsent : (s.ask .radio).bat.supply = false := by rw [hb, hv, ← hs, hsup]
      have habort : ((s.ask .radio).modSup (fun u => u.setReq .load .releasing)).batAsked =
          ((s.ask .radio).modSup (fun u => u.setReq .load .releasing)).abortTest := by
        simp [State.batAsked, ht]
      obtain ⟨⟨-, hp⟩, -⟩ := State.abortTest_absent
        (s := (s.ask .radio).modSup (fun u => u.setReq .load .releasing)) habsent
      rw [habort, hp]
      obtain ⟨h1, h2, h3⟩ := emit_routine_pkm
        (s := (s.ask .radio).modSup (fun u => u.setReq .load .releasing))
        (e := .testResult .aborted none none none) rfl
      exact ⟨h1.trans (by simp), h2.trans (by simp), h3.trans (by simp)⟩
    · rw [State.batAsked_pkm (by exact ht)]
      simp

end Sys2Proof.Machine
end

section
/-! A POLL (R170 to R173): its acknowledgement, the record that answers it, and the answer in hand, which
nothing of the request for RADIO_TX takes away. -/

namespace Sys2Proof.Machine

-- The many short proofs would otherwise each hold a waiting thread.
set_option Elab.async false

variable {s t : State}

/-! ## The answer in hand (R172 to R174) -/

/-- A property that no part of a load test, and no event, takes away. -/
structure Yields (P : State → Prop) : Prop extends Offers (some .load) P where
  bat : ∀ {s : State} (f : Bat → Bat), P s → P (s.modBat f)
  emit : ∀ {s : State} (e : Event), P s → P (s.emit e)
  asked : ∀ {s : State}, P s → P (s.modSup (fun u => u.setReq .load .releasing))

namespace Yields

variable {P : State → Prop}

theorem setCharger (Y : Yields P) (st : Charger) (h : P s) : P (s.setCharger st) := by
  dsimp only [State.setCharger, State.chargerPins]
  exact Y.bat _ (Y.bat _ h)

theorem dueCheck (Y : Yields P) (h : P s) : P s.dueCheck := by
  dsimp only [State.dueCheck]
  (repeat' split)
  exacts [Y.ask .load (Y.bat _ h), h, h]

theorem chargerTestEnded (Y : Yields P) (h : P s) : P s.chargerTestEnded := by
  dsimp only [State.chargerTestEnded]
  (repeat' split)
  exacts [Y.dueCheck (Y.setCharger _ h), Y.emit _ (Y.setCharger _ h), Y.dueCheck (Y.setCharger _ h), h]

theorem release (Y : Yields P) (h : P s) : P (s.release .load) := Y.toOffers.release (.inl rfl) h

theorem abortTest (Y : Yields P) (h : P s) : P s.abortTest := by
  have h1 : P (s.dropLoad.modBat (fun b => { b with abortCount := b.abortCount + 1 })) :=
    Y.bat _ (Y.release (Y.bat _ h))
  have h2 : P ((s.dropLoad.modBat (fun b => { b with abortCount := b.abortCount + 1 })).endTest
      .aborted none none none) := Y.chargerTestEnded (Y.bat _ (Y.emit _ (Y.bat _ h1)))
  dsimp only [State.abortTest]
  split
  exacts [Y.bat _ h2, h2]

theorem batAsked (Y : Yields P) (h : P s) : P s.batAsked := by
  dsimp only [State.batAsked]
  split
  exacts [Y.ask .load (Y.release (Y.bat _ h)), Y.abortTest h, h, h, h]

theorem request_radio (Y : Yields P) (hr : s.sup.radio = .idle) (h : P s) : P (s.request .radio) := by
  have h1 : P (s.ask .radio) := Y.ask .radio h
  rw [State.request_radio hr]
  rcases (s.ask .radio).preempt_radio with hp | ⟨-, -, hp⟩ <;> rw [hp]
  exacts [h1, Y.batAsked (Y.asked h1)]

end Yields

/-- RPC has an answer in hand, and has counted so many polls. -/
structure State.Answering (a : Answer) (polls : Nat) (s : State) : Prop where
  answer : s.rpc.answer = some a
  polls : s.rpc.polls = polls
  holdoff : s.rpc.holdoff = none
  state : s.rpc.state.hasAnswer = true

namespace State.Answering

variable {a : Answer} {n : Nat}

/-- What leaves RPC, but for the confirm timer. -/
theorem of_rpc (h : s.Answering a n) {c : Option Nat} (hr : t.rpc = { s.rpc with confirmLeft := c }) :
    t.Answering a n :=
  ⟨by rw [hr]; exact h.answer, by rw [hr]; exact h.polls, by rw [hr]; exact h.holdoff,
    by rw [hr]; exact h.state⟩

theorem of_same (h : s.Answering a n) (hr : t.rpc = s.rpc := by simp) : t.Answering a n :=
  h.of_rpc (c := s.rpc.confirmLeft) hr

theorem radioGranted (h : s.Answering a n) : s.radioGranted.Answering a n := by
  dsimp only [State.radioGranted]
  split <;> exact ⟨h.answer, h.polls, rfl, rfl⟩

/-- R175: a radio with an answer in hand looks for no candidate. -/
theorem lookCandidate (h : s.Answering a n) : s.lookCandidate.Answering a n := by
  dsimp only [State.lookCandidate]
  split
  · next hc =>
    have hst := h.state
    simp only [Bool.and_eq_true, beq_iff_eq] at hc
    obtain ⟨⟨⟨-, hlisten⟩, -⟩, -⟩ := hc
    simp [hlisten, RadioState.hasAnswer] at hst
  · exact h

theorem modPkm (f : Pkm → Pkm) (h : s.Answering a n) : (s.modPkm f).Answering a n := h.of_same rfl

theorem modRpb (f : Rpb → Rpb) (h : s.Answering a n) : (s.modRpb f).Answering a n := h.of_same rfl

theorem localSend (k : LocalKind) (f : Frame) (h : s.Answering a n) :
    (s.localSend k f).Answering a n := h.of_same

theorem setUrgent (q : List Report) (h : s.Answering a n) : (s.setUrgent q).Answering a n := by
  have h1 := h.modPkm (fun k => { k with urgent := q })
  dsimp only [State.setUrgent]
  split
  · exact lookCandidate (h1.of_rpc (c := none) rfl)
  · exact lookCandidate h1

theorem sealUrgent (h : s.Answering a n) : s.sealUrgent.Answering a n := by
  dsimp only [State.sealUrgent]
  split
  · exact h
  · split
    · exact localSend _ _ (setUrgent _ (modPkm _ (modRpb _ h)))
    · exact setUrgent _ (modRpb _ h)

theorem sealClass (c : ReportClass) (h : s.Answering a n) : (s.sealClass c).Answering a n := by
  cases c with
  | urgent => exact h.sealUrgent
  | routine => exact h.of_same (by simp [State.sealClass])

theorem emit (e : Event) (h : s.Answering a n) : (s.emit e).Answering a n := by
  have h1 := h.modRpb (fun b => b.setGather (eventClass e) (some (joined s e)))
  dsimp only [State.emit]
  split
  exacts [h1.sealClass _, h1]

theorem yields (a : Answer) (n : Nat) : Yields (State.Answering a n) where
  again _ _ h := h.of_same
  ungrant _ _ h := h.of_same
  grant {s r} hw _ h := by
    simp only [State.offer, hw, if_true]
    cases r with
    | cap => exact h.of_same
    | radio => exact radioGranted (h.of_same (t := s.modSup _))
    | load => exact h.of_same
  bat _ h := h.of_same
  emit e h := h.emit e
  asked h := h.of_same

end State.Answering

/-! ## The acknowledgement (R162, R171) -/

/-- Packet memory after an acknowledgement, which depends on it alone. -/
theorem State.acknowledge_pkm (n : Nat) (s : State) : (s.acknowledge n).pkm =
    if n ≠ 0 ∧ s.pkm.urgent.any (fun r => r.number == n) then
      { s.pkm with urgent := s.pkm.urgent.filter (fun r => r.number != n) }
    else s.pkm := by
  have hset : ∀ q, (s.setUrgent q).pkm = { s.pkm with urgent := q } := by
    intro q
    dsimp only [State.setUrgent]
    split <;> simp
  dsimp only [State.acknowledge]
  split
  exacts [hset _, rfl]

/-- A look for a candidate leaves the polls and the view of the shed level, and a radio in LISTEN in LISTEN
or HOLDOFF. -/
theorem State.lookCandidate_rpc (s : State) :
    s.lookCandidate.rpc.polls = s.rpc.polls ∧ s.lookCandidate.rpc.shed = s.rpc.shed ∧
    (s.lookCandidate.rpc.state = s.rpc.state ∨
      s.rpc.state = .listen ∧ s.lookCandidate.rpc.state = .holdoff) := by
  dsimp only [State.lookCandidate]
  split
  · next hc =>
    simp only [Bool.and_eq_true, beq_iff_eq] at hc
    obtain ⟨⟨⟨-, hlisten⟩, -⟩, -⟩ := hc
    exact ⟨rfl, rfl, .inr ⟨hlisten, rfl⟩⟩
  · exact ⟨rfl, rfl, .inl rfl⟩

theorem State.lookCandidate_other (h : s.rpc.state ≠ .listen) : s.lookCandidate = s := by
  simp [State.lookCandidate, h]

/-- What an acknowledgement leaves of RPC. -/
theorem State.acknowledge_rpc (n : Nat) (s : State) :
    (s.acknowledge n).rpc.polls = s.rpc.polls ∧ (s.acknowledge n).rpc.shed = s.rpc.shed ∧
    ((s.acknowledge n).rpc.state = s.rpc.state ∨
      s.rpc.state = .listen ∧ (s.acknowledge n).rpc.state = .holdoff) ∧
    (s.rpc.state ≠ .listen → ∃ c, (s.acknowledge n).rpc = { s.rpc with confirmLeft := c }) := by
  obtain ⟨u, hu, c, hrpc⟩ : ∃ u : State, (s.acknowledge n = u.lookCandidate ∨ s.acknowledge n = u) ∧
      ∃ c, u.rpc = { s.rpc with confirmLeft := c } := by
    dsimp only [State.acknowledge, State.setUrgent]
    (repeat' split)
    exacts [⟨_, .inl rfl, none, rfl⟩, ⟨_, .inl rfl, s.rpc.confirmLeft, rfl⟩,
      ⟨s, .inr rfl, s.rpc.confirmLeft, rfl⟩]
  rcases hu with hu | hu <;> rw [hu]
  · obtain ⟨hpolls, hshed, hstate⟩ := u.lookCandidate_rpc
    rw [hrpc] at hpolls hshed hstate
    exact ⟨hpolls, hshed, hstate, fun h =>
      ⟨c, by rw [State.lookCandidate_other (by rw [hrpc]; exact h), hrpc]⟩⟩
  · rw [hrpc]
    exact ⟨rfl, rfl, .inl rfl, fun _ => ⟨c, rfl⟩⟩

/-! ## The answer (R172) -/

/-- The answer to a poll depends on packet memory and the view of the shed level, and else on nothing that
a poll moves. -/
theorem pollAnswer_congr (h : AllBut [.pkm, .rpc] s t) (hshed : t.rpc.shed = s.rpc.shed) :
    pollAnswer t = pollAnswer { s with pkm := t.pkm } := by
  have hstore : t.store = s.store := h .store (by simp)
  have hnull : nullFrame t = nullFrame { s with pkm := t.pkm } := by
    have hseq : t.seq = s.seq := h .seq (by simp)
    have hdrv : t.drv = s.drv := h .drv (by simp)
    have hlku : t.lku = s.lku := h .lku (by simp)
    have hbat : t.bat = s.bat := h .bat (by simp)
    have hslr : t.slr = s.slr := h .slr (by simp)
    have hsets : t.sets = s.sets := h .sets (by simp)
    have hrpb : t.rpb = s.rpb := h .rpb (by simp)
    simp [nullFrame, nullPayload, hstore, hseq, hdrv, hlku, hbat, hslr, hsets, hrpb]
  simp only [pollAnswer, reportFrame, hnull, hstore, hshed]

end Sys2Proof.Machine
end

section
/-! The answer to a POLL by the state of the radio, the arbiter and the load test (R144 to R147, R170 to
R173). -/

namespace Sys2Proof.Machine

-- The many short proofs would otherwise each hold a waiting thread.
set_option Elab.async false

variable {s t : State} {payload : List Byte}

/-- A POLL is counted and its acknowledgement taken (R171). -/
def State.pollCounted (payload : List Byte) (s : State) : State :=
  (s.modRpc (fun r => { r with polls := satAdd 65535 r.polls 1 })).acknowledge (pollAck payload)

/-- RPC in GRANT_WAIT with an answer to a poll in hand, before its request (R172). -/
def State.inHand (s : State) : State :=
  (s.rpcGoto .grantWait).modRpc (fun r =>
    { r with answer := some ⟨.poll, (pollAnswer s).1, (pollAnswer s).2⟩
             windowLeft := some s.store.radio.windowMs })

/-- What counting a poll leaves. -/
theorem State.pollCounted_spec (payload : List Byte) (s : State) :
    AllBut [.pkm, .rpc] s (s.pollCounted payload) ∧
    (s.pollCounted payload).pkm = (s.acknowledge (pollAck payload)).pkm ∧
    (s.pollCounted payload).rpc.polls = min 65535 (s.rpc.polls + 1) ∧
    (s.pollCounted payload).rpc.shed = s.rpc.shed := by
  obtain ⟨hpolls, hshed, -, -⟩ := State.acknowledge_rpc (pollAck payload)
    (s.modRpc (fun r => { r with polls := satAdd 65535 r.polls 1 }))
  refine ⟨by simp [allBut_iff, State.pollCounted], ?_, hpolls, hshed⟩
  rw [State.pollCounted, State.acknowledge_pkm, State.acknowledge_pkm]
  rfl

/-- R172: in GRANT_WAIT, KEYING and SENDING a poll is not answered. -/
theorem State.pollTaken_unanswered
    (h : s.rpc.state = .grantWait ∨ s.rpc.state = .keying ∨ s.rpc.state = .sending) :
    s.pollTaken payload = s.pollCounted payload ∧ ∃ c, (s.pollCounted payload).rpc =
      { s.rpc with polls := min 65535 (s.rpc.polls + 1), confirmLeft := c } := by
  obtain ⟨-, -, -, hrpc⟩ := State.acknowledge_rpc (pollAck payload)
    (s.modRpc (fun r => { r with polls := satAdd 65535 r.polls 1 }))
  obtain ⟨c, hc⟩ := hrpc (by rcases h with h | h | h <;> simp [h])
  refine ⟨?_, c, hc⟩
  have hsorts : s.rpc.state.sorts = true := by rcases h with h | h | h <;> rw [h] <;> rfl
  have hno : ¬ ((s.pollCounted payload).rpc.state = .listen ∨
      (s.pollCounted payload).rpc.state = .holdoff) := by
    rw [show (s.pollCounted payload).rpc.state = s.rpc.state from (congrArg Rpc.state hc :)]
    rcases h with h | h | h <;> simp [h]
  exact (if_pos hsorts).trans (if_neg hno)

/-- R172: in LISTEN and HOLDOFF a poll is answered. -/
theorem State.pollTaken_answered (h : s.rpc.state = .listen ∨ s.rpc.state = .holdoff) :
    s.pollTaken payload = (s.pollCounted payload).inHand.request .radio := by
  obtain ⟨-, -, hstate, -⟩ := State.acknowledge_rpc (pollAck payload)
    (s.modRpc (fun r => { r with polls := satAdd 65535 r.polls 1 }))
  have hsorts : s.rpc.state.sorts = true := by rcases h with h | h <;> rw [h] <;> rfl
  have hyes : (s.pollCounted payload).rpc.state = .listen ∨
      (s.pollCounted payload).rpc.state = .holdoff := by
    rcases hstate with hst | ⟨-, hst⟩
    · exact h.imp (hst.trans ·) (hst.trans ·)
    · exact .inr hst
  exact (if_pos hsorts).trans (if_pos hyes)

/-- The state that requests RADIO_TX for the answer to a poll: a frame, the arbiter and the test as they
were, and the answer by packet memory `k`. -/
structure State.Requests (s v : State) (k : Pkm) : Prop where
  frame : AllBut [.pkm, .rpc] s v
  pkm : v.pkm = k
  state : v.rpc.state = .grantWait
  window : v.rpc.windowLeft = some s.store.radio.windowMs
  key : v.rpc.radioKey = false
  answering : v.Answering
    ⟨.poll, (pollAnswer { s with pkm := k }).1, (pollAnswer { s with pkm := k }).2⟩
    (min 65535 (s.rpc.polls + 1))

theorem State.inHand_requests (payload : List Byte) (s : State) :
    s.Requests (s.pollCounted payload).inHand (s.acknowledge (pollAck payload)).pkm := by
  obtain ⟨hframe, hpkm, hpolls, hshed⟩ := s.pollCounted_spec payload
  have hstore : (s.pollCounted payload).store = s.store := hframe .store (by simp)
  have hanswer := pollAnswer_congr hframe hshed
  rw [hpkm] at hanswer
  refine ⟨hframe.trans (l' := [.rpc]) (by simp [allBut_iff, State.inHand]) (by simp) (by simp),
    by simpa [State.inHand] using hpkm, rfl, by simp [State.inHand, hstore], rfl, ?_, hpolls, rfl, rfl⟩
  simp [State.inHand, hanswer]

namespace State.Requests

variable {v : State} {k : Pkm}

theorem sup_eq (h : s.Requests v k) : v.sup = s.sup := h.frame .sup (by simp)

theorem bat_eq (h : s.Requests v k) : v.bat = s.bat := h.frame .bat (by simp)

theorem store_eq (h : s.Requests v k) : v.store = s.store := h.frame .store (by simp)

/-- R173: what the grant makes of RPC. -/
theorem keyed (h : s.Requests v k) {w : State} (hw : w.store = v.store) (ht : t.rpc = w.radioGranted.rpc) :
    t.rpc.radioKey = true ∧ t.rpc.windowLeft = none ∧
    (s.store.radio.keyMs = 0 → t.rpc.state = .sending) ∧
    (s.store.radio.keyMs ≠ 0 → t.rpc.state = .keying ∧ t.rpc.keyLeft = some s.store.radio.keyMs) := by
  have hspec := w.radioGranted_spec
  rwa [hw, h.store_eq, ← ht] at hspec

/-- R144, R145, R173: the grant at once. -/
theorem granted (h : s.Requests v k) (hr : s.sup.radio = .idle) (hshed : s.sup.shed ≠ 3)
    (hfree : s.sup.supply = true ∨
      s.sup.cap = .idle ∧ (s.sup.load = .idle ∨ s.sup.load = .requesting)) :
    (∃ w : State, w.store = v.store ∧ (v.request .radio).rpc = w.radioGranted.rpc) ∧
    (v.request .radio).sup = { s.sup with radio := .holding } ∧
    AllBut [.pkm, .rpc, .sup] s (v.request .radio) := by
  rw [← h.sup_eq] at hr hshed hfree
  rw [State.request_radio_granted h.state hr hshed hfree]
  refine ⟨⟨_, by rfl, rfl⟩, by simp [Sup.setReq, h.sup_eq], ?_⟩
  exact h.frame.trans (l' := [.rpc, .sup]) (by simp [allBut_iff]) (by simp) (by simp)

/-- R145, R146: the wait behind the recharge. -/
theorem waits (h : s.Requests v k) (hr : s.sup.radio = .idle) (hs : s.sup.supply = false)
    (hcap : s.sup.cap = .holding) (hload : s.sup.load ≠ .holding) :
    (v.request .radio).sup = { s.sup with radio := .requesting } ∧
    (v.request .radio).rpc.radioKey = false ∧ (v.request .radio).rpc.state = .grantWait ∧
    (v.request .radio).rpc.windowLeft = some s.store.radio.windowMs ∧
    AllBut [.pkm, .rpc, .sup] s (v.request .radio) := by
  rw [← h.sup_eq] at hr hs hcap hload
  rw [State.request_radio_waits hr hs hcap hload]
  refine ⟨by simp [Sup.setReq, h.sup_eq], h.key, h.state, h.window, ?_⟩
  exact h.frame.trans (l' := [.sup]) (by simp [allBut_iff]) (by simp) (by simp)

/-- R137, R146: a test in SETTLE is suspended. -/
theorem suspends (h : s.Requests v k) (hr : s.sup.radio = .idle) (hs : s.sup.supply = false)
    (hshed : s.sup.shed ≠ 3) (hcap : s.sup.cap = .idle) (hload : s.sup.load = .holding)
    (hagain : s.sup.loadAgain = false) (ht : s.bat.test = .settle) :
    (∃ w : State, w.store = v.store ∧ (v.request .radio).rpc = w.radioGranted.rpc) ∧
    (v.request .radio).sup = { s.sup with radio := .holding, load := .requesting } ∧
    (v.request .radio).bat = { s.bat with settleLeft := none, test := .suspended } ∧
    AllBut [.pkm, .rpc, .bat, .sup] s (v.request .radio) := by
  rw [← h.sup_eq] at hr hs hshed hcap hload hagain
  rw [← h.bat_eq] at ht
  rw [State.request_radio_asks hr hs hshed hload, State.batAsked_settle (s := v.radioOverLoad) h.state hs
    rfl rfl hagain hshed hcap ht]
  refine ⟨⟨_, by rfl, rfl⟩, by simp [State.radioOverLoad, Sup.setReq, h.sup_eq],
    by simp [State.radioOverLoad, h.bat_eq], ?_⟩
  exact h.frame.trans (l' := [.rpc, .bat, .sup]) (by simp [allBut_iff, State.radioOverLoad]) (by simp)
    (by simp)

/-- R136, R137, R146: a test in LOAD ends. -/
theorem aborts (h : s.Requests v k) (hr : s.sup.radio = .idle) (hs : s.sup.supply = false)
    (hshed : s.sup.shed ≠ 3) (hcap : s.sup.cap = .idle) (hload : s.sup.load = .holding)
    (hagain : s.sup.loadAgain = false) (ht : s.bat.test = .load) (hb : s.bat.supply = false)
    (hd : s.bat.due = none) :
    (∃ w : State, w.store = v.store ∧ (v.request .radio).rpc = w.radioGranted.rpc) ∧
    (v.request .radio).sup = { s.sup with radio := .holding, load := .idle } ∧
    (v.request .radio).bat.test = .idle ∧ (v.request .radio).bat.testLoad = false ∧
    (v.request .radio).bat.result.map (fun r => r.verdict) = some .aborted ∧
    (v.request .radio).bat.abortCount = s.bat.abortCount + 1 ∧
    Emitted v (.testResult .aborted none none none) (v.request .radio) := by
  rw [← h.sup_eq] at hr hs hshed hcap hload hagain
  rw [← h.bat_eq] at ht hb hd
  have habort : v.request .radio = v.radioOverLoad.abortTest := by
    rw [State.request_radio_asks hr hs hshed hload]
    simp [State.batAsked, State.radioOverLoad, ht]
  have hdrop : v.radioOverLoad.dropLoad = ((v.radioOverLoad.modBat
      (fun b => { b with testLoad := false })).modSup
      (fun u => { u with radio := .holding, load := .idle })).radioGranted :=
    State.release_load_keys (s := v.radioOverLoad.modBat (fun b => { b with testLoad := false })) h.state hs
      rfl rfl hagain hshed hcap
  obtain ⟨hemit, hquiet⟩ := State.abortTest_absent (s := v.radioOverLoad) hb
  obtain ⟨hsup, hrpc⟩ := hquiet hd
  obtain ⟨htest, hload', -, -, -, hresult, hcount, -⟩ := State.abortTest_spec (s := v.radioOverLoad) hd
  obtain ⟨hrpb, hpkm⟩ := emit_routine_congr (t := v.radioOverLoad) (s := v)
    (e := .testResult .aborted none none none) rfl rfl rfl rfl rfl
  rw [habort]
  refine ⟨⟨_, by rfl, hrpc.trans (congrArg State.rpc hdrop)⟩, ?_, htest, hload', by rw [hresult]; rfl,
    hcount.trans (by simp [State.radioOverLoad, h.bat_eq]), hemit.1.trans hrpb, hemit.2.trans hpkm⟩
  rw [hsup, hdrop]
  simp [State.radioOverLoad, Sup.setReq, h.sup_eq]

end State.Requests

/-- R172: the first record in the order of the areas answers a poll, and a NULL frame where none does. -/
theorem pollAnswer_order (s : State) :
    (∀ r, s.pkm.response.head? = some r → pollAnswer s = (some (.response, r.id), r.frame)) ∧
    (∀ r, s.pkm.response = [] → s.pkm.urgent.head? = some r →
      pollAnswer s = (some (.urgent, r.id), reportFrame s r)) ∧
    (∀ r, s.pkm.response = [] → s.pkm.urgent = [] → s.rpc.shed ≤ 1 → s.pkm.forward.head? = some r →
      pollAnswer s = (some (.forward, r.id), r.frame)) ∧
    (∀ r, s.pkm.response = [] → s.pkm.urgent = [] → s.pkm.forward = [] → s.rpc.shed = 0 →
      s.pkm.routine.head? = some r → pollAnswer s = (some (.routine, r.id), reportFrame s r)) ∧
    (s.pkm.response = [] → s.pkm.urgent = [] → (1 < s.rpc.shed ∨ s.pkm.forward = []) →
      (0 < s.rpc.shed ∨ s.pkm.routine = []) → pollAnswer s = (none, nullFrame s)) := by
  refine ⟨fun r h => by simp [pollAnswer, h], fun r h0 h => by simp [pollAnswer, h0, h],
    fun r h0 h1 hs h => by simp [pollAnswer, h0, h1, hs, h],
    fun r h0 h1 h2 hs h => by simp [pollAnswer, h0, h1, h2, hs, h], fun h0 h1 h2 h3 => ?_⟩
  have hforward : (if s.rpc.shed ≤ 1 then s.pkm.forward.head? else none) = none := by
    rcases h2 with h | h
    · exact if_neg (by omega)
    · simp [h]
  have hroutine : (if s.rpc.shed = 0 then s.pkm.routine.head? else none) = none := by
    rcases h3 with h | h
    · exact if_neg (by omega)
    · simp [h]
  simp [pollAnswer, h0, h1, hforward, hroutine]

/-- Settles O45: the answer stays in hand whatever the arbiter decides, and the cases of its decision. -/
theorem pollIsAnswered : Obligations.PollIsAnswered := by
  intro payload s hrun
  have hexec : exec (.poll payload) s = .next (s.pollTaken payload).serve :=
    congrArg _ (whenRunning_running hrun)
  refine ⟨fun hoff => ?_, fun hbusy => ?_, fun hst hr => ?_⟩
  · have hnone : s.pollTaken payload = s := if_neg (by rcases hoff with h | h <;> simp [h, RadioState.sorts])
    rw [hexec, hnone]
  · obtain ⟨htaken, c, hrpc⟩ := State.pollTaken_unanswered (payload := payload) hbusy
    obtain ⟨hframe, hpkm, -, -⟩ := s.pollCounted_spec payload
    refine ⟨s.pollCounted payload, htaken ▸ hexec, hpkm, ?_⟩
    rw [hrpc]
    exact ⟨rfl, rfl, rfl, rfl, rfl, hframe⟩
  · have htaken := State.pollTaken_answered (payload := payload) hst
    have hall : AllBut (eventBlocks ++ [.bat, .sup]) s (s.pollTaken payload) := by
      simp [allBut_iff, eventBlocks]
    have h := State.inHand_requests payload s
    rw [htaken] at hall hexec
    refine ⟨_, hexec, ?_⟩
    generalize (s.pollCounted payload).inHand = v at h hall
    intro k report keyed
    have hans := (State.Answering.yields _ _).request_radio (by rw [h.sup_eq, hr]) h.answering
    obtain ⟨hresponse, hurgent, hforward, hroutine, hnull⟩ := pollAnswer_order { s with pkm := k }
    have hanswer : ∀ {rec f}, pollAnswer { s with pkm := k } = (rec, f) →
        (v.request .radio).rpc.answer = some ⟨.poll, rec, f⟩ := by
      intro rec f heq
      rw [hans.answer, heq]
    have hkeyed : (∃ w : State, w.store = v.store ∧
        (v.request .radio).rpc = w.radioGranted.rpc) → keyed := by
      rintro ⟨w, hw, hrpc⟩
      exact h.keyed hw hrpc
    refine ⟨hall, hans.polls, hans.holdoff, fun hno => ?_, fun hv => ?_, by rw [hans.answer]; rfl,
      fun r hr => hanswer (hresponse r hr), fun r h0 hr => hanswer (hurgent r h0 hr),
      fun r h0 h1 hs hr => hanswer (hforward r h0 h1 hs hr),
      fun r h0 h1 h2 hs hr => hanswer (hroutine r h0 h1 h2 hs hr),
      fun h0 h1 h2 h3 => hanswer (hnull h0 h1 h2 h3), fun hshed hfree => ?_, fun hs hcap hload => ?_,
      fun hs hshed hcap hload hagain => ⟨fun ht => ?_, fun ht hb hd => ?_⟩⟩
    · rw [State.request_radio_pkm (by rw [h.sup_eq, hr]) (by rw [h.sup_eq, h.bat_eq]; exact hno), h.pkm]
    · have hreports := State.request_radio_reports (s := v) (by rw [h.sup_eq, hr])
        (by rw [h.sup_eq, h.bat_eq, hv])
      rwa [h.pkm] at hreports
    · obtain ⟨hgrant, hsup, hframe⟩ := h.granted hr hshed hfree
      exact ⟨hkeyed hgrant, hsup, hframe⟩
    · exact h.waits hr hs hcap hload
    · obtain ⟨hgrant, hsup, hbat, hframe⟩ := h.suspends hr hs hshed hcap hload hagain ht
      exact ⟨hkeyed hgrant, hsup, hbat, hframe⟩
    · obtain ⟨hgrant, hsup, htest, hoff, hverdict, hcount, hemit⟩ :=
        h.aborts hr hs hshed hcap hload hagain ht hb hd
      obtain ⟨hrpb, hpkm⟩ := emit_routine_congr (t := v) (s := s.acknowledge (pollAck payload))
        (e := .testResult .aborted none none none) rfl
        ((h.frame .rpb (by simp)).trans (by simp)) h.pkm ((h.frame .fcu (by simp)).trans (by simp))
        (h.store_eq.trans (by simp))
      exact ⟨hkeyed hgrant, hsup, htest, hoff, hverdict, hcount, hemit.1.trans hrpb, hemit.2.trans hpkm⟩

end Sys2Proof.Machine
end
